-- ==== Sys2Proof/Word.lean ====
section
/-! DEFINITION. The word types of the model and their plainest arithmetic (R12, R43, R340). -/

namespace Sys2Proof

/-- One byte of memory. -/
abbrev Byte := BitVec 8
/-- A 32-bit word: a register word, an epoch number, a binary32 bit pattern. -/
abbrev W32 := BitVec 32
/-- A 64-bit word: a general register, a time-base counter. -/
abbrev W64 := BitVec 64

/-- The bit pattern of one truth value. -/
def boolNat (b : Bool) : Nat := if b then 1 else 0

/-- Addition that saturates at `top`. -/
def satAdd (top a b : Nat) : Nat := min top (a + b)

end Sys2Proof
end

