-- ==== Sys2Proof/Machine/Float.lean ====
section
/-! DEFINITION. IEEE 754 binary32 as the block computes it (R45): round-to-nearest-even, subnormals
flushed to zero of the same sign, the default quiet NaN, no exception. -/

namespace Sys2Proof.Machine.F32

/-- The default quiet NaN (R45). -/
def nan : W32 := 0x7FC00000
/-- 0.0. -/
def zero : W32 := 0
/-- 1.0. -/
def one : W32 := 0x3F800000

/-- Sign bit. -/
def neg? (x : W32) : Bool := x.getLsbD 31
/-- Exponent field. -/
def ex (x : W32) : Nat := x.toNat / 2 ^ 23 % 256
/-- Fraction field. -/
def frac (x : W32) : Nat := x.toNat % 2 ^ 23
/-- A NaN. -/
def isNan (x : W32) : Bool := ex x = 255 && frac x ≠ 0
/-- An infinity. -/
def isInf (x : W32) : Bool := ex x = 255 && frac x = 0
/-- Neither a NaN nor an infinity. -/
def finite (x : W32) : Bool := decide (ex x < 255)
/-- A zero, subnormals among them (R45). -/
def isZero (x : W32) : Bool := ex x = 0

/-- A signed zero. -/
def zeroOf (s : Bool) : W32 := if s then 0x80000000 else 0
/-- A signed infinity. -/
def infOf (s : Bool) : W32 := if s then 0xFF800000 else 0x7F800000

/-- Magnitude of a finite operand as m·2^e. -/
def mag (x : W32) : Nat × Int :=
  if ex x = 0 then (0, 0) else (2 ^ 23 + frac x, Int.ofNat (ex x) - 150)

/-- Division by 2^k, rounded to nearest, ties to even. -/
def shiftEven (m k : Nat) : Nat :=
  let q := m / 2 ^ k
  let r := m % 2 ^ k
  let h := 2 ^ k / 2
  if k = 0 then m else if r > h || (r = h && q % 2 = 1) then q + 1 else q

/-- (-1)^s · m · 2^e rounded to binary32; a result below the normal range is flushed to zero.  Whether it lies below is
judged on the result rounded to 24 bits with an unbounded exponent: R45 and R94 do not say whether before or after
rounding (DESIGN CHOICE, log entry 24). -/
def pack (s : Bool) (m : Nat) (e : Int) : W32 :=
  if m = 0 then zeroOf s
  else
    let l := m.log2
    let q := if 23 ≤ l then shiftEven m (l - 23) else m * 2 ^ (23 - l)
    let E : Int := Int.ofNat l + e + (if q = 2 ^ 24 then 1 else 0)
    let q := if q = 2 ^ 24 then 2 ^ 23 else q
    if E > 127 then infOf s
    else if E < -126 then zeroOf s
    else BitVec.ofNat 32 (boolNat s * 2 ^ 31 + (E + 127).toNat * 2 ^ 23 + (q - 2 ^ 23))

/-- A signed integer times 2^e rounded; zero gives `z`. -/
def packInt (v : Int) (e : Int) (z : W32) : W32 :=
  if v = 0 then z else pack (decide (v < 0)) v.natAbs e

/-- A finite operand as a signed integer at exponent `e`, which is no larger than its own. -/
def at' (x : W32) (e : Int) : Int :=
  let m := mag x
  let v : Int := Int.ofNat m.1 * 2 ^ (m.2 - e).toNat
  if neg? x then -v else v

/-- Exact sum of m₁·2^e₁ signed and m₂·2^e₂ signed, rounded. -/
def addExact (s1 : Bool) (m1 : Nat) (e1 : Int) (s2 : Bool) (m2 : Nat) (e2 : Int) : W32 :=
  if m1 = 0 && m2 = 0 then (if s1 && s2 then zeroOf true else zeroOf false)
  else if m1 = 0 then pack s2 m2 e2
  else if m2 = 0 then pack s1 m1 e1
  else
    let e := min e1 e2
    let v1 : Int := Int.ofNat (m1 * 2 ^ (e1 - e).toNat)
    let v2 : Int := Int.ofNat (m2 * 2 ^ (e2 - e).toNat)
    packInt ((if s1 then -v1 else v1) + (if s2 then -v2 else v2)) e 0

/-- Sum. -/
def add (a b : W32) : W32 :=
  if isNan a || isNan b then nan
  else if isInf a then (if isInf b && neg? a ≠ neg? b then nan else a)
  else if isInf b then b
  else addExact (neg? a) (mag a).1 (mag a).2 (neg? b) (mag b).1 (mag b).2

/-- The sign bit inverted (R95). -/
def negate (a : W32) : W32 := a ^^^ 0x80000000
/-- The sign bit cleared (R95). -/
def abs (a : W32) : W32 := a &&& 0x7FFFFFFF

/-- Difference. -/
def sub (a b : W32) : W32 := if isNan b then nan else add a (negate b)

/-- Product. -/
def mul (a b : W32) : W32 :=
  let s := neg? a != neg? b
  if isNan a || isNan b then nan
  else if isInf a || isInf b then (if isZero a || isZero b then nan else infOf s)
  else pack s ((mag a).1 * (mag b).1) ((mag a).2 + (mag b).2)

/-- Quotient. -/
def div (a b : W32) : W32 :=
  let s := neg? a != neg? b
  if isNan a || isNan b then nan
  else if isInf a then (if isInf b then nan else infOf s)
  else if isInf b then zeroOf s
  else if isZero b then (if isZero a then nan else infOf s)
  else
    let n := (mag a).1 * 2 ^ 40
    let q := n / (mag b).1
    let r := if n % (mag b).1 = 0 then 0 else 1
    pack s (2 * q + r) ((mag a).2 - (mag b).2 - 41)

/-- Square root. -/
def sqrt (a : W32) : W32 :=
  if isNan a then nan
  else if isZero a then zeroOf (neg? a)
  else if neg? a then nan
  else if isInf a then a
  else
    let m := (mag a).1
    let e := (mag a).2
    let m' := if e % 2 = 0 then m else 2 * m
    let e' := if e % 2 = 0 then e else e - 1
    let n := m' * 2 ^ 40
    let q := Nat.sqrt n
    let r := if q * q = n then 0 else 1
    pack false (2 * q + r) (e' / 2 - 21)

/-- Fused a·b + c. -/
def fma (a b c : W32) : W32 :=
  let s := neg? a != neg? b
  if isNan a || isNan b || isNan c then nan
  else if isInf a || isInf b then
    if isZero a || isZero b then nan
    else if isInf c && neg? c ≠ s then nan else infOf s
  else if isInf c then c
  else addExact s ((mag a).1 * (mag b).1) ((mag a).2 + (mag b).2) (neg? c) (mag c).1 (mag c).2

/-- A total order key of non-NaN values: zeros equal. -/
def key (a : W32) : Int :=
  if isZero a then 0
  else
    let v := Int.ofNat (a.toNat % 2 ^ 31)
    if neg? a then -v else v

/-- a < b; false on a NaN. -/
def lt (a b : W32) : Bool := !isNan a && !isNan b && decide (key a < key b)
/-- a ≤ b; false on a NaN. -/
def le (a b : W32) : Bool := !isNan a && !isNan b && decide (key a ≤ key b)
/-- a = b; false on a NaN. -/
def eq (a b : W32) : Bool := !isNan a && !isNan b && decide (key a = key b)

/-- C's fminf: the operand that is not a NaN. -/
def fmin (a b : W32) : W32 := if isNan a then b else if isNan b then a else if lt b a then b else a
/-- C's fmaxf: the operand that is not a NaN. -/
def fmax (a b : W32) : W32 := if isNan a then b else if isNan b then a else if lt a b then b else a

/-- Twice the inverse hyperbolic tangent of n/d in units of 2⁻¹²⁸, by forty terms of its series. -/
def atanh2 (n d : Int) : Int :=
  let t := n * 2 ^ 128 / d
  let t2 := t * t / 2 ^ 128
  2 * ((List.range 40).foldl (fun (a : Int × Int) k => (a.1 + a.2 / Int.ofNat (2 * k + 1), a.2 * t2 / 2 ^ 128)) (0, t)).1

/-- The natural logarithm rounded to binary32 (R397): with m/2²³ in 1 … 2, e·ln 2 + ln m, each by its series to more than a
hundred bits.  Of a zero it is −∞, of a negative value the NaN (log entry 13). -/
def ln (x : W32) : W32 :=
  if isNan x then nan
  else if isZero x then infOf true
  else if neg? x then nan
  else if isInf x then x
  else
    let m := Int.ofNat (mag x).1
    packInt (((mag x).2 + 23) * atanh2 1 3 + atanh2 (m - 2 ^ 23) (m + 2 ^ 23)) (-128) 0

/-- A signed integer in binary32. -/
def ofInt (v : Int) : W32 := packInt v 0 0
/-- A natural number in binary32. -/
def ofNat (v : Nat) : W32 := pack false v 0

/-- A finite value rounded to the nearest integer, ties to even. -/
def roundEven (a : W32) : Int :=
  let m := mag a
  let v := if m.2 ≥ 0 then m.1 * 2 ^ m.2.toNat else shiftEven m.1 (-m.2).toNat
  if neg? a then - Int.ofNat v else Int.ofNat v

/-- A finite value rounded toward zero. -/
def trunc (a : W32) : Int :=
  let m := mag a
  let v := if m.2 ≥ 0 then m.1 * 2 ^ m.2.toNat else m.1 / 2 ^ (-m.2).toNat
  if neg? a then - Int.ofNat v else Int.ofNat v

/-- A finite value rounded down. -/
def floor (a : W32) : Int :=
  let m := mag a
  let v : Int := if neg? a then - Int.ofNat m.1 else Int.ofNat m.1
  if m.2 ≥ 0 then v * 2 ^ m.2.toNat else v / 2 ^ (-m.2).toNat

/-- Clamps a value into lo … hi; a NaN stays. -/
def clamp (lo hi a : W32) : W32 := if isNan a then a else if lt a lo then lo else if lt hi a then hi else a

/-- A truth value as 1.0 or 0.0. -/
def ofBool (b : Bool) : W32 := if b then one else zero

end Sys2Proof.Machine.F32
end

