-- ==== Sys2Proof/Config.lean ====
section
/-! DEFINITION. What one implementation fixes, and the free values the spec leaves open: constants with
no body, so that no proof can rest on a number of theirs. -/

namespace Sys2Proof

/-- A value the spec leaves open, by the number of values drawn before it (log entry 7). -/
opaque Config.freeValue : Nat → BitVec 64

/-- One 32-bit word of entropy by its number: nonces of R284 and R454. -/
opaque Config.entropy : Nat → BitVec 32

/-- AMPL·sin(2π·m/period) in binary32, for an injection: AMPL, m, period.  R203 gives a bound, not the value; the
model takes this one where it keeps the bound. -/
opaque Config.sineOf : BitVec 32 → Nat → Nat → BitVec 32

/-- cos and sin in binary32 as the fit of R254 forms them: the spec gives no rounding of their values. -/
opaque Config.cosF : BitVec 32 → BitVec 32
opaque Config.sinF : BitVec 32 → BitVec 32

/-- The solution, in binary32, of the eight normal equations of a Gauss–Newton step (R254), whose order of elimination the
spec does not give: the matrix by rows, the right side. -/
opaque Config.solve8 : List (BitVec 32) → List (BitVec 32) → List (BitVec 32)

/-- The input of a PARK cell that pilot light reaches, where the weave names none (R19, R252): input 1. -/
opaque Config.parkLit : Nat → Bool

/-- Frames the transmit queue of SEND holds beyond one: R113 gives it no size. -/
opaque Config.txQueueExtra : Nat

/-- A byte of the frame buffer by the frames that have entered it and its address: where frames lie is not stated (R7). -/
opaque Config.frameByte : Nat → Nat → BitVec 8

end Sys2Proof
end

