-- ==== Sys2Proof/Machine/RegMap.lean ====
section
/-! DEFINITION. The register map: one descriptor per field of every register map table of spec/, and
one descriptor per register, block by block (R8, R10, R14, R15).  A field's access kind and reset value
are those of its row; "image" and "fuse" resets stand at 0 until start-up loads them (log entry 4). -/

namespace Sys2Proof.Machine

/-- Access codes of R14 (no register of the maps uses W1S). -/
inductive Acc where
  | rw | ro | w1c | w1s | wo | rc | rz
  deriving DecidableEq, Repr

/-- A reset value: one number, or a table by the first or the second array index. -/
inductive Rst where
  | const (v : Nat)
  | byI (vs : List Nat)
  | byJ (vs : List Nat)
  deriving DecidableEq, Repr

/-- One field of a register (or register array): `addr` the register's base, `lsb` the field's lowest
bit counted from bit 0 of the register's lowest word, `s1`/`s2` the address strides of the two array
indexes, `bs` the bit stride of fields repeated inside one register. -/
structure Fld where
  addr : Nat
  lsb : Nat
  width : Nat
  acc : Acc
  rst : Rst
  s1 : Nat := 0
  n1 : Nat := 1
  s2 : Nat := 0
  n2 : Nat := 1
  bs : Nat := 0
  bn : Nat := 1
  deriving DecidableEq, Repr

/-- One register (or register array) with its fields; `words` is its width in 32-bit words (R13). -/
structure RegDesc where
  base : Nat
  words : Nat
  s1 : Nat := 0
  n1 : Nat := 1
  s2 : Nat := 0
  n2 : Nat := 1
  flds : List Fld
  deriving DecidableEq, Repr

/-- Default severities of R378, by source number (0 NOTE, 1 WARN, 2 ERROR, 3 CRITICAL). -/
def sevDefaults : List Nat :=
  [3, 1, 1, 1, 3, 2, 3, 3, 2, 0, 0, 0, 0, 0, 0, 0] ++
  [1, 1, 2, 2, 1, 0, 0, 0, 2, 1, 1, 1, 2, 1, 0, 0] ++
  [0, 1, 0, 0, 0, 0, 0, 0, 3, 3, 2, 3, 0, 0, 0, 0] ++
  [2, 3, 1, 1, 2, 2, 2, 2, 0, 0, 0, 0, 0, 0, 0, 0] ++
  [2, 1, 2, 1, 2, 0, 0, 0, 0, 0, 0, 0, 0, 0, 0, 0] ++
  [0, 0, 0, 0, 0, 0, 0, 0, 0, 0, 0, 0, 0, 0, 0, 0] ++
  [0, 0, 0, 0, 0, 0, 0, 0, 0, 0, 0, 0, 0, 0, 0, 0] ++
  [0, 0, 0, 0, 0, 0, 0, 0, 0, 0, 0, 0, 0, 0, 0, 0]

/-! ## Block SYS, base 0x0100_0000 -/

namespace F
def SYS_ID_VENDOR : Fld := { addr := 0x01000000, lsb := 0, width := 16, acc := .ro, rst := .const 0 }
def SYS_ID_DEVICE : Fld := { addr := 0x01000000, lsb := 16, width := 16, acc := .ro, rst := .const 0 }
def SYS_ID_REV : Fld := { addr := 0x01000000, lsb := 32, width := 8, acc := .ro, rst := .const 0 }
def SYS_ID_GRADE_I : Fld := { addr := 0x01000000, lsb := 40, width := 1, acc := .ro, rst := .const 0 }
def SYS_UID_UID : Fld := { addr := 0x01000008, lsb := 0, width := 64, acc := .ro, rst := .const 0 }
def SYS_STATUS_READY : Fld := { addr := 0x01000010, lsb := 0, width := 1, acc := .ro, rst := .const 0 }
def SYS_STATUS_LC : Fld := { addr := 0x01000010, lsb := 1, width := 3, acc := .ro, rst := .const 0 }
def SYS_STATUS_BOOT_FAIL : Fld := { addr := 0x01000010, lsb := 4, width := 1, acc := .ro, rst := .const 0 }
def SYS_STATUS_SERVICE_LEFT : Fld := { addr := 0x01000010, lsb := 8, width := 6, acc := .ro, rst := .const 0 }
/-- A power-on reset leaves POR set (`SYS_RESET_CAUSE`). -/
def SYS_RESET_CAUSE_CAUSE : Fld := { addr := 0x01000018, lsb := 0, width := 5, acc := .rc, rst := .const 1 }
def SYS_RESET_KEY : Fld := { addr := 0x01000020, lsb := 0, width := 32, acc := .wo, rst := .const 0 }
end F

namespace D
def SYS_ID : RegDesc := { base := 0x01000000, words := 2, flds := [F.SYS_ID_VENDOR, F.SYS_ID_DEVICE, F.SYS_ID_REV, F.SYS_ID_GRADE_I] }
def SYS_UID : RegDesc := { base := 0x01000008, words := 2, flds := [F.SYS_UID_UID] }
def SYS_STATUS : RegDesc := { base := 0x01000010, words := 1, flds := [F.SYS_STATUS_READY, F.SYS_STATUS_LC, F.SYS_STATUS_BOOT_FAIL, F.SYS_STATUS_SERVICE_LEFT] }
def SYS_RESET_CAUSE : RegDesc := { base := 0x01000018, words := 1, flds := [F.SYS_RESET_CAUSE_CAUSE] }
def SYS_RESET : RegDesc := { base := 0x01000020, words := 1, flds := [F.SYS_RESET_KEY] }
end D

/-- The registers of block SYS. -/
def blkSys : List RegDesc :=
  [D.SYS_ID, D.SYS_UID, D.SYS_STATUS, D.SYS_RESET_CAUSE, D.SYS_RESET]

/-! ## Block BOOT, base 0x0101_0000 -/

namespace F
def BOOT_STATUS_PHASE : Fld := { addr := 0x01010000, lsb := 0, width := 4, acc := .ro, rst := .const 0 }
def BOOT_STATUS_COPY : Fld := { addr := 0x01010000, lsb := 4, width := 1, acc := .ro, rst := .const 0 }
def BOOT_STATUS_SIGNED : Fld := { addr := 0x01010000, lsb := 5, width := 1, acc := .ro, rst := .const 0 }
def BOOT_STATUS_ON_RCO : Fld := { addr := 0x01010000, lsb := 6, width := 1, acc := .ro, rst := .const 0 }
def BOOT_STATUS_WIPED : Fld := { addr := 0x01010000, lsb := 7, width := 1, acc := .ro, rst := .const 0 }
def BOOT_STATUS_ERR0 : Fld := { addr := 0x01010000, lsb := 8, width := 4, acc := .ro, rst := .const 0 }
def BOOT_STATUS_ERR1 : Fld := { addr := 0x01010000, lsb := 12, width := 4, acc := .ro, rst := .const 0 }
def BOOT_STATUS_READY_US : Fld := { addr := 0x01010000, lsb := 32, width := 32, acc := .ro, rst := .const 0 }
def BOOT_IMAGE_LEN : Fld := { addr := 0x01010008, lsb := 0, width := 32, acc := .ro, rst := .const 0 }
def BOOT_IMAGE_CRC : Fld := { addr := 0x01010008, lsb := 32, width := 32, acc := .ro, rst := .const 0 }
def BOOT_LC_NONCE_NONCE : Fld := { addr := 0x01010020, lsb := 0, width := 32, acc := .ro, rst := .const 0, bs := 32, bn := 8 }
def BOOT_LC_CTRL_TARGET : Fld := { addr := 0x01010040, lsb := 0, width := 3, acc := .wo, rst := .const 0 }
def BOOT_LC_CTRL_NONCE : Fld := { addr := 0x01010040, lsb := 3, width := 1, acc := .wo, rst := .const 0 }
def BOOT_LC_CTRL_GO : Fld := { addr := 0x01010040, lsb := 4, width := 1, acc := .wo, rst := .const 0 }
def BOOT_LC_CTRL_RESULT : Fld := { addr := 0x01010040, lsb := 5, width := 3, acc := .ro, rst := .const 0 }
def BOOT_LC_CMD_KEY_SIG : Fld := { addr := 0x01010100, lsb := 0, width := 32, acc := .wo, rst := .const 0, bs := 32, bn := 32 }
end F

namespace D
def BOOT_STATUS : RegDesc := { base := 0x01010000, words := 2, flds := [F.BOOT_STATUS_PHASE, F.BOOT_STATUS_COPY, F.BOOT_STATUS_SIGNED, F.BOOT_STATUS_ON_RCO, F.BOOT_STATUS_WIPED, F.BOOT_STATUS_ERR0, F.BOOT_STATUS_ERR1, F.BOOT_STATUS_READY_US] }
def BOOT_IMAGE : RegDesc := { base := 0x01010008, words := 2, flds := [F.BOOT_IMAGE_LEN, F.BOOT_IMAGE_CRC] }
def BOOT_LC_NONCE : RegDesc := { base := 0x01010020, words := 8, flds := [F.BOOT_LC_NONCE_NONCE] }
def BOOT_LC_CTRL : RegDesc := { base := 0x01010040, words := 1, flds := [F.BOOT_LC_CTRL_TARGET, F.BOOT_LC_CTRL_NONCE, F.BOOT_LC_CTRL_GO, F.BOOT_LC_CTRL_RESULT] }
def BOOT_LC_CMD : RegDesc := { base := 0x01010100, words := 32, flds := [F.BOOT_LC_CMD_KEY_SIG] }
end D

/-- The registers of block BOOT. -/
def blkBoot : List RegDesc :=
  [D.BOOT_STATUS, D.BOOT_IMAGE, D.BOOT_LC_NONCE, D.BOOT_LC_CTRL, D.BOOT_LC_CMD]

/-! ## Block CLK, base 0x0102_0000 -/

namespace F
def CLK_STATUS_AMP_OK : Fld := { addr := 0x01020000, lsb := 0, width := 1, acc := .ro, rst := .const 0 }
def CLK_STATUS_XTAL_QUAL : Fld := { addr := 0x01020000, lsb := 1, width := 1, acc := .ro, rst := .const 0 }
def CLK_STATUS_LOCK : Fld := { addr := 0x01020000, lsb := 2, width := 4, acc := .ro, rst := .const 0 }
def CLK_STATUS_REF_OK : Fld := { addr := 0x01020000, lsb := 6, width := 1, acc := .ro, rst := .const 0 }
def CLK_STATUS_RCO_OK : Fld := { addr := 0x01020000, lsb := 7, width := 1, acc := .ro, rst := .const 1 }
def CLK_STATUS_LFO_OK : Fld := { addr := 0x01020000, lsb := 8, width := 1, acc := .ro, rst := .const 1 }
def CLK_STATUS_FALLBACK : Fld := { addr := 0x01020000, lsb := 16, width := 10, acc := .ro, rst := .const 254 }
def CLK_STATUS_LAST_FAIL : Fld := { addr := 0x01020000, lsb := 32, width := 4, acc := .ro, rst := .const 0 }
def CLK_QUAL_TOL : Fld := { addr := 0x01020008, lsb := 0, width := 10, acc := .rw, rst := .const 153 }
def CLK_MON_CNT_XR : Fld := { addr := 0x01020010, lsb := 0, width := 32, acc := .ro, rst := .const 0 }
def CLK_MON_CNT_RL : Fld := { addr := 0x01020010, lsb := 32, width := 32, acc := .ro, rst := .const 0 }
def CLK_MON_CNT_XL : Fld := { addr := 0x01020010, lsb := 64, width := 32, acc := .ro, rst := .const 0 }
def CLK_MON_CNT_REF : Fld := { addr := 0x01020010, lsb := 96, width := 32, acc := .ro, rst := .const 0 }
def CLK_GATE_TO_CYCLES : Fld := { addr := 0x01020020, lsb := 0, width := 16, acc := .rw, rst := .const 2048 }
def CLK_GATE_TO_FORCED : Fld := { addr := 0x01020020, lsb := 16, width := 16, acc := .rc, rst := .const 0 }
def CLK_DOM_EN_RUN : Fld := { addr := 0x01020100, lsb := 0, width := 1, acc := .rw, rst := .byI [1, 1, 1, 1, 1, 1, 1, 1, 1, 1], s1 := 0x8, n1 := 10 }
def CLK_DOM_EN_SLEEP : Fld := { addr := 0x01020100, lsb := 1, width := 1, acc := .rw, rst := .byI [1, 1, 1, 0, 1, 1, 1, 1, 1, 1], s1 := 0x8, n1 := 10 }
def CLK_DOM_EN_DEEP : Fld := { addr := 0x01020100, lsb := 2, width := 1, acc := .rw, rst := .byI [1, 1, 0, 0, 0, 1, 1, 1, 0, 0], s1 := 0x8, n1 := 10 }
def CLK_DOM_SRC : Fld := { addr := 0x01020100, lsb := 3, width := 1, acc := .rw, rst := .byI [0, 1, 1, 1, 1, 1, 1, 1, 0, 0], s1 := 0x8, n1 := 10 }
def CLK_DOM_ACT_SRC : Fld := { addr := 0x01020100, lsb := 4, width := 1, acc := .ro, rst := .byI [0, 1, 1, 1, 1, 1, 1, 1, 0, 0], s1 := 0x8, n1 := 10 }
def CLK_DOM_SWITCHING : Fld := { addr := 0x01020100, lsb := 5, width := 1, acc := .ro, rst := .const 0, s1 := 0x8, n1 := 10 }
def CLK_DOM_GATED : Fld := { addr := 0x01020100, lsb := 6, width := 1, acc := .ro, rst := .const 0, s1 := 0x8, n1 := 10 }
def CLK_DOM_SRC_REF : Fld := { addr := 0x01020100, lsb := 7, width := 1, acc := .w1c, rst := .const 0, s1 := 0x8, n1 := 10 }
end F

namespace D
def CLK_STATUS : RegDesc := { base := 0x01020000, words := 2, flds := [F.CLK_STATUS_AMP_OK, F.CLK_STATUS_XTAL_QUAL, F.CLK_STATUS_LOCK, F.CLK_STATUS_REF_OK, F.CLK_STATUS_RCO_OK, F.CLK_STATUS_LFO_OK, F.CLK_STATUS_FALLBACK, F.CLK_STATUS_LAST_FAIL] }
def CLK_QUAL : RegDesc := { base := 0x01020008, words := 1, flds := [F.CLK_QUAL_TOL] }
def CLK_MON_CNT : RegDesc := { base := 0x01020010, words := 4, flds := [F.CLK_MON_CNT_XR, F.CLK_MON_CNT_RL, F.CLK_MON_CNT_XL, F.CLK_MON_CNT_REF] }
def CLK_GATE_TO : RegDesc := { base := 0x01020020, words := 1, flds := [F.CLK_GATE_TO_CYCLES, F.CLK_GATE_TO_FORCED] }
def CLK_DOM : RegDesc := { base := 0x01020100, words := 1, s1 := 0x8, n1 := 10, flds := [F.CLK_DOM_EN_RUN, F.CLK_DOM_EN_SLEEP, F.CLK_DOM_EN_DEEP, F.CLK_DOM_SRC, F.CLK_DOM_ACT_SRC, F.CLK_DOM_SWITCHING, F.CLK_DOM_GATED, F.CLK_DOM_SRC_REF] }
end D

/-- The registers of block CLK. -/
def blkClk : List RegDesc :=
  [D.CLK_STATUS, D.CLK_QUAL, D.CLK_MON_CNT, D.CLK_GATE_TO, D.CLK_DOM]

/-! ## Block PWR, base 0x0103_0000 -/

namespace F
def PWR_CTRL_TARGET : Fld := { addr := 0x01030000, lsb := 0, width := 2, acc := .rw, rst := .const 0 }
def PWR_STATUS_STATE : Fld := { addr := 0x01030008, lsb := 0, width := 2, acc := .ro, rst := .const 0 }
def PWR_STATUS_CHANGING : Fld := { addr := 0x01030008, lsb := 2, width := 1, acc := .ro, rst := .const 0 }
def PWR_STATUS_REFUSED : Fld := { addr := 0x01030008, lsb := 3, width := 1, acc := .rc, rst := .const 0 }
def PWR_STATUS_ROLE_HELD : Fld := { addr := 0x01030008, lsb := 4, width := 1, acc := .ro, rst := .const 0 }
def PWR_STATUS_CHANGES : Fld := { addr := 0x01030008, lsb := 32, width := 32, acc := .ro, rst := .const 0 }
end F

namespace D
def PWR_CTRL : RegDesc := { base := 0x01030000, words := 1, flds := [F.PWR_CTRL_TARGET] }
def PWR_STATUS : RegDesc := { base := 0x01030008, words := 2, flds := [F.PWR_STATUS_STATE, F.PWR_STATUS_CHANGING, F.PWR_STATUS_REFUSED, F.PWR_STATUS_ROLE_HELD, F.PWR_STATUS_CHANGES] }
end D

/-- The registers of block PWR. -/
def blkPwr : List RegDesc :=
  [D.PWR_CTRL, D.PWR_STATUS]

/-! ## Block BUS, base 0x0104_0000 -/

namespace F
def BUS_STATUS_IDS_USED : Fld := { addr := 0x01040000, lsb := 0, width := 9, acc := .ro, rst := .const 0 }
def BUS_STATUS_WIN_ERR : Fld := { addr := 0x01040000, lsb := 9, width := 1, acc := .w1c, rst := .const 0 }
def BUS_STATUS_TIMEOUTS : Fld := { addr := 0x01040000, lsb := 16, width := 16, acc := .rc, rst := .const 0 }
def BUS_TIMEOUT_CYCLES : Fld := { addr := 0x01040008, lsb := 0, width := 16, acc := .rw, rst := .const 4096 }
def BUS_ERR_FIRST_MASTER : Fld := { addr := 0x01040010, lsb := 0, width := 4, acc := .ro, rst := .const 0 }
def BUS_ERR_FIRST_KIND : Fld := { addr := 0x01040010, lsb := 4, width := 3, acc := .ro, rst := .const 0 }
def BUS_ERR_FIRST_VALID : Fld := { addr := 0x01040010, lsb := 31, width := 1, acc := .w1c, rst := .const 0 }
def BUS_ERR_FIRST_ADDR : Fld := { addr := 0x01040010, lsb := 32, width := 32, acc := .ro, rst := .const 0 }
def BUS_MASTER_OUTSTANDING : Fld := { addr := 0x01040100, lsb := 0, width := 7, acc := .ro, rst := .const 0, s1 := 0x8, n1 := 14 }
def BUS_MASTER_RESET : Fld := { addr := 0x01040100, lsb := 8, width := 1, acc := .wo, rst := .const 0, s1 := 0x8, n1 := 14 }
def BUS_MASTER_RESETTING : Fld := { addr := 0x01040100, lsb := 9, width := 1, acc := .ro, rst := .const 0, s1 := 0x8, n1 := 14 }
def BUS_MASTER_ERRORS : Fld := { addr := 0x01040100, lsb := 16, width := 16, acc := .rc, rst := .const 0, s1 := 0x8, n1 := 14 }
def BUS_WIN_EN : Fld := { addr := 0x01041000, lsb := 0, width := 1, acc := .rw, rst := .const 0, s1 := 0x100, n1 := 14, s2 := 0x8, n2 := 8 }
def BUS_WIN_SIZE : Fld := { addr := 0x01041000, lsb := 1, width := 5, acc := .rw, rst := .const 12, s1 := 0x100, n1 := 14, s2 := 0x8, n2 := 8 }
def BUS_WIN_BASE : Fld := { addr := 0x01041000, lsb := 12, width := 20, acc := .rw, rst := .const 0, s1 := 0x100, n1 := 14, s2 := 0x8, n2 := 8 }
def BUS_WIN_TARGET : Fld := { addr := 0x01041000, lsb := 44, width := 20, acc := .rw, rst := .const 0, s1 := 0x100, n1 := 14, s2 := 0x8, n2 := 8 }
end F

namespace D
def BUS_STATUS : RegDesc := { base := 0x01040000, words := 2, flds := [F.BUS_STATUS_IDS_USED, F.BUS_STATUS_WIN_ERR, F.BUS_STATUS_TIMEOUTS] }
def BUS_TIMEOUT : RegDesc := { base := 0x01040008, words := 1, flds := [F.BUS_TIMEOUT_CYCLES] }
def BUS_ERR_FIRST : RegDesc := { base := 0x01040010, words := 2, flds := [F.BUS_ERR_FIRST_MASTER, F.BUS_ERR_FIRST_KIND, F.BUS_ERR_FIRST_VALID, F.BUS_ERR_FIRST_ADDR] }
def BUS_MASTER : RegDesc := { base := 0x01040100, words := 1, s1 := 0x8, n1 := 14, flds := [F.BUS_MASTER_OUTSTANDING, F.BUS_MASTER_RESET, F.BUS_MASTER_RESETTING, F.BUS_MASTER_ERRORS] }
def BUS_WIN : RegDesc := { base := 0x01041000, words := 2, s1 := 0x100, n1 := 14, s2 := 0x8, n2 := 8, flds := [F.BUS_WIN_EN, F.BUS_WIN_SIZE, F.BUS_WIN_BASE, F.BUS_WIN_TARGET] }
end D

/-- The registers of block BUS. -/
def blkBus : List RegDesc :=
  [D.BUS_STATUS, D.BUS_TIMEOUT, D.BUS_ERR_FIRST, D.BUS_MASTER, D.BUS_WIN]

/-! ## Block FAULT, base 0x0105_0000 -/

namespace F
def FAULT_CTRL_VEC : Fld := { addr := 0x01050000, lsb := 0, width := 6, acc := .rw, rst := .const 2 }
def FAULT_CTRL_INJ_REACT : Fld := { addr := 0x01050000, lsb := 6, width := 1, acc := .rw, rst := .const 1 }
def FAULT_STATUS_INT_PEND : Fld := { addr := 0x01050008, lsb := 0, width := 1, acc := .w1c, rst := .const 0 }
def FAULT_STATUS_FREEZE : Fld := { addr := 0x01050008, lsb := 1, width := 1, acc := .ro, rst := .const 0 }
def FAULT_STATUS_HOLD : Fld := { addr := 0x01050008, lsb := 2, width := 1, acc := .ro, rst := .const 0 }
def FAULT_STATUS_SAFE : Fld := { addr := 0x01050008, lsb := 3, width := 1, acc := .ro, rst := .const 0 }
def FAULT_STATUS_SAFE_N_LOW : Fld := { addr := 0x01050008, lsb := 4, width := 1, acc := .ro, rst := .const 0 }
def FAULT_STATUS_REL_REF : Fld := { addr := 0x01050008, lsb := 5, width := 1, acc := .rc, rst := .const 0 }
def FAULT_STATUS_ACTIVE : Fld := { addr := 0x01050008, lsb := 16, width := 8, acc := .ro, rst := .const 0 }
def FAULT_STATUS_CRIT : Fld := { addr := 0x01050008, lsb := 24, width := 8, acc := .ro, rst := .const 0 }
def FAULT_RELEASE_FREEZE : Fld := { addr := 0x01050010, lsb := 2, width := 1, acc := .wo, rst := .const 0 }
def FAULT_RELEASE_HOLD : Fld := { addr := 0x01050010, lsb := 3, width := 1, acc := .wo, rst := .const 0 }
def FAULT_RELEASE_SAFE : Fld := { addr := 0x01050010, lsb := 4, width := 1, acc := .wo, rst := .const 0 }
def FAULT_SEV_REACT_REACT : Fld := { addr := 0x01050020, lsb := 0, width := 5, acc := .rw, rst := .byI [1, 3, 7, 15], s1 := 0x4, n1 := 4 }
def FAULT_FIRST_SOURCE : Fld := { addr := 0x01050040, lsb := 0, width := 7, acc := .ro, rst := .const 0 }
def FAULT_FIRST_INJECTED : Fld := { addr := 0x01050040, lsb := 7, width := 1, acc := .ro, rst := .const 0 }
def FAULT_FIRST_SEV : Fld := { addr := 0x01050040, lsb := 8, width := 2, acc := .ro, rst := .const 0 }
def FAULT_FIRST_EFF : Fld := { addr := 0x01050040, lsb := 10, width := 2, acc := .ro, rst := .const 0 }
def FAULT_FIRST_REACT : Fld := { addr := 0x01050040, lsb := 12, width := 5, acc := .ro, rst := .const 0 }
def FAULT_FIRST_VALID : Fld := { addr := 0x01050040, lsb := 31, width := 1, acc := .w1c, rst := .const 0 }
def FAULT_FIRST_DETAIL : Fld := { addr := 0x01050040, lsb := 32, width := 32, acc := .ro, rst := .const 0 }
def FAULT_FIRST_TIME : Fld := { addr := 0x01050040, lsb := 64, width := 64, acc := .ro, rst := .const 0 }
def FAULT_LOG_HEAD_NEWEST : Fld := { addr := 0x01050060, lsb := 0, width := 6, acc := .ro, rst := .const 0 }
def FAULT_LOG_HEAD_ANY : Fld := { addr := 0x01050060, lsb := 6, width := 1, acc := .ro, rst := .const 0 }
def FAULT_LOG_HEAD_LOST : Fld := { addr := 0x01050060, lsb := 16, width := 16, acc := .rc, rst := .const 0 }
def FAULT_ACTIVE_ACTIVE : Fld := { addr := 0x01050080, lsb := 0, width := 32, acc := .ro, rst := .const 0, bs := 32, bn := 4 }
def FAULT_SRC_CFG_SEV : Fld := { addr := 0x01050400, lsb := 0, width := 2, acc := .rw, rst := .byI sevDefaults, s1 := 0x4, n1 := 128 }
def FAULT_SRC_CFG_ESC_EN : Fld := { addr := 0x01050400, lsb := 2, width := 1, acc := .rw, rst := .const 1, s1 := 0x4, n1 := 128 }
def FAULT_SRC_CFG_REACT : Fld := { addr := 0x01050400, lsb := 3, width := 5, acc := .rw, rst := .const 0, s1 := 0x4, n1 := 128 }
def FAULT_SRC_CFG_FORCE : Fld := { addr := 0x01050400, lsb := 8, width := 1, acc := .wo, rst := .const 0, s1 := 0x4, n1 := 128 }
def FAULT_SRC_STATUS_ACTIVE : Fld := { addr := 0x01050800, lsb := 0, width := 1, acc := .w1c, rst := .const 0, s1 := 0x8, n1 := 128 }
def FAULT_SRC_STATUS_LEVEL : Fld := { addr := 0x01050800, lsb := 1, width := 1, acc := .ro, rst := .const 0, s1 := 0x8, n1 := 128 }
def FAULT_SRC_STATUS_EFF : Fld := { addr := 0x01050800, lsb := 2, width := 2, acc := .ro, rst := .const 0, s1 := 0x8, n1 := 128 }
def FAULT_SRC_STATUS_INJECTED : Fld := { addr := 0x01050800, lsb := 4, width := 1, acc := .ro, rst := .const 0, s1 := 0x8, n1 := 128 }
def FAULT_SRC_STATUS_COUNT : Fld := { addr := 0x01050800, lsb := 16, width := 16, acc := .rc, rst := .const 0, s1 := 0x8, n1 := 128 }
def FAULT_SRC_STATUS_DETAIL : Fld := { addr := 0x01050800, lsb := 32, width := 32, acc := .ro, rst := .const 0, s1 := 0x8, n1 := 128 }
def FAULT_LOG_SOURCE : Fld := { addr := 0x01051000, lsb := 0, width := 7, acc := .ro, rst := .const 0, s1 := 0x10, n1 := 64 }
def FAULT_LOG_INJECTED : Fld := { addr := 0x01051000, lsb := 7, width := 1, acc := .ro, rst := .const 0, s1 := 0x10, n1 := 64 }
def FAULT_LOG_SEV : Fld := { addr := 0x01051000, lsb := 8, width := 2, acc := .ro, rst := .const 0, s1 := 0x10, n1 := 64 }
def FAULT_LOG_EFF : Fld := { addr := 0x01051000, lsb := 10, width := 2, acc := .ro, rst := .const 0, s1 := 0x10, n1 := 64 }
def FAULT_LOG_REACT : Fld := { addr := 0x01051000, lsb := 12, width := 5, acc := .ro, rst := .const 0, s1 := 0x10, n1 := 64 }
def FAULT_LOG_DETAIL : Fld := { addr := 0x01051000, lsb := 32, width := 32, acc := .ro, rst := .const 0, s1 := 0x10, n1 := 64 }
def FAULT_LOG_TIME : Fld := { addr := 0x01051000, lsb := 64, width := 64, acc := .ro, rst := .const 0, s1 := 0x10, n1 := 64 }
end F

namespace D
def FAULT_CTRL : RegDesc := { base := 0x01050000, words := 1, flds := [F.FAULT_CTRL_VEC, F.FAULT_CTRL_INJ_REACT] }
def FAULT_STATUS : RegDesc := { base := 0x01050008, words := 2, flds := [F.FAULT_STATUS_INT_PEND, F.FAULT_STATUS_FREEZE, F.FAULT_STATUS_HOLD, F.FAULT_STATUS_SAFE, F.FAULT_STATUS_SAFE_N_LOW, F.FAULT_STATUS_REL_REF, F.FAULT_STATUS_ACTIVE, F.FAULT_STATUS_CRIT] }
def FAULT_RELEASE : RegDesc := { base := 0x01050010, words := 1, flds := [F.FAULT_RELEASE_FREEZE, F.FAULT_RELEASE_HOLD, F.FAULT_RELEASE_SAFE] }
def FAULT_SEV_REACT : RegDesc := { base := 0x01050020, words := 1, s1 := 0x4, n1 := 4, flds := [F.FAULT_SEV_REACT_REACT] }
def FAULT_FIRST : RegDesc := { base := 0x01050040, words := 4, flds := [F.FAULT_FIRST_SOURCE, F.FAULT_FIRST_INJECTED, F.FAULT_FIRST_SEV, F.FAULT_FIRST_EFF, F.FAULT_FIRST_REACT, F.FAULT_FIRST_VALID, F.FAULT_FIRST_DETAIL, F.FAULT_FIRST_TIME] }
def FAULT_LOG_HEAD : RegDesc := { base := 0x01050060, words := 1, flds := [F.FAULT_LOG_HEAD_NEWEST, F.FAULT_LOG_HEAD_ANY, F.FAULT_LOG_HEAD_LOST] }
def FAULT_ACTIVE : RegDesc := { base := 0x01050080, words := 4, flds := [F.FAULT_ACTIVE_ACTIVE] }
def FAULT_SRC_CFG : RegDesc := { base := 0x01050400, words := 1, s1 := 0x4, n1 := 128, flds := [F.FAULT_SRC_CFG_SEV, F.FAULT_SRC_CFG_ESC_EN, F.FAULT_SRC_CFG_REACT, F.FAULT_SRC_CFG_FORCE] }
def FAULT_SRC_STATUS : RegDesc := { base := 0x01050800, words := 2, s1 := 0x8, n1 := 128, flds := [F.FAULT_SRC_STATUS_ACTIVE, F.FAULT_SRC_STATUS_LEVEL, F.FAULT_SRC_STATUS_EFF, F.FAULT_SRC_STATUS_INJECTED, F.FAULT_SRC_STATUS_COUNT, F.FAULT_SRC_STATUS_DETAIL] }
def FAULT_LOG : RegDesc := { base := 0x01051000, words := 4, s1 := 0x10, n1 := 64, flds := [F.FAULT_LOG_SOURCE, F.FAULT_LOG_INJECTED, F.FAULT_LOG_SEV, F.FAULT_LOG_EFF, F.FAULT_LOG_REACT, F.FAULT_LOG_DETAIL, F.FAULT_LOG_TIME] }
end D

/-- The registers of block FAULT. -/
def blkFault : List RegDesc :=
  [D.FAULT_CTRL, D.FAULT_STATUS, D.FAULT_RELEASE, D.FAULT_SEV_REACT, D.FAULT_FIRST, D.FAULT_LOG_HEAD, D.FAULT_ACTIVE, D.FAULT_SRC_CFG, D.FAULT_SRC_STATUS, D.FAULT_LOG]

/-! ## Block MON, base 0x0106_0000 -/

namespace F
def MON_SNAP_HIST : Fld := { addr := 0x01060000, lsb := 0, width := 32, acc := .wo, rst := .const 0 }
def MON_SNAP_TRK : Fld := { addr := 0x01060000, lsb := 32, width := 16, acc := .wo, rst := .const 0 }
def MON_SNAP_TIME_TIME : Fld := { addr := 0x01060008, lsb := 0, width := 64, acc := .ro, rst := .const 0 }
def MON_HOP_IN_NS : Fld := { addr := 0x01060080, lsb := 0, width := 32, acc := .wo, rst := .const 0, s1 := 0x4, n1 := 16 }
def MON_HIST_CFG_SRC : Fld := { addr := 0x01060100, lsb := 0, width := 4, acc := .rw, rst := .const 0, s1 := 0x20, n1 := 32 }
def MON_HIST_CFG_LOG2 : Fld := { addr := 0x01060100, lsb := 4, width := 1, acc := .rw, rst := .const 0, s1 := 0x20, n1 := 32 }
def MON_HIST_CFG_EN : Fld := { addr := 0x01060100, lsb := 5, width := 1, acc := .rw, rst := .const 0, s1 := 0x20, n1 := 32 }
def MON_HIST_CFG_SEL : Fld := { addr := 0x01060100, lsb := 15, width := 17, acc := .rw, rst := .const 0, s1 := 0x20, n1 := 32 }
def MON_HIST_WIDTH_WIDTH : Fld := { addr := 0x01060104, lsb := 0, width := 32, acc := .rw, rst := .const 1, s1 := 0x20, n1 := 32 }
def MON_HIST_LO_LO : Fld := { addr := 0x01060108, lsb := 0, width := 64, acc := .rw, rst := .const 0, s1 := 0x20, n1 := 32 }
def MON_HIST_STAT_SAMPLES : Fld := { addr := 0x01060110, lsb := 0, width := 32, acc := .ro, rst := .const 0, s1 := 0x20, n1 := 32 }
def MON_HIST_STAT_DROPPED : Fld := { addr := 0x01060110, lsb := 32, width := 16, acc := .ro, rst := .const 0, s1 := 0x20, n1 := 32 }
def MON_HIST_SNAP_STAT_SAMPLES : Fld := { addr := 0x01060118, lsb := 0, width := 32, acc := .ro, rst := .const 0, s1 := 0x20, n1 := 32 }
def MON_HIST_SNAP_STAT_DROPPED : Fld := { addr := 0x01060118, lsb := 32, width := 16, acc := .ro, rst := .const 0, s1 := 0x20, n1 := 32 }
def MON_TRK_CFG_SRC : Fld := { addr := 0x01060800, lsb := 0, width := 4, acc := .rw, rst := .const 0, s1 := 0x80, n1 := 16 }
def MON_TRK_CFG_EN : Fld := { addr := 0x01060800, lsb := 4, width := 1, acc := .rw, rst := .const 0, s1 := 0x80, n1 := 16 }
def MON_TRK_CFG_SEL : Fld := { addr := 0x01060800, lsb := 15, width := 17, acc := .rw, rst := .const 0, s1 := 0x80, n1 := 16 }
def MON_TRK_N_N : Fld := { addr := 0x01060804, lsb := 0, width := 32, acc := .ro, rst := .const 0, s1 := 0x80, n1 := 16 }
def MON_TRK_MIN_MIN : Fld := { addr := 0x01060808, lsb := 0, width := 64, acc := .ro, rst := .const 9223372036854775807, s1 := 0x80, n1 := 16 }
def MON_TRK_MIN_T_TIME : Fld := { addr := 0x01060810, lsb := 0, width := 64, acc := .ro, rst := .const 0, s1 := 0x80, n1 := 16 }
def MON_TRK_MAX_MAX : Fld := { addr := 0x01060818, lsb := 0, width := 64, acc := .ro, rst := .const 9223372036854775808, s1 := 0x80, n1 := 16 }
def MON_TRK_MAX_T_TIME : Fld := { addr := 0x01060820, lsb := 0, width := 64, acc := .ro, rst := .const 0, s1 := 0x80, n1 := 16 }
def MON_TRK_DROP_DROPPED : Fld := { addr := 0x01060828, lsb := 0, width := 16, acc := .ro, rst := .const 0, s1 := 0x80, n1 := 16 }
def MON_TRK_SNAP_N_N : Fld := { addr := 0x01060844, lsb := 0, width := 32, acc := .ro, rst := .const 0, s1 := 0x80, n1 := 16 }
def MON_TRK_SNAP_MIN_MIN : Fld := { addr := 0x01060848, lsb := 0, width := 64, acc := .ro, rst := .const 9223372036854775807, s1 := 0x80, n1 := 16 }
def MON_TRK_SNAP_MIN_T_TIME : Fld := { addr := 0x01060850, lsb := 0, width := 64, acc := .ro, rst := .const 0, s1 := 0x80, n1 := 16 }
def MON_TRK_SNAP_MAX_MAX : Fld := { addr := 0x01060858, lsb := 0, width := 64, acc := .ro, rst := .const 9223372036854775808, s1 := 0x80, n1 := 16 }
def MON_TRK_SNAP_MAX_T_TIME : Fld := { addr := 0x01060860, lsb := 0, width := 64, acc := .ro, rst := .const 0, s1 := 0x80, n1 := 16 }
def MON_TRK_SNAP_DROP_DROPPED : Fld := { addr := 0x01060868, lsb := 0, width := 16, acc := .ro, rst := .const 0, s1 := 0x80, n1 := 16 }
end F

namespace D
def MON_SNAP : RegDesc := { base := 0x01060000, words := 2, flds := [F.MON_SNAP_HIST, F.MON_SNAP_TRK] }
def MON_SNAP_TIME : RegDesc := { base := 0x01060008, words := 2, flds := [F.MON_SNAP_TIME_TIME] }
def MON_HOP_IN : RegDesc := { base := 0x01060080, words := 1, s1 := 0x4, n1 := 16, flds := [F.MON_HOP_IN_NS] }
def MON_HIST_CFG : RegDesc := { base := 0x01060100, words := 1, s1 := 0x20, n1 := 32, flds := [F.MON_HIST_CFG_SRC, F.MON_HIST_CFG_LOG2, F.MON_HIST_CFG_EN, F.MON_HIST_CFG_SEL] }
def MON_HIST_WIDTH : RegDesc := { base := 0x01060104, words := 1, s1 := 0x20, n1 := 32, flds := [F.MON_HIST_WIDTH_WIDTH] }
def MON_HIST_LO : RegDesc := { base := 0x01060108, words := 2, s1 := 0x20, n1 := 32, flds := [F.MON_HIST_LO_LO] }
def MON_HIST_STAT : RegDesc := { base := 0x01060110, words := 2, s1 := 0x20, n1 := 32, flds := [F.MON_HIST_STAT_SAMPLES, F.MON_HIST_STAT_DROPPED] }
def MON_HIST_SNAP_STAT : RegDesc := { base := 0x01060118, words := 2, s1 := 0x20, n1 := 32, flds := [F.MON_HIST_SNAP_STAT_SAMPLES, F.MON_HIST_SNAP_STAT_DROPPED] }
def MON_TRK_CFG : RegDesc := { base := 0x01060800, words := 1, s1 := 0x80, n1 := 16, flds := [F.MON_TRK_CFG_SRC, F.MON_TRK_CFG_EN, F.MON_TRK_CFG_SEL] }
def MON_TRK_N : RegDesc := { base := 0x01060804, words := 1, s1 := 0x80, n1 := 16, flds := [F.MON_TRK_N_N] }
def MON_TRK_MIN : RegDesc := { base := 0x01060808, words := 2, s1 := 0x80, n1 := 16, flds := [F.MON_TRK_MIN_MIN] }
def MON_TRK_MIN_T : RegDesc := { base := 0x01060810, words := 2, s1 := 0x80, n1 := 16, flds := [F.MON_TRK_MIN_T_TIME] }
def MON_TRK_MAX : RegDesc := { base := 0x01060818, words := 2, s1 := 0x80, n1 := 16, flds := [F.MON_TRK_MAX_MAX] }
def MON_TRK_MAX_T : RegDesc := { base := 0x01060820, words := 2, s1 := 0x80, n1 := 16, flds := [F.MON_TRK_MAX_T_TIME] }
def MON_TRK_DROP : RegDesc := { base := 0x01060828, words := 1, s1 := 0x80, n1 := 16, flds := [F.MON_TRK_DROP_DROPPED] }
def MON_TRK_SNAP_N : RegDesc := { base := 0x01060844, words := 1, s1 := 0x80, n1 := 16, flds := [F.MON_TRK_SNAP_N_N] }
def MON_TRK_SNAP_MIN : RegDesc := { base := 0x01060848, words := 2, s1 := 0x80, n1 := 16, flds := [F.MON_TRK_SNAP_MIN_MIN] }
def MON_TRK_SNAP_MIN_T : RegDesc := { base := 0x01060850, words := 2, s1 := 0x80, n1 := 16, flds := [F.MON_TRK_SNAP_MIN_T_TIME] }
def MON_TRK_SNAP_MAX : RegDesc := { base := 0x01060858, words := 2, s1 := 0x80, n1 := 16, flds := [F.MON_TRK_SNAP_MAX_MAX] }
def MON_TRK_SNAP_MAX_T : RegDesc := { base := 0x01060860, words := 2, s1 := 0x80, n1 := 16, flds := [F.MON_TRK_SNAP_MAX_T_TIME] }
def MON_TRK_SNAP_DROP : RegDesc := { base := 0x01060868, words := 1, s1 := 0x80, n1 := 16, flds := [F.MON_TRK_SNAP_DROP_DROPPED] }
end D

/-- The registers of block MON. -/
def blkMon : List RegDesc :=
  [D.MON_SNAP, D.MON_SNAP_TIME, D.MON_HOP_IN, D.MON_HIST_CFG, D.MON_HIST_WIDTH, D.MON_HIST_LO, D.MON_HIST_STAT, D.MON_HIST_SNAP_STAT, D.MON_TRK_CFG, D.MON_TRK_N, D.MON_TRK_MIN, D.MON_TRK_MIN_T] ++
  [D.MON_TRK_MAX, D.MON_TRK_MAX_T, D.MON_TRK_DROP, D.MON_TRK_SNAP_N, D.MON_TRK_SNAP_MIN, D.MON_TRK_SNAP_MIN_T, D.MON_TRK_SNAP_MAX, D.MON_TRK_SNAP_MAX_T, D.MON_TRK_SNAP_DROP]

/-! ## Block THERM, base 0x0107_0000 -/

namespace F
def THERM_CART_SEL_SEL : Fld := { addr := 0x01070000, lsb := 0, width := 16, acc := .rw, rst := .const 0 }
def THERM_T_T_CART : Fld := { addr := 0x01070008, lsb := 0, width := 32, acc := .ro, rst := .const 1103626240 }
def THERM_T_T_DIE : Fld := { addr := 0x01070008, lsb := 32, width := 32, acc := .ro, rst := .const 0 }
def THERM_STATUS_CART_VALID : Fld := { addr := 0x01070010, lsb := 0, width := 1, acc := .ro, rst := .const 0 }
def THERM_STATUS_DIE_VALID : Fld := { addr := 0x01070010, lsb := 1, width := 1, acc := .ro, rst := .const 0 }
def THERM_STATUS_FLASH_GATE : Fld := { addr := 0x01070010, lsb := 2, width := 1, acc := .ro, rst := .const 0 }
def THERM_STATUS_LEVEL : Fld := { addr := 0x01070010, lsb := 3, width := 2, acc := .ro, rst := .const 0 }
def THERM_STATUS_SOLVE_MODE : Fld := { addr := 0x01070010, lsb := 5, width := 2, acc := .ro, rst := .const 0 }
def THERM_STATUS_LOOP_MODE : Fld := { addr := 0x01070010, lsb := 7, width := 2, acc := .ro, rst := .const 0 }
def THERM_THR_T_T1 : Fld := { addr := 0x01070020, lsb := 0, width := 32, acc := .rw, rst := .const 1120403456 }
def THERM_THR_T_T2 : Fld := { addr := 0x01070020, lsb := 32, width := 32, acc := .rw, rst := .const 1121058816 }
def THERM_THR_CTRL_SOLVE_L1 : Fld := { addr := 0x01070028, lsb := 0, width := 2, acc := .rw, rst := .const 1 }
def THERM_THR_CTRL_SOLVE_L2 : Fld := { addr := 0x01070028, lsb := 2, width := 2, acc := .rw, rst := .const 2 }
def THERM_THR_CTRL_LOOP_L1 : Fld := { addr := 0x01070028, lsb := 4, width := 2, acc := .rw, rst := .const 1 }
def THERM_THR_CTRL_LOOP_L2 : Fld := { addr := 0x01070028, lsb := 6, width := 2, acc := .rw, rst := .const 2 }
def THERM_THR_CTRL_SKIP : Fld := { addr := 0x01070028, lsb := 8, width := 4, acc := .rw, rst := .const 8 }
def THERM_THR_CTRL_FORCE : Fld := { addr := 0x01070028, lsb := 12, width := 2, acc := .rw, rst := .const 0 }
def THERM_THR_CTRL_AUTO : Fld := { addr := 0x01070028, lsb := 14, width := 1, acc := .rw, rst := .const 1 }
def THERM_THR_CTRL_THR_N : Fld := { addr := 0x01070028, lsb := 16, width := 4, acc := .rw, rst := .const 4 }
def THERM_THR_HYST_HYST : Fld := { addr := 0x01070030, lsb := 0, width := 32, acc := .rw, rst := .const 1077936128 }
def THERM_FLASH_Q_DEPTH : Fld := { addr := 0x01070040, lsb := 0, width := 7, acc := .ro, rst := .const 0 }
def THERM_FLASH_Q_REFUSED : Fld := { addr := 0x01070040, lsb := 16, width := 16, acc := .rc, rst := .const 0 }
def THERM_LIM_HI_HI : Fld := { addr := 0x01070100, lsb := 0, width := 32, acc := .rw, rst := .const 2139095039, s1 := 0x20, n1 := 40 }
def THERM_LIM_LO_LO : Fld := { addr := 0x01070104, lsb := 0, width := 32, acc := .rw, rst := .const 4286578687, s1 := 0x20, n1 := 40 }
def THERM_LIM_HYST_HYST : Fld := { addr := 0x01070108, lsb := 0, width := 32, acc := .rw, rst := .const 1073741824, s1 := 0x20, n1 := 40 }
def THERM_LIM_RATE_RATE : Fld := { addr := 0x0107010C, lsb := 0, width := 32, acc := .rw, rst := .const 2139095039, s1 := 0x20, n1 := 40 }
def THERM_LIM_RHYST_RATE_HYST : Fld := { addr := 0x01070110, lsb := 0, width := 32, acc := .rw, rst := .const 0, s1 := 0x20, n1 := 40 }
def THERM_LIM_CFG_WINDOW : Fld := { addr := 0x01070114, lsb := 0, width := 8, acc := .rw, rst := .const 100, s1 := 0x20, n1 := 40 }
def THERM_LIM_CFG_N : Fld := { addr := 0x01070114, lsb := 8, width := 4, acc := .rw, rst := .const 4, s1 := 0x20, n1 := 40 }
def THERM_LIM_CFG_EN_HI : Fld := { addr := 0x01070114, lsb := 12, width := 1, acc := .rw, rst := .const 0, s1 := 0x20, n1 := 40 }
def THERM_LIM_CFG_EN_LO : Fld := { addr := 0x01070114, lsb := 13, width := 1, acc := .rw, rst := .const 0, s1 := 0x20, n1 := 40 }
def THERM_LIM_CFG_EN_RATE : Fld := { addr := 0x01070114, lsb := 14, width := 1, acc := .rw, rst := .const 0, s1 := 0x20, n1 := 40 }
def THERM_LIM_STATE_HIGH : Fld := { addr := 0x01070118, lsb := 0, width := 1, acc := .ro, rst := .const 0, s1 := 0x20, n1 := 40 }
def THERM_LIM_STATE_LOW : Fld := { addr := 0x01070118, lsb := 1, width := 1, acc := .ro, rst := .const 0, s1 := 0x20, n1 := 40 }
def THERM_LIM_STATE_RISING : Fld := { addr := 0x01070118, lsb := 2, width := 1, acc := .ro, rst := .const 0, s1 := 0x20, n1 := 40 }
def THERM_LIM_STATE_C_HI : Fld := { addr := 0x01070118, lsb := 4, width := 4, acc := .ro, rst := .const 0, s1 := 0x20, n1 := 40 }
def THERM_LIM_STATE_C_LO : Fld := { addr := 0x01070118, lsb := 8, width := 4, acc := .ro, rst := .const 0, s1 := 0x20, n1 := 40 }
def THERM_LIM_STATE_C_RT : Fld := { addr := 0x01070118, lsb := 12, width := 4, acc := .ro, rst := .const 0, s1 := 0x20, n1 := 40 }
end F

namespace D
def THERM_CART_SEL : RegDesc := { base := 0x01070000, words := 1, flds := [F.THERM_CART_SEL_SEL] }
def THERM_T : RegDesc := { base := 0x01070008, words := 2, flds := [F.THERM_T_T_CART, F.THERM_T_T_DIE] }
def THERM_STATUS : RegDesc := { base := 0x01070010, words := 1, flds := [F.THERM_STATUS_CART_VALID, F.THERM_STATUS_DIE_VALID, F.THERM_STATUS_FLASH_GATE, F.THERM_STATUS_LEVEL, F.THERM_STATUS_SOLVE_MODE, F.THERM_STATUS_LOOP_MODE] }
def THERM_THR_T : RegDesc := { base := 0x01070020, words := 2, flds := [F.THERM_THR_T_T1, F.THERM_THR_T_T2] }
def THERM_THR_CTRL : RegDesc := { base := 0x01070028, words := 1, flds := [F.THERM_THR_CTRL_SOLVE_L1, F.THERM_THR_CTRL_SOLVE_L2, F.THERM_THR_CTRL_LOOP_L1, F.THERM_THR_CTRL_LOOP_L2, F.THERM_THR_CTRL_SKIP, F.THERM_THR_CTRL_FORCE, F.THERM_THR_CTRL_AUTO, F.THERM_THR_CTRL_THR_N] }
def THERM_THR_HYST : RegDesc := { base := 0x01070030, words := 1, flds := [F.THERM_THR_HYST_HYST] }
def THERM_FLASH_Q : RegDesc := { base := 0x01070040, words := 1, flds := [F.THERM_FLASH_Q_DEPTH, F.THERM_FLASH_Q_REFUSED] }
def THERM_LIM_HI : RegDesc := { base := 0x01070100, words := 1, s1 := 0x20, n1 := 40, flds := [F.THERM_LIM_HI_HI] }
def THERM_LIM_LO : RegDesc := { base := 0x01070104, words := 1, s1 := 0x20, n1 := 40, flds := [F.THERM_LIM_LO_LO] }
def THERM_LIM_HYST : RegDesc := { base := 0x01070108, words := 1, s1 := 0x20, n1 := 40, flds := [F.THERM_LIM_HYST_HYST] }
def THERM_LIM_RATE : RegDesc := { base := 0x0107010C, words := 1, s1 := 0x20, n1 := 40, flds := [F.THERM_LIM_RATE_RATE] }
def THERM_LIM_RHYST : RegDesc := { base := 0x01070110, words := 1, s1 := 0x20, n1 := 40, flds := [F.THERM_LIM_RHYST_RATE_HYST] }
def THERM_LIM_CFG : RegDesc := { base := 0x01070114, words := 1, s1 := 0x20, n1 := 40, flds := [F.THERM_LIM_CFG_WINDOW, F.THERM_LIM_CFG_N, F.THERM_LIM_CFG_EN_HI, F.THERM_LIM_CFG_EN_LO, F.THERM_LIM_CFG_EN_RATE] }
def THERM_LIM_STATE : RegDesc := { base := 0x01070118, words := 1, s1 := 0x20, n1 := 40, flds := [F.THERM_LIM_STATE_HIGH, F.THERM_LIM_STATE_LOW, F.THERM_LIM_STATE_RISING, F.THERM_LIM_STATE_C_HI, F.THERM_LIM_STATE_C_LO, F.THERM_LIM_STATE_C_RT] }
end D

/-- The registers of block THERM. -/
def blkTherm : List RegDesc :=
  [D.THERM_CART_SEL, D.THERM_T, D.THERM_STATUS, D.THERM_THR_T, D.THERM_THR_CTRL, D.THERM_THR_HYST, D.THERM_FLASH_Q, D.THERM_LIM_HI, D.THERM_LIM_LO, D.THERM_LIM_HYST, D.THERM_LIM_RATE, D.THERM_LIM_RHYST] ++
  [D.THERM_LIM_CFG, D.THERM_LIM_STATE]

/-! ## Block HKADC, base 0x0108_0000 -/

namespace F
def HKADC_CTRL_EN : Fld := { addr := 0x01080000, lsb := 0, width := 1, acc := .rw, rst := .const 0 }
def HKADC_CTRL_AVG : Fld := { addr := 0x01080000, lsb := 1, width := 3, acc := .rw, rst := .const 4 }
def HKADC_ROUND_US : Fld := { addr := 0x01080004, lsb := 0, width := 16, acc := .rw, rst := .const 10000 }
def HKADC_STATUS_POWERED : Fld := { addr := 0x01080008, lsb := 0, width := 1, acc := .ro, rst := .const 0 }
def HKADC_STATUS_ROUND_OVR : Fld := { addr := 0x01080008, lsb := 1, width := 1, acc := .w1c, rst := .const 0 }
def HKADC_STATUS_CONV : Fld := { addr := 0x01080008, lsb := 16, width := 16, acc := .ro, rst := .const 0 }
def HKADC_STATUS_ROUNDS : Fld := { addr := 0x01080008, lsb := 32, width := 32, acc := .ro, rst := .const 0 }
def HKADC_EN_EN : Fld := { addr := 0x01080010, lsb := 0, width := 40, acc := .rw, rst := .const 0 }
def HKADC_RES_TIME_TIME : Fld := { addr := 0x01080018, lsb := 0, width := 64, acc := .ro, rst := .const 0 }
def HKADC_RES_VALUE : Fld := { addr := 0x01080100, lsb := 0, width := 32, acc := .ro, rst := .const 0, s1 := 0x8, n1 := 40 }
def HKADC_RES_OVR : Fld := { addr := 0x01080100, lsb := 32, width := 1, acc := .ro, rst := .const 0, s1 := 0x8, n1 := 40 }
def HKADC_RES_STALE : Fld := { addr := 0x01080100, lsb := 33, width := 1, acc := .ro, rst := .const 1, s1 := 0x8, n1 := 40 }
def HKADC_RES_RAW : Fld := { addr := 0x01080100, lsb := 34, width := 14, acc := .ro, rst := .const 0, s1 := 0x8, n1 := 40 }
def HKADC_SCALE_GAIN : Fld := { addr := 0x01080400, lsb := 0, width := 32, acc := .rw, rst := .const 1065353216, s1 := 0x8, n1 := 40 }
def HKADC_SCALE_OFFSET : Fld := { addr := 0x01080400, lsb := 32, width := 32, acc := .rw, rst := .const 0, s1 := 0x8, n1 := 40 }
def HKADC_DIODE_ETA : Fld := { addr := 0x01080600, lsb := 0, width := 32, acc := .rw, rst := .const 1065420325, s1 := 0x4, n1 := 8 }
def HKADC_THERM_R0 : Fld := { addr := 0x01080700, lsb := 0, width := 32, acc := .rw, rst := .const 1176256512, s1 := 0x10, n1 := 8 }
def HKADC_THERM_BETA : Fld := { addr := 0x01080700, lsb := 32, width := 32, acc := .rw, rst := .const 1163309056, s1 := 0x10, n1 := 8 }
def HKADC_THERM_T0 : Fld := { addr := 0x01080700, lsb := 64, width := 32, acc := .rw, rst := .const 1103626240, s1 := 0x10, n1 := 8 }
def HKADC_THERM_IEXC : Fld := { addr := 0x01080700, lsb := 96, width := 1, acc := .rw, rst := .const 1, s1 := 0x10, n1 := 8 }
end F

namespace D
def HKADC_CTRL : RegDesc := { base := 0x01080000, words := 1, flds := [F.HKADC_CTRL_EN, F.HKADC_CTRL_AVG] }
def HKADC_ROUND : RegDesc := { base := 0x01080004, words := 1, flds := [F.HKADC_ROUND_US] }
def HKADC_STATUS : RegDesc := { base := 0x01080008, words := 2, flds := [F.HKADC_STATUS_POWERED, F.HKADC_STATUS_ROUND_OVR, F.HKADC_STATUS_CONV, F.HKADC_STATUS_ROUNDS] }
def HKADC_EN : RegDesc := { base := 0x01080010, words := 2, flds := [F.HKADC_EN_EN] }
def HKADC_RES_TIME : RegDesc := { base := 0x01080018, words := 2, flds := [F.HKADC_RES_TIME_TIME] }
def HKADC_RES : RegDesc := { base := 0x01080100, words := 2, s1 := 0x8, n1 := 40, flds := [F.HKADC_RES_VALUE, F.HKADC_RES_OVR, F.HKADC_RES_STALE, F.HKADC_RES_RAW] }
def HKADC_SCALE : RegDesc := { base := 0x01080400, words := 2, s1 := 0x8, n1 := 40, flds := [F.HKADC_SCALE_GAIN, F.HKADC_SCALE_OFFSET] }
def HKADC_DIODE : RegDesc := { base := 0x01080600, words := 1, s1 := 0x4, n1 := 8, flds := [F.HKADC_DIODE_ETA] }
def HKADC_THERM : RegDesc := { base := 0x01080700, words := 4, s1 := 0x10, n1 := 8, flds := [F.HKADC_THERM_R0, F.HKADC_THERM_BETA, F.HKADC_THERM_T0, F.HKADC_THERM_IEXC] }
end D

/-- The registers of block HKADC. -/
def blkHkadc : List RegDesc :=
  [D.HKADC_CTRL, D.HKADC_ROUND, D.HKADC_STATUS, D.HKADC_EN, D.HKADC_RES_TIME, D.HKADC_RES, D.HKADC_SCALE, D.HKADC_DIODE, D.HKADC_THERM]

/-! ## Block PWM, base 0x0109_0000 -/

namespace F
def PWM_CTRL_EN : Fld := { addr := 0x01090000, lsb := 0, width := 1, acc := .rw, rst := .const 0, s1 := 0x40, n1 := 8 }
def PWM_CTRL_SYNC_EN : Fld := { addr := 0x01090000, lsb := 1, width := 1, acc := .rw, rst := .const 0, s1 := 0x40, n1 := 8 }
def PWM_CTRL_LOCK : Fld := { addr := 0x01090000, lsb := 2, width := 1, acc := .rw, rst := .const 0, s1 := 0x40, n1 := 8 }
def PWM_CTRL_DITHER_EN : Fld := { addr := 0x01090000, lsb := 3, width := 1, acc := .rw, rst := .const 1, s1 := 0x40, n1 := 8 }
def PWM_PERIOD_PERIOD : Fld := { addr := 0x01090004, lsb := 0, width := 19, acc := .rw, rst := .const 16000, s1 := 0x40, n1 := 8 }
def PWM_DUTY_DUTY : Fld := { addr := 0x01090008, lsb := 0, width := 23, acc := .rw, rst := .const 0, s1 := 0x40, n1 := 8 }
def PWM_DT_DT : Fld := { addr := 0x0109000C, lsb := 0, width := 8, acc := .rw, rst := .const 40, s1 := 0x40, n1 := 8 }
def PWM_SYNC_PHASE : Fld := { addr := 0x01090010, lsb := 0, width := 19, acc := .rw, rst := .const 0, s1 := 0x40, n1 := 8 }
def PWM_STATUS_RUNNING : Fld := { addr := 0x01090018, lsb := 0, width := 1, acc := .ro, rst := .const 0, s1 := 0x40, n1 := 8 }
def PWM_STATUS_LATE_WRITE : Fld := { addr := 0x01090018, lsb := 1, width := 1, acc := .w1c, rst := .const 0, s1 := 0x40, n1 := 8 }
def PWM_STATUS_TRIPPED : Fld := { addr := 0x01090018, lsb := 2, width := 1, acc := .ro, rst := .const 0, s1 := 0x40, n1 := 8 }
def PWM_STATUS_SAFE : Fld := { addr := 0x01090018, lsb := 3, width := 1, acc := .ro, rst := .const 0, s1 := 0x40, n1 := 8 }
def PWM_STATUS_DITHER : Fld := { addr := 0x01090018, lsb := 4, width := 4, acc := .ro, rst := .const 0, s1 := 0x40, n1 := 8 }
def PWM_STATUS_ACT_DUTY : Fld := { addr := 0x01090018, lsb := 32, width := 32, acc := .ro, rst := .const 0, s1 := 0x40, n1 := 8 }
def PWM_TRIP_MAP_MAP : Fld := { addr := 0x01090400, lsb := 0, width := 8, acc := .rw, rst := .const 0, bs := 8, bn := 4 }
def PWM_TRIP_CTRL_POL : Fld := { addr := 0x01090404, lsb := 0, width := 4, acc := .rw, rst := .const 0 }
def PWM_TRIP_CTRL_EN : Fld := { addr := 0x01090404, lsb := 4, width := 4, acc := .rw, rst := .const 15 }
def PWM_TRIP_CTRL_CLR : Fld := { addr := 0x01090404, lsb := 8, width := 4, acc := .wo, rst := .const 0 }
def PWM_TRIP_STATUS_LATCHED : Fld := { addr := 0x01090408, lsb := 0, width := 4, acc := .ro, rst := .const 0 }
def PWM_TRIP_STATUS_PIN : Fld := { addr := 0x01090408, lsb := 4, width := 4, acc := .ro, rst := .const 0 }
def PWM_TRIP_STATUS_CLR_REF : Fld := { addr := 0x01090408, lsb := 8, width := 4, acc := .rc, rst := .const 0 }
end F

namespace D
def PWM_CTRL : RegDesc := { base := 0x01090000, words := 1, s1 := 0x40, n1 := 8, flds := [F.PWM_CTRL_EN, F.PWM_CTRL_SYNC_EN, F.PWM_CTRL_LOCK, F.PWM_CTRL_DITHER_EN] }
def PWM_PERIOD : RegDesc := { base := 0x01090004, words := 1, s1 := 0x40, n1 := 8, flds := [F.PWM_PERIOD_PERIOD] }
def PWM_DUTY : RegDesc := { base := 0x01090008, words := 1, s1 := 0x40, n1 := 8, flds := [F.PWM_DUTY_DUTY] }
def PWM_DT : RegDesc := { base := 0x0109000C, words := 1, s1 := 0x40, n1 := 8, flds := [F.PWM_DT_DT] }
def PWM_SYNC : RegDesc := { base := 0x01090010, words := 1, s1 := 0x40, n1 := 8, flds := [F.PWM_SYNC_PHASE] }
def PWM_STATUS : RegDesc := { base := 0x01090018, words := 2, s1 := 0x40, n1 := 8, flds := [F.PWM_STATUS_RUNNING, F.PWM_STATUS_LATE_WRITE, F.PWM_STATUS_TRIPPED, F.PWM_STATUS_SAFE, F.PWM_STATUS_DITHER, F.PWM_STATUS_ACT_DUTY] }
def PWM_TRIP_MAP : RegDesc := { base := 0x01090400, words := 1, flds := [F.PWM_TRIP_MAP_MAP] }
def PWM_TRIP_CTRL : RegDesc := { base := 0x01090404, words := 1, flds := [F.PWM_TRIP_CTRL_POL, F.PWM_TRIP_CTRL_EN, F.PWM_TRIP_CTRL_CLR] }
def PWM_TRIP_STATUS : RegDesc := { base := 0x01090408, words := 1, flds := [F.PWM_TRIP_STATUS_LATCHED, F.PWM_TRIP_STATUS_PIN, F.PWM_TRIP_STATUS_CLR_REF] }
end D

/-- The registers of block PWM. -/
def blkPwm : List RegDesc :=
  [D.PWM_CTRL, D.PWM_PERIOD, D.PWM_DUTY, D.PWM_DT, D.PWM_SYNC, D.PWM_STATUS, D.PWM_TRIP_MAP, D.PWM_TRIP_CTRL, D.PWM_TRIP_STATUS]

/-! ## Block TIME, base 0x010A_0000 -/

namespace F
def TIME_CTRL_PPS_OUT_EN : Fld := { addr := 0x010A0000, lsb := 0, width := 1, acc := .rw, rst := .const 0 }
def TIME_CTRL_PPS_OUT_TB : Fld := { addr := 0x010A0000, lsb := 1, width := 2, acc := .rw, rst := .const 0 }
def TIME_CTRL_PPS_IN_EN : Fld := { addr := 0x010A0000, lsb := 3, width := 1, acc := .rw, rst := .const 0 }
def TIME_CTRL_PPS_IN_TB : Fld := { addr := 0x010A0000, lsb := 4, width := 2, acc := .rw, rst := .const 0 }
def TIME_CTRL_LSO_MODE : Fld := { addr := 0x010A0000, lsb := 6, width := 2, acc := .rw, rst := .const 0 }
def TIME_CTRL_LSO_K : Fld := { addr := 0x010A0000, lsb := 8, width := 4, acc := .rw, rst := .const 10 }
def TIME_CTRL_LSI_EN : Fld := { addr := 0x010A0000, lsb := 12, width := 1, acc := .rw, rst := .const 0 }
def TIME_CTRL_LOCK_MS : Fld := { addr := 0x010A0000, lsb := 13, width := 8, acc := .rw, rst := .const 100 }
def TIME_NOW_NOW : Fld := { addr := 0x010A0100, lsb := 0, width := 64, acc := .ro, rst := .const 0, s1 := 0x40, n1 := 4 }
def TIME_INC_INC : Fld := { addr := 0x010A0108, lsb := 0, width := 40, acc := .rw, rst := .const 8589934592, s1 := 0x40, n1 := 4 }
def TIME_ADJ_ADJ : Fld := { addr := 0x010A0110, lsb := 0, width := 64, acc := .wo, rst := .const 0, s1 := 0x40, n1 := 4 }
def TIME_STATUS_LOCKED : Fld := { addr := 0x010A0118, lsb := 0, width := 1, acc := .ro, rst := .const 0, s1 := 0x40, n1 := 4 }
def TIME_STATUS_SLEWING : Fld := { addr := 0x010A0118, lsb := 1, width := 1, acc := .ro, rst := .const 0, s1 := 0x40, n1 := 4 }
def TIME_STATUS_INC_REJ : Fld := { addr := 0x010A0118, lsb := 2, width := 1, acc := .w1c, rst := .const 0, s1 := 0x40, n1 := 4 }
def TIME_STATUS_WRAPS : Fld := { addr := 0x010A0118, lsb := 32, width := 32, acc := .ro, rst := .const 0, s1 := 0x40, n1 := 4 }
def TIME_LOCK_ASSERT : Fld := { addr := 0x010A0120, lsb := 0, width := 1, acc := .wo, rst := .const 0, s1 := 0x40, n1 := 4 }
def TIME_EPOCH_S_EPOCH_S : Fld := { addr := 0x010A0128, lsb := 0, width := 48, acc := .rw, rst := .const 0, s1 := 0x40, n1 := 4 }
def TIME_SLEW_REM_REM : Fld := { addr := 0x010A0130, lsb := 0, width := 32, acc := .ro, rst := .const 0, s1 := 0x40, n1 := 4 }
def TIME_CMP_TARGET_TARGET : Fld := { addr := 0x010A0400, lsb := 0, width := 64, acc := .rw, rst := .const 0, s1 := 0x20, n1 := 16 }
def TIME_CMP_PERIOD_PERIOD : Fld := { addr := 0x010A0408, lsb := 0, width := 64, acc := .rw, rst := .const 0, s1 := 0x20, n1 := 16 }
def TIME_CMP_CTRL_EN : Fld := { addr := 0x010A0410, lsb := 0, width := 1, acc := .rw, rst := .const 0, s1 := 0x20, n1 := 16 }
def TIME_CMP_CTRL_TB : Fld := { addr := 0x010A0410, lsb := 1, width := 2, acc := .rw, rst := .const 0, s1 := 0x20, n1 := 16 }
def TIME_CMP_CTRL_FIRED : Fld := { addr := 0x010A0410, lsb := 3, width := 1, acc := .w1c, rst := .const 0, s1 := 0x20, n1 := 16 }
def TIME_CMP_CTRL_ARMED : Fld := { addr := 0x010A0410, lsb := 4, width := 1, acc := .ro, rst := .const 0, s1 := 0x20, n1 := 16 }
def TIME_CMP_CTRL_SKIPPED : Fld := { addr := 0x010A0410, lsb := 16, width := 16, acc := .rc, rst := .const 0, s1 := 0x20, n1 := 16 }
def TIME_PORT_CFG_TB : Fld := { addr := 0x010A0800, lsb := 0, width := 2, acc := .rw, rst := .const 1, s1 := 0x10, n1 := 16 }
def TIME_PORT_ING_ING_LAT : Fld := { addr := 0x010A0804, lsb := 0, width := 32, acc := .rw, rst := .const 0, s1 := 0x10, n1 := 16 }
def TIME_PORT_EGR_EGR_LAT : Fld := { addr := 0x010A0808, lsb := 0, width := 32, acc := .rw, rst := .const 0, s1 := 0x10, n1 := 16 }
def TIME_PPS_IN_TS_TS : Fld := { addr := 0x010A0900, lsb := 0, width := 64, acc := .ro, rst := .const 0 }
def TIME_LSI_TS_TS : Fld := { addr := 0x010A0908, lsb := 0, width := 64, acc := .ro, rst := .const 0 }
def TIME_LSI_PHASE_PHASE : Fld := { addr := 0x010A0910, lsb := 0, width := 64, acc := .ro, rst := .const 0 }
def TIME_CAP_STATUS_PPS_NEW : Fld := { addr := 0x010A0918, lsb := 0, width := 1, acc := .rc, rst := .const 0 }
def TIME_CAP_STATUS_LSI_NEW : Fld := { addr := 0x010A0918, lsb := 1, width := 1, acc := .rc, rst := .const 0 }
def TIME_CAP_STATUS_OVR : Fld := { addr := 0x010A0918, lsb := 16, width := 8, acc := .rc, rst := .const 0 }
end F

namespace D
def TIME_CTRL : RegDesc := { base := 0x010A0000, words := 1, flds := [F.TIME_CTRL_PPS_OUT_EN, F.TIME_CTRL_PPS_OUT_TB, F.TIME_CTRL_PPS_IN_EN, F.TIME_CTRL_PPS_IN_TB, F.TIME_CTRL_LSO_MODE, F.TIME_CTRL_LSO_K, F.TIME_CTRL_LSI_EN, F.TIME_CTRL_LOCK_MS] }
def TIME_NOW : RegDesc := { base := 0x010A0100, words := 2, s1 := 0x40, n1 := 4, flds := [F.TIME_NOW_NOW] }
def TIME_INC : RegDesc := { base := 0x010A0108, words := 2, s1 := 0x40, n1 := 4, flds := [F.TIME_INC_INC] }
def TIME_ADJ : RegDesc := { base := 0x010A0110, words := 2, s1 := 0x40, n1 := 4, flds := [F.TIME_ADJ_ADJ] }
def TIME_STATUS : RegDesc := { base := 0x010A0118, words := 2, s1 := 0x40, n1 := 4, flds := [F.TIME_STATUS_LOCKED, F.TIME_STATUS_SLEWING, F.TIME_STATUS_INC_REJ, F.TIME_STATUS_WRAPS] }
def TIME_LOCK : RegDesc := { base := 0x010A0120, words := 1, s1 := 0x40, n1 := 4, flds := [F.TIME_LOCK_ASSERT] }
def TIME_EPOCH_S : RegDesc := { base := 0x010A0128, words := 2, s1 := 0x40, n1 := 4, flds := [F.TIME_EPOCH_S_EPOCH_S] }
def TIME_SLEW_REM : RegDesc := { base := 0x010A0130, words := 1, s1 := 0x40, n1 := 4, flds := [F.TIME_SLEW_REM_REM] }
def TIME_CMP_TARGET : RegDesc := { base := 0x010A0400, words := 2, s1 := 0x20, n1 := 16, flds := [F.TIME_CMP_TARGET_TARGET] }
def TIME_CMP_PERIOD : RegDesc := { base := 0x010A0408, words := 2, s1 := 0x20, n1 := 16, flds := [F.TIME_CMP_PERIOD_PERIOD] }
def TIME_CMP_CTRL : RegDesc := { base := 0x010A0410, words := 1, s1 := 0x20, n1 := 16, flds := [F.TIME_CMP_CTRL_EN, F.TIME_CMP_CTRL_TB, F.TIME_CMP_CTRL_FIRED, F.TIME_CMP_CTRL_ARMED, F.TIME_CMP_CTRL_SKIPPED] }
def TIME_PORT_CFG : RegDesc := { base := 0x010A0800, words := 1, s1 := 0x10, n1 := 16, flds := [F.TIME_PORT_CFG_TB] }
def TIME_PORT_ING : RegDesc := { base := 0x010A0804, words := 1, s1 := 0x10, n1 := 16, flds := [F.TIME_PORT_ING_ING_LAT] }
def TIME_PORT_EGR : RegDesc := { base := 0x010A0808, words := 1, s1 := 0x10, n1 := 16, flds := [F.TIME_PORT_EGR_EGR_LAT] }
def TIME_PPS_IN_TS : RegDesc := { base := 0x010A0900, words := 2, flds := [F.TIME_PPS_IN_TS_TS] }
def TIME_LSI_TS : RegDesc := { base := 0x010A0908, words := 2, flds := [F.TIME_LSI_TS_TS] }
def TIME_LSI_PHASE : RegDesc := { base := 0x010A0910, words := 2, flds := [F.TIME_LSI_PHASE_PHASE] }
def TIME_CAP_STATUS : RegDesc := { base := 0x010A0918, words := 1, flds := [F.TIME_CAP_STATUS_PPS_NEW, F.TIME_CAP_STATUS_LSI_NEW, F.TIME_CAP_STATUS_OVR] }
end D

/-- The registers of block TIME. -/
def blkTime : List RegDesc :=
  [D.TIME_CTRL, D.TIME_NOW, D.TIME_INC, D.TIME_ADJ, D.TIME_STATUS, D.TIME_LOCK, D.TIME_EPOCH_S, D.TIME_SLEW_REM, D.TIME_CMP_TARGET, D.TIME_CMP_PERIOD, D.TIME_CMP_CTRL, D.TIME_PORT_CFG] ++
  [D.TIME_PORT_ING, D.TIME_PORT_EGR, D.TIME_PPS_IN_TS, D.TIME_LSI_TS, D.TIME_LSI_PHASE, D.TIME_CAP_STATUS]

/-! ## Block SEQ, base 0x010B_0000 -/

namespace F
def SEQ_CTRL_SQ_EN : Fld := { addr := 0x010B0000, lsb := 0, width := 8, acc := .rw, rst := .const 0 }
def SEQ_CTRL_SQ_STOP : Fld := { addr := 0x010B0000, lsb := 8, width := 8, acc := .wo, rst := .const 0 }
def SEQ_CTRL_TRAP_CLR : Fld := { addr := 0x010B0000, lsb := 16, width := 8, acc := .wo, rst := .const 0 }
def SEQ_CTRL_LDG_EN : Fld := { addr := 0x010B0000, lsb := 24, width := 1, acc := .rw, rst := .const 1 }
def SEQ_SEAL_LEAD_FRAMES : Fld := { addr := 0x010B0008, lsb := 0, width := 8, acc := .rw, rst := .const 25 }
def SEQ_EPOCH_STATUS_STABLE : Fld := { addr := 0x010B0010, lsb := 0, width := 32, acc := .ro, rst := .const 0 }
def SEQ_EPOCH_STATUS_LANDED : Fld := { addr := 0x010B0010, lsb := 32, width := 32, acc := .ro, rst := .const 0 }
def SEQ_LDG_STATUS_USED : Fld := { addr := 0x010B0018, lsb := 0, width := 12, acc := .ro, rst := .const 0 }
def SEQ_LDG_STATUS_PEAK : Fld := { addr := 0x010B0018, lsb := 16, width := 12, acc := .rc, rst := .const 0 }
def SEQ_TRUTH_STATUS_A_GOOD : Fld := { addr := 0x010B0020, lsb := 0, width := 1, acc := .ro, rst := .const 1 }
def SEQ_TRUTH_STATUS_B_GOOD : Fld := { addr := 0x010B0020, lsb := 1, width := 1, acc := .ro, rst := .const 1 }
def SEQ_TRUTH_STATUS_READ_FROM : Fld := { addr := 0x010B0020, lsb := 2, width := 1, acc := .ro, rst := .const 0 }
def SEQ_TRUTH_STATUS_LOST : Fld := { addr := 0x010B0020, lsb := 3, width := 1, acc := .ro, rst := .const 0 }
def SEQ_TRUTH_STATUS_GEN : Fld := { addr := 0x010B0020, lsb := 32, width := 32, acc := .ro, rst := .const 0 }
def SEQ_DOORBELL_VALUE : Fld := { addr := 0x010B0028, lsb := 0, width := 32, acc := .wo, rst := .const 0 }
def SEQ_SQ_STATUS_STATE : Fld := { addr := 0x010B0100, lsb := 0, width := 3, acc := .ro, rst := .const 0, s1 := 0x10, n1 := 8 }
def SEQ_SQ_STATUS_HOOK : Fld := { addr := 0x010B0100, lsb := 3, width := 5, acc := .ro, rst := .const 0, s1 := 0x10, n1 := 8 }
def SEQ_SQ_STATUS_TRAP_CAUSE : Fld := { addr := 0x010B0100, lsb := 8, width := 8, acc := .ro, rst := .const 0, s1 := 0x10, n1 := 8 }
def SEQ_SQ_STATUS_PC : Fld := { addr := 0x010B0100, lsb := 16, width := 16, acc := .ro, rst := .const 0, s1 := 0x10, n1 := 8 }
def SEQ_SQ_STATUS_NMI_PC : Fld := { addr := 0x010B0100, lsb := 32, width := 16, acc := .ro, rst := .const 0, s1 := 0x10, n1 := 8 }
def SEQ_HOOK_EN : Fld := { addr := 0x010B0400, lsb := 0, width := 1, acc := .rw, rst := .const 0, s1 := 0x8, n1 := 32 }
def SEQ_HOOK_TARGET : Fld := { addr := 0x010B0400, lsb := 1, width := 3, acc := .rw, rst := .const 0, s1 := 0x8, n1 := 32 }
def SEQ_HOOK_PEND : Fld := { addr := 0x010B0400, lsb := 4, width := 1, acc := .ro, rst := .const 0, s1 := 0x8, n1 := 32 }
def SEQ_HOOK_ENTRY : Fld := { addr := 0x010B0400, lsb := 16, width := 16, acc := .rw, rst := .const 0, s1 := 0x8, n1 := 32 }
def SEQ_HOOK_OVF : Fld := { addr := 0x010B0400, lsb := 32, width := 16, acc := .rc, rst := .const 0, s1 := 0x8, n1 := 32 }
def SEQ_HCMD_EPOCH : Fld := { addr := 0x010B0800, lsb := 0, width := 32, acc := .wo, rst := .const 0 }
def SEQ_HCMD_SEQNUM : Fld := { addr := 0x010B0800, lsb := 32, width := 32, acc := .wo, rst := .const 0 }
def SEQ_HCMD_INPUT : Fld := { addr := 0x010B0800, lsb := 64, width := 16, acc := .wo, rst := .const 0 }
def SEQ_HCMD_OUTPUT : Fld := { addr := 0x010B0800, lsb := 80, width := 16, acc := .wo, rst := .const 0 }
def SEQ_HCMD_OP : Fld := { addr := 0x010B0800, lsb := 96, width := 4, acc := .wo, rst := .const 0 }
def SEQ_HCMD_RESULT_HANDLE : Fld := { addr := 0x010B0810, lsb := 0, width := 32, acc := .ro, rst := .const 0 }
def SEQ_HCMD_RESULT_STATUS : Fld := { addr := 0x010B0810, lsb := 32, width := 32, acc := .ro, rst := .const 0 }
def SEQ_NET_CFG_HOPS : Fld := { addr := 0x010B0C00, lsb := 0, width := 8, acc := .rw, rst := .const 16 }
def SEQ_NET_CFG_VID : Fld := { addr := 0x010B0C00, lsb := 8, width := 12, acc := .rw, rst := .const 0 }
def SEQ_NET_ID_ID : Fld := { addr := 0x010B0C04, lsb := 0, width := 16, acc := .rw, rst := .const 0 }
def SEQ_NET_RETRY_US : Fld := { addr := 0x010B0C08, lsb := 0, width := 8, acc := .rw, rst := .const 4 }
def SEQ_NET_RETRY_COUNT : Fld := { addr := 0x010B0C08, lsb := 8, width := 4, acc := .rw, rst := .const 3 }
def SEQ_NET_TREE_PARENT : Fld := { addr := 0x010B0C40, lsb := 0, width := 16, acc := .rw, rst := .const 0, s1 := 0x8, n1 := 4 }
def SEQ_NET_TREE_CHILDREN : Fld := { addr := 0x010B0C40, lsb := 16, width := 8, acc := .rw, rst := .const 0, s1 := 0x8, n1 := 4 }
def SEQ_NET_TREE_EN : Fld := { addr := 0x010B0C40, lsb := 31, width := 1, acc := .rw, rst := .const 0, s1 := 0x8, n1 := 4 }
def SEQ_NET_TREE_GROUP : Fld := { addr := 0x010B0C40, lsb := 32, width := 16, acc := .rw, rst := .const 0, s1 := 0x8, n1 := 4 }
def SEQ_NET_TREE_ALT_GROUP : Fld := { addr := 0x010B0C40, lsb := 48, width := 16, acc := .rw, rst := .const 0, s1 := 0x8, n1 := 4 }
def SEQ_NET_OPEN_EPOCH : Fld := { addr := 0x010B0C80, lsb := 0, width := 32, acc := .wo, rst := .const 0 }
def SEQ_NET_OPEN_LAY_FRAME : Fld := { addr := 0x010B0C80, lsb := 32, width := 32, acc := .wo, rst := .const 0 }
def SEQ_NET_OPEN_WIN : Fld := { addr := 0x010B0C80, lsb := 64, width := 8, acc := .wo, rst := .const 0 }
def SEQ_NET_OPEN_TREE : Fld := { addr := 0x010B0C80, lsb := 72, width := 2, acc := .wo, rst := .const 0 }
def SEQ_NET_OPEN_S_NET : Fld := { addr := 0x010B0C80, lsb := 74, width := 3, acc := .wo, rst := .const 0 }
def SEQ_NET_OPEN_RESULT_EPOCH : Fld := { addr := 0x010B0C90, lsb := 0, width := 32, acc := .ro, rst := .const 0 }
def SEQ_NET_OPEN_RESULT_STATUS : Fld := { addr := 0x010B0C90, lsb := 32, width := 32, acc := .ro, rst := .const 0 }
def SEQ_NET_STATUS_COMMITTED : Fld := { addr := 0x010B0CA0, lsb := 0, width := 32, acc := .ro, rst := .const 0 }
def SEQ_NET_STATUS_INFLIGHT : Fld := { addr := 0x010B0CA0, lsb := 32, width := 8, acc := .ro, rst := .const 0 }
def SEQ_NET_STATUS_CORRECTING : Fld := { addr := 0x010B0CA0, lsb := 40, width := 1, acc := .ro, rst := .const 0 }
def SEQ_NET_STATUS_DIVERGED : Fld := { addr := 0x010B0CA0, lsb := 41, width := 1, acc := .ro, rst := .const 0 }
def SEQ_NET_MISSED_EPOCH : Fld := { addr := 0x010B0CA8, lsb := 0, width := 32, acc := .ro, rst := .const 0 }
def SEQ_NET_MISSED_DEVICE : Fld := { addr := 0x010B0CA8, lsb := 32, width := 16, acc := .ro, rst := .const 0 }
def SEQ_NET_MISSED_COUNT : Fld := { addr := 0x010B0CA8, lsb := 48, width := 16, acc := .rc, rst := .const 0 }
def SEQ_NET_ERR_BAD : Fld := { addr := 0x010B0CB0, lsb := 0, width := 16, acc := .rc, rst := .const 0 }
def SEQ_NET_ERR_DUP : Fld := { addr := 0x010B0CB0, lsb := 16, width := 16, acc := .rc, rst := .const 0 }
def SEQ_NET_ERR_CMD_LOST : Fld := { addr := 0x010B0CB0, lsb := 32, width := 16, acc := .rc, rst := .const 0 }
def SEQ_NET_RXQ_DEPTH : Fld := { addr := 0x010B0D00, lsb := 0, width := 7, acc := .ro, rst := .const 0, s1 := 0x8, n1 := 8 }
def SEQ_NET_RXQ_DROP : Fld := { addr := 0x010B0D00, lsb := 16, width := 16, acc := .rc, rst := .const 0, s1 := 0x8, n1 := 8 }
def SEQ_ENTRY_STATUS : Fld := { addr := 0x010B2000, lsb := 0, width := 32, acc := .ro, rst := .const 0, s1 := 0x8, n1 := 2048 }
def SEQ_ENTRY_TAG : Fld := { addr := 0x010B2000, lsb := 32, width := 16, acc := .ro, rst := .const 1, s1 := 0x8, n1 := 2048 }
def SEQ_CONN_OUTPUT : Fld := { addr := 0x010B6000, lsb := 0, width := 10, acc := .ro, rst := .const 0, s1 := 0x8, n1 := 1024 }
def SEQ_CONN_CONNECTED : Fld := { addr := 0x010B6000, lsb := 15, width := 1, acc := .ro, rst := .const 0, s1 := 0x8, n1 := 1024 }
def SEQ_CONN_PINNED : Fld := { addr := 0x010B6000, lsb := 16, width := 1, acc := .ro, rst := .const 0, s1 := 0x8, n1 := 1024 }
def SEQ_CONN_EPOCH : Fld := { addr := 0x010B6000, lsb := 32, width := 32, acc := .ro, rst := .const 0, s1 := 0x8, n1 := 1024 }
end F

namespace D
def SEQ_CTRL : RegDesc := { base := 0x010B0000, words := 1, flds := [F.SEQ_CTRL_SQ_EN, F.SEQ_CTRL_SQ_STOP, F.SEQ_CTRL_TRAP_CLR, F.SEQ_CTRL_LDG_EN] }
def SEQ_SEAL_LEAD : RegDesc := { base := 0x010B0008, words := 1, flds := [F.SEQ_SEAL_LEAD_FRAMES] }
def SEQ_EPOCH_STATUS : RegDesc := { base := 0x010B0010, words := 2, flds := [F.SEQ_EPOCH_STATUS_STABLE, F.SEQ_EPOCH_STATUS_LANDED] }
def SEQ_LDG_STATUS : RegDesc := { base := 0x010B0018, words := 1, flds := [F.SEQ_LDG_STATUS_USED, F.SEQ_LDG_STATUS_PEAK] }
def SEQ_TRUTH_STATUS : RegDesc := { base := 0x010B0020, words := 2, flds := [F.SEQ_TRUTH_STATUS_A_GOOD, F.SEQ_TRUTH_STATUS_B_GOOD, F.SEQ_TRUTH_STATUS_READ_FROM, F.SEQ_TRUTH_STATUS_LOST, F.SEQ_TRUTH_STATUS_GEN] }
def SEQ_DOORBELL : RegDesc := { base := 0x010B0028, words := 1, flds := [F.SEQ_DOORBELL_VALUE] }
def SEQ_SQ_STATUS : RegDesc := { base := 0x010B0100, words := 2, s1 := 0x10, n1 := 8, flds := [F.SEQ_SQ_STATUS_STATE, F.SEQ_SQ_STATUS_HOOK, F.SEQ_SQ_STATUS_TRAP_CAUSE, F.SEQ_SQ_STATUS_PC, F.SEQ_SQ_STATUS_NMI_PC] }
def SEQ_HOOK : RegDesc := { base := 0x010B0400, words := 2, s1 := 0x8, n1 := 32, flds := [F.SEQ_HOOK_EN, F.SEQ_HOOK_TARGET, F.SEQ_HOOK_PEND, F.SEQ_HOOK_ENTRY, F.SEQ_HOOK_OVF] }
def SEQ_HCMD : RegDesc := { base := 0x010B0800, words := 4, flds := [F.SEQ_HCMD_EPOCH, F.SEQ_HCMD_SEQNUM, F.SEQ_HCMD_INPUT, F.SEQ_HCMD_OUTPUT, F.SEQ_HCMD_OP] }
def SEQ_HCMD_RESULT : RegDesc := { base := 0x010B0810, words := 2, flds := [F.SEQ_HCMD_RESULT_HANDLE, F.SEQ_HCMD_RESULT_STATUS] }
def SEQ_NET_CFG : RegDesc := { base := 0x010B0C00, words := 1, flds := [F.SEQ_NET_CFG_HOPS, F.SEQ_NET_CFG_VID] }
def SEQ_NET_ID : RegDesc := { base := 0x010B0C04, words := 1, flds := [F.SEQ_NET_ID_ID] }
def SEQ_NET_RETRY : RegDesc := { base := 0x010B0C08, words := 1, flds := [F.SEQ_NET_RETRY_US, F.SEQ_NET_RETRY_COUNT] }
def SEQ_NET_TREE : RegDesc := { base := 0x010B0C40, words := 2, s1 := 0x8, n1 := 4, flds := [F.SEQ_NET_TREE_PARENT, F.SEQ_NET_TREE_CHILDREN, F.SEQ_NET_TREE_EN, F.SEQ_NET_TREE_GROUP, F.SEQ_NET_TREE_ALT_GROUP] }
def SEQ_NET_OPEN : RegDesc := { base := 0x010B0C80, words := 4, flds := [F.SEQ_NET_OPEN_EPOCH, F.SEQ_NET_OPEN_LAY_FRAME, F.SEQ_NET_OPEN_WIN, F.SEQ_NET_OPEN_TREE, F.SEQ_NET_OPEN_S_NET] }
def SEQ_NET_OPEN_RESULT : RegDesc := { base := 0x010B0C90, words := 2, flds := [F.SEQ_NET_OPEN_RESULT_EPOCH, F.SEQ_NET_OPEN_RESULT_STATUS] }
def SEQ_NET_STATUS : RegDesc := { base := 0x010B0CA0, words := 2, flds := [F.SEQ_NET_STATUS_COMMITTED, F.SEQ_NET_STATUS_INFLIGHT, F.SEQ_NET_STATUS_CORRECTING, F.SEQ_NET_STATUS_DIVERGED] }
def SEQ_NET_MISSED : RegDesc := { base := 0x010B0CA8, words := 2, flds := [F.SEQ_NET_MISSED_EPOCH, F.SEQ_NET_MISSED_DEVICE, F.SEQ_NET_MISSED_COUNT] }
def SEQ_NET_ERR : RegDesc := { base := 0x010B0CB0, words := 2, flds := [F.SEQ_NET_ERR_BAD, F.SEQ_NET_ERR_DUP, F.SEQ_NET_ERR_CMD_LOST] }
def SEQ_NET_RXQ : RegDesc := { base := 0x010B0D00, words := 2, s1 := 0x8, n1 := 8, flds := [F.SEQ_NET_RXQ_DEPTH, F.SEQ_NET_RXQ_DROP] }
def SEQ_ENTRY : RegDesc := { base := 0x010B2000, words := 2, s1 := 0x8, n1 := 2048, flds := [F.SEQ_ENTRY_STATUS, F.SEQ_ENTRY_TAG] }
def SEQ_CONN : RegDesc := { base := 0x010B6000, words := 2, s1 := 0x8, n1 := 1024, flds := [F.SEQ_CONN_OUTPUT, F.SEQ_CONN_CONNECTED, F.SEQ_CONN_PINNED, F.SEQ_CONN_EPOCH] }
end D

/-- The registers of block SEQ. -/
def blkSeq : List RegDesc :=
  [D.SEQ_CTRL, D.SEQ_SEAL_LEAD, D.SEQ_EPOCH_STATUS, D.SEQ_LDG_STATUS, D.SEQ_TRUTH_STATUS, D.SEQ_DOORBELL, D.SEQ_SQ_STATUS, D.SEQ_HOOK, D.SEQ_HCMD, D.SEQ_HCMD_RESULT, D.SEQ_NET_CFG, D.SEQ_NET_ID] ++
  [D.SEQ_NET_RETRY, D.SEQ_NET_TREE, D.SEQ_NET_OPEN, D.SEQ_NET_OPEN_RESULT, D.SEQ_NET_STATUS, D.SEQ_NET_MISSED, D.SEQ_NET_ERR, D.SEQ_NET_RXQ, D.SEQ_ENTRY, D.SEQ_CONN]

/-! ## Block SOLVE, base 0x010C_0000 -/

namespace F
def SOLVE_CTRL_POLICY : Fld := { addr := 0x010C0000, lsb := 0, width := 2, acc := .rw, rst := .const 0 }
def SOLVE_CTRL_FOLD : Fld := { addr := 0x010C0000, lsb := 8, width := 1, acc := .wo, rst := .const 0 }
def SOLVE_STATUS_BUSY : Fld := { addr := 0x010C0008, lsb := 0, width := 1, acc := .ro, rst := .const 0 }
def SOLVE_STATUS_FULLCLK : Fld := { addr := 0x010C0008, lsb := 1, width := 1, acc := .ro, rst := .const 0 }
def SOLVE_STATUS_THROTTLE : Fld := { addr := 0x010C0008, lsb := 2, width := 2, acc := .ro, rst := .const 0 }
def SOLVE_STATUS_SLOT : Fld := { addr := 0x010C0008, lsb := 4, width := 4, acc := .ro, rst := .const 0 }
def SOLVE_STATUS_QUEUE : Fld := { addr := 0x010C0008, lsb := 8, width := 8, acc := .ro, rst := .const 0 }
def SOLVE_STATUS_EPOCH : Fld := { addr := 0x010C0008, lsb := 32, width := 32, acc := .ro, rst := .const 0 }
def SOLVE_SLOTS_STATE : Fld := { addr := 0x010C0010, lsb := 0, width := 4, acc := .ro, rst := .const 0, bs := 4, bn := 16 }
def SOLVE_TIME_LAST : Fld := { addr := 0x010C0018, lsb := 0, width := 16, acc := .ro, rst := .const 0 }
def SOLVE_TIME_MAX : Fld := { addr := 0x010C0018, lsb := 16, width := 16, acc := .rc, rst := .const 0 }
def SOLVE_HEALTH_DMAP_GEN : Fld := { addr := 0x010C0020, lsb := 0, width := 32, acc := .ro, rst := .const 0 }
def SOLVE_HEALTH_FOLD_GEN : Fld := { addr := 0x010C0020, lsb := 32, width := 32, acc := .ro, rst := .const 0 }
def SOLVE_DEGRADED_EPOCH : Fld := { addr := 0x010C0028, lsb := 0, width := 32, acc := .ro, rst := .const 0 }
def SOLVE_DEGRADED_COUNT : Fld := { addr := 0x010C0028, lsb := 32, width := 16, acc := .ro, rst := .const 0 }
def SOLVE_SLOT_EPOCH_EPOCH : Fld := { addr := 0x010C0040, lsb := 0, width := 32, acc := .ro, rst := .const 0, s1 := 0x4, n1 := 16 }
def SOLVE_DMAP_CMD_ENTRY : Fld := { addr := 0x010C0100, lsb := 0, width := 32, acc := .wo, rst := .const 0 }
def SOLVE_DMAP_CMD_OP : Fld := { addr := 0x010C0100, lsb := 32, width := 2, acc := .wo, rst := .const 0 }
def SOLVE_DMAP_RESULT_RESULT : Fld := { addr := 0x010C0108, lsb := 0, width := 4, acc := .ro, rst := .const 0 }
def SOLVE_DMAP_COUNT_ENTRIES : Fld := { addr := 0x010C0110, lsb := 0, width := 12, acc := .ro, rst := .const 0 }
def SOLVE_DMAP_COUNT_PENDING : Fld := { addr := 0x010C0110, lsb := 16, width := 12, acc := .ro, rst := .const 0 }
def SOLVE_DMAP_COUNT_RETIRED : Fld := { addr := 0x010C0110, lsb := 32, width := 16, acc := .ro, rst := .const 0 }
def SOLVE_DMAP_ENTRY : Fld := { addr := 0x010C8000, lsb := 0, width := 64, acc := .ro, rst := .const 0, s1 := 0x8, n1 := 2048 }
end F

namespace D
def SOLVE_CTRL : RegDesc := { base := 0x010C0000, words := 1, flds := [F.SOLVE_CTRL_POLICY, F.SOLVE_CTRL_FOLD] }
def SOLVE_STATUS : RegDesc := { base := 0x010C0008, words := 2, flds := [F.SOLVE_STATUS_BUSY, F.SOLVE_STATUS_FULLCLK, F.SOLVE_STATUS_THROTTLE, F.SOLVE_STATUS_SLOT, F.SOLVE_STATUS_QUEUE, F.SOLVE_STATUS_EPOCH] }
def SOLVE_SLOTS : RegDesc := { base := 0x010C0010, words := 2, flds := [F.SOLVE_SLOTS_STATE] }
def SOLVE_TIME : RegDesc := { base := 0x010C0018, words := 1, flds := [F.SOLVE_TIME_LAST, F.SOLVE_TIME_MAX] }
def SOLVE_HEALTH : RegDesc := { base := 0x010C0020, words := 2, flds := [F.SOLVE_HEALTH_DMAP_GEN, F.SOLVE_HEALTH_FOLD_GEN] }
def SOLVE_DEGRADED : RegDesc := { base := 0x010C0028, words := 2, flds := [F.SOLVE_DEGRADED_EPOCH, F.SOLVE_DEGRADED_COUNT] }
def SOLVE_SLOT_EPOCH : RegDesc := { base := 0x010C0040, words := 1, s1 := 0x4, n1 := 16, flds := [F.SOLVE_SLOT_EPOCH_EPOCH] }
def SOLVE_DMAP_CMD : RegDesc := { base := 0x010C0100, words := 2, flds := [F.SOLVE_DMAP_CMD_ENTRY, F.SOLVE_DMAP_CMD_OP] }
def SOLVE_DMAP_RESULT : RegDesc := { base := 0x010C0108, words := 1, flds := [F.SOLVE_DMAP_RESULT_RESULT] }
def SOLVE_DMAP_COUNT : RegDesc := { base := 0x010C0110, words := 2, flds := [F.SOLVE_DMAP_COUNT_ENTRIES, F.SOLVE_DMAP_COUNT_PENDING, F.SOLVE_DMAP_COUNT_RETIRED] }
def SOLVE_DMAP : RegDesc := { base := 0x010C8000, words := 2, s1 := 0x8, n1 := 2048, flds := [F.SOLVE_DMAP_ENTRY] }
end D

/-- The registers of block SOLVE. -/
def blkSolve : List RegDesc :=
  [D.SOLVE_CTRL, D.SOLVE_STATUS, D.SOLVE_SLOTS, D.SOLVE_TIME, D.SOLVE_HEALTH, D.SOLVE_DEGRADED, D.SOLVE_SLOT_EPOCH, D.SOLVE_DMAP_CMD, D.SOLVE_DMAP_RESULT, D.SOLVE_DMAP_COUNT, D.SOLVE_DMAP]

/-! ## Block LAY, base 0x010D_0000 -/

namespace F
def LAY_CTRL_EN : Fld := { addr := 0x010D0000, lsb := 0, width := 1, acc := .rw, rst := .const 0 }
def LAY_CTRL_FLUSH : Fld := { addr := 0x010D0000, lsb := 1, width := 1, acc := .wo, rst := .const 0 }
def LAY_CTRL_VFY_BLANK : Fld := { addr := 0x010D0000, lsb := 2, width := 1, acc := .rw, rst := .const 1 }
def LAY_STATUS_PHASE : Fld := { addr := 0x010D0008, lsb := 0, width := 3, acc := .ro, rst := .const 0 }
def LAY_STATUS_IDLE : Fld := { addr := 0x010D0008, lsb := 3, width := 1, acc := .ro, rst := .const 1 }
def LAY_STATUS_STAGED : Fld := { addr := 0x010D0008, lsb := 4, width := 4, acc := .ro, rst := .const 0 }
def LAY_STATUS_LAGGING : Fld := { addr := 0x010D0008, lsb := 8, width := 8, acc := .ro, rst := .const 0 }
def LAY_STATUS_EPOCH : Fld := { addr := 0x010D0008, lsb := 32, width := 32, acc := .ro, rst := .const 0 }
def LAY_TIMING_MARGIN : Fld := { addr := 0x010D0010, lsb := 0, width := 8, acc := .rw, rst := .const 4 }
def LAY_TIMING_TIMEOUT : Fld := { addr := 0x010D0010, lsb := 8, width := 4, acc := .rw, rst := .const 8 }
def LAY_TIMING_S : Fld := { addr := 0x010D0010, lsb := 12, width := 3, acc := .ro, rst := .const 0 }
def LAY_SETTLE_LEVEL : Fld := { addr := 0x010D0018, lsb := 0, width := 8, acc := .rw, rst := .const 251 }
def LAY_SETTLE_COUNT : Fld := { addr := 0x010D0018, lsb := 8, width := 4, acc := .rw, rst := .const 2 }
def LAY_REOPEN_OUTPUT : Fld := { addr := 0x010D0020, lsb := 0, width := 10, acc := .wo, rst := .const 0 }
def LAY_FLUSHED_COUNT : Fld := { addr := 0x010D0028, lsb := 0, width := 16, acc := .rc, rst := .const 0 }
def LAY_REC_HEAD_NEWEST : Fld := { addr := 0x010D0030, lsb := 0, width := 4, acc := .ro, rst := .const 0 }
def LAY_REC_HEAD_ANY : Fld := { addr := 0x010D0030, lsb := 4, width := 1, acc := .ro, rst := .const 0 }
def LAY_REC_EPOCH : Fld := { addr := 0x010D1000, lsb := 0, width := 32, acc := .ro, rst := .const 0, s1 := 0x40, n1 := 16 }
def LAY_REC_LAY_FRAME : Fld := { addr := 0x010D1000, lsb := 32, width := 32, acc := .ro, rst := .const 0, s1 := 0x40, n1 := 16 }
def LAY_REC_OUTCOME : Fld := { addr := 0x010D1000, lsb := 64, width := 3, acc := .ro, rst := .const 0, s1 := 0x40, n1 := 16 }
def LAY_REC_NOBLANK : Fld := { addr := 0x010D1000, lsb := 67, width := 1, acc := .ro, rst := .const 0, s1 := 0x40, n1 := 16 }
def LAY_REC_VERIFY : Fld := { addr := 0x010D1000, lsb := 68, width := 1, acc := .ro, rst := .const 0, s1 := 0x40, n1 := 16 }
def LAY_REC_S : Fld := { addr := 0x010D1000, lsb := 69, width := 3, acc := .ro, rst := .const 0, s1 := 0x40, n1 := 16 }
def LAY_REC_M : Fld := { addr := 0x010D1000, lsb := 72, width := 4, acc := .ro, rst := .const 0, s1 := 0x40, n1 := 16 }
def LAY_REC_DRIVE_NS : Fld := { addr := 0x010D1000, lsb := 80, width := 16, acc := .ro, rst := .const 0, s1 := 0x40, n1 := 16 }
def LAY_REC_CHANGED : Fld := { addr := 0x010D1000, lsb := 96, width := 16, acc := .ro, rst := .const 0, s1 := 0x40, n1 := 16 }
def LAY_REC_BLANKED : Fld := { addr := 0x010D1000, lsb := 112, width := 16, acc := .ro, rst := .const 0, s1 := 0x40, n1 := 16 }
def LAY_REC_UNBLANKED_MOVES : Fld := { addr := 0x010D1000, lsb := 128, width := 16, acc := .ro, rst := .const 0, s1 := 0x40, n1 := 16 }
def LAY_REC_UNSETTLED : Fld := { addr := 0x010D1000, lsb := 144, width := 16, acc := .ro, rst := .const 0, s1 := 0x40, n1 := 16 }
def LAY_REC_SETTLE_NS : Fld := { addr := 0x010D1000, lsb := 160, width := 16, acc := .ro, rst := .const 0, s1 := 0x40, n1 := 16 }
def LAY_REC_BTM_NS : Fld := { addr := 0x010D1000, lsb := 176, width := 16, acc := .ro, rst := .const 0, s1 := 0x40, n1 := 16 }
def LAY_REC_VFY_FAIL : Fld := { addr := 0x010D1000, lsb := 192, width := 16, acc := .ro, rst := .const 0, s1 := 0x40, n1 := 16 }
def LAY_REC_DETAIL : Fld := { addr := 0x010D1000, lsb := 208, width := 16, acc := .ro, rst := .const 0, s1 := 0x40, n1 := 16 }
end F

namespace D
def LAY_CTRL : RegDesc := { base := 0x010D0000, words := 1, flds := [F.LAY_CTRL_EN, F.LAY_CTRL_FLUSH, F.LAY_CTRL_VFY_BLANK] }
def LAY_STATUS : RegDesc := { base := 0x010D0008, words := 2, flds := [F.LAY_STATUS_PHASE, F.LAY_STATUS_IDLE, F.LAY_STATUS_STAGED, F.LAY_STATUS_LAGGING, F.LAY_STATUS_EPOCH] }
def LAY_TIMING : RegDesc := { base := 0x010D0010, words := 1, flds := [F.LAY_TIMING_MARGIN, F.LAY_TIMING_TIMEOUT, F.LAY_TIMING_S] }
def LAY_SETTLE : RegDesc := { base := 0x010D0018, words := 1, flds := [F.LAY_SETTLE_LEVEL, F.LAY_SETTLE_COUNT] }
def LAY_REOPEN : RegDesc := { base := 0x010D0020, words := 1, flds := [F.LAY_REOPEN_OUTPUT] }
def LAY_FLUSHED : RegDesc := { base := 0x010D0028, words := 1, flds := [F.LAY_FLUSHED_COUNT] }
def LAY_REC_HEAD : RegDesc := { base := 0x010D0030, words := 1, flds := [F.LAY_REC_HEAD_NEWEST, F.LAY_REC_HEAD_ANY] }
def LAY_REC : RegDesc := { base := 0x010D1000, words := 16, s1 := 0x40, n1 := 16, flds := [F.LAY_REC_EPOCH, F.LAY_REC_LAY_FRAME, F.LAY_REC_OUTCOME, F.LAY_REC_NOBLANK, F.LAY_REC_VERIFY, F.LAY_REC_S, F.LAY_REC_M, F.LAY_REC_DRIVE_NS, F.LAY_REC_CHANGED, F.LAY_REC_BLANKED, F.LAY_REC_UNBLANKED_MOVES, F.LAY_REC_UNSETTLED, F.LAY_REC_SETTLE_NS, F.LAY_REC_BTM_NS, F.LAY_REC_VFY_FAIL, F.LAY_REC_DETAIL] }
end D

/-- The registers of block LAY. -/
def blkLay : List RegDesc :=
  [D.LAY_CTRL, D.LAY_STATUS, D.LAY_TIMING, D.LAY_SETTLE, D.LAY_REOPEN, D.LAY_FLUSHED, D.LAY_REC_HEAD, D.LAY_REC]

/-! ## Block LOOP, base 0x010E_0000 -/

namespace F
def LOOP_CTRL_EN : Fld := { addr := 0x010E0000, lsb := 0, width := 1, acc := .rw, rst := .const 1 }
def LOOP_CTRL_DITHER : Fld := { addr := 0x010E0000, lsb := 1, width := 1, acc := .rw, rst := .const 1 }
def LOOP_CTRL_HOLD_K : Fld := { addr := 0x010E0000, lsb := 2, width := 4, acc := .rw, rst := .const 7 }
def LOOP_CTRL_QUIET : Fld := { addr := 0x010E0000, lsb := 6, width := 8, acc := .rw, rst := .const 2 }
def LOOP_ERR_HI_E_HI : Fld := { addr := 0x010E0008, lsb := 0, width := 32, acc := .rw, rst := .const 1028443341 }
def LOOP_ERR_LO_E_LO : Fld := { addr := 0x010E000C, lsb := 0, width := 32, acc := .rw, rst := .const 1017370378 }
def LOOP_Y_LO_Y_LO : Fld := { addr := 0x010E0010, lsb := 0, width := 32, acc := .rw, rst := .const 1064514355 }
def LOOP_STRESS_V : Fld := { addr := 0x010E0014, lsb := 0, width := 32, acc := .rw, rst := .const 0 }
def LOOP_BUDGET_BETA : Fld := { addr := 0x010E0018, lsb := 0, width := 32, acc := .ro, rst := .const 0 }
def LOOP_BUDGET_SUM_V2 : Fld := { addr := 0x010E0018, lsb := 32, width := 32, acc := .ro, rst := .const 0 }
def LOOP_BUDGET_CFG_KB : Fld := { addr := 0x010E0020, lsb := 0, width := 32, acc := .rw, rst := .const 1008981770 }
def LOOP_BUDGET_CFG_HEADROOM : Fld := { addr := 0x010E0020, lsb := 32, width := 32, acc := .rw, rst := .const 1048576000 }
def LOOP_STATUS_FULL : Fld := { addr := 0x010E0028, lsb := 0, width := 16, acc := .ro, rst := .const 0 }
def LOOP_STATUS_HOLD : Fld := { addr := 0x010E0028, lsb := 16, width := 16, acc := .ro, rst := .const 0 }
def LOOP_STATUS_FAULTED : Fld := { addr := 0x010E0028, lsb := 32, width := 16, acc := .ro, rst := .const 0 }
def LOOP_STATUS_CORES : Fld := { addr := 0x010E0028, lsb := 48, width := 5, acc := .ro, rst := .const 0 }
def LOOP_LOAD_LAST : Fld := { addr := 0x010E0030, lsb := 0, width := 16, acc := .ro, rst := .const 0 }
def LOOP_LOAD_MAX : Fld := { addr := 0x010E0030, lsb := 16, width := 16, acc := .rc, rst := .const 0 }
def LOOP_LOAD_DEFERRED : Fld := { addr := 0x010E0030, lsb := 32, width := 16, acc := .rc, rst := .const 0 }
def LOOP_PERIOD_P : Fld := { addr := 0x010E0038, lsb := 0, width := 64, acc := .ro, rst := .const 0 }
def LOOP_FAULT_FIRST_LOOP : Fld := { addr := 0x010E0040, lsb := 0, width := 16, acc := .ro, rst := .const 0 }
def LOOP_FAULT_FIRST_STAGE : Fld := { addr := 0x010E0040, lsb := 16, width := 3, acc := .ro, rst := .const 0 }
def LOOP_FAULT_FIRST_VALID : Fld := { addr := 0x010E0040, lsb := 31, width := 1, acc := .w1c, rst := .const 0 }
def LOOP_CORE_ACTIVE : Fld := { addr := 0x010E0048, lsb := 0, width := 18, acc := .ro, rst := .const 0 }
def LOOP_CORE_FAILED : Fld := { addr := 0x010E0048, lsb := 32, width := 18, acc := .ro, rst := .const 0 }
def LOOP_CORE_RETIRE_CORE : Fld := { addr := 0x010E0050, lsb := 0, width := 5, acc := .wo, rst := .const 0 }
def LOOP_CAP_STOP_STOP : Fld := { addr := 0x010E0058, lsb := 0, width := 48, acc := .wo, rst := .const 0 }
def LOOP_CAP_STATUS_COUNT : Fld := { addr := 0x010E0200, lsb := 0, width := 13, acc := .ro, rst := .const 0, s1 := 0x8, n1 := 48 }
def LOOP_CAP_STATUS_DONE : Fld := { addr := 0x010E0200, lsb := 13, width := 1, acc := .ro, rst := .const 0, s1 := 0x8, n1 := 48 }
def LOOP_CAP_STATUS_ACTIVE : Fld := { addr := 0x010E0200, lsb := 14, width := 1, acc := .ro, rst := .const 0, s1 := 0x8, n1 := 48 }
def LOOP_CAP_STATUS_LOOP : Fld := { addr := 0x010E0200, lsb := 16, width := 16, acc := .ro, rst := .const 0, s1 := 0x8, n1 := 48 }
def LOOP_CAP_STATUS_START_P : Fld := { addr := 0x010E0200, lsb := 32, width := 32, acc := .ro, rst := .const 0, s1 := 0x8, n1 := 48 }
def LOOP_AUX_SRC_KIND : Fld := { addr := 0x010E4000, lsb := 0, width := 4, acc := .rw, rst := .const 0, s1 := 0x80, n1 := 64, s2 := 0x4, n2 := 3 }
def LOOP_AUX_SRC_INDEX : Fld := { addr := 0x010E4000, lsb := 8, width := 24, acc := .rw, rst := .const 0, s1 := 0x80, n1 := 64, s2 := 0x4, n2 := 3 }
def LOOP_AUX_OUT_KIND : Fld := { addr := 0x010E400C, lsb := 0, width := 4, acc := .rw, rst := .const 0, s1 := 0x80, n1 := 64 }
def LOOP_AUX_OUT_INDEX : Fld := { addr := 0x010E400C, lsb := 8, width := 24, acc := .rw, rst := .const 0, s1 := 0x80, n1 := 64 }
def LOOP_AUX_CFG_EN : Fld := { addr := 0x010E4010, lsb := 0, width := 1, acc := .rw, rst := .const 0, s1 := 0x80, n1 := 64 }
def LOOP_AUX_CFG_TRIG : Fld := { addr := 0x010E4010, lsb := 1, width := 1, acc := .rw, rst := .const 0, s1 := 0x80, n1 := 64 }
def LOOP_AUX_CFG_K : Fld := { addr := 0x010E4010, lsb := 2, width := 4, acc := .rw, rst := .const 12, s1 := 0x80, n1 := 64 }
def LOOP_AUX_STATUS_MODE : Fld := { addr := 0x010E4014, lsb := 0, width := 2, acc := .ro, rst := .const 0, s1 := 0x80, n1 := 64 }
def LOOP_AUX_STATUS_FAULTED : Fld := { addr := 0x010E4014, lsb := 2, width := 1, acc := .ro, rst := .const 0, s1 := 0x80, n1 := 64 }
def LOOP_AUX_STATUS_STAGE : Fld := { addr := 0x010E4014, lsb := 3, width := 3, acc := .ro, rst := .const 0, s1 := 0x80, n1 := 64 }
def LOOP_AUX_STATUS_WIN : Fld := { addr := 0x010E4014, lsb := 6, width := 2, acc := .ro, rst := .const 0, s1 := 0x80, n1 := 64 }
def LOOP_AUX_STATUS_CONFLICT : Fld := { addr := 0x010E4014, lsb := 8, width := 1, acc := .ro, rst := .const 0, s1 := 0x80, n1 := 64 }
def LOOP_AUX_STATUS_BAD_TARGET : Fld := { addr := 0x010E4014, lsb := 9, width := 1, acc := .ro, rst := .const 0, s1 := 0x80, n1 := 64 }
def LOOP_AUX_STATE_VALUE : Fld := { addr := 0x010E4018, lsb := 0, width := 32, acc := .ro, rst := .const 0, s1 := 0x80, n1 := 64, s2 := 0x4, n2 := 5 }
def LOOP_AUX_PAR_VALUE : Fld := { addr := 0x010E4040, lsb := 0, width := 32, acc := .rw, rst := .const 0, s1 := 0x80, n1 := 64, s2 := 0x4, n2 := 16 }
end F

namespace D
def LOOP_CTRL : RegDesc := { base := 0x010E0000, words := 1, flds := [F.LOOP_CTRL_EN, F.LOOP_CTRL_DITHER, F.LOOP_CTRL_HOLD_K, F.LOOP_CTRL_QUIET] }
def LOOP_ERR_HI : RegDesc := { base := 0x010E0008, words := 1, flds := [F.LOOP_ERR_HI_E_HI] }
def LOOP_ERR_LO : RegDesc := { base := 0x010E000C, words := 1, flds := [F.LOOP_ERR_LO_E_LO] }
def LOOP_Y_LO : RegDesc := { base := 0x010E0010, words := 1, flds := [F.LOOP_Y_LO_Y_LO] }
def LOOP_STRESS : RegDesc := { base := 0x010E0014, words := 1, flds := [F.LOOP_STRESS_V] }
def LOOP_BUDGET : RegDesc := { base := 0x010E0018, words := 2, flds := [F.LOOP_BUDGET_BETA, F.LOOP_BUDGET_SUM_V2] }
def LOOP_BUDGET_CFG : RegDesc := { base := 0x010E0020, words := 2, flds := [F.LOOP_BUDGET_CFG_KB, F.LOOP_BUDGET_CFG_HEADROOM] }
def LOOP_STATUS : RegDesc := { base := 0x010E0028, words := 2, flds := [F.LOOP_STATUS_FULL, F.LOOP_STATUS_HOLD, F.LOOP_STATUS_FAULTED, F.LOOP_STATUS_CORES] }
def LOOP_LOAD : RegDesc := { base := 0x010E0030, words := 2, flds := [F.LOOP_LOAD_LAST, F.LOOP_LOAD_MAX, F.LOOP_LOAD_DEFERRED] }
def LOOP_PERIOD : RegDesc := { base := 0x010E0038, words := 2, flds := [F.LOOP_PERIOD_P] }
def LOOP_FAULT_FIRST : RegDesc := { base := 0x010E0040, words := 1, flds := [F.LOOP_FAULT_FIRST_LOOP, F.LOOP_FAULT_FIRST_STAGE, F.LOOP_FAULT_FIRST_VALID] }
def LOOP_CORE : RegDesc := { base := 0x010E0048, words := 2, flds := [F.LOOP_CORE_ACTIVE, F.LOOP_CORE_FAILED] }
def LOOP_CORE_RETIRE : RegDesc := { base := 0x010E0050, words := 1, flds := [F.LOOP_CORE_RETIRE_CORE] }
def LOOP_CAP_STOP : RegDesc := { base := 0x010E0058, words := 2, flds := [F.LOOP_CAP_STOP_STOP] }
def LOOP_CAP_STATUS : RegDesc := { base := 0x010E0200, words := 2, s1 := 0x8, n1 := 48, flds := [F.LOOP_CAP_STATUS_COUNT, F.LOOP_CAP_STATUS_DONE, F.LOOP_CAP_STATUS_ACTIVE, F.LOOP_CAP_STATUS_LOOP, F.LOOP_CAP_STATUS_START_P] }
def LOOP_AUX_SRC : RegDesc := { base := 0x010E4000, words := 1, s1 := 0x80, n1 := 64, s2 := 0x4, n2 := 3, flds := [F.LOOP_AUX_SRC_KIND, F.LOOP_AUX_SRC_INDEX] }
def LOOP_AUX_OUT : RegDesc := { base := 0x010E400C, words := 1, s1 := 0x80, n1 := 64, flds := [F.LOOP_AUX_OUT_KIND, F.LOOP_AUX_OUT_INDEX] }
def LOOP_AUX_CFG : RegDesc := { base := 0x010E4010, words := 1, s1 := 0x80, n1 := 64, flds := [F.LOOP_AUX_CFG_EN, F.LOOP_AUX_CFG_TRIG, F.LOOP_AUX_CFG_K] }
def LOOP_AUX_STATUS : RegDesc := { base := 0x010E4014, words := 1, s1 := 0x80, n1 := 64, flds := [F.LOOP_AUX_STATUS_MODE, F.LOOP_AUX_STATUS_FAULTED, F.LOOP_AUX_STATUS_STAGE, F.LOOP_AUX_STATUS_WIN, F.LOOP_AUX_STATUS_CONFLICT, F.LOOP_AUX_STATUS_BAD_TARGET] }
def LOOP_AUX_STATE : RegDesc := { base := 0x010E4018, words := 1, s1 := 0x80, n1 := 64, s2 := 0x4, n2 := 5, flds := [F.LOOP_AUX_STATE_VALUE] }
def LOOP_AUX_PAR : RegDesc := { base := 0x010E4040, words := 1, s1 := 0x80, n1 := 64, s2 := 0x4, n2 := 16, flds := [F.LOOP_AUX_PAR_VALUE] }
end D

/-- The registers of block LOOP. -/
def blkLoop : List RegDesc :=
  [D.LOOP_CTRL, D.LOOP_ERR_HI, D.LOOP_ERR_LO, D.LOOP_Y_LO, D.LOOP_STRESS, D.LOOP_BUDGET, D.LOOP_BUDGET_CFG, D.LOOP_STATUS, D.LOOP_LOAD, D.LOOP_PERIOD, D.LOOP_FAULT_FIRST, D.LOOP_CORE] ++
  [D.LOOP_CORE_RETIRE, D.LOOP_CAP_STOP, D.LOOP_CAP_STATUS, D.LOOP_AUX_SRC, D.LOOP_AUX_OUT, D.LOOP_AUX_CFG, D.LOOP_AUX_STATUS, D.LOOP_AUX_STATE, D.LOOP_AUX_PAR]

/-! ## Block DRIVE, base 0x010F_0000 -/

namespace F
def DRIVE_CTRL_COMPAT : Fld := { addr := 0x010F0000, lsb := 0, width := 1, acc := .ro, rst := .const 0 }
def DRIVE_RATE_DEF_RATE : Fld := { addr := 0x010F0004, lsb := 0, width := 32, acc := .rw, rst := .const 1020054733 }
def DRIVE_DEGLITCH_MAJOR : Fld := { addr := 0x010F0008, lsb := 0, width := 16, acc := .rw, rst := .const 4096 }
def DRIVE_DEGLITCH_HOLD : Fld := { addr := 0x010F0008, lsb := 16, width := 3, acc := .rw, rst := .const 1 }
def DRIVE_STROBE_FIRE : Fld := { addr := 0x010F000C, lsb := 2, width := 14, acc := .wo, rst := .const 0 }
def DRIVE_SHUTTER_OPEN_CODE : Fld := { addr := 0x010F0010, lsb := 0, width := 16, acc := .ro, rst := .const 0 }
def DRIVE_STATUS_SAT : Fld := { addr := 0x010F0018, lsb := 0, width := 16, acc := .rc, rst := .const 0 }
def DRIVE_STATUS_CLIP : Fld := { addr := 0x010F0018, lsb := 16, width := 16, acc := .rc, rst := .const 0 }
def DRIVE_STATUS_FAULTED : Fld := { addr := 0x010F0018, lsb := 32, width := 16, acc := .ro, rst := .const 0 }
def DRIVE_STATUS_SAFE : Fld := { addr := 0x010F0018, lsb := 48, width := 1, acc := .ro, rst := .const 0 }
def DRIVE_STATUS_HOLD : Fld := { addr := 0x010F0018, lsb := 49, width := 1, acc := .ro, rst := .const 0 }
def DRIVE_FAULT_FIRST_CHANNEL : Fld := { addr := 0x010F0020, lsb := 0, width := 16, acc := .ro, rst := .const 0 }
def DRIVE_FAULT_FIRST_CAUSE : Fld := { addr := 0x010F0020, lsb := 16, width := 2, acc := .ro, rst := .const 0 }
def DRIVE_FAULT_FIRST_VALID : Fld := { addr := 0x010F0020, lsb := 31, width := 1, acc := .w1c, rst := .const 0 }
def DRIVE_COMPAT_STATUS_ENTRIES : Fld := { addr := 0x010F0028, lsb := 0, width := 13, acc := .ro, rst := .const 0 }
def DRIVE_COMPAT_STATUS_ERR : Fld := { addr := 0x010F0028, lsb := 13, width := 1, acc := .ro, rst := .const 0 }
def DRIVE_POL_POL : Fld := { addr := 0x010F1000, lsb := 0, width := 32, acc := .rw, rst := .const 0, s1 := 0x4, n1 := 1408 }
def DRIVE_PUFLT_PU : Fld := { addr := 0x010F4000, lsb := 0, width := 4, acc := .ro, rst := .const 0, s1 := 0x4, n1 := 11264, bs := 8, bn := 4 }
/-- The rest code where the compatibility table gives no other (R224, R226). -/
def DRIVE_PUFLT_FLT : Fld := { addr := 0x010F4000, lsb := 4, width := 4, acc := .ro, rst := .const 8, s1 := 0x4, n1 := 11264, bs := 8, bn := 4 }
end F

namespace D
def DRIVE_CTRL : RegDesc := { base := 0x010F0000, words := 1, flds := [F.DRIVE_CTRL_COMPAT] }
def DRIVE_RATE_DEF : RegDesc := { base := 0x010F0004, words := 1, flds := [F.DRIVE_RATE_DEF_RATE] }
def DRIVE_DEGLITCH : RegDesc := { base := 0x010F0008, words := 1, flds := [F.DRIVE_DEGLITCH_MAJOR, F.DRIVE_DEGLITCH_HOLD] }
def DRIVE_STROBE : RegDesc := { base := 0x010F000C, words := 1, flds := [F.DRIVE_STROBE_FIRE] }
def DRIVE_SHUTTER_OPEN : RegDesc := { base := 0x010F0010, words := 1, flds := [F.DRIVE_SHUTTER_OPEN_CODE] }
def DRIVE_STATUS : RegDesc := { base := 0x010F0018, words := 2, flds := [F.DRIVE_STATUS_SAT, F.DRIVE_STATUS_CLIP, F.DRIVE_STATUS_FAULTED, F.DRIVE_STATUS_SAFE, F.DRIVE_STATUS_HOLD] }
def DRIVE_FAULT_FIRST : RegDesc := { base := 0x010F0020, words := 1, flds := [F.DRIVE_FAULT_FIRST_CHANNEL, F.DRIVE_FAULT_FIRST_CAUSE, F.DRIVE_FAULT_FIRST_VALID] }
def DRIVE_COMPAT_STATUS : RegDesc := { base := 0x010F0028, words := 1, flds := [F.DRIVE_COMPAT_STATUS_ENTRIES, F.DRIVE_COMPAT_STATUS_ERR] }
def DRIVE_POL : RegDesc := { base := 0x010F1000, words := 1, s1 := 0x4, n1 := 1408, flds := [F.DRIVE_POL_POL] }
def DRIVE_PUFLT : RegDesc := { base := 0x010F4000, words := 1, s1 := 0x4, n1 := 11264, flds := [F.DRIVE_PUFLT_PU, F.DRIVE_PUFLT_FLT] }
end D

/-- The registers of block DRIVE. -/
def blkDrive : List RegDesc :=
  [D.DRIVE_CTRL, D.DRIVE_RATE_DEF, D.DRIVE_DEGLITCH, D.DRIVE_STROBE, D.DRIVE_SHUTTER_OPEN, D.DRIVE_STATUS, D.DRIVE_FAULT_FIRST, D.DRIVE_COMPAT_STATUS, D.DRIVE_POL, D.DRIVE_PUFLT]

/-! ## Block SENSE, base 0x0110_0000 -/

namespace F
def SENSE_CTRL_OVR_RUN : Fld := { addr := 0x01100000, lsb := 0, width := 5, acc := .rw, rst := .const 16 }
def SENSE_CTRL_OVR_LEVEL : Fld := { addr := 0x01100000, lsb := 8, width := 8, acc := .rw, rst := .const 224 }
def SENSE_REF_MIN_V : Fld := { addr := 0x01100004, lsb := 0, width := 32, acc := .rw, rst := .const 1028443341 }
def SENSE_STATUS_STALE : Fld := { addr := 0x01100008, lsb := 0, width := 17, acc := .ro, rst := .const 0 }
def SENSE_STATUS_OVR : Fld := { addr := 0x01100008, lsb := 32, width := 16, acc := .rc, rst := .const 0 }
def SENSE_OVR_FIRST_CHANNEL : Fld := { addr := 0x01100010, lsb := 0, width := 17, acc := .ro, rst := .const 0 }
def SENSE_OVR_FIRST_PATH : Fld := { addr := 0x01100010, lsb := 17, width := 2, acc := .ro, rst := .const 0 }
def SENSE_OVR_FIRST_CAUSE : Fld := { addr := 0x01100010, lsb := 19, width := 1, acc := .ro, rst := .const 0 }
def SENSE_OVR_FIRST_VALID : Fld := { addr := 0x01100010, lsb := 31, width := 1, acc := .w1c, rst := .const 0 }
def SENSE_VFY_CFG_MATCH : Fld := { addr := 0x01100018, lsb := 0, width := 8, acc := .rw, rst := .const 128 }
def SENSE_VFY_CFG_OTHER : Fld := { addr := 0x01100018, lsb := 8, width := 8, acc := .rw, rst := .const 26 }
def SENSE_VFY_CFG_GUARD : Fld := { addr := 0x01100018, lsb := 16, width := 4, acc := .rw, rst := .const 4 }
def SENSE_VFY_DARK_V : Fld := { addr := 0x0110001C, lsb := 0, width := 32, acc := .rw, rst := .const 1008981770 }
def SENSE_VFY_REQ_GO : Fld := { addr := 0x01100020, lsb := 0, width := 1, acc := .wo, rst := .const 0 }
def SENSE_VFY_STATUS_RUNNING : Fld := { addr := 0x01100028, lsb := 0, width := 1, acc := .ro, rst := .const 0 }
def SENSE_VFY_STATUS_QUEUED : Fld := { addr := 0x01100028, lsb := 1, width := 1, acc := .ro, rst := .const 0 }
def SENSE_VFY_STATUS_ENDED_EARLY : Fld := { addr := 0x01100028, lsb := 2, width := 1, acc := .ro, rst := .const 0 }
def SENSE_VFY_STATUS_REQ_REF : Fld := { addr := 0x01100028, lsb := 3, width := 1, acc := .rc, rst := .const 0 }
def SENSE_VFY_STATUS_EPOCH : Fld := { addr := 0x01100028, lsb := 32, width := 32, acc := .ro, rst := .const 0 }
def SENSE_VFY_COUNT_MATCH : Fld := { addr := 0x01100030, lsb := 0, width := 16, acc := .ro, rst := .const 0 }
def SENSE_VFY_COUNT_FAIL : Fld := { addr := 0x01100030, lsb := 16, width := 16, acc := .ro, rst := .const 0 }
def SENSE_VFY_COUNT_OTHER : Fld := { addr := 0x01100030, lsb := 32, width := 16, acc := .ro, rst := .const 0 }
def SENSE_VFY_COUNT_PILOT_BAD : Fld := { addr := 0x01100030, lsb := 48, width := 16, acc := .ro, rst := .const 0 }
def SENSE_PILOT_CHIP : Fld := { addr := 0x01100038, lsb := 0, width := 10, acc := .ro, rst := .const 0 }
def SENSE_PILOT_VALID : Fld := { addr := 0x01100038, lsb := 10, width := 1, acc := .ro, rst := .const 0 }
end F

namespace D
def SENSE_CTRL : RegDesc := { base := 0x01100000, words := 1, flds := [F.SENSE_CTRL_OVR_RUN, F.SENSE_CTRL_OVR_LEVEL] }
def SENSE_REF_MIN : RegDesc := { base := 0x01100004, words := 1, flds := [F.SENSE_REF_MIN_V] }
def SENSE_STATUS : RegDesc := { base := 0x01100008, words := 2, flds := [F.SENSE_STATUS_STALE, F.SENSE_STATUS_OVR] }
def SENSE_OVR_FIRST : RegDesc := { base := 0x01100010, words := 1, flds := [F.SENSE_OVR_FIRST_CHANNEL, F.SENSE_OVR_FIRST_PATH, F.SENSE_OVR_FIRST_CAUSE, F.SENSE_OVR_FIRST_VALID] }
def SENSE_VFY_CFG : RegDesc := { base := 0x01100018, words := 1, flds := [F.SENSE_VFY_CFG_MATCH, F.SENSE_VFY_CFG_OTHER, F.SENSE_VFY_CFG_GUARD] }
def SENSE_VFY_DARK : RegDesc := { base := 0x0110001C, words := 1, flds := [F.SENSE_VFY_DARK_V] }
def SENSE_VFY_REQ : RegDesc := { base := 0x01100020, words := 1, flds := [F.SENSE_VFY_REQ_GO] }
def SENSE_VFY_STATUS : RegDesc := { base := 0x01100028, words := 2, flds := [F.SENSE_VFY_STATUS_RUNNING, F.SENSE_VFY_STATUS_QUEUED, F.SENSE_VFY_STATUS_ENDED_EARLY, F.SENSE_VFY_STATUS_REQ_REF, F.SENSE_VFY_STATUS_EPOCH] }
def SENSE_VFY_COUNT : RegDesc := { base := 0x01100030, words := 2, flds := [F.SENSE_VFY_COUNT_MATCH, F.SENSE_VFY_COUNT_FAIL, F.SENSE_VFY_COUNT_OTHER, F.SENSE_VFY_COUNT_PILOT_BAD] }
def SENSE_PILOT : RegDesc := { base := 0x01100038, words := 1, flds := [F.SENSE_PILOT_CHIP, F.SENSE_PILOT_VALID] }
end D

/-- The registers of block SENSE. -/
def blkSense : List RegDesc :=
  [D.SENSE_CTRL, D.SENSE_REF_MIN, D.SENSE_STATUS, D.SENSE_OVR_FIRST, D.SENSE_VFY_CFG, D.SENSE_VFY_DARK, D.SENSE_VFY_REQ, D.SENSE_VFY_STATUS, D.SENSE_VFY_COUNT, D.SENSE_PILOT]

/-! ## Block CAL, base 0x0111_0000 -/

namespace F
def CAL_CTRL_EN : Fld := { addr := 0x01110000, lsb := 0, width := 1, acc := .rw, rst := .const 0 }
def CAL_CTRL_ABORT : Fld := { addr := 0x01110000, lsb := 1, width := 1, acc := .wo, rst := .const 0 }
def CAL_CTRL_PAR : Fld := { addr := 0x01110000, lsb := 2, width := 5, acc := .rw, rst := .const 4 }
def CAL_CTRL_RETRIES : Fld := { addr := 0x01110000, lsb := 7, width := 3, acc := .rw, rst := .const 3 }
def CAL_CTRL_VFY_EXCL : Fld := { addr := 0x01110000, lsb := 10, width := 1, acc := .rw, rst := .const 1 }
def CAL_CTRL_PASSIVE_EN : Fld := { addr := 0x01110000, lsb := 11, width := 1, acc := .rw, rst := .const 1 }
def CAL_AGREE_PHASE_TOL : Fld := { addr := 0x01110008, lsb := 0, width := 32, acc := .rw, rst := .const 1017370378 }
def CAL_AGREE_GAIN_TOL : Fld := { addr := 0x01110008, lsb := 32, width := 32, acc := .rw, rst := .const 1017370378 }
def CAL_OFS_TOL_V : Fld := { addr := 0x01110010, lsb := 0, width := 32, acc := .rw, rst := .const 998445679 }
def CAL_TEMP_TOL_V : Fld := { addr := 0x01110014, lsb := 0, width := 32, acc := .rw, rst := .const 1056964608 }
def CAL_BLEND_N : Fld := { addr := 0x01110018, lsb := 0, width := 16, acc := .rw, rst := .const 256 }
def CAL_PASSIVE_WINDOW : Fld := { addr := 0x01110020, lsb := 0, width := 32, acc := .rw, rst := .const 1056964608 }
def CAL_PASSIVE_INTERVAL : Fld := { addr := 0x01110020, lsb := 32, width := 32, acc := .rw, rst := .const 3600 }
def CAL_SLOT_T_T : Fld := { addr := 0x01110040, lsb := 0, width := 32, acc := .ro, rst := .const 0, s1 := 0x4, n1 := 5 }
def CAL_REQ_OBJECT : Fld := { addr := 0x01110100, lsb := 0, width := 17, acc := .wo, rst := .const 0 }
def CAL_REQ_KIND : Fld := { addr := 0x01110100, lsb := 17, width := 1, acc := .wo, rst := .const 0 }
def CAL_REQ_RESULT_OUTCOME : Fld := { addr := 0x01110108, lsb := 0, width := 5, acc := .ro, rst := .const 0 }
def CAL_STATUS_QUEUED : Fld := { addr := 0x01110110, lsb := 0, width := 9, acc := .ro, rst := .const 0 }
def CAL_STATUS_RUNNING : Fld := { addr := 0x01110110, lsb := 9, width := 5, acc := .ro, rst := .const 0 }
def CAL_STATUS_BLENDING : Fld := { addr := 0x01110110, lsb := 14, width := 5, acc := .ro, rst := .const 0 }
def CAL_COUNT_CELL : Fld := { addr := 0x01110118, lsb := 0, width := 32, acc := .ro, rst := .const 0 }
def CAL_COUNT_SENSE : Fld := { addr := 0x01110118, lsb := 32, width := 32, acc := .ro, rst := .const 0 }
def CAL_LAST_TIME : Fld := { addr := 0x01110120, lsb := 0, width := 32, acc := .ro, rst := .const 0 }
def CAL_LAST_OBJECT : Fld := { addr := 0x01110120, lsb := 32, width := 17, acc := .ro, rst := .const 0 }
def CAL_LAST_KIND : Fld := { addr := 0x01110120, lsb := 49, width := 1, acc := .ro, rst := .const 0 }
def CAL_RES_HEAD_NEWEST : Fld := { addr := 0x01110128, lsb := 0, width := 6, acc := .ro, rst := .const 0 }
def CAL_RES_HEAD_ANY : Fld := { addr := 0x01110128, lsb := 6, width := 1, acc := .ro, rst := .const 0 }
def CAL_RES_OBJECT : Fld := { addr := 0x01111000, lsb := 0, width := 17, acc := .ro, rst := .const 0, s1 := 0x10, n1 := 64 }
def CAL_RES_KIND : Fld := { addr := 0x01111000, lsb := 17, width := 1, acc := .ro, rst := .const 0, s1 := 0x10, n1 := 64 }
def CAL_RES_OUTCOME : Fld := { addr := 0x01111000, lsb := 18, width := 5, acc := .ro, rst := .const 0, s1 := 0x10, n1 := 64 }
def CAL_RES_ATTEMPTS : Fld := { addr := 0x01111000, lsb := 23, width := 4, acc := .ro, rst := .const 0, s1 := 0x10, n1 := 64 }
def CAL_RES_SLOT : Fld := { addr := 0x01111000, lsb := 27, width := 3, acc := .ro, rst := .const 0, s1 := 0x10, n1 := 64 }
def CAL_RES_TIME : Fld := { addr := 0x01111000, lsb := 64, width := 32, acc := .ro, rst := .const 0, s1 := 0x10, n1 := 64 }
def CAL_RES_TEMP : Fld := { addr := 0x01111000, lsb := 96, width := 32, acc := .ro, rst := .const 0, s1 := 0x10, n1 := 64 }
end F

namespace D
def CAL_CTRL : RegDesc := { base := 0x01110000, words := 1, flds := [F.CAL_CTRL_EN, F.CAL_CTRL_ABORT, F.CAL_CTRL_PAR, F.CAL_CTRL_RETRIES, F.CAL_CTRL_VFY_EXCL, F.CAL_CTRL_PASSIVE_EN] }
def CAL_AGREE : RegDesc := { base := 0x01110008, words := 2, flds := [F.CAL_AGREE_PHASE_TOL, F.CAL_AGREE_GAIN_TOL] }
def CAL_OFS_TOL : RegDesc := { base := 0x01110010, words := 1, flds := [F.CAL_OFS_TOL_V] }
def CAL_TEMP_TOL : RegDesc := { base := 0x01110014, words := 1, flds := [F.CAL_TEMP_TOL_V] }
def CAL_BLEND : RegDesc := { base := 0x01110018, words := 1, flds := [F.CAL_BLEND_N] }
def CAL_PASSIVE : RegDesc := { base := 0x01110020, words := 2, flds := [F.CAL_PASSIVE_WINDOW, F.CAL_PASSIVE_INTERVAL] }
def CAL_SLOT_T : RegDesc := { base := 0x01110040, words := 1, s1 := 0x4, n1 := 5, flds := [F.CAL_SLOT_T_T] }
def CAL_REQ : RegDesc := { base := 0x01110100, words := 1, flds := [F.CAL_REQ_OBJECT, F.CAL_REQ_KIND] }
def CAL_REQ_RESULT : RegDesc := { base := 0x01110108, words := 1, flds := [F.CAL_REQ_RESULT_OUTCOME] }
def CAL_STATUS : RegDesc := { base := 0x01110110, words := 1, flds := [F.CAL_STATUS_QUEUED, F.CAL_STATUS_RUNNING, F.CAL_STATUS_BLENDING] }
def CAL_COUNT : RegDesc := { base := 0x01110118, words := 2, flds := [F.CAL_COUNT_CELL, F.CAL_COUNT_SENSE] }
def CAL_LAST : RegDesc := { base := 0x01110120, words := 2, flds := [F.CAL_LAST_TIME, F.CAL_LAST_OBJECT, F.CAL_LAST_KIND] }
def CAL_RES_HEAD : RegDesc := { base := 0x01110128, words := 1, flds := [F.CAL_RES_HEAD_NEWEST, F.CAL_RES_HEAD_ANY] }
def CAL_RES : RegDesc := { base := 0x01111000, words := 4, s1 := 0x10, n1 := 64, flds := [F.CAL_RES_OBJECT, F.CAL_RES_KIND, F.CAL_RES_OUTCOME, F.CAL_RES_ATTEMPTS, F.CAL_RES_SLOT, F.CAL_RES_TIME, F.CAL_RES_TEMP] }
end D

/-- The registers of block CAL. -/
def blkCal : List RegDesc :=
  [D.CAL_CTRL, D.CAL_AGREE, D.CAL_OFS_TOL, D.CAL_TEMP_TOL, D.CAL_BLEND, D.CAL_PASSIVE, D.CAL_SLOT_T, D.CAL_REQ, D.CAL_REQ_RESULT, D.CAL_STATUS, D.CAL_COUNT, D.CAL_LAST] ++
  [D.CAL_RES_HEAD, D.CAL_RES]

/-! ## Block STRAND, base 0x0112_0000 -/

namespace F
def STRAND_CTRL_START : Fld := { addr := 0x01120000, lsb := 0, width := 1, acc := .wo, rst := .const 0 }
def STRAND_CTRL_STOP : Fld := { addr := 0x01120000, lsb := 1, width := 1, acc := .wo, rst := .const 0 }
def STRAND_CTRL_STREAM : Fld := { addr := 0x01120000, lsb := 2, width := 1, acc := .wo, rst := .const 0 }
def STRAND_CTRL_PORT_REQ : Fld := { addr := 0x01120000, lsb := 3, width := 1, acc := .wo, rst := .const 0 }
def STRAND_CTRL_PORT_REL : Fld := { addr := 0x01120000, lsb := 4, width := 1, acc := .wo, rst := .const 0 }
def STRAND_CTRL_AUTH_REQ : Fld := { addr := 0x01120000, lsb := 5, width := 1, acc := .rw, rst := .const 0 }
def STRAND_CTRL_ECHO_PRESET : Fld := { addr := 0x01120000, lsb := 6, width := 1, acc := .rw, rst := .const 1 }
def STRAND_STATUS_STATE : Fld := { addr := 0x01120008, lsb := 0, width := 3, acc := .ro, rst := .const 0 }
def STRAND_STATUS_OWNER : Fld := { addr := 0x01120008, lsb := 3, width := 1, acc := .ro, rst := .const 0 }
def STRAND_STATUS_PORT : Fld := { addr := 0x01120008, lsb := 4, width := 1, acc := .ro, rst := .const 0 }
def STRAND_STATUS_DESC_OK : Fld := { addr := 0x01120008, lsb := 5, width := 1, acc := .ro, rst := .const 0 }
def STRAND_STATUS_AUTH_OK : Fld := { addr := 0x01120008, lsb := 6, width := 1, acc := .ro, rst := .const 0 }
def STRAND_STATUS_HOLD : Fld := { addr := 0x01120008, lsb := 7, width := 1, acc := .ro, rst := .const 0 }
def STRAND_STATUS_SPARING : Fld := { addr := 0x01120008, lsb := 8, width := 1, acc := .ro, rst := .const 0 }
def STRAND_STATUS_LANES : Fld := { addr := 0x01120008, lsb := 9, width := 7, acc := .ro, rst := .const 0 }
def STRAND_STATUS_SPARES : Fld := { addr := 0x01120008, lsb := 16, width := 4, acc := .ro, rst := .const 0 }
def STRAND_STATUS_MAPGEN : Fld := { addr := 0x01120008, lsb := 20, width := 4, acc := .ro, rst := .const 0 }
def STRAND_LANE_LOGICAL : Fld := { addr := 0x01120100, lsb := 0, width := 7, acc := .ro, rst := .const 127, s1 := 0x8, n1 := 96 }
def STRAND_LANE_ROLE : Fld := { addr := 0x01120100, lsb := 7, width := 3, acc := .ro, rst := .const 0, s1 := 0x8, n1 := 96 }
def STRAND_LANE_LOCK : Fld := { addr := 0x01120100, lsb := 10, width := 1, acc := .ro, rst := .const 0, s1 := 0x8, n1 := 96 }
def STRAND_LANE_ALIGNED : Fld := { addr := 0x01120100, lsb := 11, width := 1, acc := .ro, rst := .const 0, s1 := 0x8, n1 := 96 }
def STRAND_LANE_ADV : Fld := { addr := 0x01120100, lsb := 12, width := 8, acc := .ro, rst := .const 0, s1 := 0x8, n1 := 96 }
def STRAND_LANE_ERR : Fld := { addr := 0x01120100, lsb := 32, width := 16, acc := .rc, rst := .const 0, s1 := 0x8, n1 := 96 }
def STRAND_LANE_TEST_LANE : Fld := { addr := 0x01120400, lsb := 0, width := 7, acc := .wo, rst := .const 0 }
def STRAND_ID_CMD_WADDR : Fld := { addr := 0x01120800, lsb := 0, width := 22, acc := .wo, rst := .const 0 }
def STRAND_ID_CMD_WRITE : Fld := { addr := 0x01120800, lsb := 22, width := 1, acc := .wo, rst := .const 0 }
def STRAND_ID_CMD_DATA : Fld := { addr := 0x01120800, lsb := 32, width := 32, acc := .wo, rst := .const 0 }
def STRAND_ID_RESULT_STATUS : Fld := { addr := 0x01120808, lsb := 0, width := 4, acc := .ro, rst := .const 0 }
def STRAND_ID_RESULT_DATA : Fld := { addr := 0x01120808, lsb := 32, width := 32, acc := .ro, rst := .const 0 }
def STRAND_ECHO_SEL_CHANNEL : Fld := { addr := 0x01120810, lsb := 0, width := 16, acc := .rw, rst := .const 0 }
def STRAND_ECHO_VAL_LEVEL : Fld := { addr := 0x01120814, lsb := 0, width := 16, acc := .ro, rst := .const 0 }
def STRAND_ECHO_VAL_REST : Fld := { addr := 0x01120814, lsb := 16, width := 1, acc := .ro, rst := .const 0 }
def STRAND_ECHO_VAL_REPLAY : Fld := { addr := 0x01120814, lsb := 17, width := 1, acc := .ro, rst := .const 0 }
def STRAND_ECHO_VAL_VALID : Fld := { addr := 0x01120814, lsb := 18, width := 1, acc := .ro, rst := .const 0 }
def STRAND_WB_GATE : Fld := { addr := 0x01120818, lsb := 0, width := 1, acc := .ro, rst := .const 0 }
def STRAND_WB_PENDING : Fld := { addr := 0x01120818, lsb := 16, width := 16, acc := .ro, rst := .const 0 }
def STRAND_WB_DEFERRED : Fld := { addr := 0x01120818, lsb := 32, width := 32, acc := .rc, rst := .const 0 }
end F

namespace D
def STRAND_CTRL : RegDesc := { base := 0x01120000, words := 1, flds := [F.STRAND_CTRL_START, F.STRAND_CTRL_STOP, F.STRAND_CTRL_STREAM, F.STRAND_CTRL_PORT_REQ, F.STRAND_CTRL_PORT_REL, F.STRAND_CTRL_AUTH_REQ, F.STRAND_CTRL_ECHO_PRESET] }
def STRAND_STATUS : RegDesc := { base := 0x01120008, words := 2, flds := [F.STRAND_STATUS_STATE, F.STRAND_STATUS_OWNER, F.STRAND_STATUS_PORT, F.STRAND_STATUS_DESC_OK, F.STRAND_STATUS_AUTH_OK, F.STRAND_STATUS_HOLD, F.STRAND_STATUS_SPARING, F.STRAND_STATUS_LANES, F.STRAND_STATUS_SPARES, F.STRAND_STATUS_MAPGEN] }
def STRAND_LANE : RegDesc := { base := 0x01120100, words := 2, s1 := 0x8, n1 := 96, flds := [F.STRAND_LANE_LOGICAL, F.STRAND_LANE_ROLE, F.STRAND_LANE_LOCK, F.STRAND_LANE_ALIGNED, F.STRAND_LANE_ADV, F.STRAND_LANE_ERR] }
def STRAND_LANE_TEST : RegDesc := { base := 0x01120400, words := 1, flds := [F.STRAND_LANE_TEST_LANE] }
def STRAND_ID_CMD : RegDesc := { base := 0x01120800, words := 2, flds := [F.STRAND_ID_CMD_WADDR, F.STRAND_ID_CMD_WRITE, F.STRAND_ID_CMD_DATA] }
def STRAND_ID_RESULT : RegDesc := { base := 0x01120808, words := 2, flds := [F.STRAND_ID_RESULT_STATUS, F.STRAND_ID_RESULT_DATA] }
def STRAND_ECHO_SEL : RegDesc := { base := 0x01120810, words := 1, flds := [F.STRAND_ECHO_SEL_CHANNEL] }
def STRAND_ECHO_VAL : RegDesc := { base := 0x01120814, words := 1, flds := [F.STRAND_ECHO_VAL_LEVEL, F.STRAND_ECHO_VAL_REST, F.STRAND_ECHO_VAL_REPLAY, F.STRAND_ECHO_VAL_VALID] }
def STRAND_WB : RegDesc := { base := 0x01120818, words := 2, flds := [F.STRAND_WB_GATE, F.STRAND_WB_PENDING, F.STRAND_WB_DEFERRED] }
end D

/-- The registers of block STRAND. -/
def blkStrand : List RegDesc :=
  [D.STRAND_CTRL, D.STRAND_STATUS, D.STRAND_LANE, D.STRAND_LANE_TEST, D.STRAND_ID_CMD, D.STRAND_ID_RESULT, D.STRAND_ECHO_SEL, D.STRAND_ECHO_VAL, D.STRAND_WB]

/-! ## Block BRAID, base 0x0113_0000 -/

namespace F
def BRAID_CTRL_EN : Fld := { addr := 0x01130000, lsb := 0, width := 1, acc := .rw, rst := .const 0, s1 := 0x100, n1 := 16 }
def BRAID_CTRL_SPEED : Fld := { addr := 0x01130000, lsb := 1, width := 1, acc := .rw, rst := .const 0, s1 := 0x100, n1 := 16 }
def BRAID_CTRL_FEC : Fld := { addr := 0x01130000, lsb := 2, width := 2, acc := .rw, rst := .const 0, s1 := 0x100, n1 := 16 }
def BRAID_CTRL_TS_EN : Fld := { addr := 0x01130000, lsb := 4, width := 1, acc := .rw, rst := .const 1, s1 := 0x100, n1 := 16 }
def BRAID_STATUS_LINK : Fld := { addr := 0x01130008, lsb := 0, width := 1, acc := .ro, rst := .const 0, s1 := 0x100, n1 := 16 }
def BRAID_STATUS_LOCK : Fld := { addr := 0x01130008, lsb := 1, width := 1, acc := .ro, rst := .const 0, s1 := 0x100, n1 := 16 }
def BRAID_STATUS_FEC_LOCK : Fld := { addr := 0x01130008, lsb := 2, width := 1, acc := .ro, rst := .const 0, s1 := 0x100, n1 := 16 }
def BRAID_STATUS_LOCAL_FAULT : Fld := { addr := 0x01130008, lsb := 3, width := 1, acc := .ro, rst := .const 0, s1 := 0x100, n1 := 16 }
def BRAID_STATUS_REMOTE_FAULT : Fld := { addr := 0x01130008, lsb := 4, width := 1, acc := .ro, rst := .const 0, s1 := 0x100, n1 := 16 }
def BRAID_STATUS_LAG : Fld := { addr := 0x01130008, lsb := 5, width := 2, acc := .ro, rst := .const 0, s1 := 0x100, n1 := 16 }
def BRAID_STATUS_LAG_MEMBER : Fld := { addr := 0x01130008, lsb := 7, width := 1, acc := .ro, rst := .const 0, s1 := 0x100, n1 := 16 }
def BRAID_CNT_VALUE : Fld := { addr := 0x01130040, lsb := 0, width := 64, acc := .ro, rst := .const 0, s1 := 0x100, n1 := 16, s2 := 0x8, n2 := 8 }
def BRAID_SYNCE_PORT : Fld := { addr := 0x01131000, lsb := 0, width := 4, acc := .rw, rst := .const 0, s1 := 0x8, n1 := 2 }
def BRAID_SYNCE_DIV : Fld := { addr := 0x01131000, lsb := 4, width := 8, acc := .rw, rst := .const 0, s1 := 0x8, n1 := 2 }
def BRAID_SYNCE_EN : Fld := { addr := 0x01131000, lsb := 12, width := 1, acc := .rw, rst := .const 0, s1 := 0x8, n1 := 2 }
def BRAID_SYNCE_SQUELCHED : Fld := { addr := 0x01131000, lsb := 13, width := 1, acc := .ro, rst := .const 1, s1 := 0x8, n1 := 2 }
end F

namespace D
def BRAID_CTRL : RegDesc := { base := 0x01130000, words := 1, s1 := 0x100, n1 := 16, flds := [F.BRAID_CTRL_EN, F.BRAID_CTRL_SPEED, F.BRAID_CTRL_FEC, F.BRAID_CTRL_TS_EN] }
def BRAID_STATUS : RegDesc := { base := 0x01130008, words := 2, s1 := 0x100, n1 := 16, flds := [F.BRAID_STATUS_LINK, F.BRAID_STATUS_LOCK, F.BRAID_STATUS_FEC_LOCK, F.BRAID_STATUS_LOCAL_FAULT, F.BRAID_STATUS_REMOTE_FAULT, F.BRAID_STATUS_LAG, F.BRAID_STATUS_LAG_MEMBER] }
def BRAID_CNT : RegDesc := { base := 0x01130040, words := 2, s1 := 0x100, n1 := 16, s2 := 0x8, n2 := 8, flds := [F.BRAID_CNT_VALUE] }
def BRAID_SYNCE : RegDesc := { base := 0x01131000, words := 1, s1 := 0x8, n1 := 2, flds := [F.BRAID_SYNCE_PORT, F.BRAID_SYNCE_DIV, F.BRAID_SYNCE_EN, F.BRAID_SYNCE_SQUELCHED] }
end D

/-- The registers of block BRAID. -/
def blkBraid : List RegDesc :=
  [D.BRAID_CTRL, D.BRAID_STATUS, D.BRAID_CNT, D.BRAID_SYNCE]

/-! ## Block SWITCH, base 0x0114_0000 -/

namespace F
def SWITCH_CTRL_EN : Fld := { addr := 0x01140000, lsb := 0, width := 1, acc := .rw, rst := .const 0 }
def SWITCH_CTRL_UNK_HOST : Fld := { addr := 0x01140000, lsb := 1, width := 1, acc := .rw, rst := .const 0 }
def SWITCH_PCP_MAP_CLASS : Fld := { addr := 0x01140008, lsb := 0, width := 3, acc := .rw, rst := .const 1, bs := 3, bn := 8 }
def SWITCH_BUF_FREE : Fld := { addr := 0x01140010, lsb := 0, width := 15, acc := .ro, rst := .const 16384 }
def SWITCH_BUF_MIN_FREE : Fld := { addr := 0x01140010, lsb := 16, width := 15, acc := .rc, rst := .const 16384 }
def SWITCH_BUF_RESV : Fld := { addr := 0x01140010, lsb := 32, width := 10, acc := .rw, rst := .const 32 }
def SWITCH_TBL_STATUS_DUP : Fld := { addr := 0x01140018, lsb := 0, width := 1, acc := .w1c, rst := .const 0 }
def SWITCH_TBL_STATUS_WIDE : Fld := { addr := 0x01140018, lsb := 1, width := 1, acc := .w1c, rst := .const 0 }
def SWITCH_TBL_STATUS_BADPORT : Fld := { addr := 0x01140018, lsb := 2, width := 1, acc := .w1c, rst := .const 0 }
def SWITCH_HOST_TX_LEN : Fld := { addr := 0x01140020, lsb := 0, width := 11, acc := .wo, rst := .const 0 }
def SWITCH_HOST_TX_CLASS : Fld := { addr := 0x01140020, lsb := 11, width := 3, acc := .wo, rst := .const 0 }
def SWITCH_HOST_TX_DIRECT : Fld := { addr := 0x01140020, lsb := 14, width := 1, acc := .wo, rst := .const 0 }
def SWITCH_HOST_TX_PORT : Fld := { addr := 0x01140020, lsb := 15, width := 5, acc := .wo, rst := .const 0 }
def SWITCH_HOST_TX_TS : Fld := { addr := 0x01140020, lsb := 20, width := 2, acc := .wo, rst := .const 0 }
def SWITCH_HOST_TX_TS_TS : Fld := { addr := 0x01140028, lsb := 0, width := 64, acc := .ro, rst := .const 0 }
def SWITCH_HOST_RX_LEN : Fld := { addr := 0x01140030, lsb := 0, width := 11, acc := .ro, rst := .const 0 }
def SWITCH_HOST_RX_VALID : Fld := { addr := 0x01140030, lsb := 11, width := 1, acc := .ro, rst := .const 0 }
def SWITCH_HOST_RX_INPORT : Fld := { addr := 0x01140030, lsb := 12, width := 5, acc := .ro, rst := .const 0 }
def SWITCH_HOST_RX_CLASS : Fld := { addr := 0x01140030, lsb := 17, width := 3, acc := .ro, rst := .const 0 }
def SWITCH_HOST_RX_TS_VALID : Fld := { addr := 0x01140030, lsb := 20, width := 1, acc := .ro, rst := .const 0 }
def SWITCH_HOST_RX_TS_TS : Fld := { addr := 0x01140038, lsb := 0, width := 64, acc := .ro, rst := .const 0 }
def SWITCH_HOST_CFG_VEC : Fld := { addr := 0x01140040, lsb := 0, width := 6, acc := .rw, rst := .const 1 }
def SWITCH_HOST_CFG_IRQ_EN : Fld := { addr := 0x01140040, lsb := 6, width := 1, acc := .rw, rst := .const 0 }
def SWITCH_HOST_CFG_POP : Fld := { addr := 0x01140040, lsb := 7, width := 1, acc := .wo, rst := .const 0 }
def SWITCH_HOST_CFG_BUSY : Fld := { addr := 0x01140040, lsb := 8, width := 1, acc := .ro, rst := .const 0 }
def SWITCH_HOST_CFG_TS_VALID : Fld := { addr := 0x01140040, lsb := 9, width := 1, acc := .rc, rst := .const 0 }
def SWITCH_HOST_CFG_RXDEPTH : Fld := { addr := 0x01140040, lsb := 10, width := 7, acc := .ro, rst := .const 0 }
def SWITCH_HOST_CFG_TX_LOST : Fld := { addr := 0x01140040, lsb := 17, width := 15, acc := .rc, rst := .const 0 }
def SWITCH_PORT_CFG_DEF_CLASS : Fld := { addr := 0x01140100, lsb := 0, width := 3, acc := .rw, rst := .const 1, s1 := 0x8, n1 := 19 }
def SWITCH_PORT_CFG_TRUST_PCP : Fld := { addr := 0x01140100, lsb := 3, width := 1, acc := .rw, rst := .const 0, s1 := 0x8, n1 := 19 }
def SWITCH_PORT_CFG_EN : Fld := { addr := 0x01140100, lsb := 4, width := 1, acc := .rw, rst := .const 1, s1 := 0x8, n1 := 19 }
def SWITCH_LAG_MEMBERS : Fld := { addr := 0x01140200, lsb := 0, width := 16, acc := .rw, rst := .const 0, s1 := 0x10, n1 := 4 }
def SWITCH_LAG_EN : Fld := { addr := 0x01140200, lsb := 16, width := 1, acc := .rw, rst := .const 0, s1 := 0x10, n1 := 4 }
def SWITCH_LAG_REJOIN : Fld := { addr := 0x01140200, lsb := 17, width := 1, acc := .wo, rst := .const 0, s1 := 0x10, n1 := 4 }
def SWITCH_LAG_REJOIN_PEND : Fld := { addr := 0x01140200, lsb := 18, width := 1, acc := .ro, rst := .const 0, s1 := 0x10, n1 := 4 }
def SWITCH_LAG_VERSION : Fld := { addr := 0x01140200, lsb := 24, width := 8, acc := .ro, rst := .const 0, s1 := 0x10, n1 := 4 }
def SWITCH_LAG_BUCKETS : Fld := { addr := 0x01140200, lsb := 32, width := 32, acc := .ro, rst := .const 0, s1 := 0x10, n1 := 4 }
def SWITCH_INDROP_UNKNOWN : Fld := { addr := 0x01140400, lsb := 0, width := 16, acc := .rc, rst := .const 0, s1 := 0x8, n1 := 19 }
def SWITCH_INDROP_HOPS : Fld := { addr := 0x01140400, lsb := 16, width := 16, acc := .rc, rst := .const 0, s1 := 0x8, n1 := 19 }
def SWITCH_INDROP_DEMOTED : Fld := { addr := 0x01140400, lsb := 32, width := 16, acc := .rc, rst := .const 0, s1 := 0x8, n1 := 19 }
def SWITCH_INDROP_PARITY : Fld := { addr := 0x01140400, lsb := 48, width := 16, acc := .rc, rst := .const 0, s1 := 0x8, n1 := 19 }
def SWITCH_OUTDROP_DROPPED : Fld := { addr := 0x01141000, lsb := 0, width := 32, acc := .rc, rst := .const 0, s1 := 0x40, n1 := 19, s2 := 0x8, n2 := 8 }
def SWITCH_OUTDROP_EVICTED : Fld := { addr := 0x01141000, lsb := 32, width := 32, acc := .rc, rst := .const 0, s1 := 0x40, n1 := 19, s2 := 0x8, n2 := 8 }
def SWITCH_MAC_MAC : Fld := { addr := 0x01142000, lsb := 0, width := 48, acc := .rw, rst := .const 0, s1 := 0x10, n1 := 64 }
def SWITCH_MAC_PORT : Fld := { addr := 0x01142000, lsb := 48, width := 5, acc := .rw, rst := .const 0, s1 := 0x10, n1 := 64 }
def SWITCH_MAC_VALID : Fld := { addr := 0x01142000, lsb := 53, width := 1, acc := .rw, rst := .const 0, s1 := 0x10, n1 := 64 }
def SWITCH_MAC_VERSION : Fld := { addr := 0x01142000, lsb := 56, width := 8, acc := .ro, rst := .const 0, s1 := 0x10, n1 := 64 }
def SWITCH_MCAST_PORTS : Fld := { addr := 0x01144000, lsb := 0, width := 19, acc := .rw, rst := .const 0, s1 := 0x8, n1 := 1024 }
def SWITCH_MCAST_VERSION : Fld := { addr := 0x01144000, lsb := 24, width := 8, acc := .ro, rst := .const 0, s1 := 0x8, n1 := 1024 }
def SWITCH_ROUTE_DEVICE : Fld := { addr := 0x01148000, lsb := 0, width := 16, acc := .rw, rst := .const 0, s1 := 0x8, n1 := 4096 }
def SWITCH_ROUTE_PORT : Fld := { addr := 0x01148000, lsb := 16, width := 5, acc := .rw, rst := .const 0, s1 := 0x8, n1 := 4096 }
def SWITCH_ROUTE_VALID : Fld := { addr := 0x01148000, lsb := 21, width := 1, acc := .rw, rst := .const 0, s1 := 0x8, n1 := 4096 }
def SWITCH_ROUTE_VERSION : Fld := { addr := 0x01148000, lsb := 24, width := 8, acc := .ro, rst := .const 0, s1 := 0x8, n1 := 4096 }
end F

namespace D
def SWITCH_CTRL : RegDesc := { base := 0x01140000, words := 1, flds := [F.SWITCH_CTRL_EN, F.SWITCH_CTRL_UNK_HOST] }
def SWITCH_PCP_MAP : RegDesc := { base := 0x01140008, words := 1, flds := [F.SWITCH_PCP_MAP_CLASS] }
def SWITCH_BUF : RegDesc := { base := 0x01140010, words := 2, flds := [F.SWITCH_BUF_FREE, F.SWITCH_BUF_MIN_FREE, F.SWITCH_BUF_RESV] }
def SWITCH_TBL_STATUS : RegDesc := { base := 0x01140018, words := 1, flds := [F.SWITCH_TBL_STATUS_DUP, F.SWITCH_TBL_STATUS_WIDE, F.SWITCH_TBL_STATUS_BADPORT] }
def SWITCH_HOST_TX : RegDesc := { base := 0x01140020, words := 2, flds := [F.SWITCH_HOST_TX_LEN, F.SWITCH_HOST_TX_CLASS, F.SWITCH_HOST_TX_DIRECT, F.SWITCH_HOST_TX_PORT, F.SWITCH_HOST_TX_TS] }
def SWITCH_HOST_TX_TS : RegDesc := { base := 0x01140028, words := 2, flds := [F.SWITCH_HOST_TX_TS_TS] }
def SWITCH_HOST_RX : RegDesc := { base := 0x01140030, words := 2, flds := [F.SWITCH_HOST_RX_LEN, F.SWITCH_HOST_RX_VALID, F.SWITCH_HOST_RX_INPORT, F.SWITCH_HOST_RX_CLASS, F.SWITCH_HOST_RX_TS_VALID] }
def SWITCH_HOST_RX_TS : RegDesc := { base := 0x01140038, words := 2, flds := [F.SWITCH_HOST_RX_TS_TS] }
def SWITCH_HOST_CFG : RegDesc := { base := 0x01140040, words := 1, flds := [F.SWITCH_HOST_CFG_VEC, F.SWITCH_HOST_CFG_IRQ_EN, F.SWITCH_HOST_CFG_POP, F.SWITCH_HOST_CFG_BUSY, F.SWITCH_HOST_CFG_TS_VALID, F.SWITCH_HOST_CFG_RXDEPTH, F.SWITCH_HOST_CFG_TX_LOST] }
def SWITCH_PORT_CFG : RegDesc := { base := 0x01140100, words := 1, s1 := 0x8, n1 := 19, flds := [F.SWITCH_PORT_CFG_DEF_CLASS, F.SWITCH_PORT_CFG_TRUST_PCP, F.SWITCH_PORT_CFG_EN] }
def SWITCH_LAG : RegDesc := { base := 0x01140200, words := 4, s1 := 0x10, n1 := 4, flds := [F.SWITCH_LAG_MEMBERS, F.SWITCH_LAG_EN, F.SWITCH_LAG_REJOIN, F.SWITCH_LAG_REJOIN_PEND, F.SWITCH_LAG_VERSION, F.SWITCH_LAG_BUCKETS] }
def SWITCH_INDROP : RegDesc := { base := 0x01140400, words := 2, s1 := 0x8, n1 := 19, flds := [F.SWITCH_INDROP_UNKNOWN, F.SWITCH_INDROP_HOPS, F.SWITCH_INDROP_DEMOTED, F.SWITCH_INDROP_PARITY] }
def SWITCH_OUTDROP : RegDesc := { base := 0x01141000, words := 2, s1 := 0x40, n1 := 19, s2 := 0x8, n2 := 8, flds := [F.SWITCH_OUTDROP_DROPPED, F.SWITCH_OUTDROP_EVICTED] }
def SWITCH_MAC : RegDesc := { base := 0x01142000, words := 4, s1 := 0x10, n1 := 64, flds := [F.SWITCH_MAC_MAC, F.SWITCH_MAC_PORT, F.SWITCH_MAC_VALID, F.SWITCH_MAC_VERSION] }
def SWITCH_MCAST : RegDesc := { base := 0x01144000, words := 2, s1 := 0x8, n1 := 1024, flds := [F.SWITCH_MCAST_PORTS, F.SWITCH_MCAST_VERSION] }
def SWITCH_ROUTE : RegDesc := { base := 0x01148000, words := 2, s1 := 0x8, n1 := 4096, flds := [F.SWITCH_ROUTE_DEVICE, F.SWITCH_ROUTE_PORT, F.SWITCH_ROUTE_VALID, F.SWITCH_ROUTE_VERSION] }
end D

/-- The registers of block SWITCH. -/
def blkSwitch : List RegDesc :=
  [D.SWITCH_CTRL, D.SWITCH_PCP_MAP, D.SWITCH_BUF, D.SWITCH_TBL_STATUS, D.SWITCH_HOST_TX, D.SWITCH_HOST_TX_TS, D.SWITCH_HOST_RX, D.SWITCH_HOST_RX_TS, D.SWITCH_HOST_CFG, D.SWITCH_PORT_CFG, D.SWITCH_LAG, D.SWITCH_INDROP] ++
  [D.SWITCH_OUTDROP, D.SWITCH_MAC, D.SWITCH_MCAST, D.SWITCH_ROUTE]

/-! ## Block SCHED, base 0x0115_0000 -/

namespace F
def SCHED_QCFG_SH_EN : Fld := { addr := 0x01150000, lsb := 0, width := 1, acc := .rw, rst := .const 0, s1 := 0x200, n1 := 19, s2 := 0x40, n2 := 8 }
def SCHED_QCFG_WEIGHT : Fld := { addr := 0x01150000, lsb := 8, width := 8, acc := .rw, rst := .byJ [0, 1, 2, 4, 8, 0, 0, 0], s1 := 0x200, n1 := 19, s2 := 0x40, n2 := 8 }
def SCHED_QCFG_LIMIT : Fld := { addr := 0x01150000, lsb := 16, width := 15, acc := .rw, rst := .const 4096, s1 := 0x200, n1 := 19, s2 := 0x40, n2 := 8 }
def SCHED_SHAPE_RATE : Fld := { addr := 0x01150008, lsb := 0, width := 25, acc := .rw, rst := .const 1000000, s1 := 0x200, n1 := 19, s2 := 0x40, n2 := 8 }
def SCHED_SHAPE_BURST : Fld := { addr := 0x01150008, lsb := 32, width := 20, acc := .rw, rst := .const 3084, s1 := 0x200, n1 := 19, s2 := 0x40, n2 := 8 }
def SCHED_CREDIT_CREDIT : Fld := { addr := 0x01150010, lsb := 0, width := 32, acc := .ro, rst := .const 0, s1 := 0x200, n1 := 19, s2 := 0x40, n2 := 8 }
def SCHED_OBS_UNITS : Fld := { addr := 0x01150018, lsb := 0, width := 15, acc := .ro, rst := .const 0, s1 := 0x200, n1 := 19, s2 := 0x40, n2 := 8 }
def SCHED_OBS_FRAMES : Fld := { addr := 0x01150018, lsb := 16, width := 14, acc := .ro, rst := .const 0, s1 := 0x200, n1 := 19, s2 := 0x40, n2 := 8 }
def SCHED_OBS_AGE : Fld := { addr := 0x01150018, lsb := 32, width := 32, acc := .ro, rst := .const 0, s1 := 0x200, n1 := 19, s2 := 0x40, n2 := 8 }
def SCHED_OBS_MAX_UNITS : Fld := { addr := 0x01150020, lsb := 0, width := 15, acc := .rc, rst := .const 0, s1 := 0x200, n1 := 19, s2 := 0x40, n2 := 8 }
def SCHED_OBS_MAX_AGE : Fld := { addr := 0x01150020, lsb := 32, width := 32, acc := .rc, rst := .const 0, s1 := 0x200, n1 := 19, s2 := 0x40, n2 := 8 }
def SCHED_OBS_CFG_INTERVAL : Fld := { addr := 0x01153F00, lsb := 0, width := 16, acc := .rw, rst := .const 100 }
def SCHED_GATE_CTRL_EN : Fld := { addr := 0x01154000, lsb := 0, width := 1, acc := .rw, rst := .const 0, s1 := 0xC00, n1 := 16 }
def SCHED_GATE_CTRL_TB : Fld := { addr := 0x01154000, lsb := 1, width := 2, acc := .rw, rst := .const 0, s1 := 0xC00, n1 := 16 }
def SCHED_GATE_CTRL_COMMIT : Fld := { addr := 0x01154000, lsb := 3, width := 1, acc := .wo, rst := .const 0, s1 := 0xC00, n1 := 16 }
def SCHED_GATE_CTRL_PENDING : Fld := { addr := 0x01154000, lsb := 4, width := 1, acc := .ro, rst := .const 0, s1 := 0xC00, n1 := 16 }
def SCHED_GATE_CTRL_BASE_PAST : Fld := { addr := 0x01154000, lsb := 5, width := 1, acc := .w1c, rst := .const 0, s1 := 0xC00, n1 := 16 }
def SCHED_GATE_CTRL_ERR : Fld := { addr := 0x01154000, lsb := 6, width := 1, acc := .w1c, rst := .const 0, s1 := 0xC00, n1 := 16 }
def SCHED_GATE_CTRL_ENTRY : Fld := { addr := 0x01154000, lsb := 8, width := 8, acc := .ro, rst := .const 0, s1 := 0xC00, n1 := 16 }
def SCHED_GATE_BASE_BASE : Fld := { addr := 0x01154008, lsb := 0, width := 64, acc := .rw, rst := .const 0, s1 := 0xC00, n1 := 16 }
def SCHED_GATE_CYCLE_CYCLE : Fld := { addr := 0x01154010, lsb := 0, width := 30, acc := .rw, rst := .const 1000000, s1 := 0xC00, n1 := 16 }
def SCHED_GATE_LEN_LEN : Fld := { addr := 0x01154014, lsb := 0, width := 9, acc := .rw, rst := .const 1, s1 := 0xC00, n1 := 16 }
def SCHED_GATE_OPER_BASE_BASE : Fld := { addr := 0x01154018, lsb := 0, width := 64, acc := .ro, rst := .const 0, s1 := 0xC00, n1 := 16 }
def SCHED_GATE_OPER_CYCLE_CYCLE : Fld := { addr := 0x01154020, lsb := 0, width := 30, acc := .ro, rst := .const 0, s1 := 0xC00, n1 := 16 }
def SCHED_GATE_OPER_CYCLE_LEN : Fld := { addr := 0x01154020, lsb := 32, width := 9, acc := .ro, rst := .const 0, s1 := 0xC00, n1 := 16 }
def SCHED_GATE_ADMIN_GATES : Fld := { addr := 0x01154400, lsb := 0, width := 8, acc := .rw, rst := .const 255, s1 := 0xC00, n1 := 16, s2 := 0x4, n2 := 256 }
def SCHED_GATE_ADMIN_INTERVAL : Fld := { addr := 0x01154400, lsb := 8, width := 24, acc := .rw, rst := .const 0, s1 := 0xC00, n1 := 16, s2 := 0x4, n2 := 256 }
def SCHED_GATE_OPER_GATES : Fld := { addr := 0x01154800, lsb := 0, width := 8, acc := .ro, rst := .const 255, s1 := 0xC00, n1 := 16, s2 := 0x4, n2 := 256 }
def SCHED_GATE_OPER_INTERVAL : Fld := { addr := 0x01154800, lsb := 8, width := 24, acc := .ro, rst := .const 0, s1 := 0xC00, n1 := 16, s2 := 0x4, n2 := 256 }
end F

namespace D
def SCHED_QCFG : RegDesc := { base := 0x01150000, words := 1, s1 := 0x200, n1 := 19, s2 := 0x40, n2 := 8, flds := [F.SCHED_QCFG_SH_EN, F.SCHED_QCFG_WEIGHT, F.SCHED_QCFG_LIMIT] }
def SCHED_SHAPE : RegDesc := { base := 0x01150008, words := 2, s1 := 0x200, n1 := 19, s2 := 0x40, n2 := 8, flds := [F.SCHED_SHAPE_RATE, F.SCHED_SHAPE_BURST] }
def SCHED_CREDIT : RegDesc := { base := 0x01150010, words := 1, s1 := 0x200, n1 := 19, s2 := 0x40, n2 := 8, flds := [F.SCHED_CREDIT_CREDIT] }
def SCHED_OBS : RegDesc := { base := 0x01150018, words := 2, s1 := 0x200, n1 := 19, s2 := 0x40, n2 := 8, flds := [F.SCHED_OBS_UNITS, F.SCHED_OBS_FRAMES, F.SCHED_OBS_AGE] }
def SCHED_OBS_MAX : RegDesc := { base := 0x01150020, words := 2, s1 := 0x200, n1 := 19, s2 := 0x40, n2 := 8, flds := [F.SCHED_OBS_MAX_UNITS, F.SCHED_OBS_MAX_AGE] }
def SCHED_OBS_CFG : RegDesc := { base := 0x01153F00, words := 1, flds := [F.SCHED_OBS_CFG_INTERVAL] }
def SCHED_GATE_CTRL : RegDesc := { base := 0x01154000, words := 1, s1 := 0xC00, n1 := 16, flds := [F.SCHED_GATE_CTRL_EN, F.SCHED_GATE_CTRL_TB, F.SCHED_GATE_CTRL_COMMIT, F.SCHED_GATE_CTRL_PENDING, F.SCHED_GATE_CTRL_BASE_PAST, F.SCHED_GATE_CTRL_ERR, F.SCHED_GATE_CTRL_ENTRY] }
def SCHED_GATE_BASE : RegDesc := { base := 0x01154008, words := 2, s1 := 0xC00, n1 := 16, flds := [F.SCHED_GATE_BASE_BASE] }
def SCHED_GATE_CYCLE : RegDesc := { base := 0x01154010, words := 1, s1 := 0xC00, n1 := 16, flds := [F.SCHED_GATE_CYCLE_CYCLE] }
def SCHED_GATE_LEN : RegDesc := { base := 0x01154014, words := 1, s1 := 0xC00, n1 := 16, flds := [F.SCHED_GATE_LEN_LEN] }
def SCHED_GATE_OPER_BASE : RegDesc := { base := 0x01154018, words := 2, s1 := 0xC00, n1 := 16, flds := [F.SCHED_GATE_OPER_BASE_BASE] }
def SCHED_GATE_OPER_CYCLE : RegDesc := { base := 0x01154020, words := 2, s1 := 0xC00, n1 := 16, flds := [F.SCHED_GATE_OPER_CYCLE_CYCLE, F.SCHED_GATE_OPER_CYCLE_LEN] }
def SCHED_GATE_ADMIN : RegDesc := { base := 0x01154400, words := 1, s1 := 0xC00, n1 := 16, s2 := 0x4, n2 := 256, flds := [F.SCHED_GATE_ADMIN_GATES, F.SCHED_GATE_ADMIN_INTERVAL] }
def SCHED_GATE_OPER : RegDesc := { base := 0x01154800, words := 1, s1 := 0xC00, n1 := 16, s2 := 0x4, n2 := 256, flds := [F.SCHED_GATE_OPER_GATES, F.SCHED_GATE_OPER_INTERVAL] }
end D

/-- The registers of block SCHED. -/
def blkSched : List RegDesc :=
  [D.SCHED_QCFG, D.SCHED_SHAPE, D.SCHED_CREDIT, D.SCHED_OBS, D.SCHED_OBS_MAX, D.SCHED_OBS_CFG, D.SCHED_GATE_CTRL, D.SCHED_GATE_BASE, D.SCHED_GATE_CYCLE, D.SCHED_GATE_LEN, D.SCHED_GATE_OPER_BASE, D.SCHED_GATE_OPER_CYCLE] ++
  [D.SCHED_GATE_ADMIN, D.SCHED_GATE_OPER]

/-! ## Block REDUND, base 0x0116_0000 -/

namespace F
def REDUND_CTRL_EN : Fld := { addr := 0x01160000, lsb := 0, width := 1, acc := .rw, rst := .const 0 }
def REDUND_CTRL_REVERT : Fld := { addr := 0x01160000, lsb := 1, width := 1, acc := .rw, rst := .const 0 }
def REDUND_CTRL_AUTO_SURR : Fld := { addr := 0x01160000, lsb := 2, width := 1, acc := .rw, rst := .const 0 }
def REDUND_CTRL_SURRENDER : Fld := { addr := 0x01160000, lsb := 3, width := 1, acc := .wo, rst := .const 0 }
def REDUND_CTRL_TAKEBACK : Fld := { addr := 0x01160000, lsb := 4, width := 1, acc := .wo, rst := .const 0 }
def REDUND_CTRL_RESTORE : Fld := { addr := 0x01160000, lsb := 5, width := 1, acc := .wo, rst := .const 0 }
def REDUND_CFG_PEER_PORT : Fld := { addr := 0x01160008, lsb := 0, width := 4, acc := .rw, rst := .const 0 }
def REDUND_CFG_HOLDOFF_S : Fld := { addr := 0x01160008, lsb := 4, width := 16, acc := .rw, rst := .const 60 }
def REDUND_CFG_WDOG_MS : Fld := { addr := 0x01160008, lsb := 20, width := 6, acc := .rw, rst := .const 10 }
def REDUND_STATUS_ROLE : Fld := { addr := 0x01160010, lsb := 0, width := 2, acc := .ro, rst := .const 0 }
def REDUND_STATUS_PRIMARY : Fld := { addr := 0x01160010, lsb := 2, width := 1, acc := .ro, rst := .const 0 }
def REDUND_STATUS_HB_NET : Fld := { addr := 0x01160010, lsb := 3, width := 1, acc := .ro, rst := .const 0 }
def REDUND_STATUS_HB_PIN : Fld := { addr := 0x01160010, lsb := 4, width := 1, acc := .ro, rst := .const 0 }
def REDUND_STATUS_CKPT_CURRENT : Fld := { addr := 0x01160010, lsb := 5, width := 1, acc := .ro, rst := .const 0 }
def REDUND_STATUS_HEALTHY : Fld := { addr := 0x01160010, lsb := 6, width := 1, acc := .ro, rst := .const 0 }
def REDUND_STATUS_PEER_HEALTHY : Fld := { addr := 0x01160010, lsb := 7, width := 1, acc := .ro, rst := .const 0 }
def REDUND_STATUS_RESTORE_ERR : Fld := { addr := 0x01160010, lsb := 8, width := 1, acc := .ro, rst := .const 0 }
def REDUND_STATUS_HOLDOFF_REM : Fld := { addr := 0x01160010, lsb := 16, width := 16, acc := .ro, rst := .const 0 }
def REDUND_STATUS_PEER_SEQ : Fld := { addr := 0x01160010, lsb := 32, width := 32, acc := .ro, rst := .const 0 }
def REDUND_CKPT_SEQ : Fld := { addr := 0x01160018, lsb := 0, width := 32, acc := .ro, rst := .const 0 }
def REDUND_CKPT_GAPS : Fld := { addr := 0x01160018, lsb := 32, width := 16, acc := .rc, rst := .const 0 }
def REDUND_CKPT_LAG_US : Fld := { addr := 0x01160018, lsb := 48, width := 16, acc := .ro, rst := .const 0 }
def REDUND_HEALTH_MARCH_PASSES : Fld := { addr := 0x01160020, lsb := 0, width := 16, acc := .ro, rst := .const 0 }
def REDUND_HEALTH_MARCH_FAIL : Fld := { addr := 0x01160020, lsb := 16, width := 1, acc := .ro, rst := .const 0 }
def REDUND_HEALTH_SHADOW_FAIL : Fld := { addr := 0x01160020, lsb := 17, width := 1, acc := .ro, rst := .const 0 }
def REDUND_HEALTH_LANE_ERR : Fld := { addr := 0x01160020, lsb := 18, width := 1, acc := .ro, rst := .const 0 }
def REDUND_HEALTH_SHADOW_CMP : Fld := { addr := 0x01160020, lsb := 32, width := 32, acc := .ro, rst := .const 0 }
def REDUND_HEALTH_SHADOW_MISM : Fld := { addr := 0x01160020, lsb := 64, width := 16, acc := .rc, rst := .const 0 }
def REDUND_HEALTH_PRBS_ERR : Fld := { addr := 0x01160020, lsb := 80, width := 16, acc := .rc, rst := .const 0 }
def REDUND_HEALTH_CHECKED_S : Fld := { addr := 0x01160020, lsb := 96, width := 32, acc := .ro, rst := .const 0 }
def REDUND_WDOG_KICK : Fld := { addr := 0x01160030, lsb := 0, width := 32, acc := .wo, rst := .const 0 }
def REDUND_LAST_KIND : Fld := { addr := 0x01160040, lsb := 0, width := 3, acc := .ro, rst := .const 0 }
def REDUND_LAST_HITLESS : Fld := { addr := 0x01160040, lsb := 3, width := 1, acc := .ro, rst := .const 0 }
def REDUND_LAST_LAYMARK : Fld := { addr := 0x01160040, lsb := 4, width := 2, acc := .ro, rst := .const 0 }
def REDUND_LAST_LOST : Fld := { addr := 0x01160040, lsb := 6, width := 1, acc := .ro, rst := .const 0 }
def REDUND_LAST_EPOCH : Fld := { addr := 0x01160040, lsb := 32, width := 32, acc := .ro, rst := .const 0 }
def REDUND_LAST_FRAME : Fld := { addr := 0x01160040, lsb := 64, width := 32, acc := .ro, rst := .const 0 }
def REDUND_LAST_DURATION_US : Fld := { addr := 0x01160040, lsb := 96, width := 16, acc := .ro, rst := .const 0 }
end F

namespace D
def REDUND_CTRL : RegDesc := { base := 0x01160000, words := 1, flds := [F.REDUND_CTRL_EN, F.REDUND_CTRL_REVERT, F.REDUND_CTRL_AUTO_SURR, F.REDUND_CTRL_SURRENDER, F.REDUND_CTRL_TAKEBACK, F.REDUND_CTRL_RESTORE] }
def REDUND_CFG : RegDesc := { base := 0x01160008, words := 1, flds := [F.REDUND_CFG_PEER_PORT, F.REDUND_CFG_HOLDOFF_S, F.REDUND_CFG_WDOG_MS] }
def REDUND_STATUS : RegDesc := { base := 0x01160010, words := 2, flds := [F.REDUND_STATUS_ROLE, F.REDUND_STATUS_PRIMARY, F.REDUND_STATUS_HB_NET, F.REDUND_STATUS_HB_PIN, F.REDUND_STATUS_CKPT_CURRENT, F.REDUND_STATUS_HEALTHY, F.REDUND_STATUS_PEER_HEALTHY, F.REDUND_STATUS_RESTORE_ERR, F.REDUND_STATUS_HOLDOFF_REM, F.REDUND_STATUS_PEER_SEQ] }
def REDUND_CKPT : RegDesc := { base := 0x01160018, words := 2, flds := [F.REDUND_CKPT_SEQ, F.REDUND_CKPT_GAPS, F.REDUND_CKPT_LAG_US] }
def REDUND_HEALTH : RegDesc := { base := 0x01160020, words := 4, flds := [F.REDUND_HEALTH_MARCH_PASSES, F.REDUND_HEALTH_MARCH_FAIL, F.REDUND_HEALTH_SHADOW_FAIL, F.REDUND_HEALTH_LANE_ERR, F.REDUND_HEALTH_SHADOW_CMP, F.REDUND_HEALTH_SHADOW_MISM, F.REDUND_HEALTH_PRBS_ERR, F.REDUND_HEALTH_CHECKED_S] }
def REDUND_WDOG : RegDesc := { base := 0x01160030, words := 1, flds := [F.REDUND_WDOG_KICK] }
def REDUND_LAST : RegDesc := { base := 0x01160040, words := 4, flds := [F.REDUND_LAST_KIND, F.REDUND_LAST_HITLESS, F.REDUND_LAST_LAYMARK, F.REDUND_LAST_LOST, F.REDUND_LAST_EPOCH, F.REDUND_LAST_FRAME, F.REDUND_LAST_DURATION_US] }
end D

/-- The registers of block REDUND. -/
def blkRedund : List RegDesc :=
  [D.REDUND_CTRL, D.REDUND_CFG, D.REDUND_STATUS, D.REDUND_CKPT, D.REDUND_HEALTH, D.REDUND_WDOG, D.REDUND_LAST]

/-! ## Block FLASH, base 0x0118_0000 -/

namespace F
def FLASH_CMD_OP : Fld := { addr := 0x01180000, lsb := 0, width := 3, acc := .wo, rst := .const 0 }
def FLASH_CMD_ADDR : Fld := { addr := 0x01180000, lsb := 32, width := 32, acc := .wo, rst := .const 0 }
def FLASH_STATUS_BUSY : Fld := { addr := 0x01180008, lsb := 0, width := 1, acc := .ro, rst := .const 0 }
def FLASH_STATUS_QUEUED : Fld := { addr := 0x01180008, lsb := 1, width := 1, acc := .ro, rst := .const 0 }
def FLASH_STATUS_RESULT : Fld := { addr := 0x01180008, lsb := 2, width := 3, acc := .ro, rst := .const 0 }
def FLASH_STATUS_MODE : Fld := { addr := 0x01180008, lsb := 5, width := 3, acc := .ro, rst := .const 0 }
def FLASH_STATUS_DENSITY : Fld := { addr := 0x01180008, lsb := 8, width := 5, acc := .ro, rst := .const 0 }
def FLASH_BUF_DATA : Fld := { addr := 0x01181000, lsb := 0, width := 32, acc := .rw, rst := .const 0, bs := 32, bn := 64 }
end F

namespace D
def FLASH_CMD : RegDesc := { base := 0x01180000, words := 2, flds := [F.FLASH_CMD_OP, F.FLASH_CMD_ADDR] }
def FLASH_STATUS : RegDesc := { base := 0x01180008, words := 1, flds := [F.FLASH_STATUS_BUSY, F.FLASH_STATUS_QUEUED, F.FLASH_STATUS_RESULT, F.FLASH_STATUS_MODE, F.FLASH_STATUS_DENSITY] }
def FLASH_BUF : RegDesc := { base := 0x01181000, words := 64, flds := [F.FLASH_BUF_DATA] }
end D

/-- The registers of block FLASH. -/
def blkFlash : List RegDesc :=
  [D.FLASH_CMD, D.FLASH_STATUS, D.FLASH_BUF]

/-- The registers of the block whose base is `b` × 64 KiB (R8); blocks HOSTIF and DEBUG have none. -/
def blockRegs (b : Nat) : List RegDesc :=
  match b with
  | 0x100 => blkSys
  | 0x101 => blkBoot
  | 0x102 => blkClk
  | 0x103 => blkPwr
  | 0x104 => blkBus
  | 0x105 => blkFault
  | 0x106 => blkMon
  | 0x107 => blkTherm
  | 0x108 => blkHkadc
  | 0x109 => blkPwm
  | 0x10A => blkTime
  | 0x10B => blkSeq
  | 0x10C => blkSolve
  | 0x10D => blkLay
  | 0x10E => blkLoop
  | 0x10F => blkDrive
  | 0x110 => blkSense
  | 0x111 => blkCal
  | 0x112 => blkStrand
  | 0x113 => blkBraid
  | 0x114 => blkSwitch
  | 0x115 => blkSched
  | 0x116 => blkRedund
  | 0x118 => blkFlash
  | _ => []

end Sys2Proof.Machine
end

