-- ==== Sys2Proof/Machine/Sparse.lean ====
section
/-! DEFINITION. Sparse tables: association lists in one canonical form, keys strictly rising and no
entry equal to what an unlisted key reads as.  The register fields and the memories are held so. -/

namespace Sys2Proof.Machine

/-- The value at key `k`; `d` where `k` is not listed. -/
def Sparse.get {β : Type} (d : β) : List (Nat × β) → Nat → β
  | [], _ => d
  | (a, v) :: l, k => if a = k then v else if k < a then d else Sparse.get d l k

/-- The table with key `k` holding `v`; the entry goes when `v` is the unlisted value `d`. -/
def Sparse.put {β : Type} [DecidableEq β] (d : β) : List (Nat × β) → Nat → β → List (Nat × β)
  | [], k, v => if v = d then [] else [(k, v)]
  | (a, w) :: l, k, v =>
    if a < k then (a, w) :: Sparse.put d l k v
    else if a = k then (if v = d then l else (k, v) :: l)
    else if v = d then (a, w) :: l else (k, v) :: (a, w) :: l

/-- The table without its keys in `lo … hi - 1`. -/
def Sparse.clear {β : Type} (l : List (Nat × β)) (lo hi : Nat) : List (Nat × β) :=
  l.filter (fun p => p.1 < lo || hi ≤ p.1)

/-- The canonical form: every key above `lo`, keys strictly rising, no entry equal to `d`. -/
def Sparse.wfAbove {β : Type} [DecidableEq β] (d : β) (lo : Nat) : List (Nat × β) → Bool
  | [] => true
  | (a, v) :: l => decide (lo ≤ a) && decide (v ≠ d) && Sparse.wfAbove d (a + 1) l

/-- The canonical form of a memory of bytes whose unlisted bytes read 0. -/
def Memory.wf (m : List (Nat × BitVec 8)) : Bool := Sparse.wfAbove 0 0 m

end Sys2Proof.Machine
end

