-- ==== Sys2Proof/Syntax.lean ====
section
/-! DEFINITION. The commands of the block: one constructor per row of spec/opcode_table.json, and the
operand types their rows need. -/

namespace Sys2Proof

/-- The bus masters of R434, numbered as `BUS_MASTER[m]` numbers them. -/
abbrev Master := Fin 14

/-- One access of a master to a register block (R11, R13): `size` bytes at `addr`, a write when
`write` holds (the datum of a read is ignored). -/
structure RegAccess where
  m : Master
  addr : BitVec 32
  size : Nat
  write : Bool
  data : BitVec 64
  deriving DecidableEq, Repr

/-- One access of a master to an on-chip memory (R7, R11), or a burst of `size` / 8 beats, 2 to 32, whose later beats' data are
`more` (R436). -/
structure MemAccess where
  m : Master
  addr : BitVec 32
  size : Nat
  write : Bool
  data : BitVec 64
  more : List (BitVec 64) := []
  deriving DecidableEq, Repr

/-- The fields of a Wicker instruction word other than its opcode (R83). -/
structure Fields where
  dst : BitVec 5
  src1 : BitVec 5
  src2 : BitVec 5
  gp : BitVec 3
  gs : BitVec 1
  mod : BitVec 5
  imm : BitVec 32
  deriving DecidableEq, Repr

/-- The operands of a `SEQ_HCMD` submission with OP 0 to 3 (02, SEQ_HCMD). -/
structure HostCmd where
  epoch : BitVec 32
  seqnum : BitVec 32
  input : BitVec 16
  output : BitVec 16
  deriving DecidableEq, Repr
/-! Operand types of the event rows. -/

/-- What one physical lane receives in one inbound frame (R269, R279), as descrambled: by how many blocks the header
came after the window of R270 (before it where negative, within it where 0), the header and blocks 1 to 37. -/
structure LaneRx where
  lane : Nat
  offset : Int
  header : BitVec 64
  blocks : List (BitVec 64)
  deriving DecidableEq, Repr

/-- What the identity memory holds, as loaded at link start (R282, R287): the descriptor and AUTH and
IDENT bytes, HOURS, the factory defect entries, and the listed WEAR, CAL and SENSECAL entries (unlisted
entries are zero words, and an unlisted CAL entry is five invalid sets). -/
structure IdentityLoad where
  desc : List (BitVec 8)
  ident : List (BitVec 8)
  auth : List (BitVec 8)
  hours : BitVec 32
  defects : List (BitVec 64)
  wear : List (Nat × BitVec 32)
  cal : List (Nat × List (BitVec 32))
  senseCal : List (Nat × BitVec 32 × BitVec 32)
  deriving DecidableEq, Repr

/-- A Triene frame: the header of R292 and the payload. -/
structure TFrame where
  typ : BitVec 8
  cls : BitVec 3
  hops : BitVec 8
  dst : BitVec 16
  src : BitVec 16
  flags : BitVec 16
  seqnum : BitVec 32
  epoch : BitVec 32
  ref : BitVec 32
  payload : List (BitVec 8)
  deriving DecidableEq, Repr

/-- A `SEQ_NET_OPEN` submission (R300). -/
structure NetOpen where
  epoch : BitVec 32
  layFrame : BitVec 32
  win : BitVec 8
  tree : BitVec 2
  sNet : BitVec 3
  deriving DecidableEq, Repr

/-- A heartbeat frame of the peer (R358). -/
structure Heartbeat where
  role : BitVec 2
  hbSeq : BitVec 32
  ackSeq : BitVec 32
  healthy : Bool
  summary : BitVec 128
  surrender : Bool
  resync : Bool
  takeback : Bool
  deriving DecidableEq, Repr

/-- The sections of the checkpoint image (R355) and the two special records (R369, R372). -/
inductive CkptSection where
  | header | ledger | laymark | laymarkState | defect | wear | loops | aux | senseCal | cal
  | shadow | handover
  deriving DecidableEq, Repr

/-- A checkpoint record (R356): its SEQ, section, offset and data words. -/
structure CkptRecord where
  seqnum : BitVec 32
  sect : CkptSection
  offset : Nat
  data : List (BitVec 32)
  deriving DecidableEq, Repr

/-- What a round delivers of one input (R395 to R398): the mean of its conversions in codes, as binary32
(for a remote diode the mean 100 µA reading less the mean 10 µA reading; for an on-die sensor its
fuse-trimmed reading in °C), the code of its last conversion, and whether any was over-range. -/
structure HkConv where
  input : Nat
  mean : BitVec 32
  last : BitVec 14
  ovr : Bool
  deriving DecidableEq, Repr

/-- The windowed clock monitors of R420. -/
inductive ClockMon where
  | xr | rl | xl | ref
  deriving DecidableEq, Repr

/-- The continuous clock detectors of R420: the amplitude detector and the four PLL lock detectors. -/
inductive ClockDetector where
  | amp
  | lock (pll : Fin 4)
  deriving DecidableEq, Repr

/-- The commands: one constructor per row of spec/opcode_table.json, in the table's order. -/
inductive Instr where
  /-- REGISTER_WRITE -/
  | registerWrite (a : RegAccess)
  /-- MEMORY_WRITE -/
  | memoryWrite (a : MemAccess)
  /-- DEFAULT_TARGET_ACCESS -/
  | defaultTargetAccess (m : Master) (addr : BitVec 32) (isWrite : Bool)
  /-- POWER_ON_RESET -/
  | powerOnReset
  /-- RESET_N_RESET -/
  | resetNReset
  /-- SOFT_RESET -/
  | softReset
  /-- DEBUG_RESET -/
  | debugReset
  /-- PCIE_FLR -/
  | pcieFlr (linkLost : Bool)
  /-- LC_NONCE -/
  | lcNonce
  /-- LC_GO -/
  | lcGo (target : BitVec 3)
  /-- FLASH_READ -/
  | flashRead (addr : BitVec 32)
  /-- FLASH_PROGRAM -/
  | flashProgram (addr : BitVec 32)
  /-- FLASH_ERASE_4K -/
  | flashErase4k (addr : BitVec 32)
  /-- FLASH_ERASE_64K -/
  | flashErase64k (addr : BitVec 32)
  /-- FLASH_CMD_DONE -/
  | flashCmdDone (ok : Bool)
  /-- FLASH_QUEUE_ISSUE -/
  | flashQueueIssue
  /-- NOP -/
  | nop (q : Fin 8) (w : Fields)
  /-- ADD -/
  | add (q : Fin 8) (w : Fields)
  /-- SUB -/
  | sub (q : Fin 8) (w : Fields)
  /-- MUL -/
  | mul (q : Fin 8) (w : Fields)
  /-- MULHU -/
  | mulhu (q : Fin 8) (w : Fields)
  /-- DIVU -/
  | divu (q : Fin 8) (w : Fields)
  /-- REMU -/
  | remu (q : Fin 8) (w : Fields)
  /-- AND -/
  | and (q : Fin 8) (w : Fields)
  /-- OR -/
  | or (q : Fin 8) (w : Fields)
  /-- XOR -/
  | xor (q : Fin 8) (w : Fields)
  /-- SHL -/
  | shl (q : Fin 8) (w : Fields)
  /-- SHR -/
  | shr (q : Fin 8) (w : Fields)
  /-- SAR -/
  | sar (q : Fin 8) (w : Fields)
  /-- ADDI -/
  | addi (q : Fin 8) (w : Fields)
  /-- ANDI -/
  | andi (q : Fin 8) (w : Fields)
  /-- ORI -/
  | ori (q : Fin 8) (w : Fields)
  /-- XORI -/
  | xori (q : Fin 8) (w : Fields)
  /-- SHLI -/
  | shli (q : Fin 8) (w : Fields)
  /-- SHRI -/
  | shri (q : Fin 8) (w : Fields)
  /-- SARI -/
  | sari (q : Fin 8) (w : Fields)
  /-- MOVI -/
  | movi (q : Fin 8) (w : Fields)
  /-- MOVHI -/
  | movhi (q : Fin 8) (w : Fields)
  /-- MIN -/
  | min (q : Fin 8) (w : Fields)
  /-- MAX -/
  | max (q : Fin 8) (w : Fields)
  /-- MINU -/
  | minu (q : Fin 8) (w : Fields)
  /-- MAXU -/
  | maxu (q : Fin 8) (w : Fields)
  /-- POPC -/
  | popc (q : Fin 8) (w : Fields)
  /-- CLZ -/
  | clz (q : Fin 8) (w : Fields)
  /-- BFX -/
  | bfx (q : Fin 8) (w : Fields)
  /-- BFI -/
  | bfi (q : Fin 8) (w : Fields)
  /-- CMP -/
  | cmp (q : Fin 8) (w : Fields)
  /-- CMPI -/
  | cmpi (q : Fin 8) (w : Fields)
  /-- PAND -/
  | pand (q : Fin 8) (w : Fields)
  /-- PXOR -/
  | pxor (q : Fin 8) (w : Fields)
  /-- POR -/
  | por (q : Fin 8) (w : Fields)
  /-- PNOT -/
  | pnot (q : Fin 8) (w : Fields)
  /-- PGET -/
  | pget (q : Fin 8) (w : Fields)
  /-- PPUT -/
  | pput (q : Fin 8) (w : Fields)
  /-- SQID -/
  | sqid (q : Fin 8) (w : Fields)
  /-- RDCYC -/
  | rdcyc (q : Fin 8) (w : Fields)
  /-- FADD -/
  | fadd (q : Fin 8) (w : Fields)
  /-- FSUB -/
  | fsub (q : Fin 8) (w : Fields)
  /-- FMUL -/
  | fmul (q : Fin 8) (w : Fields)
  /-- FDIV -/
  | fdiv (q : Fin 8) (w : Fields)
  /-- FSQRT -/
  | fsqrt (q : Fin 8) (w : Fields)
  /-- FMA -/
  | fma (q : Fin 8) (w : Fields)
  /-- FMIN -/
  | fmin (q : Fin 8) (w : Fields)
  /-- FMAX -/
  | fmax (q : Fin 8) (w : Fields)
  /-- FABS -/
  | fabs (q : Fin 8) (w : Fields)
  /-- FNEG -/
  | fneg (q : Fin 8) (w : Fields)
  /-- FCMP -/
  | fcmp (q : Fin 8) (w : Fields)
  /-- FCVT_S_L -/
  | fcvtSL (q : Fin 8) (w : Fields)
  /-- FCVT_L_S -/
  | fcvtLS (q : Fin 8) (w : Fields)
  /-- FMOVI -/
  | fmovi (q : Fin 8) (w : Fields)
  /-- FMVGF -/
  | fmvgf (q : Fin 8) (w : Fields)
  /-- FMVFG -/
  | fmvfg (q : Fin 8) (w : Fields)
  /-- LD -/
  | ld (q : Fin 8) (w : Fields)
  /-- ST -/
  | st (q : Fin 8) (w : Fields)
  /-- FLD -/
  | fld (q : Fin 8) (w : Fields)
  /-- FST -/
  | fst (q : Fin 8) (w : Fields)
  /-- CAS -/
  | cas (q : Fin 8) (w : Fields)
  /-- AADD -/
  | aadd (q : Fin 8) (w : Fields)
  /-- RDX -/
  | rdx (q : Fin 8) (w : Fields)
  /-- WRX -/
  | wrx (q : Fin 8) (w : Fields)
  /-- FENCE -/
  | fence (q : Fin 8) (w : Fields)
  /-- FENCE_DONE -/
  | fenceDone (q : Fin 8)
  /-- BR -/
  | br (q : Fin 8) (w : Fields)
  /-- JMP -/
  | jmp (q : Fin 8) (w : Fields)
  /-- CALL -/
  | call (q : Fin 8) (w : Fields)
  /-- CALLR -/
  | callr (q : Fin 8) (w : Fields)
  /-- LOOP -/
  | loop (q : Fin 8) (w : Fields)
  /-- ILLEGAL_OPCODE -/
  | illegalOpcode (q : Fin 8) (word : BitVec 64)
  /-- UNPIN -/
  | unpin (q : Fin 8) (w : Fields)
  /-- DISC -/
  | disc (q : Fin 8) (w : Fields)
  /-- CONN -/
  | conn (q : Fin 8) (w : Fields)
  /-- PIN -/
  | pin (q : Fin 8) (w : Fields)
  /-- LEDGER_STALL_RESUME -/
  | ledgerStallResume (q : Fin 8)
  /-- EPOCH -/
  | epoch (q : Fin 8) (w : Fields)
  /-- ABORT -/
  | abort (q : Fin 8) (w : Fields)
  /-- ABORT_RESOLVED -/
  | abortResolved (q : Fin 8)
  /-- SOLVE -/
  | solve (q : Fin 8) (w : Fields)
  /-- TRIAL_SOLVE_DONE -/
  | trialSolveDone (q : Fin 8)
  /-- STAGE -/
  | stage (q : Fin 8) (w : Fields)
  /-- LAY -/
  | lay (q : Fin 8) (w : Fields)
  /-- LAY_EPOCH_END -/
  | layEpochEnd (q : Fin 8)
  /-- VERIFY -/
  | verify (q : Fin 8) (w : Fields)
  /-- READW_IN -/
  | readwIn (q : Fin 8) (w : Fields)
  /-- READW_OUT -/
  | readwOut (q : Fin 8) (w : Fields)
  /-- READW_CELL -/
  | readwCell (q : Fin 8) (w : Fields)
  /-- READW_ST -/
  | readwSt (q : Fin 8) (w : Fields)
  /-- READW_ST_FINAL -/
  | readwStFinal (q : Fin 8)
  /-- READW_STABLE -/
  | readwStable (q : Fin 8) (w : Fields)
  /-- LSET -/
  | lset (q : Fin 8) (w : Fields)
  /-- LMODE -/
  | lmode (q : Fin 8) (w : Fields)
  /-- LPRESET -/
  | lpreset (q : Fin 8) (w : Fields)
  /-- LINJ -/
  | linj (q : Fin 8) (w : Fields)
  /-- LCAP -/
  | lcap (q : Fin 8) (w : Fields)
  /-- SEND -/
  | send (q : Fin 8) (w : Fields)
  /-- SEND_QUEUE_ROOM -/
  | sendQueueRoom (q : Fin 8)
  /-- RECV -/
  | recv (q : Fin 8) (w : Fields)
  /-- RECV_FRAME_READY -/
  | recvFrameReady (q : Fin 8)
  /-- RECV_N -/
  | recvN (q : Fin 8) (w : Fields)
  /-- ACK -/
  | ack (q : Fin 8) (w : Fields)
  /-- WAITT -/
  | waitt (q : Fin 8) (w : Fields)
  /-- WAITT_RESUME -/
  | waittResume (q : Fin 8)
  /-- WAITE -/
  | waite (q : Fin 8) (w : Fields)
  /-- WAITE_RESUME -/
  | waiteResume (q : Fin 8)
  /-- TNOW -/
  | tnow (q : Fin 8) (w : Fields)
  /-- HIST -/
  | hist (q : Fin 8) (w : Fields)
  /-- FRAISE -/
  | fraise (q : Fin 8) (w : Fields)
  /-- FACK -/
  | fack (q : Fin 8) (w : Fields)
  /-- HALT -/
  | halt (q : Fin 8) (w : Fields)
  /-- SLEEP -/
  | sleep (q : Fin 8) (w : Fields)
  /-- SLEEP_WAKE -/
  | sleepWake (q : Fin 8)
  /-- SYNC -/
  | sync (q : Fin 8) (w : Fields)
  /-- TRAP -/
  | trap (q : Fin 8) (w : Fields)
  /-- HOOK_START -/
  | hookStart (q : Fin 8)
  /-- SQ_STOP -/
  | sqStop (mask : BitVec 8)
  /-- SQ_EN -/
  | sqEn (mask : BitVec 8)
  /-- TRAP_CLR -/
  | trapClr (mask : BitVec 8)
  /-- SEQ_DOORBELL -/
  | seqDoorbell (value : BitVec 32)
  /-- HCMD_UNPIN -/
  | hcmdUnpin (h : HostCmd)
  /-- HCMD_DISC -/
  | hcmdDisc (h : HostCmd)
  /-- HCMD_CONN -/
  | hcmdConn (h : HostCmd)
  /-- HCMD_PIN -/
  | hcmdPin (h : HostCmd)
  /-- HCMD_OPEN_EPOCH -/
  | hcmdOpenEpoch (e : BitVec 32) (frame : BitVec 32)
  /-- HCMD_ABORT_EPOCH -/
  | hcmdAbortEpoch (e : BitVec 32)
  /-- SEQ_ENTRY_READ -/
  | seqEntryRead (m : Master) (i : Fin 2048)
  /-- ENTRY_DELIVERY_TIMEOUT -/
  | entryDeliveryTimeout (i : Fin 2048)
  /-- SEAL -/
  | sealEpoch (e : BitVec 32)
  /-- EPOCH_EVALUATE_DEFERRED -/
  | epochEvaluateDeferred (e : BitVec 32)
  /-- SLOT_FREED_SOLVE -/
  | slotFreedSolve (e : BitVec 32)
  /-- SOLVE_DONE -/
  | solveDone
  /-- WEAVE_RESOLVE -/
  | weaveResolve (slot : Fin 16)
  /-- STAGE_WEAVE -/
  | stageWeave (e : BitVec 32)
  /-- STAGING_DEADLINE -/
  | stagingDeadline (e : BitVec 32)
  /-- LAY_INSTANT -/
  | layInstant (e : BitVec 32)
  /-- LAY_STROBE -/
  | layStrobe
  /-- LAY_HAND_BACK -/
  | layHandBack
  /-- SETTLE_CHECK -/
  | settleCheck
  /-- UNBLANK -/
  | unblank
  /-- LAY_COMPLETE -/
  | layComplete
  /-- LAGGING_CHECK -/
  | laggingCheck
  /-- LAY_REOPEN -/
  | layReopen (output : BitVec 10)
  /-- LAY_ENABLE -/
  | layEnable (en : Bool)
  /-- LAY_FLUSH -/
  | layFlush
  /-- RESTORING_LAY_START -/
  | restoringLayStart
  /-- OUTBOUND_FRAME -/
  | outboundFrame
  /-- DRIVE_STROBE_FIRE -/
  | driveStrobeFire (mask : BitVec 16)
  /-- DRIVE_RECORD_REBUILD -/
  | driveRecordRebuild (ch : Fin 45056)
  /-- INBOUND_FRAME -/
  | inboundFrame (lanes : List LaneRx)
  /-- LOOP_PERIOD -/
  | loopPeriod
  /-- GRADIENT_BLOCK -/
  | gradientBlock
  /-- KNOWN_ANSWER_TEST -/
  | knownAnswerTest (failed : BitVec 18)
  /-- LOOP_CORE_RETIRE -/
  | loopCoreRetire (core : BitVec 5)
  /-- LOOP_ENABLE -/
  | loopEnable (en : Bool)
  /-- LOOP_CAP_STOP -/
  | loopCapStop (mask : BitVec 48)
  /-- CAPTURE_DONE -/
  | captureDone (ch : Fin 48)
  /-- INJECTION_END -/
  | injectionEnd (loopNo : Fin 21568)
  /-- AUX_LOOP_ENABLE -/
  | auxLoopEnable (a : Fin 64)
  /-- CAL_REQ -/
  | calReq (object : BitVec 17) (sense : Bool)
  /-- CAL_RUN_START -/
  | calRunStart
  /-- CAL_DWELL -/
  | calDwell (object : BitVec 17)
  /-- CAL_RUN_END -/
  | calRunEnd (object : BitVec 17)
  /-- SENSE_CAL_STEP -/
  | senseCalStep (object : BitVec 17)
  /-- SENSE_CAL_RUN_END -/
  | senseCalRunEnd (object : BitVec 17)
  /-- BLEND_START -/
  | blendStart
  /-- PASSIVE_OBSERVATION -/
  | passiveObservation
  /-- PASSIVE_EXPIRE -/
  | passiveExpire (cell : Fin 21504)
  /-- CAL_ENABLE -/
  | calEnable (en : Bool)
  /-- CAL_ABORT -/
  | calAbort
  /-- CAL_AREA_RELOAD -/
  | calAreaReload (cell : Fin 21504) (entry : List (BitVec 32))
  /-- STRAND_START -/
  | strandStart
  /-- LINK_TRAINED -/
  | linkTrained (locked : BitVec 96)
  /-- LINK_ALIGNED -/
  | linkAligned (adv : List (Nat × BitVec 8))
  /-- CART_AUTH_RESPONSE -/
  | cartAuthResponse (sig : BitVec 512)
  /-- LINK_IDENTIFIED -/
  | linkIdentified (id : IdentityLoad)
  /-- STRAND_STREAM -/
  | strandStream
  /-- STREAM_ECHO_READY -/
  | streamEchoReady
  /-- STRAND_STOP -/
  | strandStop
  /-- PORT_REQ -/
  | portReq
  /-- PORT_REL -/
  | portRel
  /-- LANE_FAILURE -/
  | laneFailure (lane : Fin 96)
  /-- SPARE_SWITCH -/
  | spareSwitch
  /-- STRAND_LANE_TEST -/
  | strandLaneTest (lane : BitVec 7)
  /-- LANE_TEST_END -/
  | laneTestEnd (lane : Fin 96) (pass : Bool)
  /-- ID_READ -/
  | idRead (waddr : BitVec 22)
  /-- ID_WRITE -/
  | idWrite (waddr : BitVec 22) (data : BitVec 32)
  /-- WRITE_BACK -/
  | writeBack
  /-- POWERED_HOUR -/
  | poweredHour
  /-- WEAR_FOLD -/
  | wearFold
  /-- DMAP_ADD -/
  | dmapAdd (entry : BitVec 32)
  /-- DMAP_REMOVE -/
  | dmapRemove (entry : BitVec 32)
  /-- MEM_PARITY -/
  | memParity (addr : BitVec 32) (byMaster : Master)
  /-- INSTR_PARITY_RELOAD -/
  | instrParityReload (index : BitVec 16)
  /-- COMMAND_FRAME -/
  | commandFrame (f : TFrame)
  /-- STATUS_FRAME -/
  | statusFrame (f : TFrame)
  /-- DATA_FRAME -/
  | dataFrame (f : TFrame)
  /-- ACK_FRAME -/
  | ackFrame (f : TFrame)
  /-- QUERY -/
  | query (f : TFrame)
  /-- REPLY -/
  | reply (f : TFrame)
  /-- COMMAND_RETRANSMIT -/
  | commandRetransmit (e : BitVec 32) (op : BitVec 8) (seqnum : BitVec 32)
  /-- SEQ_NET_OPEN -/
  | seqNetOpen (o : NetOpen)
  /-- PREPARE -/
  | prepare (f : TFrame)
  /-- READY -/
  | ready (f : TFrame)
  /-- READY_DEADLINE -/
  | readyDeadline (e : BitVec 32)
  /-- COMMIT -/
  | commit (f : TFrame)
  /-- ABORT_FRAME -/
  | abortFrame (f : TFrame)
  /-- MISSED -/
  | missed (f : TFrame)
  /-- LANDED -/
  | landed (f : TFrame)
  /-- STABLE -/
  | stable (f : TFrame)
  /-- BRAID_FRAME_RX -/
  | braidFrameRx (port : Fin 16) (frame : List Byte)
  /-- TRANSMIT_START -/
  | transmitStart (port : Fin 19)
  /-- TRANSMIT_END -/
  | transmitEnd (port : Fin 19)
  /-- BRAID_LINK_DOWN -/
  | braidLinkDown (port : Fin 16)
  /-- BRAID_LINK_UP -/
  | braidLinkUp (port : Fin 16)
  /-- LAG_REJOIN -/
  | lagRejoin (g : Fin 4)
  /-- LAG_REJOIN_DONE -/
  | lagRejoinDone (g : Fin 4)
  /-- GATE_COMMIT -/
  | gateCommit (port : Fin 16)
  /-- GATE_LIST_START -/
  | gateListStart (port : Fin 16)
  /-- GATE_ENTRY_CHANGE -/
  | gateEntryChange (port : Fin 16)
  /-- QUEUE_SAMPLE -/
  | queueSample
  /-- SWITCH_HOST_TX -/
  | switchHostTx (value : BitVec 32)
  /-- HOST_FRAME_ENTER -/
  | hostFrameEnter
  /-- HOST_RX_POP -/
  | hostRxPop
  /-- TIME_INC -/
  | timeInc (t : Fin 4) (inc : BitVec 64)
  /-- TIME_ADJ -/
  | timeAdj (t : Fin 4) (adj : BitVec 64)
  /-- SLEW_END -/
  | slewEnd
  /-- LOCK_ASSERT -/
  | lockAssert (t : Fin 4)
  /-- LOCK_CLEAR -/
  | lockClear (t : Fin 4)
  /-- LOCK_EXPIRE -/
  | lockExpire (t : Fin 4)
  /-- CMP_ARM -/
  | cmpArm (n : Fin 16) (target : Option (BitVec 64))
  /-- CMP_DISARM -/
  | cmpDisarm (n : Fin 16)
  /-- CMP_FIRE -/
  | cmpFire (n : Fin 16)
  /-- PPS_OUT_PULSE -/
  | ppsOutPulse
  /-- PPS_IN_EDGE -/
  | ppsInEdge
  /-- LAY_SYNC_OUT_PULSE -/
  | laySyncOutPulse
  /-- LAY_SYNC_IN_EDGE -/
  | laySyncInEdge
  /-- HEARTBEAT_SEND -/
  | heartbeatSend
  /-- HEARTBEAT_FRAME_RX -/
  | heartbeatFrameRx (hb : Heartbeat)
  /-- HEARTBEAT_PULSE_IN -/
  | heartbeatPulseIn (ns : BitVec 16)
  /-- REDUND_SURRENDER -/
  | redundSurrender
  /-- PEER_LOST -/
  | peerLost
  /-- HB_PATH -/
  | hbPath
  /-- FAILOVER_GRANT -/
  | failoverGrant
  /-- FAILOVER_ECHO_READY -/
  | failoverEchoReady
  /-- FAILOVER_GRANT_TIMEOUT -/
  | failoverGrantTimeout
  /-- REDUND_WDOG -/
  | redundWdog
  /-- WATCHDOG_EXPIRE -/
  | watchdogExpire
  /-- CKPT_RECORD_RX -/
  | ckptRecordRx (r : CkptRecord)
  /-- CKPT_GAP_TIMEOUT -/
  | ckptGapTimeout
  /-- CKPT_RESYNC_DONE -/
  | ckptResyncDone
  /-- SHADOW_SEND -/
  | shadowSend
  /-- MARCH_PASS_END -/
  | marchPassEnd (mismatch : Bool)
  /-- TAKEBACK_HOLDOFF -/
  | takebackHoldoff
  /-- REDUND_TAKEBACK -/
  | redundTakeback
  /-- TAKEBACK_QUIESCED -/
  | takebackQuiesced
  /-- HANDOVER_FRAME -/
  | handoverFrame
  /-- TAKEBACK_TIMEOUT -/
  | takebackTimeout
  /-- REDUND_RESTORE -/
  | redundRestore
  /-- FAULT_RAISE -/
  | faultRaise (src : Fin 128) (detail : BitVec 32)
  /-- FAULT_FORCE -/
  | faultForce (src : Fin 128)
  /-- FAULT_ACK_WRITE -/
  | faultAckWrite (src : Fin 128)
  /-- RELEASE_FREEZE -/
  | releaseFreeze
  /-- RELEASE_HOLD -/
  | releaseHold
  /-- RELEASE_SAFE -/
  | releaseSafe
  /-- SAFE_N_ASSERT -/
  | safeNAssert
  /-- SAFE_N_DEASSERT -/
  | safeNDeassert
  /-- MON_SNAP -/
  | monSnap (hists : BitVec 32) (trks : BitVec 16)
  /-- MON_HOP_IN -/
  | monHopIn (p : Fin 16) (ns : BitVec 32)
  /-- HIST_CONFIG_WRITE -/
  | histConfigWrite (e : Fin 32) (word : Fin 4) (value : BitVec 32)
  /-- TRACKER_CONFIG_WRITE -/
  | trackerConfigWrite (k : Fin 16) (value : BitVec 32)
  /-- MONITOR_SAMPLE -/
  | monitorSample
  /-- HK_ROUND_START -/
  | hkRoundStart
  /-- HK_PUBLISH -/
  | hkPublish (convs : List HkConv)
  /-- PWM_RELOAD -/
  | pwmReload (n : Fin 8)
  /-- PWM_SYNC_IN_EDGE -/
  | pwmSyncInEdge
  /-- PWM_ENABLE -/
  | pwmEnable (n : Fin 8) (en : Bool)
  /-- TRIP_ASSERT -/
  | tripAssert (k : Fin 4)
  /-- TRIP_CLR -/
  | tripClr (mask : BitVec 4)
  /-- CLOCK_MONITOR_WINDOW -/
  | clockMonitorWindow (mon : ClockMon) (count : BitVec 32)
  /-- CLOCK_DETECTOR_FAIL -/
  | clockDetectorFail (d : ClockDetector)
  /-- XTAL_QUALIFIED -/
  | xtalQualified
  /-- XTAL_QUAL_TIMEOUT -/
  | xtalQualTimeout (level2 : Bool)
  /-- PLL_LOCK -/
  | pllLock (pll : Fin 4)
  /-- CLK_DOM_SRC -/
  | clkDomSrc (d : Fin 10) (fallback : Bool)
  /-- CLOCK_SWITCH_TIMEOUT -/
  | clockSwitchTimeout (d : Fin 10)
  /-- REFCLK_RESTORED -/
  | refclkRestored
  /-- GATE_FORCE_TIMEOUT -/
  | gateForceTimeout (block : BitVec 32)
  /-- PWR_CTRL -/
  | pwrCtrl (target : BitVec 2)
  /-- POWER_TRANSITION_DONE -/
  | powerTransitionDone
  /-- BUS_TARGET_TIMEOUT -/
  | busTargetTimeout (m : Master) (addr : BitVec 32)
  /-- BUS_MASTER_RESET -/
  | busMasterReset (m : Master)
  /-- MASTER_RESET_DONE -/
  | masterResetDone (m : Master)
  /-- RESET_RELEASE -/
  | resetRelease
  /-- STARTUP_STEP_DONE -/
  | startupStepDone
  /-- PCIE_LINK_UP -/
  | pcieLinkUp
  /-- SENSE_VFY_REQ -/
  | senseVfyReq
  /-- VERIFY_PASS_DONE -/
  | verifyPassDone
  /-- SYNCE_SQUELCH_END -/
  | synceSquelchEnd (k : Fin 2)
  /-- HEALTH_FLAG_CLEAR -/
  | healthFlagClear (lane : Bool)
  /-- CKPT_ROLLING_UPDATE -/
  | ckptRollingUpdate (wear : Bool)
  deriving DecidableEq, Repr

end Sys2Proof
end

