-- ==== Sys2Proof/Machine/State.lean ====
section
/-! DEFINITION. The state of the block as plain data, the reasons a step can stop, and the state right
after a device reset.  Register fields live in `regs`, one cell per field whose value differs from its
reset value; the on-chip memories of R7 live in `mem`, one cell per byte that is not zero. -/

namespace Sys2Proof.Machine

/-- Reasons a step can stop with a fault.  No meaning of this model stops: every row of the table has an
effect, so the type has one constructor that nothing raises. -/
inductive Fault where
  /-- Raised by nothing; safe. -/
  | unreachable
  deriving DecidableEq, Repr

/-- Reasons a command has no meaning. -/
inductive Refusal where
  /-- The row has no meaning yet: answered by its arm of `exec` alone; safe. -/
  | notModelled (mnemonic : String)
  deriving DecidableEq, Repr

/-! ### Registers and bus (00, 17) -/

/-- The last response a master received from the bus (R9, R11, R13): `ok` false is an error response, which
the PCIe host sees as a completion with Completer Abort status (`ca`). -/
structure BusResp where
  ok : Bool
  data : BitVec 64
  ca : Bool := false
  /-- The data of a burst's later beats (R436). -/
  more : List W64 := []
  deriving DecidableEq, Repr

/-- A captured or held word of a wide register of one master (R13): register address, word number. -/
structure HeldWord where
  master : Nat
  reg : Nat
  word : Nat
  value : W32
  deriving DecidableEq, Repr

/-- The bus side of the state: read latches and write holds of R13, the last response per master. -/
structure BusState where
  latches : List HeldWord
  holds : List HeldWord
  resp : List (Nat × BusResp)
  /-- Masters held in reset by `BUS_MASTER[m]` (R439). -/
  inReset : List Nat
  deriving DecidableEq, Repr

/-! ### Time bases (13) -/

/-- One time base (R340, R341): the counter, its hidden 16-bit fraction, the wrap count, the slew
remainder in units of 2⁻³² ns (TB0 only, R343) and the TIME cycles LOCKED still has to run (R344). -/
structure TimeBase where
  now : W64
  frac : BitVec 16
  wraps : W32
  slew : Int
  lockLeft : Nat
  deriving DecidableEq, Repr

/-- The time bases, and the TIME cycles since the TIME domain first ran. -/
structure TimeState where
  tb : Vector TimeBase 4
  cycle : Nat
  deriving DecidableEq, Repr

/-! ### Sequencers (02, 03) -/

/-- The commands of R55, in class order. -/
inductive CmdOp where
  | unpin | disc | conn | pin
  deriving DecidableEq, Repr

/-- A status word of R61: CODE and DETAIL. -/
structure Status where
  code : Nat
  detail : Nat
  deriving DecidableEq, Repr

/-- A connection record (R126). -/
structure ConnRec where
  input : Nat
  output : Nat
  pinned : Bool
  moved : Bool
  valid : Bool
  epoch : W32
  deriving DecidableEq, Repr

/-- What a blocked sequencer waits for (R59, R89, R100, R113, R116, R120): the fields its completion
needs. -/
inductive Wait where
  | none
  /-- FENCE: the earlier accesses of the thread. -/
  | fence
  /-- A ledger command on a full ledger (R59). -/
  | stall (op : CmdOp) (w : Fields)
  /-- ABORT of an epoch (R104): destination register, epoch. -/
  | abort (dst : BitVec 5) (e : W32)
  /-- SOLVE (R105): destination register, buffer and its capacity, the trial's outcome: its status and, where
  it writes the buffer, the moves. -/
  | trial (dst : BitVec 5) (buf cap : Nat) (st : Status) (moves : Option (List ConnRec))
  /-- LAY (R107). -/
  | layEnd (dst : BitVec 5) (e : W32)
  /-- READW.st (R109): destination register, handle. -/
  | stFinal (dst : BitVec 5) (handle : W32)
  /-- SEND on a full transmit queue (R113). -/
  | send (w : Fields)
  /-- RECV on an empty queue (R113). -/
  | recv (w : Fields)
  /-- WAITT (R117): the base and its target. -/
  | waitt (tb : Fin 4) (target : W64)
  /-- WAITE (R118): the hook mask, and whether an event of it has occurred. -/
  | waite (mask : W32) (seen : Bool)
  /-- SLEEP (R120), as `waite`. -/
  | sleep (mask : W32) (seen : Bool)
  /-- A fetch whose instruction word failed parity (R79). -/
  | reload (index : BitVec 16)
  deriving DecidableEq, Repr

/-- The states of R47. -/
inductive SqState where
  | halted | idle | run | wait | sleep | trapped
  deriving DecidableEq, Repr

/-- One sequencer (R43, R47, R54): `preds` bit n is predicate pn, bit 0 always reads 1. -/
structure Seq where
  g : Vector W64 32
  f : Vector W32 16
  preds : BitVec 8
  pc : BitVec 16
  st : SqState
  hook : Nat
  cause : BitVec 8
  nmiPc : BitVec 16
  /-- A CLKFAIL thread is running (R54). -/
  nmi : Bool
  /-- The RDCYC counter. -/
  cyc : W64
  /-- What a blocked thread waits for: the instruction's fields and what its resume needs. -/
  wait : Wait
  deriving DecidableEq, Repr

/-! ### The ledger and epochs (02) -/

/-- A ledger command (R55, R56). -/
structure Cmd where
  op : CmdOp
  input : Nat
  output : Nat
  epoch : W32
  dev : BitVec 16
  seqnum : W32
  deriving DecidableEq, Repr

/-- A ledger entry (R60): the command, its status, whether it came in a COMMAND frame of another
device. -/
structure Entry where
  cmd : Cmd
  status : Status
  remote : Bool
  deriving DecidableEq, Repr

/-- One connection of a connection set, with the epoch that last changed it (R73). -/
structure Conn where
  input : Nat
  output : Nat
  pinned : Bool
  epoch : W32
  deriving DecidableEq, Repr

/-- The states of R63. -/
inductive EpState where
  | opened | sealed | solved | staged | landed | aborted
  deriving DecidableEq, Repr

/-! ### Routes, weaves and the solver (01, 04) -/

/-- One defect-map entry (R30). -/
structure DmapEntry where
  object : Nat
  kind : Nat
  cause : Nat
  pending : Bool
  hours : W32
  deriving DecidableEq, Repr

/-- A route record (R131), with its input. -/
structure Route where
  input : Nat
  dir : Nat
  idle : Bool
  output : Nat
  deriving DecidableEq, Repr

/-- A weave (R129, R130): what one slot of weave memory holds.  `routes` ascends by input and lists the
routed inputs; `states` ascends by cell and lists the cells whose code is not PARK. -/
structure Weave where
  epoch : W32
  full : Bool
  baseSlot : Nat
  rearranged : Bool
  conns : List ConnRec
  routes : List Route
  states : List (Nat × Nat)
  changes : List (Nat × Bool)
  moves : List ConnRec
  degrades : List (ConnRec × Nat)
  dmapGen : W32
  foldGen : W32
  parked : Nat
  retired : Nat
  solveNs : W32
  deriving DecidableEq, Repr

/-- The health state of an epoch as it stood at its seal (R82, R135, R251): defect map, wear snapshot,
solver policy, measured t_cart, the committed calibration sets (bytes of cell memory, with each cell's
VALID bits in the position of CAL_STATUS), and the settle and margin settings R153 and R164 name. -/
structure Health where
  dmap : List DmapEntry
  wear : List (Nat × Nat)
  policy : Nat
  tCart : W32
  cal : List Host.Cell
  dmapGen : W32
  foldGen : W32
  deriving DecidableEq, Repr

/-- The network side of a network epoch (R300 to R312). -/
structure NetEpoch where
  tree : Nat
  /-- The tree's entry as it stood at the opening (R290). -/
  parent : BitVec 16
  children : Nat
  group : BitVec 16
  alt : BitVec 16
  win : Nat
  sNet : Nat
  coordinator : Bool
  corrective : Bool
  target : W32
  /-- The epoch was opened here (a refused PREPARE still answers with a failure READY). -/
  opened : Bool
  /-- Own digest and count of R304, formed at the seal. -/
  digest : W32
  count : Nat
  /-- Network commands received before Ts whose first status was not LATE: (op, dev, seqnum, in, out). -/
  netCmds : List (Nat × Nat × Nat × Nat × Nat)
  /-- READY received: (child, status, count, nodes, digest). -/
  readys : List (BitVec 16 × Status × Nat × Nat × W32)
  readySent : Bool
  /-- READY was sent with a failure status. -/
  readyFailed : Bool
  /-- The coordinator: this device's own ID where it is the root. -/
  coord : BitVec 16
  /-- COMMIT or ABORT decided (coordinator). -/
  decided : Bool
  /-- COMMIT held here (R309). -/
  commitHeld : Bool
  landeds : List (BitVec 16 × Nat)
  landedSent : Bool
  /-- Landed here and not yet confirmed by STABLE (R312). -/
  pendingStable : Bool
  reported : Bool
  deriving DecidableEq, Repr

/-- One epoch (R63 to R71): its lay frame (extended frame number), its seal instant in units of
2⁻¹⁶ ns of extended TB0 time, lay options, state, the status its commands ended with. -/
structure Epoch where
  num : W32
  st : EpState
  layFrame : Nat
  sealT : Nat
  /-- MARGIN and TIMEOUT in force at the seal (05, LAY_TIMING). -/
  margin : Nat
  timeout : Nat
  noblank : Bool
  verify : Bool
  /-- The preceding epoch of R68, when the epoch sealed on its planned set. -/
  base : Option W32
  slot : Option (Fin 16)
  /-- Commands evaluated under R67. -/
  evaluated : Bool
  /-- The connection set after evaluation and solve (R68). -/
  planned : Option (List Conn)
  /-- The set and the CONN entries (entry, input, output, in key order) that the evaluation left. -/
  evalSet : List Conn := []
  adds : List (Nat × Nat × Nat) := []
  health : Option Health
  layBegun : Bool
  /-- TB0 jumped over the lay instant (R155). -/
  passed : Bool
  outcome : Status
  /-- Cell codes other than PARK of its weave, once it has landed (R73). -/
  codes : List (Nat × Nat)
  /-- Routes of its weave, once it has landed. -/
  routes : List Route
  /-- TB0 instant (2⁻¹⁶ ns) at which the epoch ended, for the delivery limit of R60. -/
  endT : Nat
  net : Option NetEpoch
  deriving DecidableEq, Repr

/-- One copy of the connection ledger (R80): its layout is not stated, so it is held by its items. -/
structure LedgerCopy where
  gen : W32
  stableEpoch : W32
  landedEpoch : W32
  stable : List Conn
  landed : List Conn
  good : Bool
  deriving DecidableEq, Repr

/-- The command ledger, the epochs and the stable view (R54 to R82). -/
structure LedgerState where
  entries : List (Nat × Entry)
  tags : List (Nat × BitVec 16)
  epochs : List Epoch
  /-- The last opened epoch, its lay frame and its seal instant (R64). -/
  lastOpened : Option (W32 × Nat × Nat)
  /-- The outcomes of the last 256 epochs to end, newest first (R107). -/
  outcomes : List (W32 × Bool × Status)
  /-- Epoch numbers ever opened, for NOT_OPEN against SEALED (R66): newest first. -/
  opened : List W32
  copyA : LedgerCopy
  copyB : LedgerCopy
  /-- Cell state codes of the stable epoch other than PARK (R73). -/
  stableCells : List (Nat × Nat)
  /-- Routes of the stable epoch's weave (R105). -/
  stableRoutes : List Route
  /-- The stable epoch, once one has been confirmed. -/
  stableNum : Option W32
  /-- The slot holding the LAID weave. -/
  laid : Option (Fin 16)
  /-- SEQ_TRUTH_STATUS.LOST or WEAVE_LOST refuses new lays (R81, R149). -/
  noLays : Bool
  deriving DecidableEq, Repr

/-- The route solver (R32, R38, R141 to R149). -/
structure SolveState where
  /-- The defect map as accepted, ascending by (KIND, OBJECT), and the map in force since the last seal. -/
  dmap : List DmapEntry
  dmapForce : List DmapEntry
  /-- (KIND, OBJECT) of the entries in the order in which they were accepted, oldest first (R30, R31). -/
  dmapOrder : List (Nat × Nat)
  /-- The wear snapshot, and a fold requested and not yet in effect (R38). -/
  wearSnap : List (Nat × Nat)
  foldPending : Option (List (Nat × Nat))
  /-- The epoch being solved, the sequencers with a trial waiting. -/
  running : Option W32
  /-- Failed bytes of weave memory that no re-solve has replaced (R79, R149). -/
  weaveBad : List Nat
  /-- TIME cycle at which the running solve began (R147). -/
  startedAt : Nat
  trials : List (Fin 8)
  deriving DecidableEq, Repr

/-! ### The lay engine (05) -/

/-- The kinds of lay (R174). -/
inductive LayKind where
  | epoch | reverting | restoring | rolled
  deriving DecidableEq, Repr

/-- A staged weave waiting for its lay instant (R153, R158): shutter offset, the settle criterion in
force when it was staged. -/
structure StagedLay where
  epoch : W32
  slot : Fin 16
  s : Nat
  level : Nat
  count : Nat
  beta : W32
  deriving DecidableEq, Repr

/-- The lay in progress (R156): all frames are extended frame numbers. -/
structure Lay where
  kind : LayKind
  epoch : W32
  slot : Fin 16
  frame : Nat
  s : Nat
  noblank : Bool
  verify : Bool
  level : Nat
  count : Nat
  timeout : Nat
  beta : W32
  /-- FS dispatched; cells handed back. -/
  strobed : Bool
  handed : Bool
  /-- Settle checks made. -/
  m : Nat
  /-- Changing cells, their new codes, and passing-sample runs of those not yet settled. -/
  changing : List (Nat × Nat)
  runs : List (Nat × Nat)
  settled : List (Nat × Nat)
  /-- Connections held blanked by this lay (input, output), of the new weave. -/
  blanked : List (Nat × Nat)
  /-- Every moved connection, of the base weave and of the new one. -/
  moved : List (Nat × Nat)
  /-- Shutter channels closed from the open level in F0 by this lay. -/
  closed : List Nat
  /-- Check at which the last blanked connection was unblanked. -/
  lastM : Nat
  driveNs : Nat
  nBlanked : Nat
  nUnblankedMoves : Nat
  unsettled : Nat
  settleNs : Nat
  btmNs : Nat
  deriving DecidableEq, Repr

/-- A connection left blanked after its lay (R165). -/
structure Lagging where
  input : Nat
  output : Nat
  cells : List Nat
  level : Nat
  count : Nat
  runs : List (Nat × Nat)
  /-- The frames T and FS of its lay. -/
  layFrame : Nat
  strobeFrame : Nat
  /-- The frame its shutters open in, once its cells are settled. -/
  openAt : Option Nat
  deriving DecidableEq, Repr

/-- A recovery lay that waits to begin: its kind, the slot of its weave, changing cells with their codes,
the connections it blanks and reopens, whether F0 carries rest on every shutter (R388), the frame it
begins at, and what it still waits for: the drive stream (R175), a lane (R277). -/
structure Recovery where
  kind : LayKind
  slot : Fin 16
  epoch : W32
  cells : List (Nat × Nat)
  conns : List (Nat × Nat)
  /-- Shutter channels that F0 closes. -/
  close : List Nat
  allOut : Bool
  at' : Nat
  waitStream : Bool
  waitLane : Bool
  deriving DecidableEq, Repr

/-- The lay engine. -/
structure LayState where
  staged : List StagedLay
  cur : Option Lay
  lagging : List Lagging
  /-- Outputs whose shutter verification closed (R167). -/
  vfyClosed : List Nat
  /-- A recovery lay that waits to begin (R172, R174, R388). -/
  recover : Option Recovery
  /-- The interrupted lay, for the reverting lay of R172. -/
  interrupted : Option Lay
  /-- A recovery from safe is under way, which ends with presets from the echoes (R193, R225). -/
  echoAfter : Bool
  /-- Lay records are written with this index next. -/
  nextRec : Nat
  /-- The TIME cycle of the last write that took LAY_CTRL.EN to 0 (R170). -/
  enOffAt : Option Nat
  deriving DecidableEq, Repr

/-! ### The looper (06) -/

/-- A copied LINJ descriptor of an auxiliary loop, with n and the PRBS state (R202, R203). -/
structure Inj where
  cfg : W32
  ampl : W32
  period : W32
  duration : W32
  delay : W32
  seed : W32
  n : W32
  prbs : W32
  deriving DecidableEq, Repr

/-- A capture (R204, R205): loop, quantity, decimation, whether it waits for an injection, FORCE_FULL,
the due iterations seen since its start. -/
structure Capture where
  loopNo : Nat
  qty : Nat
  decim : Nat
  trig : Bool
  forceFull : Bool
  started : Bool
  seen : Nat
  /-- The last value of its quantity, for iterations that hold (R205). -/
  last : Option W32
  deriving DecidableEq, Repr

/-- A loop instruction deferred to the hand-back of its cell (R112). -/
inductive DeferredInstr where
  | mode (cell : Nat) (m : Nat)
  | preset (cell : Nat) (fb : Option W32)
  | inj (cell : Nat) (words : List W32)
  deriving DecidableEq, Repr

/-- The looper (R177 to R205) beside its cell records and registers. -/
structure LoopState where
  /-- Deferred iterations still due (R181), and whether the last period deferred any. -/
  due : List Nat
  deferredPrev : Bool
  /-- Cells whose drive was stepped in the current period (R183). -/
  stepped : List Nat
  /-- Cells woken under R196 and not yet quiet; those of them whose full rate begins with the next period. -/
  woken : List Nat
  wokenNext : List Nat
  /-- What the last completed iteration of a loop formed, by loop and QTY (R204, R205). -/
  formed : List (Nat × List (Nat × W32))
  /-- Cells whose gradient block in progress holds a loop signal below Y_LO (R195). -/
  lowY : List Nat
  /-- Cells whose DITHER_ROW changes at the next block boundary: (cell, row in use) (R182). -/
  rowInUse : List (Nat × Nat)
  /-- Auxiliary loops with a new value of input 0 (R199), their last period, their injections. -/
  auxNew : List Nat
  auxLast : List (Nat × Nat)
  auxInj : List (Nat × Inj)
  caps : List (Nat × Capture)
  /-- Cores to retire at the next period boundary (R179). -/
  retire : List Nat
  /-- The period last demodulated and the period last run, plus one; 0 before any. -/
  demod : Nat
  ranP : Nat
  /-- A hold or safe reaction stood in the current period (R183). -/
  allStepped : Bool
  deferred : List DeferredInstr
  /-- Loops that fault at stage PARAM at their next iteration (R198). -/
  paramBad : List Nat
  /-- LOOP_CTRL.EN and HOLD_K in force in the current period (R193, R197). -/
  enForce : Bool
  holdKForce : Nat
  /-- Stale marks of cells since their previous iteration are in their records; mean of the last block. -/
  lastBlock : List (Nat × W32)
  /-- Looper throttle mode in force (R405). -/
  mode : Nat
  /-- t_cart of the loop period at hand (R400). -/
  tCart : W32
  /-- Cells that hold until the next echo of their arms gives their preset (R192), and the arms of them whose echo has
  come. -/
  echoWait : List Nat
  echoSeen : List Nat
  deriving DecidableEq, Repr

/-! ### Drive and sense chains (07, 08) -/

/-- What a drive record's program fields held before a write, for the frame that begins less than 40 ns after it
(R208): that frame, the channel, GROUP, RATE, E1 and E2 as one word, DG_CNT. -/
structure DriveKeep where
  frame : Nat
  chan : Nat
  group : Nat
  rate : W32
  err : W32
  dg : Nat
  deriving DecidableEq, Repr

/-- The drive chain beside its records. -/
structure DriveState where
  /-- Strobes of program groups: the frame they fire in and the groups (R216). -/
  fire : List (Nat × BitVec 16)
  /-- Records written less than 40 ns before a frame (R208). -/
  keep : List DriveKeep
  /-- No channel's code has been computed since the strand link started: each carries its power-up value, or what a
  lay or a restore gave it (R224). -/
  powerUp : Bool
  /-- Channels of cells in service that still carry it after a stream began without presets. -/
  puLeft : List Nat
  /-- A safe reaction has ended and its restoring lay has not strobed: each channel keeps its fault value (R225). -/
  faultHeld : Bool
  /-- POL writes that wait for the channel's next entry to rest (R228): (channel, in force). -/
  polInForce : List (Nat × Bool)
  /-- Setpoints in force in the current period (R208), by cell; 0.0 where unlisted. -/
  sp : List (Nat × W32)
  /-- Channels whose record failed parity and waits for its rebuild (R79, R227). -/
  bad : List Nat
  deriving DecidableEq, Repr

/-- The light of one frame (R229): the frame count, and per channel the three bits, first in bit 2,
with whether they may be trusted (no CAL, a valid inbound frame). -/
structure FrameLight where
  count : Nat
  /-- The frame number (R232). -/
  frame : Nat
  bits : List (Nat × BitVec 3 × Bool)
  deriving DecidableEq, Repr

/-- What a port tap has gathered in a verification pass (R238): its channel, the chip means taken so
far (newest first), the running sum and number of bits of the chip in progress, and the two flags. -/
structure TapAcc where
  chan : Nat
  means : List W32
  sum : Int
  n : Nat
  /-- Length of the run of identical bits, negative for zeros (R235). -/
  run : Int
  bad : Bool
  ovr : Bool
  /-- OFS and GAIN in force at the end of the pass (R239). -/
  ofs : W32
  gain : W32
  deriving DecidableEq, Repr

/-- A verification pass (R239 to R242). -/
structure VfyPass where
  epoch : W32
  byLay : Bool
  /-- The lay record whose VFY_FAIL the pass fills (R166). -/
  recIdx : Option Nat
  started : Bool
  startFrame : Nat
  startChip : Nat
  /-- Chips of the pass completed. -/
  chips : Nat
  /-- Expected inputs: (output, input, is a connection). -/
  expects : List (Nat × Nat × Bool)
  matchT : Nat
  other : Nat
  guardBits : Nat
  taps : List TapAcc
  /-- Outputs moved, added or removed by a lay that overlaps the pass (R240 row 3). -/
  touched : List Nat
  /-- A reaction ends the pass with the chip in progress (R242). -/
  ending : Bool
  deriving DecidableEq, Repr

/-- A completed lay's pass that waits for its chip boundary (R166, R241): the epoch, its lay record, what the landed weave
lets expect, the instant of completion, and whether it waits for a restarted link's first pilot frame (R242). -/
structure LayPass where
  epoch : W32
  record : Nat
  expects : List (Nat × Nat × Bool)
  since : Nat
  again : Bool
  deriving DecidableEq, Repr

/-- OFS and GAIN of a sense record before a write, for samples that complete less than 40 ns after it (R237): the first
frame whose start is late enough for the write, and the values. -/
structure SenseKeep where
  chan : Nat
  frame : Nat
  ofs : W32
  gain : W32
  deriving DecidableEq, Repr

/-- The sense chain beside its records. -/
structure SenseState where
  /-- The light of the last 600 frames, newest first (R231). -/
  light : List FrameLight
  pass : Option VfyPass
  /-- The instant of the one waiting request (R242). -/
  waiting : Option Nat
  /-- A requested pass that the link's end took: it starts anew at a restarted link's first pilot frame (R242). -/
  redo : Bool
  /-- A pass of a completed lay that starts at the next chip boundary. -/
  layPass : Option LayPass
  /-- Channels whose last sample of the transition, fast and precise path is not STALE (R236). -/
  freshT : List Nat
  freshF : List Nat
  freshP : List Nat
  /-- Frame count from which a window must begin to be fresh after CAL, a rebuild or a removed entry
  (R236, R237): (channel, count). -/
  notBefore : List (Nat × Nat)
  /-- Taps re-phased by a lay: the first frame their pairs may begin with (R232). -/
  phaseFrom : List (Nat × Nat)
  /-- OFS and GAIN replaced less than 40 ns before samples still to come (R237). -/
  keep : List SenseKeep
  /-- Channels whose record failed parity and whose offset and gain have not been recalibrated since (R236). -/
  failed : List Nat
  /-- Channels whose last transition tap value itself carries the over-range flag (R235). -/
  ovrT : List Nat
  deriving DecidableEq, Repr

/-! ### Calibration (09) -/

/-- A calibration request (R252, R260): the object, the attempts made, the first run's result. -/
structure CalReq where
  object : Nat
  sense : Bool
  attempts : Nat
  /-- The result of the attempt's first run: its fields, TEMP, and whether it failed. -/
  first : Option (List W32 × W32 × Bool)
  /-- The channel's old OFS and GAIN were lost to a parity failure (R259). -/
  lost : Bool
  /-- Checked on reaching the head of the queue (R252). -/
  seen : Bool
  deriving DecidableEq, Repr

/-- A run in progress (R253, R259): its dwell number, its samples, its start temperature. -/
structure CalRun where
  req : CalReq
  dwell : Nat
  samples : List (W32 × W32)
  failed : Bool
  tStart : W32
  /-- The arms' effective gains at the start of the run, and the loop period at whose boundary its next dwell or step
  falls (R253, R259). -/
  gA : W32
  gB : W32
  next : Nat
  deriving DecidableEq, Repr

/-- A blend (R258): cell, set, start and new values of its six fields, steps done and steps in all. -/
structure Blend where
  cell : Nat
  set : Nat
  start : List W32
  new : List W32
  j : Nat
  n : Nat
  running : Bool
  deriving DecidableEq, Repr

/-- The calibration engine. -/
structure CalState where
  queue : List CalReq
  runs : List CalRun
  /-- Free cells whose command ramps back to their calibrated target (R256). -/
  ramps : List Nat
  /-- The 16 blend slots and the acceptances that wait (R258). -/
  blends : List Blend
  /-- Cells whose CAL_MISSING has been raised since start-up (R250). -/
  missing : List Nat
  /-- Cells whose calibration area failed parity and waits for its reload (R264). -/
  reload : List Nat
  /-- TB0 seconds and t_cart at the first passive observation are in the record; its state code. -/
  passiveState : List (Nat × Nat)
  deriving DecidableEq, Repr

/-! ### The strand link (10) -/

/-- The descriptor of R41, its fields. -/
structure Desc where
  y512 : Bool
  armStress : W32
  actBudget : W32
  wearRating : Nat
  wearWarnPct : Nat
  shutterNs : Nat
  replayMs : Nat
  pilotDepth : Nat
  tecZones : Nat
  idTmin : Int
  idTmax : Int
  calTmin : Int
  calTmax : Int
  shutterOpenV : W32
  cover : List (BitVec 8)
  deriving DecidableEq, Repr

/-- The latest echo of a drive channel (R279): level, REST, REPLAY, the frame count that carried it. -/
structure Echo where
  chan : Nat
  level : BitVec 16
  rest : Bool
  replay : Bool
  count : Nat
  deriving DecidableEq, Repr

/-- A lane-map change that waits for its switch frame (R274, R275): frame count, logical lane and
spare, or the lanes of a reduced or extended Y512 map. -/
inductive LaneSwitch where
  | spare (count : Nat) (logical : Nat) (phys : Nat)
  | remap (count : Nat) (lanes : List Nat)
  deriving DecidableEq, Repr

/-- The lanes a management command may go on (R278): any, the lowest active one, a named one, every one. -/
inductive MgmtTo where
  | any | first | lane (n : Nat) | all
  deriving DecidableEq, Repr

/-- What a management command is for: a program's access, a write-back, the controller's own, a load of link start. -/
inductive MgmtWho where
  | program | writeBack | controller | load
  deriving DecidableEq, Repr

/-- A management command (R278) before it has a lane and a tag. -/
structure MgmtCmd where
  op : Nat
  waddr : Nat
  data : W32
  dest : MgmtTo
  who : MgmtWho
  /-- A write sent before and answered BUSY, or sent on a lane that failed: it has begun (R407). -/
  begun : Bool := false
  deriving DecidableEq, Repr

/-- A command sent and not yet answered, with its lane and tag (R278). -/
structure MgmtSent where
  lane : Nat
  tag : Nat
  cmd : MgmtCmd
  deriving DecidableEq, Repr

/-- The object of a write-back in progress (R285): 0 a CAL entry, 1 a wear counter, 2 THERMAL; its cell, its words not
yet answered, whether one was not answered OK. -/
structure WbObj where
  kind : Nat
  cell : Nat
  left : Nat
  bad : Bool
  deriving DecidableEq, Repr

/-- An outbound frame whose inbound frame has not come (R269): its number, its count, its instant in units of 2⁻¹⁶ ns,
the lanes it went on with their logical lane (0x7F for a spare), the map's L and MAPGEN, what the spares carried. -/
structure InFlight where
  frame : Nat
  count : Nat
  start : Nat
  lanes : List (Nat × Nat)
  nLanes : Nat
  mapgen : Nat
  spares : List (Nat × List (BitVec 64))
  deriving DecidableEq, Repr

/-- What one physical lane sends in one outbound frame (R266, R267): header, blocks 1 to 33, and the 50 blocks on the
line, each with its sync header in bits [1:0] and its scrambled payload above. A lane under test has no frame: its
line carries PRBS31 (R274). -/
structure LaneTx where
  lane : Nat
  header : BitVec 64
  blocks : List (BitVec 64)
  line : List (BitVec 66)
  deriving DecidableEq, Repr

/-- Strand link state beside its registers. -/
structure StrandState where
  /-- Frames sent since START (R268), and the frame number of the last one, plus one. -/
  count : Nat
  sentFrame : Nat
  /-- The TIME cycle at which the last outbound frame began: the lanes run at the REFCLK rate where TB0 does not bind
  them (R343, R423). -/
  sentCycle : Nat
  desc : Option Desc
  /-- The accepted geometry of R473 is the Y512's. -/
  geomY512 : Bool
  nonce : BitVec 256
  /-- The cartridge's signature, once readable (R284). -/
  authSig : Option (BitVec 512)
  ident : List (BitVec 8)
  authRec : List (BitVec 8)
  hours : W32
  echoes : List Echo
  /-- Frame count of the grant (R288). -/
  grantCount : Nat
  /-- STREAM written and the echo awaited. -/
  streamWait : Bool
  /-- DRIVE_VALID is sent from the next frame. -/
  driveValid : Bool
  /-- Consecutive invalid and OUT_ERR inbound frames per physical lane (R273). -/
  bad : List (Nat × Nat)
  outErr : List (Nat × Nat)
  /-- Failed logical lanes not yet carried (R277). -/
  failed : List Nat
  switches : List LaneSwitch
  /-- The frame count at which the last map switch took effect (R275). -/
  remapAt : Option Nat
  /-- Logical lanes (0x7F for a spare) whose failure was declared since the last outbound frame (R274). -/
  newFailed : List Nat
  /-- Lane tests in progress, with the TIME cycle each began at. -/
  testing : List (Nat × Nat)
  mgmt : List MgmtCmd
  outstanding : List MgmtSent
  /-- The next word of the identity memory to load in IDENTIFY (R287). -/
  loadAt : Nat
  /-- The TIME cycle at which the last CHALLENGE word was sent (R284). -/
  chalAt : Option Nat
  /-- Replay elapsed, in ms, as each lane last reported it (R279). -/
  replay : List (Nat × Nat)
  /-- The outbound frames whose inbound frames are still to come, oldest first, and an inbound frame that waits for
  the next outbound frame to begin (R270). -/
  flight : List InFlight
  rxHeld : Option (List LaneRx)
  tx : List LaneTx
  /-- The scrambler and the PRBS31 generator of each physical lane (R266, R369): the last 58 and 31 bits, oldest in
  bit 0. -/
  scram : List Nat
  prbs : List Nat
  /-- The coefficients that Clause 72 training begins from, where a restore gives them (R375). -/
  trainFrom : List W32
  /-- A link has been started since eclosion, and an accepted cartridge's calibration areas have been loaded. -/
  begun : Bool
  loaded : Bool
  /-- Write-back flags (R285): CAL entries, wear counters, THERMAL. -/
  wbCal : List Nat
  wbWear : List Nat
  wbThermal : Bool
  wbNow : Option WbObj
  wbDeferred : List Nat
  thermal : List (Nat × W32)
  /-- Wear counters read at start-up (R37) and at the last powered hour (R40). -/
  wearBase : List (Nat × Nat)
  wearHour : List (Nat × Nat)
  /-- Cells whose WEAR_WARN and WEAR_OUT have been raised since start-up (R39). -/
  warned : List Nat
  worn : List Nat
  /-- Cartridge SENSECAL entries as loaded, for reloads (R264). -/
  senseBase : List (Nat × W32 × W32)
  /-- The cartridge's life remaining, in hours, as of the last powered hour (R40). -/
  cartLife : W32
  deriving DecidableEq, Repr

/-! ### The device network (11) -/

/-- A frame in a receive queue (R295): its token and whether it has been acknowledged. -/
structure RxFrame where
  frame : TFrame
  token : W32
  deriving DecidableEq, Repr

/-- A COMMAND being retransmitted (R299): the frame, copies sent. -/
structure Retrans where
  frame : TFrame
  sent : Nat
  /-- The TIME cycle of the last copy. -/
  sentAt : Nat
  deriving DecidableEq, Repr

/-- The network side of the ledger. -/
structure NetState where
  rxq : Vector (List RxFrame) 8
  /-- Received frames not yet acknowledged: token and the frame (R115). -/
  unacked : List RxFrame
  nextToken : W32
  /-- The device's transmit count (R294). -/
  txCount : W32
  /-- Triene frames that wait to enter the switch at port 17. -/
  txq : List TFrame
  /-- Frames delivered to LEDGER and not yet handled. -/
  inbox : List TFrame
  retrans : List Retrans
  /-- Missed sets: epoch and planned set (R309). -/
  missed : List (W32 × List Conn)
  /-- Messages already received: (TYPE, EPOCH, SRC) (R305). -/
  heard : List (BitVec 8 × W32 × BitVec 16)
  /-- The latest epoch committed here by tree, with its WIN, SEAL and S_NET (R311). -/
  lastCommit : List (Nat × W32 × Nat × Nat × Nat)
  /-- The corrective epoch in progress. -/
  corrective : Option W32
  /-- The tree under correction, and K with its WIN, SEAL and S_NET: what every corrective epoch of it takes (R311). -/
  target : Option (Nat × W32 × Nat × Nat × Nat)
  /-- The latest committed epoch whose first MISSED report has been acted on, and its lay frame (R311). -/
  missedTo : Option (W32 × Nat)
  deriving DecidableEq, Repr

/-! ### The braid switch (12) -/

/-- A frame in the buffer (R329): bytes without FCS, input port, class, units, copies left, ingress
timestamp, time stamp request (two-step 1, one-step 2). -/
structure SwFrame where
  id : Nat
  bytes : List (BitVec 8)
  inPort : Nat
  cls : Nat
  units : Nat
  copies : Nat
  ts : Option W64
  tsReq : Nat
  deriving DecidableEq, Repr

/-- One queued copy: the frame's id, enqueue cycle, and whether its lookup went from a braid port to
a braid port (HOPS decremented, R325). -/
structure QCopy where
  id : Nat
  enq : Nat
  hop : Bool
  deriving DecidableEq, Repr

/-- A queue's settings: SH_EN, RATE in kb/s, BURST in bytes (R334), LIMIT in units (R329). -/
structure Shaper where
  on : Bool
  rate : Nat
  burst : Nat
  limit : Nat
  deriving DecidableEq, Repr

/-- One output queue (o, c) that is not in its reset condition. -/
structure OutQueue where
  out : Nat
  cls : Nat
  copies : List QCopy
  deficit : Nat
  /-- Shaper credit in units of 2⁻³² byte, and the cycle it was last brought up to date. -/
  credit : Int
  creditAt : Nat
  /-- The settings a write found in force during the output's transmission: they hold until it ends (R337). -/
  held : Option Shaper
  deriving DecidableEq, Repr

/-- A transmission under way at an output. -/
structure Transmit where
  out : Nat
  cls : Nat
  id : Nat
  hop : Bool
  start : Nat
  /-- The bytes of this copy where a one-step stamp made them its own (R348). -/
  own : Option (List (BitVec 8)) := none
  deriving DecidableEq, Repr

/-- A pending gate list (R336): start instant (2⁻¹⁶ ns of the extended base), cycle, length, entries. -/
structure GateList where
  base : Nat
  cycle : Nat
  entries : List (Nat × Nat)
  deriving DecidableEq, Repr

/-- A frame that waits for the host (R339). -/
structure HostRx where
  bytes : List (BitVec 8)
  inPort : Nat
  cls : Nat
  ts : Option W64
  deriving DecidableEq, Repr

/-- The switch. -/
structure SwitchState where
  frames : List SwFrame
  queues : List OutQueue
  sending : List Transmit
  nextId : Nat
  /-- Bytes of the frame buffer written through its debug range since a frame last entered it (R7). -/
  bufBytes : List (Nat × Byte)
  /-- The DRR class each output visits, and whether its quantum has been added (R333). -/
  drr : List (Nat × Nat × Bool)
  gates : List (Nat × GateList)
  pendingGates : List (Nat × GateList)
  /-- The submitted host frame (R339). -/
  hostTx : Option (List (BitVec 8) × Nat × Bool × Nat × Nat)
  hostRx : List HostRx
  txBuf : List Host.Cell
  /-- Frames that left the device: (port, bytes without FCS, whether a valid FCS ended it), newest first (R317). -/
  sent : List (Nat × List (BitVec 8) × Bool)
  /-- TIME cycle at which each port's receive link last came up (R318). -/
  upAt : List (Nat × Nat)
  /-- TIME cycle of the last sample of the queues (R338). -/
  sampledAt : Nat
  deriving DecidableEq, Repr

/-! ### Redundancy (14) -/

/-- What a unit of a pair sends its peer from port MGMT (R320, R356, R358). -/
inductive MgmtOut where
  | record (r : CkptRecord)
  | heartbeat (h : Heartbeat)
  deriving DecidableEq, Repr

/-- The checkpoint image of R355, by its sections; the LOOPS entries are kept as word lists. -/
structure CkptImage where
  gen : W32
  seqnum : W32
  stableEpoch : W32
  landedEpoch : W32
  lastOpened : W32
  layFrame : W32
  wraps : W32
  calOvf : Bool
  senseOvf : Bool
  opened : Bool
  /-- Strand transmitter coefficients of the 96 lanes. -/
  coeffs : List W32
  stable : List Conn
  landed : List Conn
  routes : List Route
  markEpoch : W32
  markOpts : Nat
  markS : Nat
  markState : Nat
  markCells : List (Nat × Nat × Bool)
  markConns : List ConnRec
  /-- Every earlier LAYMARK record of the mark is held (R364). -/
  markComplete : Bool
  /-- A change list has been applied since the last STATE 0 (R356). -/
  markListed : Bool
  /-- The coordinator, where the marked epoch is a network epoch (R365). -/
  markCoord : Option (BitVec 16)
  dmap : List DmapEntry
  wear : List (Nat × Nat)
  loops : List (Nat × List W32)
  aux : List (Nat × List W32)
  senseCal : List (Nat × W32 × W32)
  cal : List (Nat × List W32)
  deriving DecidableEq, Repr, Inhabited

/-- The redundant pair. -/
structure RedundState where
  image : CkptImage
  /-- A restore image checked and loaded, in force at the next link and stream start (R375). -/
  restore : Option CkptImage
  /-- Bytes of checkpoint staging, by offset, that a bus master wrote since the engine last wrote their section. -/
  staged : List (Nat × Byte)
  hbSeq : W32
  /-- TIME cycles at the last heartbeat by each path, and of the last watchdog kick. -/
  hbNetAt : Nat
  hbPinAt : Nat
  kickAt : Nat
  /-- The unit has stopped sending heartbeats (R359, R361). -/
  silent : Bool
  peerLost : Bool
  declaredAt : Nat
  /-- Records held out of order (R356). -/
  held : List CkptRecord
  /-- SEQs of records held that have been applied ahead of their turn (R356). -/
  early : List W32
  /-- No record has arrived since the unit became STANDBY. -/
  newHere : Bool
  gapAt : Option Nat
  resync : Bool
  /-- Records sent and not acknowledged, and the TIME cycle at which each was sent. -/
  sentRecs : List CkptRecord
  sentAt : List (W32 × Nat)
  /-- What waits to enter the switch at MGMT, oldest first. -/
  outbox : List MgmtOut
  /-- Frames delivered to MGMT and not yet handled (R320). -/
  inbox : List (List (BitVec 8))
  takeback : Bool
  handoverFrame : Option Nat
  /-- The hold-off runs, since this TIME cycle (R371). -/
  holdoffRun : Bool
  holdoffAt : Nat
  /-- Kind of the transfer in progress, as `REDUND_LAST.KIND` codes it. -/
  kind : Nat
  /-- Memory march: shadow rotation, mismatches in the last second. -/
  shadowNext : Nat
  shadowMism : List Nat
  shadowAt : Nat
  prbsAt : Nat
  deriving DecidableEq, Repr

/-! ### Faults and monitors (15) -/

/-- A raise as the fault log holds it. -/
structure FaultEntry where
  src : Nat
  sev : Nat
  eff : Nat
  react : Nat
  injected : Bool
  detail : W32
  /-- The effective severity of its source's first raise in its cycle, and its place among that source's raises of the cycle
  (R379, R385). -/
  lead : Nat
  ord : Nat
  deriving DecidableEq, Repr

/-- The raises of one source in the newest cycle: the effective severity of the first, the details of the real ones in
ascending order, the number of injected ones (R379, R383). -/
structure CycleRaises where
  lead : Nat
  details : List W32
  injected : Nat
  deriving DecidableEq, Repr

/-- The fault unit beside its registers (15). -/
structure FaultState where
  lastReact : List (Nat × Nat)
  /-- TIME cycle of the last real raise of each source (R383). -/
  realAt : List (Nat × Nat)
  /-- The TIME cycle of the newest raise, the raises logged in it in the log's order, and whether FAULT_FIRST was
  taken in it (R385). -/
  cycleAt : Nat
  cycleLog : List FaultEntry
  cycleSrc : List (Nat × CycleRaises)
  firstHere : Bool
  /-- Outbound frames that begin before this TB0 instant still carry HOLD after a release (R388). -/
  holdTill : Nat
  heldFreeze : Bool
  unread : List Nat
  /-- Inputs that stand in each THERM condition are in THERM_LIM_STATE; MSI-X messages sent. -/
  msix : List Nat
  faultN : Bool
  deriving DecidableEq, Repr

/-- Input queues of the histogram engines and trackers (R390): unit number (trackers from 32). -/
structure MonState where
  queues : List (Nat × List Int)
  /-- Words of histogram and capture memory marked invalid after a parity failure, by address (R79). -/
  invalid : List Nat
  deriving DecidableEq, Repr

/-! ### Temperature, PWM, clocks, boot (16 to 18) -/

/-- Housekeeping and thermal state beside its registers: past publications per input with their
times, newest first (R402), the automatic throttle level and its count, the flash queue. -/
structure ThermState where
  history : List (Nat × List (Option (W32 × W64)))
  autoLevel : Nat
  upCnt : Nat
  dnCnt : Nat
  /-- Queued flash commands: operation, address, data. -/
  flashQ : List (Nat × Nat × List (BitVec 8))
  /-- WRITE_DEFERRED has been raised since the flash gate, or the identity gate, last closed (R408). -/
  flashDefer : Bool
  idDefer : Bool
  /-- The TIME cycle at which the round in progress ends, and its enabled inputs. -/
  roundEnd : Option Nat
  roundMask : Nat
  /-- The next round falls due at this cycle. -/
  roundDue : Nat
  /-- The conversions of the round in progress, as its start found them (R395). -/
  roundConv : Nat
  deriving DecidableEq, Repr

/-- A PWM module's values in force and its counter (R409 to R413). -/
structure PwmModule where
  period : Nat
  duty : Nat
  dt : Nat
  j : Nat
  /-- The instant at which the period in progress began, in quarters of a TIME cycle: the counter is the
  time since, in steps. -/
  startAt : Nat
  /-- Held low until its next period start (R415, R416). -/
  offTrip : Bool
  deriving DecidableEq, Repr

/-- Clock monitors and domains (17). -/
structure ClockState where
  /-- Failures declared and not passed since (R421). -/
  declared : List Nat
  /-- Domains that a failure keeps on their fallback until a program moves them (R424). -/
  held : List Nat
  /-- Last result of the windowed monitors M_XR, M_RL and M_XL. -/
  xrPass : Bool
  rlPass : Bool
  xlPass : Bool
  /-- LANE and BRAID are stopped by a REFCLK failure (R421, R424). -/
  refStop : Bool
  /-- Passing windows of M_REF since its last failure (R424). -/
  refWins : Nat
  /-- The lane PLLs have locked since reset: LANE and BRAID run from then on (R418). -/
  laneLock : Bool
  /-- The TIME cycle since which the crystal's amplitude stands, and the windows passed in level 2 (R419). -/
  ampSince : Nat
  qualWins : Nat
  /-- Switches of domains: domain, the TIME cycles at which its clock stopped and at which it runs again (R426, R427). -/
  moving : List (Nat × Nat × Nat)
  /-- The TIME cycle at which the binding of TB0 to the strand was suspended (R423, R424). -/
  rcoAt : Nat
  deriving DecidableEq, Repr

/-- The fuses (R441, R447, R452, R453). -/
structure Fuses where
  vendor : Nat
  device : Nat
  rev : Nat
  gradeI : Bool
  uid : W64
  lc : Nat
  serviceCount : Nat
  imgKeyHash : Option (BitVec 256)
  lcKeyHash : Option (BitVec 256)
  coresFailed : BitVec 18
  deriving DecidableEq, Repr

/-- An accepted configuration image, decoded (R444, R445). -/
structure BootImage where
  copy : Nat
  len : Nat
  crc : W32
  entry : BitVec 16
  signed : Bool
  sections : List (Nat × Nat × List (BitVec 8))
  deriving DecidableEq, Repr

/-- Start-up, flash and life cycle (18). -/
structure BootState where
  fuses : Fuses
  /-- Flash contents: bytes other than 0xFF, ascending. -/
  flash : List Host.Cell
  /-- log₂ of the flash size (0 for no flash), whether it has a valid SFDP header, its fastest mode. -/
  density : Nat
  sfdp : Bool
  flashMode : Nat
  /-- The image copy being checked, and the accepted image. -/
  cand : Option BootImage
  img : Option BootImage
  issuerKey : List (BitVec 8)
  nonceHeld : Bool
  /-- The flash command in progress: operation, address, data. -/
  flashOp : Option (Nat × Nat × List (BitVec 8))
  /-- TIME cycle at the release of reset. -/
  bootFrom : Nat
  pcieUp : Bool
  /-- The register fields as program load left them: what a field whose reset is "image" was loaded with (R13, R15,
  R449). -/
  imageRegs : List (Nat × W64)
  /-- Instruction words that failed parity and wait for their reload (R79). -/
  badWords : List Nat
  deriving DecidableEq, Repr

/-- The pins the device drives or reads that are not a register field (19). -/
structure Pins where
  ready : Bool
  resetN : Bool
  ppsOut : Nat
  laySyncOut : Nat
  /-- The instant, in quarters of a TIME cycle, at which the last pulse of PWM module 7 in a period now over rose (R412). -/
  pwmSyncOut : Option Nat
  heartbeatPulses : Nat
  /-- Length in ns of the last pulse on PEER_HB_OUT (R358, R359). -/
  heartbeatNs : Nat
  /-- TIME cycles at which PPS_OUT and LAY_SYNC_OUT last rose (R350, R351). -/
  ppsOutAt : Nat
  laySyncOutAt : Nat
  deriving DecidableEq, Repr


/-! ### The whole state -/

/-- The state of the block. -/
structure State where
  bus : BusState
  time : TimeState
  seqs : Vector Seq 8
  /-- The argument of each pending hook (R53). -/
  hookArgs : List (Nat × W32)
  ledger : LedgerState
  solve : SolveState
  lay : LayState
  loop : LoopState
  drive : DriveState
  sense : SenseState
  cal : CalState
  strand : StrandState
  net : NetState
  sw : SwitchState
  redund : RedundState
  fault : FaultState
  mon : MonState
  therm : ThermState
  pwm : Vector PwmModule 8
  clock : ClockState
  boot : BootState
  pins : Pins
  /-- Free values drawn so far: the argument of the next one (the model's own field). -/
  fresh : Nat
  /-- Register fields whose value differs from their reset value, by bit address, ascending. -/
  regs : List (Nat × W64)
  /-- Bytes of the memories of R7 that are not zero, ascending (R448). -/
  mem : List Host.Cell
  /-- The commands that wait, first in first out. -/
  pending : List Instr
  deriving DecidableEq, Repr

/-! ### Reset -/

def BusState.reset : BusState := { latches := [], holds := [], resp := [], inReset := [] }

def TimeBase.reset : TimeBase := { now := 0, frac := 0, wraps := 0, slew := 0, lockLeft := 0 }

def TimeState.reset : TimeState := { tb := Vector.replicate 4 TimeBase.reset, cycle := 0 }

def Seq.reset : Seq :=
  { g := Vector.replicate 32 0, f := Vector.replicate 16 0, preds := 1, pc := 0, st := .halted,
    hook := 0, cause := 0, nmiPc := 0, nmi := false, cyc := 0, wait := .none }

def LedgerCopy.reset : LedgerCopy :=
  { gen := 0, stableEpoch := 0, landedEpoch := 0, stable := [], landed := [], good := true }

def LedgerState.reset : LedgerState :=
  { entries := [], tags := [], epochs := [], lastOpened := none, outcomes := [], opened := [],
    copyA := LedgerCopy.reset, copyB := LedgerCopy.reset, stableCells := [], stableRoutes := [], stableNum := none,
    laid := none,
    noLays := false }

def SolveState.reset : SolveState :=
  { dmap := [], dmapForce := [], dmapOrder := [], wearSnap := [], foldPending := none, running := none, weaveBad := [], startedAt := 0, trials := [] }

def LayState.reset : LayState :=
  { staged := [], cur := none, lagging := [], vfyClosed := [], recover := none, interrupted := none,
    nextRec := 0, enOffAt := none, echoAfter := false }

def LoopState.reset : LoopState :=
  { due := [], deferredPrev := false, stepped := [], woken := [], wokenNext := [], formed := [], lowY := [], rowInUse := [],
    auxNew := [], auxLast := [], auxInj := [], caps := [], retire := [], demod := 0, ranP := 0, allStepped := false, deferred := [],
    paramBad := [], enForce := true, holdKForce := 7, lastBlock := [], mode := 0, tCart := 0x41C80000, echoWait := [], echoSeen := [] }

def DriveState.reset : DriveState := { fire := [], keep := [], powerUp := false, puLeft := [], faultHeld := false, polInForce := [], sp := [], bad := [] }

def SenseState.reset : SenseState :=
  { light := [], pass := none, waiting := none, redo := false, layPass := none, freshT := [], freshF := [],
    freshP := [], notBefore := [], phaseFrom := [], keep := [], failed := [], ovrT := [] }

def CalState.reset : CalState :=
  { queue := [], runs := [], ramps := [], blends := [], missing := [], reload := [], passiveState := [] }

def StrandState.reset : StrandState :=
  { count := 0, sentFrame := 0, sentCycle := 0, desc := none, geomY512 := false, nonce := 0, authSig := none, ident := [],
    authRec := [], hours := 0, echoes := [], grantCount := 0, streamWait := false, driveValid := false,
    bad := [], outErr := [], failed := [], switches := [], remapAt := none, newFailed := [], testing := [], mgmt := [],
    outstanding := [], loadAt := 0, chalAt := none, replay := [], flight := [], rxHeld := none, tx := [], scram := [],
    prbs := [], trainFrom := [], begun := false, loaded := false, wbCal := [], wbWear := [], wbThermal := false, wbNow := none, wbDeferred := [],
    thermal := [], wearBase := [], wearHour := [], warned := [], worn := [], senseBase := [], cartLife := 0xFFFFFFFF }

def NetState.reset : NetState :=
  { rxq := Vector.replicate 8 [], unacked := [], nextToken := 1, txCount := 0, txq := [], inbox := [],
    retrans := [], missed := [], heard := [], lastCommit := [], corrective := none, target := none, missedTo := none }

def SwitchState.reset : SwitchState :=
  { frames := [], queues := [], sending := [], nextId := 0, bufBytes := [], drr := [], gates := [], pendingGates := [],
    hostTx := none, hostRx := [], txBuf := [], sent := [], upAt := [], sampledAt := 0 }

def CkptImage.reset : CkptImage :=
  { gen := 0, seqnum := 0, stableEpoch := 0, landedEpoch := 0, lastOpened := 0, layFrame := 0, wraps := 0,
    calOvf := false, senseOvf := false, opened := false, coeffs := [], stable := [], landed := [], routes := [],
    markEpoch := 0, markOpts := 0, markS := 0, markState := 0, markCells := [], markConns := [],
    markComplete := true, markListed := false, markCoord := none, dmap := [], wear := [], loops := [], aux := [], senseCal := [], cal := [] }

def RedundState.reset : RedundState :=
  { image := CkptImage.reset, restore := none, staged := [], hbSeq := 0, hbNetAt := 0,
    hbPinAt := 0, kickAt := 0, silent := false, peerLost := false, declaredAt := 0, held := [], early := [], newHere := true, gapAt := none,
    resync := false, sentRecs := [], sentAt := [], outbox := [], inbox := [], takeback := false, handoverFrame := none, holdoffRun := false, holdoffAt := 0, kind := 0, shadowNext := 0, shadowMism := [], shadowAt := 0, prbsAt := 0 }

def FaultState.reset : FaultState :=
  { lastReact := [], realAt := [], cycleAt := 0, cycleLog := [], cycleSrc := [], firstHere := false, holdTill := 0, heldFreeze := false, unread := [], msix := [], faultN := false }

def MonState.reset : MonState := { queues := [], invalid := [] }

def ThermState.reset : ThermState :=
  { history := [], autoLevel := 0, upCnt := 0, dnCnt := 0, flashQ := [], flashDefer := false, idDefer := false,
    roundEnd := none, roundMask := 0, roundDue := 0, roundConv := 0 }

def PwmModule.reset : PwmModule :=
  { period := 16000, duty := 0, dt := 40, j := 0, startAt := 0, offTrip := false }

def ClockState.reset : ClockState :=
  { declared := [], held := [], xrPass := true, rlPass := true, xlPass := true, refStop := false, refWins := 0, laneLock := false
    ampSince := 0, qualWins := 0, moving := [], rcoAt := 0 }

/-- The fuses of the device the model stands for: an unlocked FACTORY part (DESIGN CHOICE, log entry 5). -/
def Fuses.shipped : Fuses :=
  { vendor := 0, device := 0, rev := 0, gradeI := false, uid := 0, lc := 1, serviceCount := 0,
    imgKeyHash := none, lcKeyHash := none, coresFailed := 0 }

def BootState.reset : BootState :=
  { fuses := Fuses.shipped, flash := [], density := 24, sfdp := true, flashMode := 3, cand := none, img := none
    issuerKey := [], nonceHeld := false, flashOp := none, bootFrom := 0, pcieUp := false, imageRegs := [], badWords := [] }

def Pins.reset : Pins :=
  { ready := false, resetN := true, ppsOut := 0, laySyncOut := 0, pwmSyncOut := none,
    heartbeatPulses := 0, heartbeatNs := 0, ppsOutAt := 0, laySyncOutAt := 0 }

/-- The machine right after a device reset, before start-up has taken a step (R440, R448, R15). -/
def State.reset : State :=
  { bus := BusState.reset, time := TimeState.reset, seqs := Vector.replicate 8 Seq.reset,
    hookArgs := [], ledger := LedgerState.reset, solve := SolveState.reset, lay := LayState.reset,
    loop := LoopState.reset, drive := DriveState.reset, sense := SenseState.reset,
    cal := CalState.reset, strand := StrandState.reset, net := NetState.reset,
    sw := SwitchState.reset, redund := RedundState.reset, fault := FaultState.reset,
    mon := MonState.reset, therm := ThermState.reset, pwm := Vector.replicate 8 PwmModule.reset,
    clock := ClockState.reset, boot := BootState.reset, pins := Pins.reset, fresh := 0, regs := [],
    mem := [], pending := [] }

end Sys2Proof.Machine
end

