-- ==== Sys2Proof/Machine/Ops.lean ====
section
/-! DEFINITION. The named operations the meanings share: register fields, memories, free values, time,
hooks, interrupts and the raising of faults. -/

namespace Sys2Proof.Machine

/-! ### Register fields (R13 to R15) -/

/-- The bit address of a field of a register or register array. -/
def Fld.key (f : Fld) (i j k : Nat) : Nat := (f.addr + i * f.s1 + j * f.s2) * 8 + f.lsb + k * f.bs

/-- The reset value of a field (R15). -/
def Fld.reset (f : Fld) (i j : Nat) : Nat :=
  match f.rst with
  | .const v => v
  | .byI vs => vs.getD i 0
  | .byJ vs => vs.getD j 0

/-- The value of a field. -/
def State.rd (s : State) (f : Fld) (i : Nat := 0) (j : Nat := 0) (k : Nat := 0) : Nat :=
  (Sparse.get (BitVec.ofNat 64 (f.reset i j)) s.regs (f.key i j k)).toNat

/-- A one-bit field. -/
def State.bit (s : State) (f : Fld) (i : Nat := 0) (j : Nat := 0) (k : Nat := 0) : Bool :=
  decide (s.rd f i j k ≠ 0)

/-- A field read as a word of its width. -/
def State.rdW (s : State) (f : Fld) (i : Nat := 0) (j : Nat := 0) (k : Nat := 0) : W32 :=
  BitVec.ofNat 32 (s.rd f i j k)

/-- A signed field: its value as a two's complement number of the field's width. -/
def State.rdI (s : State) (f : Fld) (i : Nat := 0) (j : Nat := 0) (k : Nat := 0) : Int :=
  (BitVec.ofNat f.width (s.rd f i j k)).toInt

/-- The field set to `v`, cut to the field's width. -/
def State.wr (s : State) (f : Fld) (v : Nat) (i : Nat := 0) (j : Nat := 0) (k : Nat := 0) : State :=
  { s with regs := Sparse.put (BitVec.ofNat 64 (f.reset i j)) s.regs (f.key i j k)
                     (BitVec.ofNat 64 (v % 2 ^ f.width)) }

/-- The field set to one truth value. -/
def State.wrB (s : State) (f : Fld) (b : Bool) (i : Nat := 0) (j : Nat := 0) (k : Nat := 0) : State :=
  s.wr f (boolNat b) i j k

/-- The signed value `v` written in two's complement. -/
def State.wrI (s : State) (f : Fld) (v : Int) (i : Nat := 0) (j : Nat := 0) (k : Nat := 0) : State :=
  s.wr f (BitVec.ofInt f.width v).toNat i j k

/-- A counting field: `n` added, saturating at the field's largest value. -/
def State.inc (s : State) (f : Fld) (n : Nat := 1) (i : Nat := 0) (j : Nat := 0) (k : Nat := 0) : State :=
  s.wr f (satAdd (2 ^ f.width - 1) (s.rd f i j k) n) i j k

/-- A field put back to its reset value. -/
def State.rst (s : State) (f : Fld) (i : Nat := 0) (j : Nat := 0) (k : Nat := 0) : State :=
  s.wr f (f.reset i j) i j k

/-! ### Memories (R7, R12, R448) -/

/-- One byte of memory. -/
def State.ldB (s : State) (a : Nat) : Byte := Sparse.get 0 s.mem a

/-- The `n` bytes from `a`, little-endian (R12). -/
def memNat (m : List Host.Cell) (a : Nat) : Nat → Nat
  | 0 => 0
  | n + 1 => (Sparse.get 0 m a : Byte).toNat + 256 * memNat m (a + 1) n

/-- `n` bytes of `v` stored from `a`, little-endian (R12). -/
def memPut (m : List Host.Cell) (a : Nat) : Nat → Nat → List Host.Cell
  | 0, _ => m
  | n + 1, v => memPut (Sparse.put 0 m a (BitVec.ofNat 8 v)) (a + 1) n (v / 256)

/-- An `n`-byte number of memory. -/
def State.ld (s : State) (a n : Nat) : Nat := memNat s.mem a n
/-- A 32-bit word of memory. -/
def State.ldW (s : State) (a : Nat) : W32 := BitVec.ofNat 32 (s.ld a 4)
/-- An `n`-byte number stored. -/
def State.st (s : State) (a n v : Nat) : State := { s with mem := memPut s.mem a n v }
/-- A 32-bit word stored. -/
def State.stW (s : State) (a : Nat) (v : W32) : State := s.st a 4 v.toNat
/-- A block of memory written to zero. -/
def State.stZero (s : State) (a n : Nat) : State := { s with mem := Sparse.clear s.mem a (a + n) }
/-- A list of bytes stored from `a`. -/
def State.stBytes (s : State) (a : Nat) : List Byte → State
  | [] => s
  | b :: bs => (s.st a 1 b.toNat).stBytes (a + 1) bs
/-- The `n` bytes from `a` as a list. -/
def State.ldBytes (s : State) (a n : Nat) : List Byte := (List.range n).map (fun i => s.ldB (a + i))

/-- `w` bits from bit `l` of the `n`-byte number at `a`. -/
def State.ldBits (s : State) (a n l w : Nat) : Nat := (s.ld a n / 2 ^ l) % 2 ^ w
/-- `w` bits from bit `l` of the `n`-byte number at `a` set to `v`. -/
def State.stBits (s : State) (a n l w v : Nat) : State :=
  let x := s.ld a n
  s.st a n (x - (x / 2 ^ l % 2 ^ w) * 2 ^ l + (v % 2 ^ w) * 2 ^ l)

/-- A value the spec leaves open is taken from the free values (log entry 7). -/
def State.draw (s : State) : W64 × State := (Config.freeValue s.fresh, { s with fresh := s.fresh + 1 })

/-- An error within ±2 ns, in units of 2⁻¹⁶ ns (R347, R350). -/
def State.jitter (s : State) : Int × State :=
  let d := s.draw
  (Int.ofNat (d.1.toNat % 262145) - 131072, d.2)

/-- The throttle level in force (R404). -/
def State.thrLevel (s : State) : Nat := Nat.max s.therm.autoLevel (s.rd F.THERM_THR_CTRL_FORCE)
/-- The looper mode of the level in force (R405). -/
def State.loopModeWanted (s : State) : Nat :=
  match s.thrLevel with
  | 0 => 0
  | 1 => s.rd F.THERM_THR_CTRL_LOOP_L1
  | _ => s.rd F.THERM_THR_CTRL_LOOP_L2
/-- The solver mode of the level in force (R405). -/
def State.solveModeWanted (s : State) : Nat :=
  match s.thrLevel with
  | 0 => 0
  | 1 => s.rd F.THERM_THR_CTRL_SOLVE_L1
  | _ => s.rd F.THERM_THR_CTRL_SOLVE_L2

/-! ### Small list helpers -/

/-- The value an association list gives a key. -/
def alist {β : Type} (l : List (Nat × β)) (k : Nat) : Option β := (l.find? (·.1 = k)).map (·.2)
/-- An association list with a key set. -/
def aset {β : Type} (l : List (Nat × β)) (k : Nat) (v : β) : List (Nat × β) :=
  (k, v) :: l.filter (·.1 ≠ k)
/-- An association list with a key removed. -/
def adel {β : Type} (l : List (Nat × β)) (k : Nat) : List (Nat × β) := l.filter (·.1 ≠ k)
/-- Adds a number to a list used as a set. -/
def sadd (l : List Nat) (k : Nat) : List Nat := if l.contains k then l else l ++ [k]
/-- Inserts into an ascending list. -/
def insSorted {β : Type} (le : β → β → Bool) (x : β) : List β → List β
  | [] => [x]
  | y :: l => if le x y then x :: y :: l else y :: insSorted le x l
/-- Sorts a list by insertion, keeping the order of equals. -/
def sortBy {β : Type} (le : β → β → Bool) (l : List β) : List β := l.foldr (insSorted le) []
/-- Sorts numbers upwards. -/
def sortNat (l : List Nat) : List Nat := sortBy (fun a b => decide (a ≤ b)) l
/-- Folds a state through a list. -/
def forEach {β : Type} (l : List β) (f : State → β → State) (s : State) : State := l.foldl f s
/-- The members of `0 … n-1` whose bit is set in `mask`. -/
def maskBits (mask n : Nat) : List Nat := (List.range n).filter (fun i => mask.testBit i)
/-- The number of bits set. -/
def popcount (v n : Nat) : Nat := (maskBits v n).length
/-- Signed 32-bit difference `a - b`. -/
def sdiff32 (a b : W32) : Int := (a - b).toInt
/-- Rounding up division. -/
def ceilDiv (a b : Nat) : Nat := (a + b - 1) / b

/-! ### Time (R340 to R343) -/

/-- Units of 2⁻¹⁶ ns in one nanosecond. -/
def nsUnit : Nat := 65536
/-- Units of 2⁻¹⁶ ns in one strand frame of 320 ns (R342). -/
def frameUnits : Nat := 20971520
/-- TIME cycles in one millisecond. -/
def msCycles : Nat := 500000
/-- TIME cycles in one microsecond. -/
def usCycles : Nat := 500

/-- A time base by number (TB0 to TB3). -/
def State.tb (s : State) (t : Nat) : TimeBase := s.time.tb.get (Fin.ofNat 4 t)
/-- A time base set. -/
def State.setTb (s : State) (t : Nat) (b : TimeBase) : State :=
  { s with time := { s.time with tb := s.time.tb.set (Fin.ofNat 4 t) b } }
/-- The extended time of a base, in units of 2⁻¹⁶ ns (R340). -/
def TimeBase.ext (b : TimeBase) : Nat := b.wraps.toNat * 2 ^ 64 + b.now.toNat
/-- A base whose extended time is `x` units (R340). -/
def TimeBase.withExt (b : TimeBase) (x : Nat) : TimeBase :=
  { b with now := BitVec.ofNat 64 x, wraps := BitVec.ofNat 32 (x / 2 ^ 64) }
/-- Extended TB0 time. -/
def State.ext0 (s : State) : Nat := (s.tb 0).ext
/-- The current extended frame number: outbound frame k begins at TB0 instant 320k ns (R267). -/
def State.frame (s : State) : Nat := s.ext0 / frameUnits
/-- TB0 seconds (R340). -/
def State.tb0Sec (s : State) : W32 := BitVec.ofNat 32 (s.ext0 / nsUnit / 1000000000)

/-- The adjustment of the rate during a slew, in units of 2⁻³² ns per cycle (R343): rounded up, so that no slew lasts
longer than its rate gives (DESIGN CHOICE, log entry 37). -/
def slewStep (inc : Nat) : Nat := ceilDiv inc 20000

/-- A base after `k` cycles of 2 ns in which its domain had `n` clock edges of increment `inc` (R341, R343): the slew absorbs
at most `slewStep inc` an edge, and LOCKED ages (R344). -/
def TimeBase.advance (b : TimeBase) (inc n k : Nat) : TimeBase :=
  let acc : Int := Int.ofNat (b.ext * 65536 + b.frac.toNat + n * inc)
  let amt : Nat := Nat.min b.slew.natAbs (n * slewStep inc)
  let d : Int := if b.slew < 0 then - Int.ofNat amt else Int.ofNat amt
  let x : Nat := ((acc + d) % Int.ofNat (2 ^ 112)).toNat
  { now := BitVec.ofNat 64 (x / 65536), frac := BitVec.ofNat 16 x, wraps := BitVec.ofNat 32 (x / 2 ^ 80)
    slew := b.slew - d, lockLeft := b.lockLeft - k }

/-- The increment of a base (R341). -/
def State.incOf (s : State) (t : Nat) : Nat := s.rd F.TIME_INC_INC t

/-! ### Domains (R425, R429, R431) -/

/-- A clock domain is enabled in the enable class of a power state. -/
def State.classEnabled (s : State) (state d : Nat) : Bool :=
  match state with
  | 2 => s.bit F.CLK_DOM_EN_SLEEP d
  | 3 => s.bit F.CLK_DOM_EN_DEEP d
  | _ => s.bit F.CLK_DOM_EN_RUN d

/-- A clock domain is enabled in the power state in force. -/
def State.domEnabled (s : State) (d : Nat) : Bool := s.classEnabled (s.rd F.PWR_STATUS_STATE) d

/-- The cycle from which a domain's clock runs: now, or the end of a switch in progress (R426). -/
def State.clockFrom (s : State) (d : Nat) : Nat :=
  Nat.max s.time.cycle (((s.clock.moving.find? (·.1 = d)).map (·.2.2)).getD 0)

/-- Edges of the clock of domain `d` in the next `k` cycles of 2 ns: `mhz` / 500 each from its normal source, one in 25 ns
from RCO; none while the domain is disabled in the power state in force, or switches (R418, R425, R426, R429). -/
def State.domEdges (s : State) (d perCycle k : Nat) : Nat :=
  let a := s.clockFrom d
  let b := s.time.cycle + k
  if !s.domEnabled d || b ≤ a then 0
  else if s.bit F.CLK_DOM_ACT_SRC d then b * 2 / 25 - a * 2 / 25
  else perCycle * (b - a)

/-- LANE and BRAID have their clock: the lane PLLs have locked, and no REFCLK failure stops them (R418, R421, R424). -/
def State.laneClock (s : State) : Bool := s.clock.laneLock && !s.clock.refStop
/-- The strand lanes run. -/
def State.lanesRun (s : State) : Bool := s.laneClock && s.domEnabled 8

/-- Cycles of the SEQ clock, 1.0 GHz (R92). -/
def State.seqCycles (s : State) (k : Nat) : Nat := s.domEdges 4 2 k

/-- Cycles of the TIME clock, 500 MHz: counting begins with start-up (R340, R341). -/
def State.timeEdges (s : State) (k : Nat) : Nat := if s.rd F.BOOT_STATUS_PHASE = 0 then 0 else s.domEdges 5 1 k

/-- What a TIME clock edge adds to a base: INC, and INC × 25 / 2 from RCO, which keeps the nominal rate (R341, R422). -/
def State.edgeInc (s : State) (t : Nat) : Nat :=
  if s.bit F.CLK_DOM_ACT_SRC 5 then s.incOf t * 25 / 2 else s.incOf t

/-- A sequencer's SEQ clock runs: not asleep, and not idle where the power state gates by need (R92, R429). -/
def State.seqClocked (s : State) (q : Seq) : Bool := q.st ≠ .sleep && !(q.st = .idle && s.rd F.PWR_STATUS_STATE ≠ 0)

/-- The engines that STANDBY holds gated are so: the lay engine, the drive modulators, the calibration engine and all but
one looper core (R429); a transition out of it has begun to open them. -/
def State.coldStandby (s : State) : Bool := s.rd F.PWR_STATUS_STATE = 2 && !s.bit F.PWR_STATUS_CHANGING

/-- `k` cycles of 2 ns pass: every base advances by its clock's edges, the sequencers' cycle counters count the SEQ cycles
that reach them (R92), and nothing else happens by itself. -/
def State.passCycles (s : State) (k : Nat) : State :=
  { s with
    time := { tb := Vector.ofFn (fun t => (s.time.tb.get t).advance (s.edgeInc t.val) (s.timeEdges k) k),
              cycle := s.time.cycle + k }
    seqs := s.seqs.map (fun (q : Seq) => if s.seqClocked q then { q with cyc := q.cyc + BitVec.ofNat 64 (s.seqCycles k) } else q) }

/-- Cycles of 2 ns that bring `n` edges of the TIME clock. -/
def State.cyclesForEdges (s : State) (n : Nat) : Nat :=
  let a := s.clockFrom 5
  if n = 0 then 0
  else if s.bit F.CLK_DOM_ACT_SRC 5 then ceilDiv ((a * 2 / 25 + n) * 25) 2 - s.time.cycle
  else a + n - s.time.cycle

/-- TIME cycles until base `t` first reaches `d` units of 2⁻¹⁶ ns ahead of its present NOW. -/
def State.cyclesToGain (s : State) (t d : Nat) : Nat :=
  let b := s.tb t
  let inc := s.edgeInc t
  let need := d * 65536 - b.frac.toNat
  let st := slewStep inc
  let rate := if b.slew = 0 then inc else if b.slew < 0 then inc - st else inc + st
  let k1 := ceilDiv need rate
  s.cyclesForEdges (
    if b.slew = 0 || k1 * st ≤ b.slew.natAbs then k1
    else if b.slew < 0 then ceilDiv (need + b.slew.natAbs) inc else ceilDiv (need - b.slew.natAbs) inc)

/-- Time passes until extended TB0 time reaches `x`; an instant already past changes nothing (log
entry 2). -/
def State.passTo (s : State) (x : Nat) : State :=
  if x ≤ s.ext0 then s else s.passCycles (s.cyclesToGain 0 (x - s.ext0))

/-- Time passes until base `t` reaches the 64-bit value `target`, judged by signed difference (R345). -/
def State.passBaseTo (s : State) (t : Nat) (target : W64) : State :=
  let d := (target - (s.tb t).now).toInt
  if d ≤ 0 then s else s.passCycles (s.cyclesToGain t d.toNat)

/-- Time passes until TIME cycle `c`. -/
def State.passToCycle (s : State) (c : Nat) : State := s.passCycles (c - s.time.cycle)

/-! ### Hooks (R51 to R54) -/

/-- A sequencer by number. -/
def State.sq (s : State) (q : Nat) : Seq := s.seqs.get (Fin.ofNat 8 q)
/-- A sequencer set. -/
def State.setSq (s : State) (q : Nat) (x : Seq) : State := { s with seqs := s.seqs.set (Fin.ofNat 8 q) x }

/-- Whether hook `h` is enabled; hook 0 always is (R52). -/
def State.hookEn (s : State) (h : Nat) : Bool := h = 0 || s.bit F.SEQ_HOOK_EN h

/-- A waiting sequencer notes the event of a hook its mask names (R118, R120). -/
def Seq.noteEvent (q : Seq) (h : Nat) : Seq :=
  match q.wait with
  | .waite m seen => { q with wait := .waite m (seen || m.getLsbD h) }
  | .sleep m seen => { q with wait := .sleep m (seen || m.getLsbD h) }
  | _ => q

/-- An event of hook `h` occurs with argument `arg` (R51 to R53): WAITE and SLEEP see it, and an enabled
hook becomes pending or counts OVF. -/
def State.fireHook (s : State) (h : Nat) (arg : W32) : State :=
  let s := { s with seqs := s.seqs.map (fun (q : Seq) => q.noteEvent h) }
  if s.hookEn h then
    if s.bit F.SEQ_HOOK_PEND h then s.inc F.SEQ_HOOK_OVF 1 h
    else { s.wrB F.SEQ_HOOK_PEND true h with hookArgs := aset s.hookArgs h arg }
  else s

/-- The CLKFAIL event (R54): a target in RUN, WAIT or SLEEP abandons its thread and starts the CLKFAIL
thread; a second event during that thread only counts OVF. -/
def State.fireClkfail (s : State) (src : W32) : State :=
  let t := s.rd F.SEQ_HOOK_TARGET 0
  let q := s.sq t
  if q.nmi then
    let s := { s with seqs := s.seqs.map (fun (q : Seq) => q.noteEvent 0) }
    s.inc F.SEQ_HOOK_OVF 1 0
  else if q.st = .run || q.st = .wait || q.st = .sleep then
    let s := { s with seqs := s.seqs.map (fun (q : Seq) => q.noteEvent 0)
                      solve := { s.solve with trials := s.solve.trials.filter (fun x => x.val ≠ t) } }
    let q := s.sq t
    s.setSq t { q with g := (q.g.set 1 (src.setWidth 64)).set 2 0, nmiPc := q.pc, nmi := true, hook := 0
                       st := .run, wait := .none, pc := BitVec.ofNat 16 (s.rd F.SEQ_HOOK_ENTRY 0) }
  else s.fireHook 0 src

/-! ### The fault unit (R378 to R388) -/

/-- The numbers assigned in R378; every other number is reserved. -/
def faultAssigned (n : Nat) : Bool :=
  n ≤ 8 || (16 ≤ n && n ≤ 20) || (24 ≤ n && n ≤ 33) || (40 ≤ n && n ≤ 43) || (48 ≤ n && n ≤ 55) ||
  (64 ≤ n && n ≤ 70) || (96 ≤ n && n ≤ 127)

/-- The level sources of R378. -/
def faultLevel (n : Nat) : Bool :=
  [0, 4, 6, 7, 43, 49, 51, 64, 65, 66, 68, 69].contains n

/-- Freeze-lay is in force: held, or implied by HOLD or SAFE (R382). -/
def State.frozen (s : State) : Bool :=
  s.fault.heldFreeze || s.bit F.FAULT_STATUS_HOLD || s.bit F.FAULT_STATUS_SAFE
/-- The hold reaction is in force. -/
def State.holdOn (s : State) : Bool := s.bit F.FAULT_STATUS_HOLD
/-- The safe reaction is in force. -/
def State.safeOn (s : State) : Bool := s.bit F.FAULT_STATUS_SAFE

/-- The effective severity of a raise (R380, R383). -/
def State.effSev (s : State) (n : Nat) (injected realSame : Bool) : Nat :=
  if injected && realSame then s.rd F.FAULT_SRC_STATUS_EFF n
  else
    let lvl := s.rd F.FAULT_SRC_CFG_SEV n
    if s.bit F.FAULT_SRC_STATUS_ACTIVE n && s.bit F.FAULT_SRC_CFG_ESC_EN n then
      Nat.max lvl (Nat.min (s.rd F.FAULT_SRC_STATUS_EFF n + 1) 3)
    else lvl

/-- The reaction set of a raise (R382, R383): bit 0 LOG, 1 INT, 2 FREEZE, 3 HOLD, 4 SAFE. -/
def State.reactSet (s : State) (n eff : Nat) (injected : Bool) : Nat :=
  let r := s.rd F.FAULT_SEV_REACT_REACT eff ||| s.rd F.FAULT_SRC_CFG_REACT n |||
    (if n = 0 then 2 else 0) ||| (if n = 4 then 16 else 0)
  if injected && !s.bit F.FAULT_CTRL_INJ_REACT then r &&& 3 else r

/-- One of two raises of a cycle stands before the other (R385): the higher effective severity, then the lower source number;
raises of one source keep their order, so that a source stands where its first raise does (DESIGN CHOICE, log entry 36). -/
def FaultEntry.before (x y : FaultEntry) : Bool :=
  if x.src = y.src then decide (x.ord < y.ord)
  else decide (y.lead < x.lead) || (x.lead = y.lead && decide (x.src < y.src))

/-- A raise put among the raises of its cycle. -/
def faultInsert (x : FaultEntry) : List FaultEntry → List FaultEntry
  | [] => [x]
  | y :: l => if x.before y then x :: y :: l else y :: faultInsert x l

/-- A log slot written. -/
def State.logSlot (s : State) (i : Nat) (x : FaultEntry) : State :=
  let s := ((((s.wr F.FAULT_LOG_SOURCE x.src i).wrB F.FAULT_LOG_INJECTED x.injected i).wr F.FAULT_LOG_SEV x.sev i).wr
    F.FAULT_LOG_EFF x.eff i).wr F.FAULT_LOG_REACT x.react i
  (s.wr F.FAULT_LOG_DETAIL x.detail.toNat i).wr F.FAULT_LOG_TIME (s.tb 0).now.toNat i

/-- A raise of a new cycle finds no other of its cycle. -/
def State.faultCycle (s : State) : State :=
  if s.fault.cycleAt = s.time.cycle then s
  else { s with fault := { s.fault with cycleAt := s.time.cycle, cycleLog := [], cycleSrc := [], firstHere := false } }

/-- The raises of a source in the newest cycle (R379). -/
def State.cycleOf (s : State) (n : Nat) : CycleRaises := (alist s.fault.cycleSrc n).getD { lead := 0, details := [], injected := 0 }

/-- A raise joins the raises of its source in the newest cycle: what they are then (R379). -/
def CycleRaises.join (c : CycleRaises) (eff : Nat) (detail : W32) (injected : Bool) : CycleRaises :=
  { lead := if c.details.isEmpty && c.injected = 0 then eff else c.lead
    details := if injected then c.details else insSorted (fun a b => decide (a.toNat ≤ b.toNat)) detail c.details
    injected := if injected then c.injected + 1 else c.injected }

/-- The detail of the k-th raise of a source in a cycle, the real ones first (R379, R383). -/
def CycleRaises.detail (c : CycleRaises) (k : Nat) (d : W32) : W32 := (c.details[k]?).getD d

/-- The raises of the newest cycle stand in the log, the last of them in the newest entry. -/
def State.logCycle (s : State) : State :=
  let l := s.fault.cycleLog
  let i := s.rd F.FAULT_LOG_HEAD_NEWEST
  forEach (l.zipIdx.drop (l.length - 64)) (fun s (p : FaultEntry × Nat) =>
    s.logSlot ((i + 64 * l.length - (l.length - 1 - p.2)) % 64) 
      (if p.1.injected then p.1 else { p.1 with detail := (s.cycleOf p.1.src).detail p.1.ord p.1.detail })) s

/-- A raise enters the log, in its place among the raises of its cycle (R385). -/
def State.faultLog (s : State) (x : FaultEntry) : State :=
  let i := if s.bit F.FAULT_LOG_HEAD_ANY then (s.rd F.FAULT_LOG_HEAD_NEWEST + 1) % 64 else 0
  let s := if s.fault.unread.contains i then s.inc F.FAULT_LOG_HEAD_LOST else s
  let s := { s with fault := { s.fault with unread := sadd s.fault.unread i, cycleLog := faultInsert x s.fault.cycleLog } }
  (s.wr F.FAULT_LOG_HEAD_NEWEST i).wrB F.FAULT_LOG_HEAD_ANY true

/-- FAULT_FIRST shows the first raise of its source and cycle with the least detail (R379, R386). -/
def State.firstDetail (s : State) : State :=
  let n := s.rd F.FAULT_FIRST_SOURCE
  if s.fault.firstHere && !s.bit F.FAULT_FIRST_INJECTED then
    s.wr F.FAULT_FIRST_DETAIL ((s.cycleOf n).detail 0 (s.rdW F.FAULT_FIRST_DETAIL)).toNat
  else s

/-- FAULT_FIRST holds the first raise that found it free, by the order of R385 among the raises of one cycle
(R386). -/
def State.faultFirst (s : State) (x : FaultEntry) : State :=
  let cur : FaultEntry := { src := s.rd F.FAULT_FIRST_SOURCE, sev := 0, eff := s.rd F.FAULT_FIRST_EFF, react := 0
                            injected := false, detail := 0, lead := s.rd F.FAULT_FIRST_EFF, ord := 0 }
  if s.bit F.FAULT_FIRST_VALID && !(s.fault.firstHere && x.before cur) then s
  else
    let s := ((((s.wr F.FAULT_FIRST_SOURCE x.src).wrB F.FAULT_FIRST_INJECTED x.injected).wr F.FAULT_FIRST_SEV x.sev).wr
      F.FAULT_FIRST_EFF x.eff).wr F.FAULT_FIRST_REACT x.react
    let s := ((s.wr F.FAULT_FIRST_DETAIL x.detail.toNat).wr F.FAULT_FIRST_TIME (s.tb 0).now.toNat).wrB F.FAULT_FIRST_VALID true
    { s with fault := { s.fault with firstHere := true } }

/-- An MSI-X message is issued where the PCIe link is up (R382, R451). -/
def State.sendMsix (s : State) (vec : Nat) : State :=
  if s.boot.pcieUp then { s with fault := { s.fault with msix := s.fault.msix ++ [vec] } } else s

/-- The reactions other than LOG take force (R382). -/
def State.faultReact (s : State) (n react : Nat) (detail : W32) : State :=
  let s := if react.testBit 1 then
      if n = 0 then (s.fireClkfail detail).sendMsix 0
      else
        let s := s.fireHook 1 (BitVec.ofNat 32 n)
        if s.bit F.FAULT_STATUS_INT_PEND then s
        else (s.wrB F.FAULT_STATUS_INT_PEND true).sendMsix (s.rd F.FAULT_CTRL_VEC)
    else s
  let s := if react.testBit 2 then { s with fault := { s.fault with heldFreeze := true } } else s
  let s := if react.testBit 3 then s.wrB F.FAULT_STATUS_HOLD true else s
  if react.testBit 4 then s.wrB F.FAULT_STATUS_SAFE true else s

/-- One raise recorded (R379 to R386): `injected` and `realSame` as in R383.  Real raises of one source in one cycle take their
details in ascending order, whatever order they come in (R379). -/
def State.record (s : State) (n : Nat) (detail : W32) (injected realSame : Bool) : State :=
  let eff := s.effSev n injected realSame
  let sev := s.rd F.FAULT_SRC_CFG_SEV n
  let react := if injected && realSame then 0 else s.reactSet n eff injected
  let logged := if injected && realSame then ((alist s.fault.lastReact n).getD 0).testBit 0
    else react.testBit 0
  let s := ((s.wrB F.FAULT_SRC_STATUS_ACTIVE true n).wr F.FAULT_SRC_STATUS_EFF eff n).wrB
    F.FAULT_SRC_STATUS_INJECTED injected n
  let s := s.faultCycle
  let c := (s.cycleOf n).join eff detail injected
  let k := if injected then c.details.length + c.injected - 1 else c.details.length - 1
  let last := c.detail k detail
  let s := { s with fault := { s.fault with cycleSrc := aset s.fault.cycleSrc n c } }
  let s := (s.inc F.FAULT_SRC_STATUS_COUNT 1 n).wr F.FAULT_SRC_STATUS_DETAIL last.toNat n
  let s := { s with fault := { s.fault with lastReact := aset s.fault.lastReact n react
                                            realAt := if injected then s.fault.realAt else aset s.fault.realAt n s.time.cycle } }
  let x : FaultEntry := { src := n, sev := sev, eff := eff, react := react, injected := injected, detail := last
                          lead := c.lead, ord := k }
  ((if logged then s.faultLog x else s).logCycle.faultFirst x).firstDetail.faultReact n react detail

/-- A real raise of source `n` (R379): a level source raises once while its condition stands. -/
def State.raise (s : State) (n : Nat) (detail : W32) : State :=
  if !faultAssigned n then s
  else if faultLevel n then
    if s.bit F.FAULT_SRC_STATUS_LEVEL n then s
    else (s.wrB F.FAULT_SRC_STATUS_LEVEL true n).record n detail false false
  else s.record n detail false false

/-- The condition of a level source ends (R379). -/
def State.levelEnd (s : State) (n : Nat) : State := s.wrB F.FAULT_SRC_STATUS_LEVEL false n

/-- A raise by a force bit or by FRAISE (R379, R380); in the cycle of a real raise of its source it stands beside
that raise (R383). -/
def State.inject (s : State) (n : Nat) (detail : W32) : State :=
  if faultAssigned n then s.record n detail true (decide (alist s.fault.realAt n = some s.time.cycle)) else s

/-- An acknowledgement (R381). -/
def State.ackFault (s : State) (n : Nat) : State :=
  if s.bit F.FAULT_SRC_STATUS_LEVEL n then s else s.wrB F.FAULT_SRC_STATUS_ACTIVE false n

/-! ### Bytes and check sums (R12, R41, R471) -/

/-- The `n` low bytes of a number, least significant first. -/
def natBytes : Nat → Nat → List Byte
  | 0, _ => []
  | n + 1, v => BitVec.ofNat 8 v :: natBytes n (v / 256)

/-- The number a list of bytes spells, least significant first. -/
def bytesNat : List Byte → Nat
  | [] => 0
  | b :: l => b.toNat + 256 * bytesNat l

/-- `n` bytes of a list from an offset, as a number. -/
def bytesAt (l : List Byte) (o n : Nat) : Nat := bytesNat ((l.drop o).take n)

/-- `k` shift steps of the reflected CRC-32 of IEEE 802.3. -/
def crc32Bits : Nat → Nat → Nat
  | 0, c => c
  | k + 1, c => crc32Bits k (if c % 2 = 1 then (c / 2) ^^^ 0xEDB88320 else c / 2)

/-- The CRC-32 of IEEE 802.3 (R41). -/
def crc32 (l : List Byte) : W32 :=
  BitVec.ofNat 32 ((l.foldl (fun c b => crc32Bits 8 (c ^^^ b.toNat)) 0xFFFFFFFF) ^^^ 0xFFFFFFFF)

/-- Source THROTTLE stands while either mode in force is not zero (R405). -/
def State.throttleSource (s : State) : State :=
  let a := s.rd F.THERM_STATUS_SOLVE_MODE
  let b := s.rd F.THERM_STATUS_LOOP_MODE
  if a = 0 && b = 0 then s.levelEnd 69 else s.raise 69 (BitVec.ofNat 32 (a + 4 * b))

/-- A solve starts in the throttle mode wanted then (R405). -/
def State.takeSolveMode (s : State) : State := (s.wr F.THERM_STATUS_SOLVE_MODE s.solveModeWanted).throttleSource

/-- No epoch solve runs any more: the override of R148 ends; the trial solve that waits starts (R105, R405). -/
def State.solveEnds (s : State) : State :=
  let s := s.wrB F.SOLVE_STATUS_FULLCLK false
  if s.solve.trials.isEmpty then s else s.takeSolveMode

end Sys2Proof.Machine
end

