-- ==== Sys2Proof/Machine/Ckpt.lean ====
section
/-! DEFINITION. The checkpoint image's bytes and its records (R355, R356, R374, R375). -/

namespace Sys2Proof.Machine

/-- The byte at an offset of those parts of checkpoint staging that holds an image whose layout is not stated (log
entry 9). -/
opaque Config.ckptByte : CkptImage → Nat → Byte

/-- What the bytes of a section whose layout is not stated say: LEDGER, LAYMARK, LOOPS, AUX (log entry 9). -/
opaque Config.ckptDecode : CkptSection → List Byte → CkptImage

/-- The offset and the size of a section (R355). -/
def sectRange : CkptSection → Nat × Nat
  | .header => (0, 0x1000)
  | .ledger => (0x1000, 0x6000)
  | .laymark | .laymarkState => (0x8000, 0x18000)
  | .defect => (0x20000, 0x4000)
  | .wear => (0x24000, 0x15000)
  | .loops => (0x40000, 0xA8000)
  | .aux => (0xE8000, 0x1000)
  | .senseCal => (0xF0000, 0x10000)
  | .cal => (0x100000, 0x100000)
  | .shadow | .handover => (0, 0)

/-- The sections of the image after HEADER, in their order. -/
def ckptSections : List CkptSection := [.ledger, .laymark, .defect, .wear, .loops, .aux, .senseCal, .cal]

/-- A defect-map entry as R30 lays it out. -/
def DmapEntry.word (e : DmapEntry) : Nat :=
  e.object % 2 ^ 17 + e.kind % 8 * 2 ^ 17 + e.cause % 16 * 2 ^ 20 + boolNat e.pending * 2 ^ 24 + e.hours.toNat * 2 ^ 32

/-- A defect-map entry from its word (R30). -/
def DmapEntry.ofNat (v : Nat) : DmapEntry :=
  { object := v % 2 ^ 17, kind := v / 2 ^ 17 % 8, cause := v / 2 ^ 20 % 16, pending := v.testBit 24
    hours := BitVec.ofNat 32 (v / 2 ^ 32) }

/-- The flags word of HEADER. -/
def CkptImage.flags (im : CkptImage) : Nat := boolNat im.calOvf + 2 * boolNat im.senseOvf + 4 * boolNat im.opened

/-- The 32-bit word at an offset of an image, where R355 states what lies there: HEADER up to the coefficients, DEFECT,
WEAR, SENSECAL, CAL and the reserved parts. -/
def CkptImage.wordAt (im : CkptImage) (o : Nat) : Option Nat :=
  if o < 0x20 then
    ([im.gen, im.seqnum, im.stableEpoch, im.landedEpoch, im.lastOpened, im.layFrame, im.wraps,
      BitVec.ofNat 32 im.flags][o / 4]?).map BitVec.toNat
  else if o < 0x1A0 then some (im.coeffs.getD ((o - 0x20) / 4) 0).toNat
  else if 0x7000 ≤ o && o < 0x8000 || 0x39000 ≤ o && o < 0x40000 || 0xE9000 ≤ o && o < 0xF0000 then some 0
  else if 0x20000 ≤ o && o < 0x24000 then
    some ((im.dmap[(o - 0x20000) / 8]?).elim 0 (fun e => e.word / 2 ^ (32 * (o / 4 % 2)) % 2 ^ 32))
  else if 0x24000 ≤ o && o < 0x39000 then some ((alist im.wear ((o - 0x24000) / 4)).getD 0)
  else if 0xF0000 ≤ o && o < 0x100000 then
    some ((im.senseCal[(o - 0xF0000) / 16]?).elim 0 (fun e => ([e.1, e.2.1.toNat, e.2.2.toNat, 0][o / 4 % 4]?).getD 0))
  else if 0x100000 ≤ o && o < 0x200000 then
    some ((im.cal[(o - 0x100000) / 128]?).elim 0 (fun e =>
      let w := (e.2.getD (o / 4 % 32) 0).toNat
      if o / 4 % 32 = 31 then e.1 + w % 256 * 65536 else w))
  else none

/-- A byte of an image apart from HEADER's CRCs. -/
def CkptImage.rawByte (im : CkptImage) (o : Nat) : Byte :=
  match im.wordAt o with
  | some w => BitVec.ofNat 8 (w / 256 ^ (o % 4))
  | none => Config.ckptByte im o

/-- The bytes of one section. -/
def sectBytes (sect : CkptSection) (b : Nat → Byte) : List Byte :=
  (List.range (sectRange sect).2).map (fun i => b ((sectRange sect).1 + i))

/-- The byte at an offset of an image.  HEADER's CRC-32 of each section stands after the coefficients, in the sections'
order (log entry 9). -/
def CkptImage.byteAt (im : CkptImage) (o : Nat) : Byte :=
  if 0x1A0 ≤ o && o < 0x1C0 then
    match ckptSections[(o - 0x1A0) / 4]? with
    | some sect => BitVec.ofNat 8 ((crc32 (sectBytes sect im.rawByte)).toNat / 256 ^ (o % 4))
    | none => 0
  else im.rawByte o

/-- `n` bytes from an offset as a number. -/
def bytesFrom (b : Nat → Byte) (o n : Nat) : Nat := bytesNat ((List.range n).map (fun i => b (o + i)))

/-- What the bytes of one section say (R355): an entry of zeros is no entry of DEFECT or WEAR, GAIN 0 none of SENSECAL and
VALID 0 none of CAL (log entry 9). -/
def sectDecode (sect : CkptSection) (b : Nat → Byte) : CkptImage :=
  let n (o k : Nat) : Nat := bytesFrom b o k
  let w (o : Nat) : W32 := BitVec.ofNat 32 (n o 4)
  let z := CkptImage.reset
  match sect with
  | .header =>
    { z with gen := w 0, seqnum := w 4, stableEpoch := w 8, landedEpoch := w 0xC, lastOpened := w 0x10, layFrame := w 0x14
             wraps := w 0x18, calOvf := (w 0x1C).getLsbD 0, senseOvf := (w 0x1C).getLsbD 1, opened := (w 0x1C).getLsbD 2
             coeffs := (List.range 96).map (fun k => w (0x20 + 4 * k)) }
  | .defect =>
    { z with dmap := ((List.range 2048).map (fun e => n (0x20000 + 8 * e) 8)).filterMap (fun v =>
        if v = 0 then none else some (DmapEntry.ofNat v)) }
  | .wear =>
    { z with wear := (List.range 21504).filterMap (fun c =>
        let d := n (0x24000 + 4 * c) 4
        if d = 0 then none else some (c, d)) }
  | .senseCal =>
    { z with senseCal := (List.range 4096).filterMap (fun e =>
        let a := 0xF0000 + 16 * e
        if n (a + 8) 4 = 0 then none else some (n a 4, w (a + 4), w (a + 8))) }
  | .cal =>
    { z with cal := (List.range 8192).filterMap (fun e =>
        let a := 0x100000 + 128 * e
        let v := n (a + 126) 1
        if v = 0 then none
        else some (n (a + 124) 2, (List.range 31).map (fun k => w (a + 4 * k)) ++ [BitVec.ofNat 32 v])) }
  | sect => Config.ckptDecode sect (sectBytes sect b)

/-- The parts of an image that one section holds, taken from another image. -/
def CkptImage.take (im x : CkptImage) (sect : CkptSection) : CkptImage :=
  match sect with
  | .header => { im with gen := x.gen, seqnum := x.seqnum, lastOpened := x.lastOpened, layFrame := x.layFrame, wraps := x.wraps
                         calOvf := x.calOvf, senseOvf := x.senseOvf, opened := x.opened, stableEpoch := x.stableEpoch
                         landedEpoch := x.landedEpoch, coeffs := x.coeffs }
  | .ledger => { im with stable := x.stable, landed := x.landed, routes := x.routes }
  | .laymark => { im with markEpoch := x.markEpoch, markOpts := x.markOpts, markS := x.markS, markState := x.markState
                          markCells := x.markCells, markConns := x.markConns, markCoord := x.markCoord }
  | .laymarkState => { im with markState := x.markState }
  | .defect => { im with dmap := x.dmap }
  | .wear => { im with wear := x.wear }
  | .loops => { im with loops := x.loops }
  | .aux => { im with aux := x.aux }
  | .senseCal => { im with senseCal := x.senseCal }
  | .cal => { im with cal := x.cal }
  | .shadow | .handover => im

/-- Every section passes the CRC that HEADER gives it (R375). -/
def ckptChecks (b : Nat → Byte) : Bool :=
  ckptSections.zipIdx.all (fun p => (crc32 (sectBytes p.1 b)).toNat = bytesFrom b (0x1A0 + 4 * p.2) 4)

/-- The image that bytes of checkpoint staging hold. -/
def CkptImage.ofBytes (b : Nat → Byte) : CkptImage :=
  (CkptSection.header :: ckptSections).foldl (fun im sect => im.take (sectDecode sect b) sect) CkptImage.reset

/-- An image with one record's data laid over its bytes (R356); a STATE update carries the state itself. -/
def CkptImage.applied (im : CkptImage) (r : CkptRecord) : CkptImage :=
  match r.sect with
  | .laymarkState => { im with markState := (r.data.headD 0).toNat }
  | sect =>
    let b (o : Nat) : Byte :=
      if r.offset ≤ o && o < r.offset + 4 * r.data.length then
        BitVec.ofNat 8 ((r.data.getD ((o - r.offset) / 4) 0).toNat / 256 ^ ((o - r.offset) % 4))
      else im.byteAt o
    im.take (sectDecode sect b) sect

/-! ### Checkpoint staging (R355, R374) -/

/-- A byte of checkpoint staging: what a bus master wrote there since the engine last wrote its section, else the image's. -/
def State.stagedByte (s : State) (o : Nat) : Byte := (alist s.redund.staged o).getD (s.redund.image.byteAt o)

/-- The image that checkpoint staging holds: the engine's own where no master wrote there, whose CRCs are of its bytes; else none
where a section's CRC fails (R375). -/
def State.stagedImage (s : State) : Option CkptImage :=
  if s.redund.staged.isEmpty then some s.redund.image
  else if ckptChecks s.stagedByte then some (CkptImage.ofBytes s.stagedByte) else none

/-- The engine writes a section: what a bus master wrote there goes. -/
def State.sectWritten (s : State) (sect : CkptSection) : State :=
  let lo := (sectRange sect).1
  { s with redund := { s.redund with staged := s.redund.staged.filter (fun p => p.1 < lo || lo + (sectRange sect).2 ≤ p.1) } }

/-! ### Records sent (R356, R372) -/

/-- The unit sends records: an ACTIVE one, and the outgoing one of a takeback. -/
def State.ckptSends (s : State) : Bool :=
  s.rd F.REDUND_STATUS_ROLE = 1 || (s.rd F.REDUND_STATUS_ROLE = 3 && s.redund.takeback && s.redund.kind = 0)

/-- One record is sent. -/
def State.ckptSend (s : State) (sect : CkptSection) (offset : Nat) (data : List W32) : State :=
  if s.ckptSends then
    let n : W32 := s.redund.image.seqnum + 1
    let r := CkptRecord.mk n sect offset data
    let s := { s with redund := { s.redund with image := { s.redund.image with seqnum := n }
                                                sentRecs := s.redund.sentRecs ++ [r]
                                                outbox := s.redund.outbox ++ [MgmtOut.record r]
                                                sentAt := s.redund.sentAt ++ [(n, s.time.cycle)] } }
    s.wr F.REDUND_CKPT_SEQ n.toNat
  else s

/-- A record of a whole section; a STATE update carries STATE alone. -/
def State.sectSend (s : State) (sect : CkptSection) : State :=
  match sect with
  | .laymarkState => s.ckptSend sect (sectRange sect).1 [BitVec.ofNat 32 s.redund.image.markState]
  | _ =>
    s.ckptSend sect (sectRange sect).1
      ((List.range ((sectRange sect).2 / 4)).map (fun k => BitVec.ofNat 32 (bytesFrom s.redund.image.byteAt ((sectRange sect).1 + 4 * k) 4)))

/-- HEADER changed. -/
def State.ckptHeader (s : State) : State := (s.sectWritten .header).sectSend .header

/-- A change of one section of the checkpoint image, HEADER with it: GEN counts the sections R355 names, and a unit that
sends records sends the change. -/
def State.ckptTouch (s : State) (sect : CkptSection) : State :=
  let counted := match sect with
    | .ledger | .laymark | .laymarkState | .defect | .senseCal | .cal => true
    | _ => false
  let im := s.redund.image
  let s := { s with redund := { s.redund with image := { im with gen := im.gen + (if counted then 1 else 0) } } }
  ((s.sectWritten sect).sectSend sect).ckptHeader

end Sys2Proof.Machine
end

