-- ==== Sys2Proof/Machine/Epochs.lean ====
section
/-! DEFINITION. The shared operations of the ledger and the epochs: filing, opening, ending with its
cascade, landing and the stable epoch, and what a network epoch's end sends (02, 11). -/

namespace Sys2Proof.Machine

/-! ### Presence (R24, R473) -/

/-- The ports of the accepted geometry. -/
def State.nPorts (s : State) : Nat := if s.strand.geomY512 then 512 else 1024
/-- The stages of the accepted geometry. -/
def State.nStages (s : State) : Nat := if s.strand.geomY512 then 19 else 21
/-- A port number is absent (R24). -/
def State.portAbsent (s : State) (p : Nat) : Bool := decide (s.nPorts ≤ p)
/-- A cell number is absent (R22, R24). -/
def State.cellAbsent (s : State) (c : Nat) : Bool :=
  decide (s.nStages ≤ c / 1024) || decide (s.nPorts ≤ c % 1024)
/-- A sense channel is absent (R22, R24). -/
def State.senseAbsent (s : State) (c : Nat) : Bool :=
  if c < 64512 then s.cellAbsent (c / 3)
  else if c < 65536 then s.portAbsent (c - 64512) else s.portAbsent (c - 65536)
/-- A drive channel is absent (R22, R24). -/
def State.driveAbsent (s : State) (c : Nat) : Bool :=
  if c < 43008 then s.cellAbsent (c / 2)
  else if c < 44032 then s.portAbsent (c - 43008) else s.portAbsent (c - 44032)

/-! ### Status words (R61, R62, R139, R176, R315) -/

/-- The 32-bit status word. -/
def Status.word (t : Status) : W32 := BitVec.ofNat 32 (t.detail % 65536 * 65536 + t.code % 256)
/-- The status a word spells. -/
def Status.ofWord (w : W32) : Status := { code := w.toNat % 256, detail := w.toNat / 65536 }

namespace St
def none : Status := ⟨0, 0⟩
def accepted : Status := ⟨1, 0⟩
def late (d : Nat) : Status := ⟨2, d⟩
def blocked (d : Nat) : Status := ⟨3, d⟩
def defect (d : Nat) : Status := ⟨4, d⟩
def aborted (d : Nat) : Status := ⟨5, d⟩
def already (d : Nat) : Status := ⟨6, d⟩
def landed : Status := ⟨7, 0⟩
def missed : Status := ⟨8, 0x40⟩
end St

/-! ### Triene frames (R291 to R294) -/

/-- This device's ID (R289). -/
def State.ownId (s : State) : BitVec 16 := BitVec.ofNat 16 (s.rd F.SEQ_NET_ID_ID)

/-- A frame of this device with the header of R292. -/
def State.mkFrame (s : State) (typ cls : Nat) (dst : BitVec 16) (flags : Nat) (seqnum e ref : W32)
    (payload : List Byte) : TFrame :=
  { typ := BitVec.ofNat 8 typ, cls := BitVec.ofNat 3 cls, hops := BitVec.ofNat 8 (s.rd F.SEQ_NET_CFG_HOPS)
    dst := dst, src := s.ownId, flags := BitVec.ofNat 16 flags, seqnum := seqnum, epoch := e, ref := ref
    payload := payload }

/-- A Triene frame of the controller is handed to the switch at port 17 (R293, R319). -/
def State.sendFrame (s : State) (f : TFrame) : State := { s with net := { s.net with txq := s.net.txq ++ [f] } }

/-- The transmit count is taken: the next frame's is one more (R292, R294). -/
def State.countFrame (s : State) : State := { s with net := { s.net with txCount := s.net.txCount + 1 } }

/-- A frame of the controller that has no source sequence number carries the transmit count (R292; DEDUCED, log entry
35). -/
def State.sendCounted (s : State) (typ cls : Nat) (dst : BitVec 16) (flags : Nat) (e ref : W32) (payload : List Byte) : State :=
  (s.sendFrame (s.mkFrame typ cls dst flags s.net.txCount e ref payload)).countFrame

/-- A message of the commit exchange sent on GROUP and, where there is one, a copy on ALT_GROUP (R290, R305). -/
def State.sendGroup (s : State) (typ : Nat) (n : NetEpoch) (flags : Nat) (e : W32) (payload : List Byte) : State :=
  let t := s.sendFrame (s.mkFrame typ 6 n.group (flags ||| 1) s.net.txCount e 0 payload)
  (if n.alt = 0xFFFF then t else t.sendFrame (s.mkFrame typ 6 n.alt (flags ||| 3) s.net.txCount e 0 payload)).countFrame

/-- A frame enters a sequencer receive queue (R295). There are eight: a DATA frame of a class R293 does not
list for DATA (5 to 7) has none and is dropped uncounted (DESIGN CHOICE, log entry 21). -/
def State.rxEnter (s : State) (q : Nat) (f : TFrame) : State :=
  if 8 ≤ q then s else
  let l := s.net.rxq.get (Fin.ofNat 8 q)
  if 64 ≤ l.length then s.inc F.SEQ_NET_RXQ_DROP 1 q
  else
    let t := s.net.nextToken
    let t' : W32 := if t + 1 = 0 then 1 else t + 1
    let s := { s with net := { s.net with
      rxq := s.net.rxq.set (Fin.ofNat 8 q) (l ++ [RxFrame.mk f t]), nextToken := t' } }
    s.fireHook 3 (BitVec.ofNat 32 q)

/-! ### Epoch records -/

/-- The record of an epoch. -/
def State.epoch? (s : State) (e : W32) : Option Epoch := s.ledger.epochs.reverse.find? (·.num = e)
/-- The newest record of a number changed: numbers come back once the signed difference of R64 lets them. -/
def modNewest (e : W32) (f : Epoch → Epoch) : List Epoch → List Epoch
  | [] => []
  | x :: l => if x.num = e && !l.any (·.num = e) then f x :: l else x :: modNewest e f l

/-- The record of an epoch changed. -/
def State.modEpoch (s : State) (e : W32) (f : Epoch → Epoch) : State :=
  { s with ledger := { s.ledger with epochs := modNewest e f s.ledger.epochs } }
/-- The network side of an epoch changed. -/
def State.modNet (s : State) (e : W32) (f : NetEpoch → NetEpoch) : State :=
  s.modEpoch e (fun x => { x with net := x.net.map f })
/-- LANDED or ABORTED (R63). -/
def Epoch.ended (x : Epoch) : Bool := x.st = .landed || x.st = .aborted
/-- An epoch has been opened at some time (R66). -/
def State.everOpened (s : State) (e : W32) : Bool := s.ledger.opened.contains e

/-! ### The connection ledger (R80, R81) -/

/-- The ledger copy in use (R80). -/
def LedgerState.cur (l : LedgerState) : LedgerCopy :=
  if l.copyA.good && l.copyB.good then
    if sdiff32 l.copyB.gen l.copyA.gen > 0 then l.copyB else l.copyA
  else if l.copyA.good then l.copyA
  else if l.copyB.good then l.copyB else l.copyA

/-- Whether copy B is in use. -/
def LedgerState.readB (l : LedgerState) : Bool :=
  (!l.copyA.good && l.copyB.good) || (l.copyA.good && l.copyB.good && decide (sdiff32 l.copyB.gen l.copyA.gen > 0))

/-- The locally landed set. -/
def State.landedSet (s : State) : List Conn := s.ledger.cur.landed
/-- The stable set (R73). -/
def State.stableSet (s : State) : List Conn := s.ledger.cur.stable
/-- The stable epoch (R73). -/
def State.stableEpoch (s : State) : W32 := s.ledger.cur.stableEpoch

/-- An update of the ledger: copy A with generation g + 1, then copy B (R80). -/
def State.writeLedger (s : State) (f : LedgerCopy → LedgerCopy) : State :=
  if s.ledger.copyA.good || s.ledger.copyB.good then
    let c := s.ledger.cur
    let n := { f c with gen := c.gen + 1, good := true }
    { s with ledger := { s.ledger with copyA := n, copyB := n } }
  else s

/-! ### The checkpoint image (R355, R356) -/

/-- The image's LEDGER section and HEADER brought up to date (R355). -/
def State.ckptLedger (s : State) (routes : List Route) : State :=
  let c := s.ledger.cur
  let im := { s.redund.image with
    stableEpoch := c.stableEpoch, landedEpoch := c.landedEpoch, stable := c.stable, landed := c.landed
    routes := routes, wraps := (s.tb 0).wraps
    lastOpened := (s.ledger.lastOpened.map (·.1)).getD s.redund.image.lastOpened
    layFrame := (s.ledger.lastOpened.map (fun x => BitVec.ofNat 32 x.2.1)).getD s.redund.image.layFrame
    opened := s.redund.image.opened || s.ledger.lastOpened.isSome }
  ({ s with redund := { s.redund with image := im } } : State).ckptTouch .ledger

/-- The image's DEFECT section brought up to date (R355). -/
def State.ckptDefect (s : State) : State :=
  ({ s with redund := { s.redund with image := { s.redund.image with dmap := s.solve.dmap } } } : State).ckptTouch
    .defect

/-! ### Ledger entries (R58 to R60) -/

/-- The tag an entry shows: 0x0001 until it is reused (R60). -/
def State.tagOf (s : State) (i : Nat) : BitVec 16 := (alist s.ledger.tags i).getD 1
/-- The handle of entry `i` (R60). -/
def State.handleOf (s : State) (i : Nat) : W32 := BitVec.ofNat 32 ((s.tagOf i).toNat * 65536 + i)
/-- The entry a handle names, when its tag matches. -/
def State.entryOf (s : State) (h : W32) : Option (Nat × Entry) :=
  let i := h.toNat % 2048
  if h.toNat / 2048 % 32 = 0 && s.tagOf i = BitVec.ofNat 16 (h.toNat / 65536) then
    (alist s.ledger.entries i).map (fun e => (i, e))
  else none

/-- An entry is freed (R60). -/
def State.freeEntry (s : State) (i : Nat) : State :=
  { s with ledger := { s.ledger with entries := adel s.ledger.entries i } }

/-- The STATUS frame of R298. -/
def State.statusFrameFor (s : State) (c : Cmd) (handle : W32) (st : Status) (final : Bool) : TFrame :=
  s.mkFrame 4 5 c.dev (if final then 16 else 0) c.seqnum c.epoch handle (natBytes 4 st.word.toNat)

/-- An entry's status becomes final: a remote entry is answered and freed at once (R60, R298). -/
def State.finalEntry (s : State) (i : Nat) (st : Status) : State :=
  match alist s.ledger.entries i with
  | none => s
  | some e =>
    if e.remote then
      (s.sendFrame (s.statusFrameFor e.cmd (s.handleOf i) st true)).freeEntry i
    else { s with ledger := { s.ledger with entries := aset s.ledger.entries i { e with status := st } } }

/-- The entries of an epoch still ACCEPTED, lowest entry first. -/
def State.acceptedOf (s : State) (e : W32) : List (Nat × Entry) :=
  sortBy (fun a b => decide (a.1 ≤ b.1))
    (s.ledger.entries.filter (fun p => p.2.cmd.epoch = e && p.2.status.code = 1))

/-- The lowest-numbered free entry (R60). -/
def State.freeIndex (s : State) : Option Nat :=
  if 2048 ≤ s.ledger.entries.length then none
  else (List.range 2048).find? (fun i => (alist s.ledger.entries i).isNone)

/-- A command takes the lowest free entry with status ACCEPTED; the peak follows (R60). -/
def State.fileAt (s : State) (i : Nat) (c : Cmd) (remote : Bool) : State :=
  let tag : BitVec 16 := match alist s.ledger.tags i with
    | none => 1
    | some t => if t = 0xFFFF then 1 else t + 1
  let s := { s with ledger := { s.ledger with
    entries := aset s.ledger.entries i { cmd := c, status := St.accepted, remote := remote }
    tags := aset s.ledger.tags i tag } }
  let used := s.ledger.entries.length
  if s.rd F.SEQ_LDG_STATUS_PEAK < used then s.wr F.SEQ_LDG_STATUS_PEAK used else s

/-- What filing answers: the handle and first status, and whether a new entry was filed; `none` where
every entry is in use (R59). -/
abbrev Filed := Option (W32 × Status × Bool)

/-- The number of a command's class (R55). -/
def CmdOp.num : CmdOp → Nat
  | .unpin => 0 | .disc => 1 | .conn => 2 | .pin => 3
/-- The command of a class number. -/
def CmdOp.ofNum (n : Nat) : CmdOp :=
  if n = 0 then .unpin else if n = 1 then .disc else if n = 2 then .conn else .pin

/-- Filing of a command (R58, R59, R66, R102).  A STANDBY unit's ledger refuses every command but a resend (R353).  The refusal of a command for a corrective epoch (R311) stands after the
tests of the epoch and before ABSENT and LEDGER_OFF (DESIGN CHOICE, log entry 27). -/
def State.file (s : State) (c : Cmd) (remote : Bool) : State × Filed :=
  let off := decide (s.rd F.REDUND_STATUS_ROLE = 2)
  if !s.everOpened c.epoch then (s, some (0, if off then St.blocked 0x17 else St.late 2, false))
  else
    match s.ledger.entries.find? (fun p => p.2.cmd.epoch = c.epoch && p.2.cmd.op = c.op &&
        p.2.cmd.dev = c.dev && p.2.cmd.seqnum = c.seqnum) with
    | some (i, e) =>
      if e.cmd.input = c.input && e.cmd.output = c.output then (s, some (s.handleOf i, e.status, false))
      else (s, some (0, St.blocked 0x13, false))
    | none =>
      let opened := match s.epoch? c.epoch with
        | some x => x.st = .opened && decide (s.ext0 < x.sealT)
        | none => false
      if off then (s, some (0, St.blocked 0x17, false))
      else if !opened then (s, some (0, St.late 1, false))
      else if ((s.epoch? c.epoch).bind (·.net)).any (·.corrective) then (s, some (0, St.blocked 0x308, false))
      else if 1023 < c.input || 1023 < c.output || s.portAbsent c.input || s.portAbsent c.output then
        (s, some (0, St.defect 0x20, false))
      else if !s.bit F.SEQ_CTRL_LDG_EN then (s, some (0, St.blocked 0x17, false))
      else
        match s.freeIndex with
        | none => (s, none)
        | some i =>
          let s := s.fileAt i c remote
          (s, some (s.handleOf i, St.accepted, true))

/-! ### Opening an epoch (R64, R65, R301) -/

/-- A 32-bit frame number read as the frame nearest the present one (R103). -/
def State.frameNear (s : State) (f : W32) : Int := Int.ofNat s.frame + sdiff32 f (BitVec.ofNat 32 s.frame)

/-- The tests of R64 in the order of its table: `lead` in units of 2⁻¹⁶ ns, `sealFrames` the frames
from seal to lay instant.  `none` where the opening may go ahead. -/
def State.openRefusal (s : State) (e : W32) (layFrame : Int) (sealFrames lead : Nat) : Option Status :=
  let sealT := layFrame * frameUnits - Int.ofNat sealFrames * frameUnits
  let clash := match s.ledger.lastOpened with
    | none => false
    | some (n, f, t) =>
      decide (sdiff32 e n < 1) || decide (layFrame < Int.ofNat f + 32) || decide (sealT ≤ Int.ofNat t)
  if clash then some (St.blocked 0x13)
  else if layFrame * frameUnits - Int.ofNat s.ext0 < Int.ofNat lead then some (St.late 3)
  else if 64 ≤ (s.ledger.epochs.filter (fun x => !x.ended)).length then some (St.blocked 0x16)
  else none

/-- The record of an epoch just opened (R63 to R65). -/
def State.newEpoch (s : State) (e : W32) (layFrame sealFrames : Nat) (net : Option NetEpoch) : Epoch :=
  { num := e, st := .opened, layFrame := layFrame, sealT := (layFrame - sealFrames) * frameUnits
    margin := s.rd F.LAY_TIMING_MARGIN, timeout := s.rd F.LAY_TIMING_TIMEOUT, noblank := false, verify := false
    base := none, slot := none, evaluated := false, planned := none, health := none, layBegun := false, passed := false
    outcome := St.none, codes := [], routes := [], endT := 0, net := net }

/-- The opening of an epoch that R64 allows; HEADER of the checkpoint follows (R355). -/
def State.openEpoch (s : State) (e : W32) (layFrame sealFrames : Nat) (net : Option NetEpoch) : State :=
  let x := s.newEpoch e layFrame sealFrames net
  ({ s with
    ledger := { s.ledger with epochs := s.ledger.epochs ++ [x], lastOpened := some (e, layFrame, x.sealT)
                              opened := e :: s.ledger.opened }
    redund := { s.redund with image := { s.redund.image with lastOpened := e, opened := true
                                                             layFrame := BitVec.ofNat 32 layFrame } } } : State).ckptHeader

/-- A takeback is under way and new openings are refused (R372). -/
def State.handingOver (s : State) : Bool := s.redund.takeback && s.rd F.REDUND_STATUS_ROLE = 3

/-- An epoch opened on this device alone: by EPOCH or by `SEQ_HCMD` (R64, R65, R372). -/
def State.openLocal (s : State) (e f : W32) : State × Status :=
  let lf := s.frameNear f
  let sl := s.rd F.SEQ_SEAL_LEAD_FRAMES
  if s.handingOver then (s, St.blocked 0x400)
  else match s.openRefusal e lf sl (Nat.max (10000 * nsUnit) (sl * frameUnits)) with
  | some st => (s, st)
  | none => (s.openEpoch e lf.toNat sl none, St.accepted)

/-! ### Slots (R143) -/

/-- The base address of a weave slot (R129). -/
def slotBase (n : Nat) : Nat := 0x04000000 + n * 0x20000

/-- A slot's state, in `SOLVE_SLOTS` and in its header (R130, R143). -/
def State.setSlot (s : State) (n st : Nat) (e : W32) : State :=
  let s := s.wr F.SOLVE_SLOTS_STATE st 0 0 n
  let s := s.wr F.SOLVE_SLOT_EPOCH_EPOCH (if st = 0 then 0 else e.toNat) n
  s.st (slotBase n + 4) 1 st

/-! ### Ending an epoch (R69 to R71, R309) -/

/-- Whether an entry is a network command of the epoch (R304). -/
def NetEpoch.isNetCmd (n : NetEpoch) (c : Cmd) : Bool :=
  n.netCmds.any (fun x => x.1 = c.op.num && x.2.1 = c.dev.toNat && x.2.2.1 = c.seqnum.toNat)

/-- One epoch ends ABORTED with its own status and the status its ACCEPTED commands take; its slot frees,
a running solve of it stops, EPOCH_END fires (R70, R143, R146, R107). -/
def State.abortOne (s : State) (e : W32) (own : Status) (cmds : Entry → Status) : State :=
  match s.epoch? e with
  | none => s
  | some x =>
    if x.ended then s
    else
      let s := forEach (s.acceptedOf e) (fun s p => s.finalEntry p.1 (cmds p.2)) s
      let s := match x.slot with
        | some n => s.setSlot n.val 0 0
        | none => s
      let s := s.modEpoch e (fun x => { x with st := .aborted, outcome := own, endT := s.ext0, slot := none })
      let s := { s with
        ledger := { s.ledger with outcomes := ((e, false, own) :: s.ledger.outcomes).take 256 }
        lay := { s.lay with staged := s.lay.staged.filter (fun (y : StagedLay) => y.epoch ≠ e) } }
      let s := if s.solve.running = some e then ({ s with solve := { s.solve with running := none } } : State).solveEnds else s
      s.fireHook 8 e

/-- The missed report of R309: the missed set is kept, MISSED goes to the coordinator, NET_MISSED is
raised. -/
def State.reportMissed (s : State) (x : Epoch) (n : NetEpoch) (own : Status) : State :=
  let s := match x.planned with
    | some p => { s with net := { s.net with missed := (x.num, p) :: s.net.missed } }
    | none => s
  let s := if n.coord = s.ownId then s
    else s.sendCounted 0x14 6 n.coord 0 x.num 0 (natBytes 4 own.word.toNat)
  let s := ((s.wr F.SEQ_NET_MISSED_EPOCH x.num.toNat).wr F.SEQ_NET_MISSED_DEVICE s.ownId.toNat).inc
    F.SEQ_NET_MISSED_COUNT
  (s.modNet x.num (fun n => { n with reported := true })).raise 48 x.num

/-- The payload of a READY (R305). -/
def readyPayload (st : Status) (count nodes : Nat) (digest : W32) : List Byte :=
  natBytes 4 st.word.toNat ++ natBytes 2 count ++ natBytes 2 nodes ++ natBytes 4 digest.toNat

/-- The devices a participant's READY speaks for: itself and those of its children's (R306). -/
def NetEpoch.nodes (n : NetEpoch) : Nat := 1 + (n.readys.map (fun r => r.2.2.2.1)).sum

/-- A READY with a failure status to the parent of an epoch that never opened here: NODES counts this device alone, since
no child's READY for it is kept (R305, R306). -/
def State.failReady (s : State) (e : W32) (parent : BitVec 16) (st : Status) : State :=
  s.sendCounted 0x11 6 parent 0 e 0 (readyPayload st 0 1 0)

/-- A READY to the parent with this device's own count and digest (R306). -/
def State.sendReady (s : State) (e : W32) (n : NetEpoch) (st : Status) : State :=
  s.sendCounted 0x11 6 n.parent 0 e 0 (readyPayload st n.count n.nodes n.digest)

/-- An ABORT of the coordinator (R305, R307): ORIGIN, STATUS. -/
def State.sendAbort (s : State) (e : W32) (n : NetEpoch) (origin : BitVec 16) (st : Status) : State :=
  s.sendGroup 0x13 n 0 e (natBytes 2 origin.toNat ++ natBytes 2 0 ++ natBytes 4 st.word.toNat)

/-- What the end of a network epoch sends (R306, R307, R309); `quiet` where an ABORT ended it. -/
def State.netEnded (s : State) (x : Epoch) (own : Status) (quiet : Bool) : State :=
  match x.net with
  | none => s
  | some n =>
    if n.coordinator then
      if n.decided then (if n.commitHeld && !quiet then s.reportMissed x n own else s)
      else (s.sendAbort x.num n s.ownId own).modNet x.num (fun n => { n with decided := true })
    else if quiet then s
    else if n.commitHeld || own.code = 8 then s.reportMissed x n own
    else if n.readySent then s
    else (s.sendReady x.num n own).modNet x.num (fun n => { n with readySent := true, readyFailed := true })

/-- Every later epoch that sealed on the planned set of an epoch now aborted ends BASE_LOST (R69). -/
def State.cascade (s : State) (e : W32) : State :=
  (s.ledger.epochs.foldl (fun (acc : State × List W32) (x : Epoch) =>
    match x.base with
    | some b =>
      if acc.2.contains b && !x.ended then
        let st := St.aborted 0x31
        ((acc.1.abortOne x.num st (fun _ => st)).netEnded x st false, x.num :: acc.2)
      else acc
    | none => acc) (s, [e])).1

/-- The later epochs that ended BASE_LOST because of a missed one, and for which READY went out with ACCEPTED, are reported in
the same way (R309). -/
def State.reportLost (s : State) (e : W32) : State :=
  (s.ledger.epochs.foldl (fun (acc : State × List W32) (x : Epoch) =>
    if x.outcome.detail = 0x31 && x.base.any acc.2.contains then
      ((match x.net with
        | some n =>
          if n.readySent && !n.readyFailed && !n.reported && !n.coordinator then acc.1.reportMissed x n x.outcome else acc.1
        | none => acc.1), x.num :: acc.2)
    else acc) (s, [e])).1

/-- An epoch ends ABORTED, with its cascade and what the network is told, short of a correction. -/
def State.abortCore (s : State) (e : W32) (own : Status) (cmds : Entry → Status) (quiet : Bool) : State :=
  match s.epoch? e with
  | none => s
  | some x =>
    if x.ended then s
    else
      let s := ((s.abortOne e own cmds).netEnded x own quiet).cascade e
      if (s.epoch? e).any (fun x => x.net.any (·.reported)) then s.reportLost e else s

/-- The 12-byte PREPARE payload (R303). -/
def preparePayload (layFrame sl win sNet tree : Nat) (target : W32) : List Byte :=
  natBytes 4 layFrame ++ natBytes 1 sl ++ natBytes 1 win ++ natBytes 1 sNet ++ natBytes 1 tree ++
    natBytes 4 target.toNat

/-- The network side of an epoch as the coordinator or a participant opens it. -/
def State.newNet (s : State) (tree win sNet : Nat) (coordinator corrective : Bool) (target : W32)
    (coord : BitVec 16) : NetEpoch :=
  { tree := tree, parent := BitVec.ofNat 16 (s.rd F.SEQ_NET_TREE_PARENT tree)
    children := s.rd F.SEQ_NET_TREE_CHILDREN tree, group := BitVec.ofNat 16 (s.rd F.SEQ_NET_TREE_GROUP tree)
    alt := BitVec.ofNat 16 (s.rd F.SEQ_NET_TREE_ALT_GROUP tree), win := win, sNet := sNet, coordinator := coordinator, corrective := corrective
    target := target, opened := true, digest := 0, count := 0, netCmds := [], readys := []
    readySent := false, readyFailed := false, coord := coord, decided := false, commitHeld := false
    landeds := [], landedSent := false, pendingStable := false, reported := false }

/-- The network lead L_net in units of 2⁻¹⁶ ns (R301). -/
def netLead (sl win : Nat) : Nat := (sl + win) * frameUnits + 2000 * nsUnit

/-- The coordinator opens an epoch that R300 allows and sends PREPARE (R300, R303). -/
def State.openNetRoot (s : State) (e : W32) (layFrame sl tree win sNet : Nat) (corrective : Bool)
    (target : W32) : State :=
  let n := s.newNet tree win sNet true corrective target s.ownId
  let s := s.openEpoch e layFrame (sl + win) (some n)
  s.sendGroup 0x10 n (if corrective then 8 else 0) e
    (preparePayload (layFrame % 2 ^ 32) sl win sNet tree target)

/-- A corrective epoch of R311 for the tree and K under correction: the earliest lay instant its three conditions allow. -/
def State.openCorrective (s : State) : State :=
  match s.net.target, s.ledger.lastOpened with
  | some (tree, k, win, sl, sNet), some (n, f, t) =>
    let c : W32 := n + 1
    let lead := netLead sl win + (win + 1) / 2 * frameUnits
    let lf := Nat.max (ceilDiv (s.ext0 + lead) frameUnits)
      (Nat.max (f + 32) (t / frameUnits + 1 + sl + win))
    match s.openRefusal c (Int.ofNat lf) (sl + win) (netLead sl win) with
    | some _ => s
    | none =>
      let s := s.openNetRoot c lf sl tree win sNet true k
      { s with net := { s.net with corrective := some c } }
  | _, _ => s

/-- A committed epoch lies at or before the last one whose MISSED report has been acted on (R311). -/
def State.correctedBy (s : State) (x : Epoch) : Bool :=
  s.net.missedTo.any (fun m => decide (x.layFrame ≤ m.2))

/-- A MISSED report reaches the coordinator (R311): a further one for the same epoch or an earlier one is recorded and causes
nothing more; the first for a later committed epoch corrects anew. -/
def State.missedReport (s : State) (e : W32) (dev : BitVec 16) : State :=
  match s.epoch? e with
  | none => s
  | some x => match x.net with
    | none => s
    | some n =>
      if !(n.coordinator && n.decided && n.commitHeld) then s
      else
        let s := if dev = s.ownId then s
          else ((s.wr F.SEQ_NET_MISSED_EPOCH e.toNat).wr F.SEQ_NET_MISSED_DEVICE dev.toNat).inc F.SEQ_NET_MISSED_COUNT
        if s.correctedBy x then s
        else
          let st := St.aborted 0x307
          let s := forEach (s.ledger.epochs.filter (fun y => !y.ended && decide (x.layFrame < y.layFrame) &&
              y.net.any (fun m => m.coordinator && m.tree = n.tree && !m.decided)))
            (fun s y =>
              ((s.sendAbort y.num (y.net.getD n) s.ownId st).modNet y.num (fun m => { m with decided := true })).abortCore
                y.num st (fun _ => st) true) s
          let k := (alist s.net.lastCommit n.tree).map (fun k => (n.tree, k))
          let s := { s with net := { s.net with missedTo := some (e, x.layFrame), corrective := none, target := k } }
          (s.wrB F.SEQ_NET_STATUS_CORRECTING true).openCorrective

/-- An epoch ends ABORTED (R69 to R71), and the coordinator corrects where R311 asks for it. -/
def State.abortEpoch (s : State) (e : W32) (own : Status) (cmds : Entry → Status) (quiet : Bool := false) : State :=
  let before := s.ledger.epochs
  let s := s.abortCore e own cmds quiet
  let s := forEach (before.filter (fun (x : Epoch) => !x.ended &&
      x.net.any (fun n => n.coordinator && n.decided && n.commitHeld)))
    (fun s x => if (s.epoch? x.num).any (·.st = .aborted) then s.missedReport x.num s.ownId else s) s
  match s.net.corrective with
  | some c =>
    if (s.epoch? c).any (·.st = .aborted) then
      if (s.epoch? c).any (fun x => x.outcome.detail = 0x309 || x.net.any (fun n => n.readys.any (fun r => r.2.1.detail = 0x309))) then
        ({ (s.wrB F.SEQ_NET_STATUS_DIVERGED true) with net := { s.net with corrective := none } }).raise 49 c
      else s.openCorrective
    else s
  | none => s

/-- An epoch ends ABORTED with one status for itself and its ACCEPTED commands. -/
def State.abortPlain (s : State) (e : W32) (st : Status) : State := s.abortEpoch e st (fun _ => st)

/-! ### Landing and the stable epoch (R157, R73, R312) -/

/-- The epoch the stable epoch may advance to: the latest landed one in lay order before which no landed
network epoch is pending (R312). -/
def stableCandidate : List Epoch → Option Epoch → Option Epoch
  | [], c => c
  | x :: l, c =>
    if x.st = .landed then
      if x.net.any (·.pendingStable) then c else stableCandidate l (some x)
    else stableCandidate l c

/-- The stable epoch advances where R73 and R312 let it: hook STABLE, the ledger and the checkpoint. -/
def State.advanceStable (s : State) (routes : List Route) : State :=
  match stableCandidate s.ledger.epochs none with
  | none => s
  | some x =>
    if s.ledger.stableNum = some x.num || s.bit F.SEQ_TRUTH_STATUS_LOST || !(s.ledger.copyA.good || s.ledger.copyB.good) then s
    else
      let s := s.writeLedger (fun c => { c with stableEpoch := x.num, stable := x.planned.getD c.stable })
      let s := { s with ledger := { s.ledger with stableCells := x.codes, stableRoutes := x.routes
                                                  stableNum := some x.num } }
      (s.fireHook 9 x.num).ckptLedger routes

/-- An epoch is confirmed stable: it and every earlier landed epoch stop waiting, and a corrective epoch's
missed sets go (R311, R312). -/
def State.confirmStable (s : State) (e : W32) : State :=
  let upTo (x : Epoch) : Bool := match s.epoch? e with
    | some y => decide (x.layFrame ≤ y.layFrame)
    | none => decide (sdiff32 x.num e ≤ 0)
  let fix := (s.epoch? e).any (fun x => x.net.any (·.corrective))
  let s : State := { s with ledger := { s.ledger with epochs := s.ledger.epochs.map (fun (x : Epoch) =>
    if upTo x then { x with net := x.net.map (fun n => { n with pendingStable := false }) } else x) } }
  let s : State := if fix then { s with net := { s.net with missed := [] } } else s
  if s.net.corrective = some e then
    { (s.wrB F.SEQ_NET_STATUS_CORRECTING false) with net := { s.net with corrective := none } }
  else s

/-- LANDED goes to the parent, or STABLE to the tree, once this device and its children have landed
(R312). -/
def State.netLanded (s : State) (e : W32) : State :=
  match s.epoch? e with
  | none => s
  | some x => match x.net with
    | none => s
    | some n =>
      if x.st ≠ .landed || n.landedSent || n.landeds.length < n.children then s
      else
        let nodes := 1 + (n.landeds.map (·.2)).sum
        let s := s.modNet e (fun n => { n with landedSent := true })
        if n.coordinator then
          (s.sendGroup 0x16 n 0 e []).confirmStable e
        else
          s.sendCounted 0x15 6 n.parent 0 e 0 (natBytes 2 nodes ++ natBytes 2 0)

/-- An epoch lands (R157): the landed set, its commands, its slot and hooks; then the stable epoch. -/
def State.landEpoch (s : State) (e : W32) (codes : List (Nat × Nat)) (routes : List Route) : State :=
  match s.epoch? e with
  | none => s
  | some x =>
    if x.ended then s else
    let s := s.writeLedger (fun c => { c with landedEpoch := e, landed := x.planned.getD c.landed })
    let s := forEach (s.acceptedOf e) (fun s p => s.finalEntry p.1 St.landed) s
    let s := s.modEpoch e (fun x => { x with st := .landed, outcome := St.landed, endT := s.ext0, codes := codes, routes := routes
                                             net := x.net.map (fun n => { n with pendingStable := true }) })
    let s := match s.ledger.laid with
      | some n => s.setSlot n.val 0 0
      | none => s
    let s := match x.slot with
      | some n => s.setSlot n.val 4 e
      | none => s
    let s := { s with ledger := { s.ledger with outcomes := ((e, true, St.landed) :: s.ledger.outcomes).take 256
                                                laid := x.slot } }
    let s := (s.fireHook 6 e).fireHook 8 e
    ((s.ckptLedger routes).netLanded e).advanceStable routes

end Sys2Proof.Machine
end

