-- ==== Sys2Proof/Machine/Weaves.lean ====
section
/-! DEFINITION. The wiring of the cartridge (R121 to R125), the slots of weave memory (R126 to R132, R474)
and the cells the defect map takes out of service (R30 to R33). -/

namespace Sys2Proof.Machine

/-! ### Wiring -/

/-- The stage bits of R122. -/
def stageBits (y512 : Bool) : List Nat :=
  if y512 then [0, 8, 1, 7, 2, 6, 3, 5, 4, 0, 4, 5, 3, 6, 2, 7, 1, 8, 0]
  else [0, 9, 1, 8, 2, 7, 3, 6, 4, 5, 0, 5, 4, 6, 3, 7, 2, 8, 1, 9, 0]

/-- The cells a route passes with their state codes, and the position it leaves at (R121, R123, R125):
`d` the rest of the direction vector, `s` the stage, `p` the position, `lit` the lit input. -/
def walkRoute : List Nat → Nat → Nat → Nat → Nat → List (Nat × Nat) × Nat
  | [], _, _, p, _ => ([], p)
  | b :: bs, d, s, p, lit =>
    let dir := d % 2
    let p' := if dir = 1 then p ^^^ 2 ^ b else p
    let r := walkRoute bs (d / 2) (s + 1) p' dir
    ((s * 1024 + p, lit ^^^ dir) :: r.1, r.2)

/-- The cells of a route with their codes. -/
def routeCells (y512 : Bool) (input d : Nat) : List (Nat × Nat) := (walkRoute (stageBits y512) d 0 input 0).1
/-- The output a route reaches. -/
def routeOut (y512 : Bool) (input d : Nat) : Nat := (walkRoute (stageBits y512) d 0 input 0).2

/-- The direction vector and the output that the cells' codes give light at a stage, a position and a lit input; none where a
cell on its way is PARK or RETIRED (R121, R123, R125). -/
def traceRoute (codes : Array Nat) : List Nat → Nat → Nat → Nat → Option (Nat × Nat)
  | [], _, p, _ => some (0, p)
  | b :: bs, s, p, lit =>
    let c := codes.getD (s * 1024 + p) 2
    if 2 ≤ c then none
    else
      let dir := c ^^^ lit
      (traceRoute codes bs (s + 1) (if dir = 1 then p ^^^ 2 ^ b else p) dir).map (fun r => (dir + 2 * r.1, r.2))

/-- The present cells of a geometry, ascending (R16, R24). -/
def presentCells (y512 : Bool) : List Nat :=
  (List.range (if y512 then 19 else 21)).flatMap
    (fun st => (List.range (if y512 then 512 else 1024)).map (fun p => st * 1024 + p))

/-! ### Weave memory -/

/-- The bytes of memory from `lo` up to `hi`, by offset from `lo`. -/
def memRange (m : List Host.Cell) (lo hi : Nat) : List (Nat × Byte) :=
  m.filterMap (fun p => if lo ≤ p.1 && p.1 < hi then some (p.1 - lo, p.2) else none)

/-- The memory with the bytes from `lo` up to `hi` replaced by the listed ones, by offset; a byte that is not
listed is 0. -/
def memSplice (m : List Host.Cell) (lo hi : Nat) (l : List (Nat × Byte)) : List Host.Cell :=
  m.filter (fun p => p.1 < lo) ++ l.foldr (fun p acc => Sparse.put 0 acc (lo + p.1) p.2) (m.filter (fun p => hi ≤ p.1))

/-- Each of `n` records of `size` bytes rewritten in one pass, from record `i` at `base`: `f` gives record `i`'s listed
bytes from those it has, in ascending order. -/
def mapRecords (base size : Nat) (f : Nat → List Host.Cell → List Host.Cell) : Nat → Nat → List Host.Cell → List Host.Cell
  | 0, _, _ => []
  | n + 1, i, l =>
    let x := l.span (fun p => decide (p.1 < base + size * (i + 1)))
    f i x.1 ++ mapRecords base size f n (i + 1) x.2

/-- A table of records in memory rewritten. -/
def State.mapRecs (s : State) (base size n : Nat) (f : Nat → List Host.Cell → List Host.Cell) : State :=
  let l := s.mem.filter (fun p => decide (base ≤ p.1) && decide (p.1 < base + size * n))
  { s with mem := memSplice s.mem base (base + size * n) ((mapRecords base size f n 0 l).map (fun p => (p.1 - base, p.2))) }

/-- Records of `size` bytes that are not all zero, by index, ascending. -/
def recordsOf (size : Nat) (l : List (Nat × Byte)) : List (Nat × Nat) :=
  l.foldr (fun p acc =>
    let i := p.1 / size
    let v := p.2.toNat * 256 ^ (p.1 % size)
    match acc with
    | (j, w) :: r => if i = j then (j, w + v) :: r else (i, v) :: acc
    | [] => [(i, v)]) []

/-- The non-zero bytes of records placed at consecutive indexes of a table. -/
def recordBytes (base size : Nat) (rs : List (Nat × Nat)) : List (Nat × Byte) :=
  rs.flatMap (fun r => ((natBytes size r.2).zipIdx.filter (fun b => b.1 ≠ 0)).map
    (fun b => (base + size * r.1 + b.2, b.1)))

/-- The 8-byte connection record (R126). -/
def ConnRec.enc (c : ConnRec) : Nat :=
  c.input % 1024 + c.output % 1024 * 2 ^ 16 + boolNat c.pinned * 2 ^ 28 + boolNat c.moved * 2 ^ 29 +
    boolNat c.valid * 2 ^ 31 + c.epoch.toNat * 2 ^ 32
/-- The connection record a number spells (R126). -/
def ConnRec.dec (v : Nat) : ConnRec :=
  { input := v % 1024, output := v / 2 ^ 16 % 1024, pinned := v.testBit 28, moved := v.testBit 29
    valid := v.testBit 31, epoch := BitVec.ofNat 32 (v / 2 ^ 32) }

/-- The 8-byte route record (R131). -/
def Route.enc (r : Route) : Nat :=
  r.dir % 2 ^ 21 + 2 ^ 24 + boolNat r.idle * 2 ^ 25 + r.output % 1024 * 2 ^ 32

/-- The cell codes other than PARK of a state array (R129): four cells a byte. -/
def codesFrom : Nat → Nat → List (Nat × Byte) → List (Nat × Nat)
  | 0, _, _ => []
  | n + 1, i, l =>
    let b := match l with
      | (j, v) :: _ => if j = i then v.toNat else 0
      | [] => 0
    let l' := match l with
      | (j, _) :: r => if j = i then r else l
      | [] => []
    ((List.range 4).filterMap (fun k =>
      let c := b / 4 ^ k % 4
      if c = 2 then none else some (4 * i + k, c))) ++ codesFrom n (i + 1) l'

/-- The state array of 21,504 cells: PARK but for the listed cells (ascending). -/
def codeBytes : Nat → Nat → List (Nat × Nat) → List (Nat × Byte)
  | 0, _, _ => []
  | n + 1, i, l =>
    let mine := l.takeWhile (fun p => p.1 < 4 * i + 4)
    let code (k : Nat) : Nat := (alist mine (4 * i + k)).getD 2
    let b := code 0 + 4 * code 1 + 16 * code 2 + 64 * code 3
    let r := codeBytes n (i + 1) (l.drop mine.length)
    if b = 0 then r else (0x100 + i, BitVec.ofNat 8 b) :: r

/-- The weave a slot of weave memory holds (R129 to R132). -/
def loadWeave (m : List Host.Cell) (slot : Nat) : Weave :=
  let l := memRange m (slotBase slot) (slotBase slot + 0x20000)
  let hdr (o n : Nat) : Nat := memNat l o n
  let sect (o n : Nat) : List (Nat × Byte) := memRange l o (o + n)
  let moves := recordsOf 8 (sect 0x10800 0x2000)
  { epoch := BitVec.ofNat 32 (hdr 0 4), full := decide (hdr 5 1 = 1), baseSlot := hdr 6 1
    rearranged := (hdr 7 1).testBit 1
    conns := (recordsOf 8 (sect 0x2000 0x2000)).filterMap (fun r =>
      let c := ConnRec.dec r.2
      if c.valid then some c else none)
    routes := (recordsOf 8 (sect 0x4000 0x2000)).filterMap (fun r =>
      if r.2.testBit 24 then
        some { input := r.1, dir := r.2 % 2 ^ 21, idle := r.2.testBit 25, output := r.2 / 2 ^ 32 % 1024 }
      else none)
    states := codesFrom 5376 0 (sect 0x100 5376)
    changes :=
      let a := (recordsOf 2 (sect 0x6000 0xA800)).foldl (fun (a : Array Nat) r => a.setIfInBounds r.1 r.2)
        (Array.replicate 21504 0)
      (List.range (Nat.min 21504 (hdr 0x10 4))).map (fun i =>
        let v := a.getD i 0
        (v % 2 ^ 15, v.testBit 15))
    moves := (List.range (Nat.min 1024 (hdr 0xC 2))).map (fun i => ConnRec.dec ((alist moves i).getD 0))
    degrades := (List.range (Nat.min 1024 (hdr 0xE 2))).map (fun i =>
      let v := memNat l (0x12800 + 8 * i) 8
      (ConnRec.dec (v % 2 ^ 32), v / 2 ^ 48))
    dmapGen := BitVec.ofNat 32 (hdr 0x14 4), foldGen := BitVec.ofNat 32 (hdr 0x18 4), parked := hdr 0x1C 2
    retired := hdr 0x1E 2, solveNs := BitVec.ofNat 32 (hdr 0x20 4) }

/-- The bytes of a slot that holds a weave with a slot state (R129 to R132, R474), by offset. -/
def weaveBytes (w : Weave) (slotState : Nat) : List (Nat × Byte) :=
  let hdr := natBytes 4 w.epoch.toNat ++ natBytes 1 slotState ++ natBytes 1 (boolNat w.full) ++
    natBytes 1 w.baseSlot ++ natBytes 1 (boolNat (!w.degrades.isEmpty) + 2 * boolNat w.rearranged) ++
    natBytes 2 w.conns.length ++ natBytes 2 (w.routes.filter (·.idle)).length ++
    natBytes 2 (Nat.min 65535 w.moves.length) ++ natBytes 2 (Nat.min 65535 w.degrades.length) ++
    natBytes 4 w.changes.length ++ natBytes 4 w.dmapGen.toNat ++ natBytes 4 w.foldGen.toNat ++
    natBytes 2 w.parked ++ natBytes 2 w.retired ++ natBytes 4 w.solveNs.toNat
  let table (base size : Nat) (l : List Nat) : List (Nat × Byte) :=
    recordBytes base size (l.zipIdx.map (fun p => (p.2, p.1)))
  ((hdr.zipIdx.filter (fun b => b.1 ≠ 0)).map (fun b => (b.2, b.1))) ++
    codeBytes 5376 0 w.states ++
    recordBytes 0x2000 8 (w.conns.map (fun c => (c.input, c.enc))) ++
    recordBytes 0x4000 8 (w.routes.map (fun r => (r.input, r.enc))) ++
    table 0x6000 2 (w.changes.map (fun c => c.1 + boolNat c.2 * 2 ^ 15)) ++
    table 0x10800 8 ((w.moves.take 1024).map ConnRec.enc) ++
    table 0x12800 8 ((w.degrades.take 1024).map (fun d => d.1.enc % 2 ^ 32 + d.2 * 2 ^ 48))

/-- The weave of a slot. -/
def State.weave (s : State) (slot : Nat) : Weave := loadWeave s.mem slot
/-- A weave written to a slot. -/
def State.putWeave (s : State) (slot slotState : Nat) (w : Weave) : State :=
  { s with mem := memSplice s.mem (slotBase slot) (slotBase slot + 0x20000) (weaveBytes w slotState) }

/-- The code of a cell in a weave: PARK where unlisted. -/
def Weave.code (w : Weave) (c : Nat) : Nat := (alist w.states c).getD 2
/-- The routes that cell codes spell for a connection set: a route that reaches no connection's output from its input is an
idle one (R127, R131). -/
def tracedRoutes (y512 : Bool) (codes : Array Nat) (conns : List ConnRec) : List Route :=
  (List.range (if y512 then 512 else 1024)).filterMap (fun i =>
    (traceRoute codes (stageBits y512) 0 i 0).map (fun r =>
      { input := i, dir := r.1, idle := !conns.any (fun c => c.input = i && c.output = r.2), output := r.2 }))

/-- The route of an input in a weave. -/
def Weave.route? (w : Weave) (i : Nat) : Option Route := w.routes.find? (·.input = i)
/-- A connection of a weave has a route. -/
def Weave.routed (w : Weave) (c : ConnRec) : Bool := (w.route? c.input).any (fun r => !r.idle && r.output = c.output)
/-- The connections of a weave that have a route, as (input, output): one without keeps both shutters closed (R134). -/
def Weave.litConns (w : Weave) : List (Nat × Nat) := (w.conns.filter w.routed).map (fun c => (c.input, c.output))
/-- The degraded list's entries of the connections without a route (R134 step 4). -/
def Weave.unrouted (w : Weave) : List (ConnRec × Nat) :=
  (w.conns.filter (fun c => !w.routed c)).map (fun c => ({ c with moved := false }, 0x110))
/-- The connection of an input in a weave. -/
def Weave.conn? (w : Weave) (i : Nat) : Option ConnRec := w.conns.find? (·.input = i)

/-! ### The defect map (R30 to R33) -/

/-- The cell an entry concerns: a CELL entry's object or the cell of a TAP entry's cell tap. -/
def DmapEntry.cell? (e : DmapEntry) : Option Nat :=
  if e.kind = 0 then some e.object
  else if e.kind = 1 && e.object < 64512 then some (e.object / 3) else none

/-- The entries call for retiring the cell: a CELL entry, or two TAP entries of its taps (R31). -/
def calledFor (dm : List DmapEntry) (c : Nat) : Bool :=
  dm.any (fun e => e.kind = 0 && e.object = c) ||
  decide (2 ≤ (dm.filter (fun e => e.kind = 1 && e.cell? = some c)).length)

/-- The cell awaits retirement (R33). -/
def awaiting (dm : List DmapEntry) (c : Nat) : Bool := dm.any (fun e => e.cell? = some c && e.pending)

/-- The cells any CELL or TAP entry concerns, each once. -/
def mapCells (dm : List DmapEntry) : List Nat := (dm.filterMap DmapEntry.cell?).foldl sadd []

/-- The RETIRED cells of a map. -/
def retiredCells (dm : List DmapEntry) : List Nat :=
  (mapCells dm).filter (fun c => calledFor dm c && !awaiting dm c)
/-- The cells of a map that await retirement. -/
def pendingCells (dm : List DmapEntry) : List Nat := (mapCells dm).filter (fun c => awaiting dm c)

/-- The order of acceptance with entries accepted now (R31). -/
def orderAdd (order : List (Nat × Nat)) (es : List DmapEntry) : List (Nat × Nat) :=
  es.foldl (fun o e => o.filter (· ≠ (e.kind, e.object)) ++ [(e.kind, e.object)]) order

/-- The taps a map's TAP entries name. -/
def tapObjects (dm : List DmapEntry) : List Nat := (dm.filter (fun e => e.kind = 1)).map (·.object)

/-- An entry of KIND `k` for an object stands in a map. -/
def dmapHas (dm : List DmapEntry) (k obj : Nat) : Bool := dm.any (fun e => e.kind = k && e.object = obj)
/-- Both of a connection's ports free of SHUTTER_CLOSED entries (R31). -/
def shutterClosed (dm : List DmapEntry) (i o : Nat) : Bool :=
  dmapHas dm 2 (43008 + i) || dmapHas dm 2 (44032 + o)

end Sys2Proof.Machine
end

