-- ==== Sys2Proof/Machine/Cells.lean ====
section
/-! DEFINITION. The records of cells, drive channels and sense channels in memory (R206, R228, R245), the
evaluation of calibration sets (R246 to R250), the push-pull map (R212, R215), the lane map (R271) and
the monitor queues (R389, R390). -/

namespace Sys2Proof.Machine

/-! ### Monitor samples (R389, R390) -/

/-- Whether a monitor source distinguishes instances by SEL (R389). -/
def monHasSel (src : Nat) : Bool := 5 ≤ src && src ≤ 8

/-- A sample enters the queue of one unit, or is discarded (R390); trackers are units 32 to 47. -/
def State.monEnter (s : State) (u : Nat) (x : Int) : State :=
  let l := (alist s.mon.queues u).getD []
  if 1024 ≤ l.length then
    if u < 32 then s.inc F.MON_HIST_STAT_DROPPED 1 u else s.inc F.MON_TRK_DROP_DROPPED 1 (u - 32)
  else { s with mon := { s.mon with queues := aset s.mon.queues u (l ++ [x]) } }

/-- Source `src`, instance `sel`, offers a sample to every enabled unit that selects it (R389). -/
def State.monOffer (s : State) (src sel : Nat) (x : Int) : State :=
  let s := forEach (List.range 32) (fun s e =>
    if s.bit F.MON_HIST_CFG_EN e && s.rd F.MON_HIST_CFG_SRC e = src &&
        (!monHasSel src || s.rd F.MON_HIST_CFG_SEL e = sel) then s.monEnter e x else s) s
  forEach (List.range 16) (fun s k =>
    if s.bit F.MON_TRK_CFG_EN k && s.rd F.MON_TRK_CFG_SRC k = src &&
        (!monHasSel src || s.rd F.MON_TRK_CFG_SEL k = sel) then s.monEnter (32 + k) x else s) s

/-! ### Cell records (R206) -/

/-- The address of a cell record (R22). -/
def cellRec (c : Nat) : Nat := 0x02000000 + 256 * c
/-- A word of a cell record. -/
def State.cw (s : State) (c off : Nat) : W32 := s.ldW (cellRec c + off)
/-- A word of a cell record set. -/
def State.setCw (s : State) (c off : Nat) (v : W32) : State := s.stW (cellRec c + off) v
/-- A field of CTRL. -/
def State.cCtrl (s : State) (c l w : Nat) : Nat := s.ldBits (cellRec c) 4 l w
def State.setCCtrl (s : State) (c l w v : Nat) : State := s.stBits (cellRec c) 4 l w v
/-- A field of STATUS. -/
def State.cStat (s : State) (c l w : Nat) : Nat := s.ldBits (cellRec c + 4) 4 l w
def State.setCStat (s : State) (c l w v : Nat) : State := s.stBits (cellRec c + 4) 4 l w v
/-- A field of CAL_STATUS (R246). -/
def State.cCal (s : State) (c l w : Nat) : Nat := s.ldBits (cellRec c + 0xC0) 4 l w
def State.setCCal (s : State) (c l w v : Nat) : State := s.stBits (cellRec c + 0xC0) 4 l w v

/-- The state code of a cell (R25): 0 BAR, 1 CROSS, 2 PARK, 3 RETIRED. -/
def State.cellState (s : State) (c : Nat) : Nat := s.cCtrl c 0 2
/-- In service: present, and BAR or CROSS (R24, R25). -/
def State.inService (s : State) (c : Nat) : Bool := !s.cellAbsent c && decide (s.cellState c < 2)
/-- The mode of a cell loop (R189): 0 AUTO, 1 MANUAL, 2 FROZEN. -/
def State.cellMode (s : State) (c : Nat) : Nat := s.cCtrl c 14 2
/-- FAULTED of a cell loop. -/
def State.cellFaulted (s : State) (c : Nat) : Bool := decide (s.cStat c 0 1 = 1)
/-- The state codes of all cells. -/
def State.cellCodes (s : State) : Array Nat :=
  s.mem.foldl (fun a p =>
    if 0x02000000 ≤ p.1 && p.1 % 256 = 0 then a.setIfInBounds ((p.1 - 0x02000000) / 256) (p.2.toNat % 4) else a)
    (Array.replicate 21504 0)
/-- The present cells in service. -/
def State.serviceCells (s : State) : List Nat :=
  let codes := s.cellCodes
  (presentCells s.strand.geomY512).filter (fun c => decide (codes.getD c 2 < 2))
/-- The cartridge temperature published for the period (R400). -/
def State.tCart (s : State) : W32 := s.rdW F.THERM_T_T_CART
/-- t_cart of the loop period at hand: the one in force as the period began (R212, R400). -/
def State.tLoop (s : State) : W32 := s.loop.tCart

/-- The dead-tap entries of a cell's loop: TAP_CFG (R31, R206). -/
def State.tapDead (s : State) (c tap : Nat) : Bool := dmapHas s.solve.dmapForce 1 (3 * c + tap)

/-! ### Calibration sets (R246 to R250) -/

/-- Offsets of the fields of a set (R247). -/
def calTemp : Nat := 0
def calGA : Nat := 4
def calGB : Nat := 8
def calBar : Nat := 12
def calCross : Nat := 16
def calSens : Nat := 20

/-- The address of SET[n] of a cell. -/
def setAddr (c n : Nat) : Nat := cellRec c + 0x40 + 24 * n

/-- The valid sets of a cell in a memory, ascending: TEMP and one field. -/
def validSets (m : List Host.Cell) (c field : Nat) : List (W32 × W32) :=
  let v := memNat m (cellRec c + 0xC0) 1
  (List.range 5).filterMap (fun n =>
    if v.testBit n then
      some (BitVec.ofNat 32 (memNat m (setAddr c n) 4), BitVec.ofNat 32 (memNat m (setAddr c n + field) 4))
    else none)

/-- The interpolation of R249 over sets in ascending order. -/
def evalSets (t : W32) : List (W32 × W32) → W32
  | [] => F32.nan
  | [(_, v)] => v
  | (a, v) :: (b, w) :: l =>
    if F32.le t a then v
    else if F32.lt t b then
      let f := F32.div (F32.sub t a) (F32.sub b a)
      F32.add v (F32.mul f (F32.sub w v))
    else evalSets t ((b, w) :: l)

/-- `cal_eval` of R249. -/
def calEval (m : List Host.Cell) (c field : Nat) (t : W32) : W32 := evalSets t (validSets m c field)
/-- `cal_target` for a state code: the BAR or the CROSS point (R249). -/
def calTarget (m : List Host.Cell) (c code : Nat) (t : W32) : W32 :=
  calEval m c (if code = 0 then calBar else calCross) t

/-- Effective feedforward of a cell at t_cart. -/
def State.ffOf (s : State) (c : Nat) : W32 := calTarget s.mem c (s.cellState c) s.tLoop
/-- Effective gain of arm A (false) or B (true) at t_cart. -/
def State.gainOf (s : State) (c : Nat) (b : Bool) : W32 := calEval s.mem c (if b then calGB else calGA) s.tLoop

/-- The calibration areas of cell memory with the committed value of every set (R251): the bytes of SET
and the VALID bits; a blending set stands at its target. -/
def State.committedCal (s : State) : List Host.Cell :=
  let area := s.mem.filter (fun p => 0x02000000 ≤ p.1 && p.1 < 0x02000000 + 256 * 21504 &&
    ((0x40 ≤ p.1 % 256 && p.1 % 256 < 0xB8) || p.1 % 256 = 0xC0))
  s.cal.blends.foldl (fun m (b : Blend) =>
    (b.new.zipIdx).foldl (fun m v => memPut m (setAddr b.cell b.set + 4 * v.2) 4 v.1.toNat) m) area

/-! ### The push-pull map (R212 to R215) -/

/-- 5.0 and 35.0 and 4096.0. -/
def f5 : W32 := 0x40A00000
def f35 : W32 := 0x420C0000
def f4096 : W32 := 0x45800000

/-- The 16-bit code of an arm or shutter voltage, before POL (R212). -/
def voltCode (v : W32) : Int := F32.roundEven (F32.mul (F32.div v f5) f4096)

/-- The result of stages 3 and 4 for one arm: voltage, code before POL, saturated, the failure cause. -/
structure ArmOut where
  volt : W32
  code : Int
  sat : Bool
  fail : Option Nat
  deriving DecidableEq, Repr

/-- One arm of the map: driven with magnitude `p` when `driven` (R212, R214). -/
def armOut (driven : Bool) (p g : W32) (phiOk noSet : Bool) : ArmOut :=
  if noSet then ⟨0, 0, false, some 0⟩
  else if !phiOk then ⟨0, 0, false, some 1⟩
  else if !driven then ⟨0, 0, false, none⟩
  else if !F32.finite g || F32.le g 0 then ⟨0, 0, false, some 0⟩
  else
    let v := F32.sqrt (F32.div p g)
    if !F32.finite v then ⟨0, 0, false, some 1⟩
    else if F32.lt f35 v then ⟨f35, voltCode f35, true, none⟩
    else ⟨v, voltCode v, false, none⟩

/-- Stages 3 and 4 for both arms of a cell (R212): a cell without a valid set fails both arms by GAIN
(R250, DEDUCED). -/
def armsOut (phi gA gB : W32) : ArmOut × ArmOut :=
  let noSet := F32.isNan gA && F32.isNan gB
  let ok := F32.finite phi
  (armOut (F32.lt 0 phi) phi gA ok noSet, armOut (F32.lt phi 0) (F32.negate phi) gB ok noSet)

/-- The phase two echoed levels stand for (R215): levels in units of 1/4,096 level. -/
def echoPhase (gA gB : W32) (la lb : Int) : W32 :=
  let v (l : Int) : W32 := F32.mul f5 (F32.div (F32.ofInt l) f4096)
  let sq (x : W32) : W32 := F32.mul x x
  F32.sub (F32.mul gA (sq (v la))) (F32.mul gB (sq (v lb)))

/-! ### Drive records (R228) -/

/-- The address of a drive record (R22). -/
def driveRec (ch : Nat) : Nat := 0x03000000 + 32 * ch
/-- A field of CTRL of a drive record. -/
def State.dCtrl (s : State) (ch l w : Nat) : Nat := s.ldBits (driveRec ch) 4 l w
def State.setDCtrl (s : State) (ch l w v : Nat) : State := s.stBits (driveRec ch) 4 l w v
/-- A word of a drive record. -/
def State.dw (s : State) (ch off : Nat) : W32 := s.ldW (driveRec ch + off)
def State.setDw (s : State) (ch off : Nat) (v : W32) : State := s.stW (driveRec ch + off) v
/-- A signed 16-bit field of a drive record. -/
def State.dI16 (s : State) (ch off : Nat) : Int := (BitVec.ofNat 16 (s.ld (driveRec ch + off) 2)).toInt
def State.setDI16 (s : State) (ch off : Nat) (v : Int) : State :=
  s.st (driveRec ch + off) 2 (BitVec.ofInt 16 v).toNat

/-- A channel's bit of `DRIVE_POL`. -/
def State.polBit (s : State) (ch : Nat) : Bool := (s.rd F.DRIVE_POL_POL (ch / 32)).testBit (ch % 32)
/-- POL in force for a channel (R228). -/
def State.polOf (s : State) (ch : Nat) : Bool := (alist s.drive.polInForce ch).getD (s.polBit ch)
/-- A code with the channel's polarity. -/
def State.polCode (s : State) (ch : Nat) (code : Int) : Int := if s.polOf ch then -code else code

/-- A 4-bit level code as a number. -/
def levelOf (n : Nat) : Int := (BitVec.ofNat 4 n).toInt
/-- The power-up and the fault code of a channel (R226). -/
def State.puCode (s : State) (ch : Nat) : Nat := s.rd F.DRIVE_PUFLT_PU (ch / 4) 0 (ch % 4)
def State.fltCode (s : State) (ch : Nat) : Nat := s.rd F.DRIVE_PUFLT_FLT (ch / 4) 0 (ch % 4)

/-- Entry to the rest code (R219, R223): the modulator state is zero, a POL write takes effect. -/
def State.toRest (s : State) (ch : Nat) : State :=
  let s := { s with drive := { s.drive with polInForce := adel s.drive.polInForce ch } }
  let s := s.setDCtrl ch 6 1 (boolNat (s.polBit ch))
  let s := (((s.setDCtrl ch 8 1 1).setDI16 ch 0x12 0).setDI16 ch 0x16 0).setDI16 ch 0x18 0
  (s.st (driveRec ch + 0x1A) 1 8).st (driveRec ch + 0x1B) 1 0

/-- ACT receives a code (R216): a major transition starts or restarts the deglitcher's hold (R219). -/
def State.loadAct (s : State) (ch : Nat) (code : Int) : State :=
  let major := s.dCtrl ch 8 1 = 1 || decide (Int.ofNat (s.rd F.DRIVE_DEGLITCH_MAJOR) ≤ (code - s.dI16 ch 0x12).natAbs)
  let s := (s.setDI16 ch 0x12 code).setDCtrl ch 8 1 0
  if major then s.st (driveRec ch + 0x1B) 1 (s.rd F.DRIVE_DEGLITCH_HOLD) else s

/-- CMD of a cell, with its copy in the arm B record (R210). -/
def State.setCmd (s : State) (c : Nat) (v : W32) : State := (s.setDw (2 * c) 4 v).setDw (2 * c + 1) 4 v

/-- A shutter's state: OPEN or CLOSED (R213). -/
def State.shutOpen (s : State) (ch : Nat) : Bool := s.dCtrl ch 20 1 = 1
/-- Channels leave their power-up value (R224). -/
def State.leavePowerUp (s : State) (chs : List Nat) : State :=
  { s with drive := { s.drive with puLeft := s.drive.puLeft.filter (fun ch => !chs.contains ch) } }

/-- A shutter is closed: the rest code from the frame at hand. -/
def State.closeShutter (s : State) (ch : Nat) : State := ((s.leavePowerUp [ch]).setDCtrl ch 20 1 0).toRest ch
/-- A shutter is opened: the open code from the frame at hand. -/
def State.openShutter (s : State) (ch : Nat) : State :=
  if s.shutOpen ch then s.leavePowerUp [ch]
  else
    let s := s.leavePowerUp [ch]
    let code := s.polCode ch (Int.ofNat (s.rd F.DRIVE_SHUTTER_OPEN_CODE))
    ((s.setDCtrl ch 20 1 1).setDI16 ch 0x10 code).loadAct ch code

/-- A channel is at rest and sends the rest code; one that a fault value of another code took is not (R223, R225). -/
def State.resting (s : State) (ch : Nat) : Bool := s.dCtrl ch 8 1 = 1 && decide (s.ld (driveRec ch + 0x1A) 1 % 16 = 8)

/-- The arms of the present PARK and RETIRED cells that are not at rest take the rest code (R156, R209, R223). -/
def State.restIdle (s : State) : State :=
  forEach ((presentCells s.strand.geomY512).filter (fun c => 2 ≤ s.cellState c && !(s.resting (2 * c) && s.resting (2 * c + 1))))
    (fun s c => (s.toRest (2 * c)).toRest (2 * c + 1)) s
/-- The closed shutters that are not at rest take the rest code (R213, R223). -/
def State.restClosed (s : State) : State :=
  forEach ((List.range 2048).filter (fun k => !s.shutOpen (43008 + k) && !s.resting (43008 + k)))
    (fun s k => s.toRest (43008 + k)) s

/-- The shutter channels of a connection. -/
def inShut (i : Nat) : Nat := 43008 + i
def outShut (o : Nat) : Nat := 44032 + o

/-! ### Sense records (R245) -/

/-- The address of a sense record (R22). -/
def senseRec (ch : Nat) : Nat := 0x03200000 + 32 * ch
/-- A field of CTRL of a sense record. -/
def State.sCtrl (s : State) (ch l w : Nat) : Nat := s.ldBits (senseRec ch) 4 l w
def State.setSCtrl (s : State) (ch l w v : Nat) : State := s.stBits (senseRec ch) 4 l w v
/-- A word of a sense record. -/
def State.sw' (s : State) (ch off : Nat) : W32 := s.ldW (senseRec ch + off)
def State.setSw (s : State) (ch off : Nat) (v : W32) : State := s.stW (senseRec ch + off) v

/-- DEAD of sense records and TAP_CFG of their cells follow the defect map in force (R31, R236, R245); of
two dead taps the lower numbered shows (log entry 6). -/
def State.markTap (s : State) (ch : Nat) : State :=
  let dead (k : Nat) : Bool := dmapHas s.solve.dmapForce 1 k
  let was := decide (s.sCtrl ch 2 1 = 1)
  let s := s.setSCtrl ch 2 1 (boolNat (dead ch))
  let s := if was && !dead ch then
      { s with sense := { s.sense with notBefore := aset s.sense.notBefore ch s.strand.count } }
    else if dead ch then s.setSCtrl ch 4 1 1 else s
  if ch < 64512 then
    let c := ch / 3
    s.setCCtrl c 18 2 (if dead (3 * c) then 1 else if dead (3 * c + 1) then 2 else if dead (3 * c + 2) then 3 else 0)
  else s

/-- A defect map put in force: the taps whose entries came or went are marked (R31, R32). -/
def State.forceDmap (s : State) (dm : List DmapEntry) : State :=
  let old := tapObjects s.solve.dmapForce
  let new := tapObjects dm
  forEach (old.filter (fun o => !new.contains o) ++ new.filter (fun o => !old.contains o)) State.markTap
    { s with solve := { s.solve with dmapForce := dm } }

/-! ### The lane map (R271) -/

/-- The order of the arm stages in the drive ranks. -/
def driveStages (y512 : Bool) : List Nat :=
  if y512 then [0, 18, 1, 17, 2, 16, 3, 15, 4, 14, 5, 13, 6, 12, 7, 11, 8, 10, 9]
  else [0, 20, 1, 19, 2, 18, 3, 17, 4, 16, 5, 15, 6, 14, 7, 13, 8, 12, 9, 11, 10]

/-- The rank of a present drive channel. -/
def driveRank (y512 : Bool) (ch : Nat) : Nat :=
  let p := if y512 then 512 else 1024
  if ch < 43008 then
    let j := (driveStages y512).idxOf (ch / 2048)
    let i := ch % 2048
    if j < 6 then j * (2 * p) + i else 14 * p + (j - 6) * (2 * p) + i
  else if ch < 44032 then 13 * p + (ch - 43008)
  else 12 * p + (ch - 44032)

/-- The drive channel of a rank. -/
def driveOfRank (y512 : Bool) (r : Nat) : Nat :=
  let p := if y512 then 512 else 1024
  let arm (j i : Nat) : Nat := (driveStages y512).getD j 0 * 2048 + i
  if r < 12 * p then arm (r / (2 * p)) (r % (2 * p))
  else if r < 13 * p then 44032 + (r - 12 * p)
  else if r < 14 * p then 43008 + (r - 13 * p)
  else arm (6 + (r - 14 * p) / (2 * p)) ((r - 14 * p) % (2 * p))

/-- The number of present drive channels. -/
def driveCount (y512 : Bool) : Nat := if y512 then 20480 else 45056

/-- The rank of a present sense channel. -/
def senseRank (y512 : Bool) (ch : Nat) : Nat :=
  if !y512 then ch
  else if ch < 64512 then ch / 3072 * 1536 + ch % 3072
  else if ch < 65536 then 29184 + (ch - 64512) else 29696 + (ch - 65536)

/-- The sense channel of a rank. -/
def senseOfRank (y512 : Bool) (r : Nat) : Nat :=
  if !y512 then r
  else if r < 29184 then r / 1536 * 3072 + r % 1536
  else if r < 29696 then 64512 + (r - 29184) else 65536 + (r - 29696)

/-- The number of present sense channels. -/
def senseCount (y512 : Bool) : Nat := if y512 then 30208 else 66560

/-- Logical lanes of the map in force (R271, R275). -/
def State.nLanes (s : State) : Nat :=
  let l := s.rd F.STRAND_STATUS_LANES
  if l = 0 then (if s.strand.geomY512 then 48 else 88) else l

/-- The strand block that carries a drive channel. -/
def State.driveBlock (s : State) (ch : Nat) : Nat := 1 + driveRank s.strand.geomY512 ch / s.nLanes / 16

/-- Time in tenths of a nanosecond from the frame's start to the start of a drive block (R150). -/
def blockStart10 (j : Nat) : Nat := 600 + 64 * j

/-- A duration in tenths of a nanosecond in whole nanoseconds; which way a fraction goes is a free
value, since no rule states it (log entry 7). -/
def State.nsRound (s : State) (x : Nat) : Nat × State :=
  if x % 10 = 0 then (x / 10, s) else let d := s.draw; (x / 10 + d.1.toNat % 2, d.2)

/-! ### Lit inputs (R19) -/

/-- The slot whose weave the cells in service carry: the lay's once it has strobed, else the LAID one. -/
def State.weaveSlot (s : State) : Option (Fin 16) :=
  match s.lay.cur with
  | some l => if l.strobed then some l.slot else s.ledger.laid
  | none => s.ledger.laid

/-- The peak tap of every routed cell, by cell: 0 BAR, 1 CROSS (R19: the output the light leaves on). -/
def peakTaps (y512 : Bool) (routes : List Route) : Array Nat :=
  routes.foldl (fun a (r : Route) => ((routeCells y512 r.input r.dir).zipIdx).foldl
    (fun a c => a.setIfInBounds c.1.1 (r.dir / 2 ^ c.2 % 2)) a) (Array.replicate 21504 0)

/-- The peak taps of the weave in force. -/
def State.peaks (s : State) : Array Nat :=
  match s.weaveSlot with
  | some n => peakTaps s.strand.geomY512 (s.weave n.val).routes
  | none => Array.replicate 21504 0

/-! ### Wear (R36 to R39) -/

/-- The live count of a cell. -/
def State.liveWear (s : State) (c : Nat) : Nat := (s.cw c 0xC8).toNat

/-- WEAR_WARN and WEAR_OUT are raised once each per start-up (R39). -/
def State.wearCheck (s : State) (c : Nat) : State :=
  match s.strand.desc with
  | none => s
  | some d =>
    let n := s.liveWear c
    let s := if decide (d.wearRating * d.wearWarnPct ≤ 100 * n) && !s.strand.warned.contains c then
        ({ s with strand := { s.strand with warned := c :: s.strand.warned } } : State).raise 32 (BitVec.ofNat 32 c)
      else s
    if decide (d.wearRating ≤ n) && !s.strand.worn.contains c then
      ({ s with strand := { s.strand with worn := c :: s.strand.worn } } : State).raise 33 (BitVec.ofNat 32 c)
    else s

/-- The live count of a cell is set, and its count at the last powered hour moves with it: a count that was carried
is no increase over this unit's hour (R37, R40). -/
def State.setWear (s : State) (c n : Nat) : State :=
  let d := n - s.liveWear c
  let s := s.setCw c 0xC8 (BitVec.ofNat 32 n)
  if d = 0 then s
  else { s with strand := { s.strand with wearHour := aset s.strand.wearHour c ((alist s.strand.wearHour c).getD 0 + d) } }

/-- The live counts of a checkpoint image: the counter read at link start and the delta carried (R37; what the
cartridge's counter already holds of the delta is not stated, log entry 26). -/
def State.carryWear (s : State) (deltas : List (Nat × Nat)) : State :=
  let base := s.strand.wearBase.foldl (fun (a : Array Nat) p => a.setIfInBounds p.1 p.2) (Array.replicate 21504 0)
  forEach (deltas.filter (fun p => !s.cellAbsent p.1)) (fun s p =>
    let n := satAdd 0xFFFFFFFF (base.getD p.1 0) p.2
    if n ≤ s.liveWear p.1 then s else (s.setWear p.1 n).wearCheck p.1) s

/-- The wear snapshot is set, in the records too (R38, R206). -/
def State.setSnap (s : State) (l : List (Nat × Nat)) : State :=
  let a := l.foldl (fun (a : Array Nat) p => a.setIfInBounds p.1 p.2) (Array.replicate 21504 0)
  ({ s with solve := { s.solve with wearSnap := l } } : State).mapRecs (cellRec 0) 256 21504 (fun c r =>
    if s.cellAbsent c then r else memPut r (cellRec c + 0xCC) 4 (a.getD c 0))

/-- The live counts of the present cells that are not zero. -/
def State.liveCounts (s : State) : List (Nat × Nat) :=
  ((presentCells s.strand.geomY512).map (fun c => (c, s.liveWear c))).filter (·.2 ≠ 0)

/-- `k` actuations are counted for a cell (R36, R37). -/
def State.actuate (s : State) (c k : Nat) : State :=
  let s := s.setCw c 0xC8 (BitVec.ofNat 32 (satAdd 0xFFFFFFFF (s.liveWear c) k))
  s.wearCheck c

end Sys2Proof.Machine
end

