-- ==== Sys2Proof/Machine/LoopOps.lean ====
section
/-! DEFINITION. The looper's operations (06): faults, injections, presets, cell and auxiliary iterations,
captures, the demodulator, the budget loop and the loop period. -/

namespace Sys2Proof.Machine

/-! ### Loop faults (R187) -/

/-- A loop fault is recorded and raised. -/
def State.loopFaultRec (s : State) (loopNo stage : Nat) : State :=
  let s := if s.bit F.LOOP_FAULT_FIRST_VALID then s
    else ((s.wr F.LOOP_FAULT_FIRST_LOOP loopNo).wr F.LOOP_FAULT_FIRST_STAGE stage).wrB F.LOOP_FAULT_FIRST_VALID true
  s.raise 26 (BitVec.ofNat 32 (loopNo + stage * 65536))

/-- CAL_MISSING for a cell with no valid set, once per start-up (R250): when its calibration is loaded, and where a loop
or a preset meets it later. -/
def State.calMissing (s : State) (c : Nat) : State :=
  if (validSets s.mem c calBar).isEmpty && !s.cal.missing.contains c then
    ({ s with cal := { s.cal with missing := c :: s.cal.missing } } : State).raise 29 (BitVec.ofNat 32 c)
  else s

/-- A cell loop faults at a stage. -/
def State.cellFault (s : State) (c stage : Nat) : State :=
  ((s.setCStat c 0 1 1).setCStat c 1 3 stage).loopFaultRec c stage

/-- An auxiliary loop faults at a stage. -/
def State.auxFault (s : State) (a stage : Nat) : State :=
  ((s.wrB F.LOOP_AUX_STATUS_FAULTED true a).wr F.LOOP_AUX_STATUS_STAGE stage a).loopFaultRec (21504 + a) stage

/-! ### Injections (R202, R203) -/

/-- One bit of the Fibonacci generator x¹⁵ + x¹⁴ + 1: the bit shifted in is the output bit (DEDUCED). -/
def prbsStep (v : W32) : W32 :=
  let x := v.toNat % 32768
  BitVec.ofNat 32 ((2 * x + (x / 16384 + x / 8192) % 2) % 32768)

/-- TYPE of an injection: 1 STEP, 2 SINE, 3 PRBS. -/
def Inj.typ (i : Inj) : Nat := i.cfg.toNat % 4
/-- The injection acts at the output (R202). -/
def Inj.atOutput (i : Inj) : Bool := i.cfg.getLsbD 2
/-- FORCE_FULL of an injection. -/
def Inj.force (i : Inj) : Bool := i.cfg.getLsbD 3

/-- sin((π/2)·r/p) for 0 ≤ r ≤ p, in units of 2⁻⁴⁸: ten terms of the series, exact to well below 2⁻³⁰. -/
def sineQuarter (r p : Nat) : Int :=
  let x : Int := Int.ofNat (442139859501778 * r / p)
  let x2 := x * x / 281474976710656
  ((List.range 9).foldl (fun (a : Int × Int) k =>
    let t := -(a.1 * x2 / 281474976710656) / Int.ofNat ((2 * k + 2) * (2 * k + 3))
    (t, a.2 + t)) (x, x)).2

/-- sin(2π·m/p) in units of 2⁻⁴⁸. -/
def sineRef (m p : Nat) : Int :=
  let k := 4 * (m % p)
  let r := k % p
  match k / p with
  | 0 => sineQuarter r p
  | 1 => sineQuarter (p - r) p
  | 2 => -sineQuarter r p
  | _ => -sineQuarter (p - r) p

/-- A finite word in units of 2⁻¹⁴⁹, exact. -/
def unit149 (x : W32) : Int :=
  let m := F32.mag x
  let v := Int.ofNat (m.1 * 2 ^ (m.2 + 149).toNat)
  if F32.neg? x then -v else v

/-- The value of SINE (R203): any word within 2⁻²⁰·|AMPL| of AMPL·sin, so the free value where it lies there (log
entry 7), else the product rounded. -/
def sineValue (ampl : W32) (m p : Nat) : W32 :=
  let free := Config.sineOf ampl m p
  let ref := sineRef m p
  if F32.finite free &&
      decide ((unit149 free * 281474976710656 - unit149 ampl * ref).natAbs ≤ (unit149 ampl).natAbs * 268173312) then free
  else F32.mul ampl (F32.pack (decide (ref < 0)) ref.natAbs (-48))

/-- The value at the present n, the PRBS state after it, and whether the injection has ended (R203). -/
def Inj.value (i : Inj) : W32 × W32 × Bool :=
  if i.n.toNat < i.delay.toNat then (0, i.prbs, false)
  else
    let m := i.n.toNat - i.delay.toNat
    if i.duration ≠ 0 && decide (i.duration.toNat ≤ m) then (0, i.prbs, true)
    else if i.typ = 1 then (i.ampl, i.prbs, false)
    else if i.typ = 2 then
      (sineValue i.ampl (m % i.period.toNat) i.period.toNat, i.prbs, false)
    else
      let p := if m % i.period.toNat = 0 then prbsStep i.prbs else i.prbs
      (if p.getLsbD 0 then i.ampl else F32.negate i.ampl, p, false)

/-- The injection of a cell record (R206). -/
def State.cellInj (s : State) (c : Nat) : Option Inj :=
  let cfg := s.cw c 0xE0
  if cfg.toNat % 4 = 0 then none
  else some { cfg := cfg, ampl := s.cw c 0xE4, period := s.cw c 0xE8, duration := s.cw c 0xEC, delay := s.cw c 0xF0
              seed := s.cw c 0xF4, n := s.cw c 0xF8, prbs := s.cw c 0xFC }

/-- An injection stored in a cell record; none cancels it. -/
def State.setCellInj (s : State) (c : Nat) : Option Inj → State
  | none => s.stZero (cellRec c + 0xE0) 32
  | some i => (((((((s.setCw c 0xE0 i.cfg).setCw c 0xE4 i.ampl).setCw c 0xE8 i.period).setCw c 0xEC i.duration).setCw
      c 0xF0 i.delay).setCw c 0xF4 i.seed).setCw c 0xF8 i.n).setCw c 0xFC i.prbs

/-- The injection of a loop by number. -/
def State.injOf (s : State) (l : Nat) : Option Inj :=
  if l < 21504 then s.cellInj l else alist s.loop.auxInj (l - 21504)
/-- The injection of a loop set or cancelled. -/
def State.setInj (s : State) (l : Nat) (i : Option Inj) : State :=
  if l < 21504 then s.setCellInj l i
  else { s with loop := { s.loop with auxInj := match i with
    | none => adel s.loop.auxInj (l - 21504)
    | some x => aset s.loop.auxInj (l - 21504) x } }

/-- The value an injection adds at the setpoint or at the output, without advancing it. -/
def injVal (i : Option Inj) (output : Bool) : W32 :=
  match i with
  | some x => if x.atOutput = output then x.value.1 else 0
  | none => 0

/-- One due iteration passes for an injection (R203). -/
def State.injStep (s : State) (l : Nat) : State :=
  match s.injOf l with
  | none => s
  | some i =>
    let v := i.value
    if v.2.2 then s.setInj l none else s.setInj l (some { i with n := i.n + 1, prbs := v.2.1 })

/-! ### Presets (R191, R192) -/

/-- A cell's drive was stepped in this period (R183). -/
def State.noteStep (s : State) (c : Nat) : State := { s with loop := { s.loop with stepped := sadd s.loop.stepped c } }

/-- The preset of a cell loop (R191); CMD and the setpoint in force follow u_now (R211). -/
def State.presetCell (s : State) (c : Nat) (u e : W32) : State :=
  if !F32.finite u || !F32.finite e then (s.calMissing c).cellFault c 7
  else
    let es := F32.add (F32.add e (s.cw c 0x30)) (injVal (s.cellInj c) false)
    let s := if s.cw c 0x08 = u then s else s.noteStep c
    let s := (((s.setCw c 0x0C (F32.sub u (F32.mul (s.cw c 0x20) es))).setCw c 0x10 e).setCw c 0x08 u).setCw c 0x14
      (s.ffOf c)
    let s := (((s.setCw c 0x1C 0).st (cellRec c + 0x38) 2 0).stBits (cellRec c + 0xDC) 4 0 1 0)
    let s := ((s.setCStat c 8 1 0).setCStat c 9 1 0).setCStat c 0 1 0
    let s := s.setCmd c u
    { s with drive := { s.drive with sp := Sparse.put 0 s.drive.sp c u } }

/-- A parameter of an auxiliary loop (R198). -/
def State.auxP (s : State) (a m : Nat) : W32 := s.rdW F.LOOP_AUX_PAR_VALUE a m
/-- A state word of an auxiliary loop: 0 x0, 1 output, 2 I0, 3 I1, 4 I2. -/
def State.auxS (s : State) (a j : Nat) : W32 := s.rdW F.LOOP_AUX_STATE_VALUE a j
def State.setAuxS (s : State) (a j : Nat) (v : W32) : State := s.wr F.LOOP_AUX_STATE_VALUE v.toNat a j

/-- The preset of an auxiliary loop (R191). -/
def State.presetAux (s : State) (a : Nat) (u : W32) : State :=
  if !F32.finite u then s.auxFault a 7
  else
    let i0 := F32.sub u (F32.mul (s.auxP a 0) (F32.sub (s.auxP a 8) (s.auxS a 0)))
    let s := (((s.setAuxS a 2 i0).setAuxS a 3 (F32.abs u)).setAuxS a 4 (F32.abs u)).setAuxS a 1 u
    let s := s.wrB F.LOOP_AUX_STATUS_FAULTED false a
    { s with loop := { s.loop with auxLast := aset s.loop.auxLast a (s.rd F.LOOP_PERIOD_P) } }

/-! ### Captures (R204, R205) -/

/-- A capture ends with DONE at the count it has reached. -/
def State.capEnd (s : State) (ch : Nat) : State :=
  let s := { s with loop := { s.loop with caps := adel s.loop.caps ch } }
  (s.wrB F.LOOP_CAP_STATUS_DONE true ch).wrB F.LOOP_CAP_STATUS_ACTIVE false ch

/-- The values of one iteration a capture may record, by QTY (R204); held iterations give fewer. -/
abbrev CapVals := List (Nat × W32)

/-- One due iteration passes for a capture: trigger, decimation, the sample, the end at 4,096. -/
def State.capOne (s : State) (vals : CapVals) (m0 : Bool) (P : Nat) (p : Nat × Capture) : State :=
  let ch := p.1
  let c := p.2
  let started := c.started || !c.trig || m0
  if !started then s
  else
    let v? := match alist vals c.qty with
      | some v => some v
      | none => c.last
    let d := s.draw
    let v := v?.getD (BitVec.ofNat 32 d.1.toNat)
    let s := if v?.isNone then d.2 else s
    let take := c.seen % 2 ^ c.decim = 0
    let c' := { c with started := true, seen := c.seen + 1, last := some v }
    let s := { s with loop := { s.loop with caps := aset s.loop.caps ch c' } }
    if !take then s
    else
      let n := s.rd F.LOOP_CAP_STATUS_COUNT ch
      let s := if n = 0 then s.wr F.LOOP_CAP_STATUS_START_P P ch else s
      let s := (s.stW (0x06000000 + 0x4000 * ch + 4 * n) v).wr F.LOOP_CAP_STATUS_COUNT (n + 1) ch
      if 4096 ≤ n + 1 then s.capEnd ch else s

/-- The captures of a loop record one due iteration (R205). -/
def State.capLoop (s : State) (l : Nat) (vals : CapVals) (inj : Option Inj) (P : Nat) : State :=
  let m0 := match inj with
    | some i => decide (i.n = i.delay)
    | none => false
  forEach (sortBy (fun a b => decide (a.1 ≤ b.1)) (s.loop.caps.filter (fun p => p.2.loopNo = l)))
    (fun s p => s.capOne vals m0 P p) s

/-! ### The cell iteration (R185) -/

/-- TG, the length of a gradient block in seconds (R185). -/
def tgF : W32 := 0x3956BF95

/-- The held values a capture records for a cell (R205); what its loop has not formed yet is 0.0 (log entry 29). -/
def State.capHeld (s : State) (c P : Nat) (inj : W32) (k : Nat) : CapVals :=
  [(0, s.cw c 0x18), (1, s.sw' (3 * c) 0x18), (2, s.sw' (3 * c + 1) 0x18), (3, s.sw' (3 * c + 2) 0x10),
   (4, (alist s.loop.lastBlock c).getD 0), (5, s.cw c 0x10), (6, s.cw c 0x0C), (10, s.cw c 0x08), (11, inj),
   (12, F32.ofNat (s.cStat c 6 2)), (13, F32.ofNat k), (14, s.cw c 0x14), (15, F32.ofNat (P % 2 ^ 24))]

/-- One cell iteration: the state after it, and the values it formed (R185, R186, R187); `safe` is the safe reaction
as the period began (R180). -/
def State.iterCell (s : State) (c : Nat) (beta : W32) (safe : Bool) : State × CapVals :=
  if s.cellFaulted c || s.cellMode c = 2 || safe then (s, [])
  else if s.cStat c 9 1 = 1 then (s.cellFault c 0, [])
  else if s.cStat c 8 1 = 1 || s.cal.reload.contains c || s.loop.echoWait.contains c then (s.setCStat c 8 1 0, [])
  else
    let t := s.tLoop
    let ff := s.ffOf c
    let gA := s.gainOf c false
    let gB := s.gainOf c true
    let sens := calEval s.mem c calSens t
    let kp := s.cw c 0x20
    let ki := s.cw c 0x24
    let ad := s.cw c 0x28
    let man := s.cw c 0x2C
    let trim := s.cw c 0x30
    let vs := s.rdW F.LOOP_STRESS_V
    let head := s.rdW F.LOOP_BUDGET_CFG_HEADROOM
    if !(F32.finite ff && F32.finite gA && F32.finite gB && F32.finite sens) then
      ((s.calMissing c).cellFault c 1, [])
    else if !(F32.finite kp && F32.finite ki && F32.finite ad && F32.finite man && F32.finite trim &&
        F32.finite vs && F32.finite beta && F32.finite head) || s.loop.paramBad.contains c then
      (({ s with loop := { s.loop with paramBad := s.loop.paramBad.filter (· ≠ c) } } : State).cellFault c 2, [])
    else
      let inj := s.cellInj c
      let gn := s.ld (cellRec c + 0x38) 2
      let gnF := F32.ofNat gn
      let e := if gn > 0 then F32.div (F32.div (s.cw c 0x1C) gnF) (F32.mul ad sens) else s.cw c 0x10
      if gn > 0 && !F32.finite e then (s.cellFault c 3, [])
      else
        let es := F32.add (F32.add e trim) (injVal inj false)
        let dI := if gn > 0 then F32.mul (F32.mul ki (F32.mul gnF tgF)) es else 0
        let I := F32.add (F32.add (s.cw c 0x0C) dI) (F32.sub ff (s.cw c 0x14))
        if !F32.finite I then (s.cellFault c 4, [])
        else
          let manual := s.cellMode c = 1
          let req := if manual then man else F32.add I (F32.mul kp es)
          let ng := F32.neg? req
          let vs2 := F32.mul vs vs
          let mS := F32.mul (if ng then gB else gA) vs2
          let mB := F32.add (F32.abs ff) (F32.mul beta head)
          if !(F32.finite req && F32.finite mS && F32.finite mB) then (s.cellFault c 5, [])
          else
            let m0 := F32.abs req
            let w1 : W32 × Nat := if F32.lt mS m0 then (mS, 1) else (m0, 0)
            let w2 : W32 × Nat := if F32.lt mB w1.1 then (mB, 2) else w1
            let u := if ng then F32.negate w2.1 else w2.1
            let I' := if manual then F32.sub u (F32.mul kp es) else if w2.2 ≠ 0 then u else I
            let uo0 := F32.add u (injVal inj true)
            let lim := F32.mul (if F32.lt uo0 0 then gB else gA) vs2
            let uo := if F32.lt lim (F32.abs uo0) then (if F32.lt uo0 0 then F32.negate lim else lim) else uo0
            if !F32.finite uo then (s.cellFault c 6, [])
            else
              let s := (((s.setCw c 0x0C I').setCw c 0x10 e).setCw c 0x14 ff).setCw c 0x08 uo
              let s := ((s.setCStat c 6 2 w2.2).setCw c 0x1C 0).st (cellRec c + 0x38) 2 0
              let s := if w2.2 ≠ 0 then s.st (cellRec c + 0x3A) 2 (satAdd 65535 (s.ld (cellRec c + 0x3A) 2) 1) else s
              let s := s.setCw c 0x3C (s.cw c 0x3C + 1)
              (s, [(5, e), (6, I'), (7, req), (8, mS), (9, mB), (10, uo), (12, F32.ofNat w2.2), (14, ff)])

/-- What the last completed iteration of a loop formed. -/
def State.formedBy (s : State) (l : Nat) : CapVals := Sparse.get [] s.loop.formed l

/-- The values a completed iteration formed are kept for the iterations that hold (R205); one that holds formed
none. -/
def State.keepFormed (s : State) (l : Nat) (vals : CapVals) : State :=
  if vals.isEmpty then s else { s with loop := { s.loop with formed := Sparse.put [] s.loop.formed l vals } }

/-- A cell runs at full rate (R195). -/
def State.cellFull (s : State) (c : Nat) : Bool := s.cStat c 4 1 = 1

/-- One due iteration of a cell with its injection and captures. -/
def State.runCell (s : State) (c P : Nat) (beta : W32) (safe : Bool) : State :=
  let inj := s.cellInj c
  let iv := match inj with
    | some i => i.value.1
    | none => 0
  let k := if s.cellFull c then 0 else s.loop.holdKForce
  let r := s.iterCell c beta safe
  let vals := r.2 ++ r.1.capHeld c P iv k ++ s.formedBy c ++ [(7, 0), (8, 0), (9, 0)]
  ((r.1.keepFormed c r.2).injStep c).capLoop c vals inj P

/-! ### Auxiliary iterations (R199 to R201) -/

/-- One input of an auxiliary loop: its value, and whether it is stale or over-range; none where the
input is disabled. -/
def State.auxIn (s : State) (a j : Nat) : Option (W32 × Bool) :=
  let k := s.rd F.LOOP_AUX_SRC_KIND a j
  let x := s.rd F.LOOP_AUX_SRC_INDEX a j
  if k = 1 then some (s.rdW F.HKADC_RES_VALUE x, s.bit F.HKADC_RES_STALE x || s.bit F.HKADC_RES_OVR x)
  else if k = 2 then some (s.sw' x 0x14, !s.sense.freshP.contains x || s.sCtrl x 8 1 = 1)
  else if k = 3 then some (s.ldW (0x00100000 + 4 * x), false)
  else none

/-- The modules an output target stands for (R201): a TEC zone is its two modules. -/
def State.auxModules (s : State) (a : Nat) : List Nat :=
  let k := s.rd F.LOOP_AUX_OUT_KIND a
  let x := s.rd F.LOOP_AUX_OUT_INDEX a
  if k = 1 then [2 * x, 2 * x + 1] else if k = 3 then [x] else []

/-- A lower-numbered enabled loop names the same target (R201). -/
def State.auxConflict (s : State) (a : Nat) : Bool :=
  let mine := s.auxModules a
  (List.range a).any (fun b => s.bit F.LOOP_AUX_CFG_EN b && (s.auxModules b).any mine.contains)

/-- A PWM module by number. -/
def State.pm (s : State) (n : Nat) : PwmModule := s.pwm.get (Fin.ofNat 8 n)
/-- A PWM module set. -/
def State.setPm (s : State) (n : Nat) (m : PwmModule) : State := { s with pwm := s.pwm.set (Fin.ofNat 8 n) m }

/-- Quarters of a TIME cycle in one PWM step: 2.5 ns, or 25 ns on RCO (R409, R422). -/
def State.pwmStep (s : State) : Nat := if s.bit F.CLK_DOM_ACT_SRC 6 then 50 else 5
/-- The present instant in quarters of a TIME cycle. -/
def State.now4 (s : State) : Nat := 4 * s.time.cycle

/-- A write to a shadow in the cycle of a reload, which took the shadows without it (R413). -/
def State.lateWrite (s : State) (n : Nat) : State :=
  if s.bit F.PWM_CTRL_EN n && decide ((s.pm n).startAt ≤ s.now4) && decide (s.now4 < (s.pm n).startAt + s.pwmStep) then
    s.wrB F.PWM_STATUS_LATE_WRITE true n
  else s

/-- The duty of module `n` that fraction `u` asks for (R417): a write of the shadow. -/
def State.setDuty (s : State) (n : Nat) (u : W32) : State :=
  let p := F32.ofNat (16 * s.rd F.PWM_PERIOD_PERIOD n)
  (s.wr F.PWM_DUTY_DUTY (F32.roundEven (F32.mul (F32.fmax u 0) p)).toNat n).lateWrite n

/-- The output of an auxiliary loop reaches its target (R199, R201, R417). -/
def State.auxWrite (s : State) (a : Nat) (u : W32) : State :=
  let k := s.rd F.LOOP_AUX_OUT_KIND a
  let x := s.rd F.LOOP_AUX_OUT_INDEX a
  let conflict := s.auxConflict a
  let bad := k = 1 && decide ((s.strand.desc.map (·.tecZones)).getD 0 ≤ x)
  let s := (s.wrB F.LOOP_AUX_STATUS_CONFLICT conflict a).wrB F.LOOP_AUX_STATUS_BAD_TARGET bad a
  if conflict || bad then s
  else if k = 1 then (s.setDuty (2 * x) u).setDuty (2 * x + 1) (F32.negate u)
  else if k = 2 then s.stW (0x00100000 + 4 * x) u
  else if k = 3 then s.setDuty x u
  else s

/-- One limit element: its error, integral and request (R200). -/
def limitElem (lim kp ki ts x i : W32) : W32 × W32 :=
  let e := F32.sub lim (F32.abs x)
  let i' := F32.add i (F32.mul (F32.mul ki ts) e)
  (i', F32.fmax (F32.add i' (F32.mul kp e)) 0)

/-- One auxiliary iteration (R200): the values it formed; `s0` is the state its period began with, which gives its
inputs (R180). -/
def State.iterAux (s s0 : State) (a P : Nat) : State × CapVals :=
  if s.bit F.LOOP_AUX_STATUS_FAULTED a || s.rd F.LOOP_AUX_STATUS_MODE a = 2 || !s.bit F.LOOP_AUX_CFG_EN a || s0.safeOn
  then (s, [])
  else
    match s0.auxIn a 0 with
    | none => (s, [])
    | some x0 =>
      let x1 := s0.auxIn a 1
      let x2 := s0.auxIn a 2
      if x0.2 || (x1.map (·.2)).getD false || (x2.map (·.2)).getD false then (s, [])
      else if !(F32.finite x0.1 && F32.finite ((x1.map (·.1)).getD 0) && F32.finite ((x2.map (·.1)).getD 0)) then
        (s.auxFault a 0, [])
      else if !([0, 1, 3, 8, 9, 10, 11, 12, 13, 14, 15].all (fun m => F32.finite (s.auxP a m))) then (s.auxFault a 2, [])
      else
        let inj := alist s.loop.auxInj a
        let ts := F32.mul (F32.ofNat (P - (alist s.loop.auxLast a).getD 0)) 0x3656BF95
        let s := { s with loop := { s.loop with auxLast := aset s.loop.auxLast a P } }
        let e0 := F32.add (F32.sub (s.auxP a 8) x0.1) (injVal inj false)
        let I0 := F32.add (s.auxS a 2) (F32.mul (F32.mul (s.auxP a 1) ts) e0)
        let manual := s.rd F.LOOP_AUX_STATUS_MODE a = 1
        let req := if manual then s.auxP a 3 else F32.add I0 (F32.mul (s.auxP a 0) e0)
        let l1 := x1.map (fun x => limitElem (s.auxP a 9) (s.auxP a 10) (s.auxP a 11) ts x.1 (s.auxS a 3))
        let l2 := x2.map (fun x => limitElem (s.auxP a 12) (s.auxP a 13) (s.auxP a 14) ts x.1 (s.auxS a 4))
        let r1 := (l1.map (·.2)).getD 0
        let r2 := (l2.map (·.2)).getD 0
        let m0 : W32 × Nat := (F32.abs req, 0)
        let m1 := if l1.isSome && F32.lt r1 m0.1 then (r1, 1) else m0
        let m2 := if l2.isSome && F32.lt r2 m1.1 then (r2, 2) else m1
        let m3 := if F32.lt (s.auxP a 15) m2.1 then (s.auxP a 15, 3) else m2
        let u := if F32.neg? req then F32.negate m3.1 else m3.1
        let I0' := if manual then F32.sub u (F32.mul (s.auxP a 0) e0) else if m3.2 ≠ 0 then u else I0
        let I1' := (l1.map (fun l => if m3.2 = 1 then l.1 else m3.1)).getD (s.auxS a 3)
        let I2' := (l2.map (fun l => if m3.2 = 2 then l.1 else m3.1)).getD (s.auxS a 4)
        let k := s.rd F.LOOP_AUX_OUT_KIND a
        let om := s.auxP a 15
        let uo0 := F32.clamp (F32.negate om) om (F32.add u (injVal inj true))
        let uo := if k = 1 then F32.clamp 0xBF800000 F32.one uo0
          else if k = 3 then F32.clamp 0 F32.one uo0 else uo0
        if !(F32.finite I0' && F32.finite I1' && F32.finite I2') then (s.auxFault a 4, [])
        else if !(F32.finite req && F32.finite r1 && F32.finite r2) then (s.auxFault a 5, [])
        else if !F32.finite uo then (s.auxFault a 6, [])
        else
          let s := ((((s.setAuxS a 0 x0.1).setAuxS a 1 uo).setAuxS a 2 I0').setAuxS a 3 I1').setAuxS a 4 I2'
          let s := (s.wr F.LOOP_AUX_STATUS_WIN m3.2 a).auxWrite a uo
          (s, [(0, x0.1), (1, (x1.map (·.1)).getD 0), (2, (x2.map (·.1)).getD 0), (5, e0), (6, I0'), (7, req), (8, r1),
               (9, r2), (10, uo), (12, F32.ofNat m3.2)])

/-- One due iteration of an auxiliary loop with its injection and captures. -/
def State.runAux (s s0 : State) (a P : Nat) : State :=
  let inj := alist s.loop.auxInj a
  let iv := match inj with
    | some i => i.value.1
    | none => 0
  let l := 21504 + a
  let r := s.iterAux s0 a P
  let vals := r.2 ++ [(0, r.1.auxS a 0), (3, 0), (4, 0), (6, r.1.auxS a 2), (10, r.1.auxS a 1), (11, iv),
    (12, F32.ofNat (r.1.rd F.LOOP_AUX_STATUS_WIN a)), (13, 0), (14, r.1.auxP a 8), (15, F32.ofNat (P % 2 ^ 24))] ++
    s.formedBy l ++ [(1, 0), (2, 0), (5, 0), (7, 0), (8, 0), (9, 0)]
  ((r.1.keepFormed l r.2).injStep l).capLoop l vals inj P

/-- An auxiliary loop is due in period P (R199). -/
def State.auxDue (s : State) (a P : Nat) : Bool :=
  s.bit F.LOOP_AUX_CFG_EN a && s.rd F.LOOP_AUX_SRC_KIND a 0 ≠ 0 &&
  (if s.bit F.LOOP_AUX_CFG_TRIG a || s.rd F.LOOP_AUX_SRC_KIND a 0 = 3 then
    decide ((Int.ofNat P - Int.ofNat (21504 + a)) % (2 ^ s.rd F.LOOP_AUX_CFG_K a : Nat) = 0)
  else s.loop.auxNew.contains a)

/-! ### The demodulator (R182, R183, R195, R196) -/

/-- Entry j of row d of the Sylvester Hadamard matrix: true for −1 (R29). -/
def hadamard (d j : Nat) : Bool := popcount (d &&& j) 6 % 2 = 1

/-- The dither row in use of a cell (R182). -/
def State.ditherRow (s : State) (c : Nat) : Nat := (alist s.loop.rowInUse c).getD (s.cCtrl c 8 6)
/-- Dither is applied to a cell (R182). -/
def State.ditherOn (s : State) (c : Nat) : Bool :=
  s.bit F.LOOP_CTRL_DITHER && s.cCtrl c 16 1 = 1 && F32.lt 0 (s.cw c 0x28)
/-- The dither term of a cell in period P (R182). -/
def State.ditherTerm (s : State) (c P : Nat) : W32 :=
  if s.ditherOn c then
    if hadamard (s.ditherRow c) (P % 64) then F32.negate (s.cw c 0x28) else s.cw c 0x28
  else 0

/-- A cell in service has been handed back to its loop (R156, R183). -/
def State.handedBack (s : State) (c : Nat) : Bool :=
  s.inService c && !(match s.lay.cur with
    | some l => l.strobed && !l.handed && l.changing.any (·.1 = c)
    | none => false)

/-- The calibration engine supplies the cell's setpoint: a run, or the ramp after its last (R253, R256). -/
def State.calRunOn (s : State) (c : Nat) : Bool :=
  s.cal.runs.any (fun r => !r.req.sense && r.req.object = c) || s.cal.ramps.contains c

/-- The loop signal and whether any tap it is formed from is STALE or over-range (R183). -/
def State.loopSignal (s : State) (c pk : Nat) : W32 × Bool :=
  let op := 1 - pk
  let bad (t : Nat) : Bool := !s.sense.freshF.contains (3 * c + t) || s.sCtrl (3 * c + t) 7 1 = 1
  let n (t : Nat) : W32 := s.sw' (3 * c + t) 0x18
  let raw (t : Nat) : W32 := s.sw' (3 * c + t) 0x10
  if s.tapDead c 2 then (F32.div (raw pk) (F32.add (raw 0) (raw 1)), bad 0 || bad 1)
  else if s.tapDead c pk then (F32.sub F32.one (n op), bad op || bad 2)
  else (n pk, bad pk || bad 2)

/-- ⌊|e|·10⁶⌋ (R389). -/
def microOf (e : W32) : Int :=
  let m := F32.mag e
  if m.2 < 0 then Int.ofNat (m.1 * 1000000 / 2 ^ m.2.natAbs) else Int.ofNat (m.1 * 1000000 * 2 ^ m.2.natAbs)

/-- A cell is in transition, or woken and not yet quiet (R195). -/
def State.restless (s : State) (c : Nat) : Bool :=
  s.cStat c 5 1 = 1 || s.loop.woken.contains c || s.loop.wokenNext.contains c

/-- A loop's captures with FORCE_FULL. -/
def State.capForce (s : State) (c : Nat) : Bool := s.loop.caps.any (fun p => p.2.loopNo = c && p.2.forceFull)

/-- Full rate is forced on a cell, by its flag, its injection or a capture (R195). -/
def State.forcedFull (s : State) (c : Nat) : Bool := s.cCtrl c 17 1 = 1 || (s.cellInj c).any (·.force) || s.capForce c

/-- A hold-rate cell is woken, from the next period on; a cell still to fall quiet starts its count again (R195,
R196). -/
def State.wakeCell (s : State) (c : Nat) : State :=
  if s.restless c then s.setCStat c 16 8 0
  else if s.forcedFull c then s
  else ({ s with loop := { s.loop with wokenNext := c :: s.loop.wokenNext } } : State).setCStat c 16 8 0

/-- The tests a valid gradient block is put to (R195, R196). -/
def State.blockTest (s : State) (c : Nat) (g : W32) : State :=
  let sens := calEval s.mem c calSens s.tLoop
  let e := F32.div g (F32.mul (s.cw c 0x28) sens)
  let s := { s with loop := { s.loop with lastBlock := aset s.loop.lastBlock c g } }
  let s := if F32.finite e then s.monOffer 5 (c / 1024) (microOf e) else s
  let ae := F32.abs e
  if s.restless c then
    if F32.lt ae (s.rdW F.LOOP_ERR_LO_E_LO) && !s.loop.lowY.contains c then
      let q := satAdd 255 (s.cStat c 16 8) 1
      if s.rd F.LOOP_CTRL_QUIET ≤ q then
        let s := (s.setCStat c 16 8 q).setCStat c 5 1 0
        { s with loop := { s.loop with woken := s.loop.woken.filter (· ≠ c), wokenNext := s.loop.wokenNext.filter (· ≠ c) } }
      else s.setCStat c 16 8 q
    else s.setCStat c 16 8 0
  else if F32.le (s.rdW F.LOOP_ERR_HI_E_HI) ae then s.wakeCell c else s

/-- The demodulator on one cell for the light of period q (R183). -/
def State.demodCell (s : State) (q : Nat) (peaks : Array Nat) (c : Nat) : State :=
  let y := s.loopSignal c (peaks.getD c 0)
  let valid (s : State) (b : Bool) : State := s.stBits (cellRec c + 0xDC) 4 0 1 (boolNat b)
  let s := if y.2 then (valid s false).setCStat c 8 1 1
    else if !F32.finite y.1 then (valid s false).setCStat c 9 1 1
    else
      let w := if hadamard (s.ditherRow c) (q % 64) then F32.negate F32.one else F32.one
      let s := (s.setCw c 0xD8 (F32.add (s.cw c 0xD8) (F32.mul w y.1))).setCw c 0x18 y.1
      if F32.lt y.1 (s.rdW F.LOOP_Y_LO_Y_LO) then
        let s := { s with loop := { s.loop with lowY := sadd s.loop.lowY c } }
        s.wakeCell c
      else s
  let s := if s.loop.stepped.contains c || s.loop.allStepped || s.calRunOn c then valid s false else s
  if q % 64 = 63 then
    let s := if s.ldBits (cellRec c + 0xDC) 4 0 1 = 1 && s.ditherOn c then
        let g := F32.div (s.cw c 0xD8) 0x42800000
        let s := s.setCw c 0x1C (F32.add (s.cw c 0x1C) g)
        (s.st (cellRec c + 0x38) 2 (s.ld (cellRec c + 0x38) 2 + 1)).blockTest c g
      else s
    valid (s.setCw c 0xD8 0) true
  else s

/-- The demodulator for the light of period P − 1, once per period (R183). -/
def State.demodulate (s : State) (P : Nat) : State :=
  if P = 0 || s.loop.demod = P + 1 then s
  else
    let q := P - 1
    let pk := s.peaks
    let s := forEach (s.serviceCells.filter s.handedBack) (fun s c => s.demodCell q pk c) s
    let s := { s with loop := { s.loop with demod := P + 1, stepped := [], allStepped := s.holdOn || s.safeOn } }
    if q % 64 = 63 then { s with loop := { s.loop with rowInUse := [], lowY := [] } } else s

/-! ### The budget loop (R188, R158) -/

/-- A term in units of 2⁻²⁴ V², rounded to nearest. -/
def fixed24 (x : W32) : Nat :=
  let m := F32.mag x
  let e := m.2 + 24
  if e < 0 then F32.shiftEven m.1 e.natAbs else m.1 * 2 ^ e.natAbs

/-- The allowance factors held by a staged or running lay: (lay's changing cells, β at staging). -/
def State.heldBetas (s : State) : List (List Nat × W32) :=
  (match s.lay.cur with
   | some l => if l.kind = .epoch then [(l.changing.map (·.1), l.beta)] else []
   | none => []) ++
  s.lay.staged.map (fun (x : StagedLay) => ((s.weave x.slot.val).changes.map (·.1), x.beta))

/-- β of a cell (R188). -/
def betaOf (held : List (List Nat × W32)) (beta : W32) (c : Nat) : W32 :=
  match held.find? (fun h => !h.1.contains c) with
  | some h => h.2
  | none => beta

/-- The budget loop iterates (R188). -/
def State.budgetLoop (s : State) (cells : List Nat) : State :=
  match s.strand.desc with
  | none => s
  | some d =>
    let terms := cells.map (fun c =>
      let u := s.cw c 0x08
      F32.div (F32.abs u) (s.gainOf c (F32.lt u 0)))
    if terms.all F32.finite then
      let S := F32.pack false ((terms.map fixed24).sum % 2 ^ 64) (-24)
      let eB := F32.div (F32.sub d.actBudget S) d.actBudget
      let b := F32.add (s.rdW F.LOOP_BUDGET_BETA) (F32.mul (s.rdW F.LOOP_BUDGET_CFG_KB) eB)
      let s := s.wr F.LOOP_BUDGET_SUM_V2 S.toNat
      if F32.finite S && F32.finite b then s.wr F.LOOP_BUDGET_BETA (F32.fmin (F32.fmax b 0) F32.one).toNat
      else s.loopFaultRec 0xFFFF 2
    else s.loopFaultRec 0xFFFF 2

/-! ### Blends (R258) -/

/-- One step of a running blend; none where it has ended. -/
def State.blendStep (s : State) (b : Blend) : State × Option Blend :=
  if !b.running then (s, some b)
  else
    let j := b.j + 1
    let f := F32.div (F32.ofNat j) (F32.ofNat b.n)
    let put (s : State) (p : (W32 × W32) × Nat) : State :=
      let v := if b.n ≤ j then p.1.2 else F32.add p.1.1 (F32.mul (F32.sub p.1.2 p.1.1) f)
      s.stW (setAddr b.cell b.set + 4 * p.2) v
    let s := forEach ((b.start.zip b.new).zipIdx) put s
    if b.n ≤ j then (s.setCCal b.cell 7 1 0, none) else (s, some { b with j := j })

/-- Every running blend takes its step at a period boundary (R258). -/
def State.blendAll (s : State) : State :=
  let r := s.cal.blends.foldl (fun (acc : State × List Blend) b =>
    let x := acc.1.blendStep b
    (x.1, acc.2 ++ x.2.toList)) (s, [])
  let s := { r.1 with cal := { r.1.cal with blends := r.2 } }
  forEach (r.2.filter (·.running)) (fun s b => s.setCCal b.cell 7 1 1) s

/-! ### The period (R177 to R181) -/

/-- A loop period begins: the sets that blend take their step, and t_cart stands for the period (R212, R258, R400). -/
def State.periodBegins (s : State) : State :=
  let s := s.blendAll
  { s with loop := { s.loop with tCart := s.tCart } }

/-- A core is retired and a spare, if one remains, takes its place (R179). Of several spares the lowest-numbered takes the core's place (DESIGN
CHOICE, log entry 29). -/
def State.retireCore (s : State) (n : Nat) : State :=
  let act := s.rd F.LOOP_CORE_ACTIVE
  let fl := s.rd F.LOOP_CORE_FAILED
  if 17 < n || fl.testBit n then s
  else
    let fl' := fl ||| 2 ^ n
    let act' := if act.testBit n then
        let a := act - 2 ^ n
        match (List.range 18).find? (fun i => !a.testBit i && !fl'.testBit i) with
        | some i => a ||| 2 ^ i
        | none => a
      else act
    ((s.wr F.LOOP_CORE_ACTIVE act').wr F.LOOP_CORE_FAILED fl').wr F.LOOP_STATUS_CORES (popcount act' 18)

/-- Iteration slots of one core (R179, R405). -/
def State.coreSlots (s : State) : Nat :=
  match s.loop.mode with
  | 0 => 1520
  | 1 => 760
  | 2 => 380
  | _ => 1520 * (16 - s.rd F.THERM_THR_CTRL_SKIP) / 16

/-- The rate class of a cell: 3 transition, 4 woken, 5 forced, 7 hold rate (R181, R195). -/
def State.rateClass (s : State) (c : Nat) : Nat :=
  if s.cStat c 5 1 = 1 then 3
  else if s.loop.woken.contains c then 4
  else if s.forcedFull c then 5
  else 7

/-- The iterations of period P: the budget loop first, then by priority while slots last (R178, R181).  Each reads the
state its period began with but for its own loop's (R180); what a hold or `LOOP_CTRL.EN` = 0 keeps from running stays
due.  Deferred cells in transition go before the others of their class, the longest deferred first (R406), and
LOOP_LOAD.DEFERRED counts an iteration in every period that leaves it over (DESIGN CHOICE, log entry 29). -/
def State.iterations (s : State) (P : Nat) : State :=
  let s0 := s
  let cells := s.serviceCells.filter (fun c => s.handedBack c && !s.calRunOn c)
  let cls := cells.map (fun c => (c, s.rateClass c))
  let s := forEach cls (fun s p => s.setCStat p.1 4 1 (boolNat (p.2 < 7))) s
  let run := s.loop.enForce
  let cellsRun := run && !s.holdOn
  let cores := if !s.domEnabled 2 then 0 else if s.coldStandby then Nat.min 1 (s.rd F.LOOP_STATUS_CORES)
    else s.rd F.LOOP_STATUS_CORES
  let total := cores * s.coreSlots
  let budget := cellsRun && !s.safeOn
  let ranB := budget && decide (0 < total)
  let s := if ranB then s.budgetLoop s.serviceCells else s
  let held := s.heldBetas
  let beta := s.rdW F.LOOP_BUDGET_BETA
  let isDue (p : Nat × Nat) : Bool := p.2 < 7 || s.loop.due.contains p.1 ||
    decide ((Int.ofNat P - Int.ofNat p.1) % (2 ^ s.loop.holdKForce : Nat) = 0)
  let aux := if run then (List.range 64).filter (fun a => s.auxDue a P || s.loop.due.contains (21504 + a)) else []
  let due := if cellsRun then cls.filter isDue else []
  let waits := s.loop.due.filter (fun l => if l < 21504 then !cellsRun else !run)
  let inClass (k : Nat) : List Nat := (due.filter (·.2 = k)).map (·.1)
  let moving := inClass 3
  let first := s.loop.due.filter moving.contains
  let ordered := aux.map (21504 + ·) ++ first ++ moving.filter (fun c => !first.contains c) ++ [4, 5, 7].flatMap inClass
  let slots := total - boolNat ranB
  let now := ordered.take slots
  let later := ordered.drop slots
  let s := { s with loop := { s.loop with auxNew := [], due := later ++ waits } }
  let s := forEach now (fun s l =>
    if l < 21504 then s.runCell l P (betaOf held beta l) s0.safeOn else s.runAux s0 (l - 21504) P) s
  let n := now.length + boolNat ranB
  let late := later.length + boolNat (budget && !ranB)
  let s := s.wr F.LOOP_LOAD_LAST n
  let s := if s.rd F.LOOP_LOAD_MAX < n then s.wr F.LOOP_LOAD_MAX n else s
  let s := s.inc F.LOOP_LOAD_DEFERRED late
  let s := if late ≠ 0 && !s.loop.deferredPrev then s.raise 25 (BitVec.ofNat 32 P) else s
  { s with loop := { s.loop with deferredPrev := decide (late ≠ 0)
                                 woken := s.loop.woken ++ s.loop.wokenNext, wokenNext := [] } }

/-- The loop period whose boundary frame was last sent runs once (R177, R178). -/
def State.loopPeriod (s : State) : State :=
  let P := s.rd F.LOOP_PERIOD_P
  if s.strand.count = 0 || s.loop.ranP = P + 1 then s
  else
    let s := forEach (sortNat s.loop.retire) State.retireCore s
    let s := { s with loop := { s.loop with retire := [], enForce := s.bit F.LOOP_CTRL_EN
                                            holdKForce := s.rd F.LOOP_CTRL_HOLD_K, mode := s.loopModeWanted } }
    let s := (s.wr F.THERM_STATUS_LOOP_MODE s.loop.mode).throttleSource
    let s := s.demodulate P
    let s := s.iterations P
    { s with loop := { s.loop with ranP := P + 1 } }

end Sys2Proof.Machine
end

