-- ==== Sys2Proof/Machine/Solver.lean ====
section
/-! DEFINITION. The route solver: valid routes and the tie-break order (R124, R138), adds and minimal move
sets (R135, R136), the incremental and the full solve (R134, R137), idle routes (R127, R128) and the
weave they give (R129 to R132, R140, R474). -/

namespace Sys2Proof.Machine

/-- The ground a solve works on: geometry, cells no new path may pass (R124), base state codes and wear snapshot by cell
number, the base weave's routes, and the cells of those of them that do not stand by themselves: unless a placed route
passes such a cell, it changes to PARK. -/
structure Terrain where
  y512 : Bool
  banned : Array Bool
  base : Array Nat
  wear : Array Nat
  routes : List Route
  vacant : Array Bool

/-- The ground for a placement beside the connections of some inputs: the base weave's idle routes of other inputs stand;
in the placement of idle routes none does until it is placed again (R127). -/
def Terrain.beside (t : Terrain) (inputs : List Nat) (idle : Bool) : Terrain :=
  let mask (f : Route → Bool) (v : Bool) (a : Array Bool) : Array Bool :=
    (t.routes.filter f).foldl (fun a r => (routeCells t.y512 r.input r.dir).foldl (fun a c => a.setIfInBounds c.1 v) a) a
  let held (r : Route) : Bool := r.idle && !idle && !inputs.contains r.input
  { t with vacant := mask held false (mask (fun r => !held r) true (Array.replicate 21504 false)) }

/-- Routes placed so far: per cell 0 or 2 + 2·input + direction, per output 0 or 1 + input, per input 0
or 1 + direction vector. -/
structure Occ where
  cells : Array Nat
  outs : Array Nat
  routes : Array Nat

/-- No route placed. -/
def Occ.empty : Occ :=
  { cells := Array.replicate 21504 0, outs := Array.replicate 1024 0, routes := Array.replicate 1024 0 }

/-- The direction vector of an input's route. -/
def Occ.route? (o : Occ) (i : Nat) : Option Nat :=
  match o.routes.getD i 0 with
  | 0 => none
  | d + 1 => some d

/-- The cells of a route with the direction out of each (R123). -/
def walkDirs : List Nat → Nat → Nat → Nat → List (Nat × Nat)
  | [], _, _, _ => []
  | b :: bs, d, s, p =>
    let dir := d % 2
    (s * 1024 + p, dir) :: walkDirs bs (d / 2) (s + 1) (if dir = 1 then p ^^^ 2 ^ b else p)

/-- A route placed. -/
def Occ.place (o : Occ) (y512 : Bool) (i d : Nat) : Occ :=
  { cells := (walkDirs (stageBits y512) d 0 i).foldl (fun a c => a.setIfInBounds c.1 (2 + 2 * i + c.2)) o.cells
    outs := o.outs.setIfInBounds (routeOut y512 i d) (i + 1)
    routes := o.routes.setIfInBounds i (d + 1) }

/-- A route taken off. -/
def Occ.remove (o : Occ) (y512 : Bool) (i : Nat) : Occ :=
  match o.route? i with
  | none => o
  | some d =>
    { cells := (walkDirs (stageBits y512) d 0 i).foldl (fun a c => a.setIfInBounds c.1 0) o.cells
      outs := o.outs.setIfInBounds (routeOut y512 i d) 0
      routes := o.routes.setIfInBounds i 0 }

/-- A route may leave a cell in a direction beside the other routes placed: the cell is free of others
and a route on the paired cell leaves in the same direction (R124). -/
def Occ.allows (o : Occ) (b cell i dir : Nat) : Bool :=
  let own := o.cells.getD cell 0
  let mate := o.cells.getD (cell ^^^ 2 ^ b) 0
  (own = 0 || (own - 2) / 2 = i) && (mate = 0 || (mate - 2) / 2 = i || (mate - 2) % 2 = dir)

/-- A whole route is valid beside the others (R124). -/
def Occ.fits (o : Occ) (t : Terrain) (i d : Nat) : Bool :=
  let bits := stageBits t.y512
  let out := routeOut t.y512 i d
  ((walkDirs bits d 0 i).zip bits).all (fun c =>
    !t.banned.getD c.1.1 false && o.allows c.2 c.1.1 i c.1.2) &&
  (o.outs.getD out 0 = 0 || o.outs.getD out 0 = i + 1)

/-- The address bits the stages from a list on can still change. -/
def reachMask (bits : List Nat) : Nat := bits.foldl (fun m b => m ||| 2 ^ b) 0

/-- A search node: position × 2 + lit input; its key orders by changed cells, wear sum and direction
vector so far (R138). -/
abbrev Node := Nat × Nat

/-- What one changed cell adds to a key: criterion 2, then criterion 3 of R138. -/
def changeKey (t : Terrain) (cell : Nat) : Nat := 2 ^ 64 + t.wear.getD cell 0 * 2 ^ 24

/-- A cell that no placed route passes and no standing route of the base weave: it changes to PARK unless the route being
placed takes it (R138). -/
def Terrain.left (t : Terrain) (o : Occ) (cell : Nat) : Bool := t.vacant.getD cell false && o.cells.getD cell 0 = 0

/-- What the cells of a stage that are left add to a key where no route takes them. -/
def Terrain.leftKey (t : Terrain) (o : Occ) (s : Nat) : Nat :=
  (List.range 1024).foldl (fun n p => if t.left o (s * 1024 + p) then n + changeKey t (s * 1024 + p) else n) 0

/-- One stage of the search over valid routes: every node leaves straight or flipped where R124 allows
and the goal stays in reach; of two ways to one node the smaller key stays.  `gone` is what the stage's cells that are left
add to the key. -/
def stageStep (t : Terrain) (o : Occ) (i : Nat) (goal : Option Nat) (b s : Nat) (rest : List Nat) (gone : Nat)
    (front : List Node) : List Node :=
  let reach := reachMask rest
  let r := front.foldl (fun (acc : Array Nat × List Nat) nd =>
    let p := nd.1 / 2
    let lit := nd.1 % 2
    let cell := s * 1024 + p
    if t.banned.getD cell false then acc
    else
      [0, 1].foldl (fun (acc : Array Nat × List Nat) dir =>
        let p' := if dir = 1 then p ^^^ 2 ^ b else p
        let ok := o.allows b cell i dir && (match goal with
          | none => true
          | some g => ((p' ^^^ g) ||| reach) = reach)
        if !ok then acc
        else
          let ch := if t.base.getD cell 2 = (lit ^^^ dir) then 0 else changeKey t cell
          let k := nd.2 + ch + (if t.left o cell then gone - changeKey t cell else gone) + dir * 2 ^ s
          let ix := p' * 2 + dir
          match acc.1.getD ix 0 with
          | 0 => (acc.1.setIfInBounds ix (k + 1), ix :: acc.2)
          | old + 1 => if k < old then (acc.1.setIfInBounds ix (k + 1), acc.2) else acc) acc)
    (Array.replicate 2048 0, [])
  r.2.reverse.map (fun ix => (ix, r.1.getD ix 0 - 1))

/-- All stages of the search. -/
def searchStages (t : Terrain) (o : Occ) (i : Nat) (goal : Option Nat) : List Nat → Nat → List Node → List Node
  | [], _, front => front
  | b :: bs, s, front => searchStages t o i goal bs (s + 1) (stageStep t o i goal b s bs (t.leftKey o s) front)

/-- The valid route of an input that R138 puts first, to the goal or to any output that `ok` admits. -/
def bestRoute (t : Terrain) (o : Occ) (i : Nat) (goal : Option Nat) (ok : Nat → Bool) : Option Nat :=
  let fin := searchStages t o i goal (stageBits t.y512) 0 [(2 * i, 0)]
  let best := fin.foldl (fun (acc : Option Nat) nd =>
    let p := nd.1 / 2
    let own := o.outs.getD p 0
    let good := (own = 0 || own = i + 1) && (match goal with
      | some g => decide (p = g)
      | none => ok p)
    if !good then acc
    else match acc with
      | none => some nd.2
      | some k => if nd.2 < k then some nd.2 else acc) none
  best.map (· % 2 ^ 24)

/-- The route of a connection to its output. -/
def routeTo (t : Terrain) (o : Occ) (i out : Nat) : Option Nat :=
  bestRoute t o i (some out) (fun _ => true)

/-- Every valid route of an input to an output (R124), straight before flipped. -/
def allRoutes (t : Terrain) (o : Occ) (i out : Nat) : List Nat → Nat → Nat → List Nat
  | [], _, p => if p = out && (o.outs.getD out 0 = 0 || o.outs.getD out 0 = i + 1) then [0] else []
  | b :: bs, s, p =>
    let cell := s * 1024 + p
    if t.banned.getD cell false then []
    else
      [0, 1].flatMap (fun dir =>
        let p' := if dir = 1 then p ^^^ 2 ^ b else p
        if o.allows b cell i dir && decide (((p' ^^^ out) ||| reachMask bs) = reachMask bs) then
          (allRoutes t o i out bs (s + 1) p').map (fun d => dir + 2 * d)
        else [])

/-- Some joint valid placement of the listed connections exists (R136): each on any valid route, or on
the path it holds in `keep`. -/
def existsWeave (t : Terrain) (keep : Occ) : List (Nat × Nat) → Occ → Bool
  | [], _ => true
  | (i, out) :: l, o =>
    ((match keep.route? i with
      | some d => [d].filter (fun d =>
          ((walkDirs (stageBits t.y512) d 0 i).zip (stageBits t.y512)).all (fun c => o.allows c.2 c.1.1 i c.1.2))
      | none => []) ++ allRoutes t o i out (stageBits t.y512) 0 i).any
      (fun d => existsWeave t keep l (o.place t.y512 i d))

/-- The key of a route of R138 by itself: changed cells, wear sum, direction vector. -/
def routeKey (t : Terrain) (o : Occ) (i d : Nat) : Nat :=
  let cells := routeCells t.y512 i d
  let gone := ((List.range (stageBits t.y512).length).map (t.leftKey o)).sum
  let changed := ((cells.filter (fun c => decide (t.base.getD c.1 2 ≠ c.2))).map (fun c => changeKey t c.1)).sum
  let taken := ((cells.filter (fun c => t.left o c.1)).map (fun c => changeKey t c.1)).sum
  d + changed + (gone - taken)

/-- A joint completion by idle routes, the first in the order that takes the inputs upwards and each one's routes as R138
orders them (R127, R128); none where there is none. -/
def completeIdles (t : Terrain) (outs : List Nat) : List Nat → Occ → Option Occ
  | [], o => some o
  | i :: l, o =>
    (sortBy (fun a b => decide (routeKey t o i a ≤ routeKey t o i b))
      ((outs.filter (fun out => o.outs.getD out 0 = 0)).flatMap (fun out => allRoutes t o i out (stageBits t.y512) 0 i))).findSome?
      (fun d => completeIdles t outs l (o.place t.y512 i d))

/-- The first `k`-element sublist, in lexicographic order, that `f` accepts. -/
def firstSet {β : Type} (f : List Nat → Option β) : Nat → List Nat → List Nat → Option β
  | 0, _, acc => f acc.reverse
  | _ + 1, [], _ => none
  | k + 1, x :: xs, acc =>
    match firstSet f k xs (x :: acc) with
    | some r => some r
    | none => firstSet f (k + 1) xs acc

/-- The placement of R136 with a set of connections taken off: the add, then each of the set again in
ascending input order. -/
def tryMoves (t : Terrain) (o : Occ) (i out : Nat) (set : List Nat) : Option Occ :=
  let outs := set.map (fun x => (x, routeOut t.y512 x ((o.route? x).getD 0)))
  let bare := set.foldl (fun o x => o.remove t.y512 x) o
  ((i, out) :: outs).foldl (fun (acc : Option Occ) p =>
    acc.bind (fun o => (routeTo t o p.1 p.2).map (fun d => o.place t.y512 p.1 d))) (some bare)

/-- The minimal move set of R136 among the movable connections, and the placement it gives. -/
def minimalMoves (t : Terrain) (o : Occ) (i out : Nat) (movable : List Nat) : Option (List Nat × Occ) :=
  let bare := movable.foldl (fun o x => o.remove t.y512 x) o
  if (routeTo t bare i out).isNone then none
  else
    ((List.range movable.length).map (· + 1)).foldl (fun (acc : Option (List Nat × Occ)) k =>
      match acc with
      | some r => some r
      | none => firstSet (fun set => (tryMoves t o i out set).map (fun o => (set, o))) k movable []) none

/-- What the refusal table of R136 gives a blocked add, with the minimal move set under NEEDS_MOVE. -/
def refusal (t : Terrain) (retired : List Nat) (o : Occ) (conns : List Conn) (i out : Nat) :
    Status × Option (List Nat × Occ) :=
  let last := ((if t.y512 then 18 else 20) * 1024)
  if retired.contains i || (retired.contains (last + out) && retired.contains (last + (out ^^^ 1))) then
    (St.defect 0x111, none)
  else
    let placed := sortNat ((conns.filter (fun c => (o.route? c.input).isSome && c.input ≠ i)).map (·.input))
    let pinned (x : Nat) : Bool := conns.any (fun c => c.input = x && c.pinned)
    let movable := placed.filter (fun x => !pinned x)
    match minimalMoves t o i out movable with
    | some r => (St.blocked 0x100, some r)
    | none =>
      let ends (l : List Nat) : List (Nat × Nat) :=
        l.map (fun x => (x, routeOut t.y512 x ((o.route? x).getD 0)))
      let off (l : List Nat) : Occ := l.foldl (fun o x => o.remove t.y512 x) o
      if existsWeave t o ((i, out) :: ends movable) (off movable) then (St.blocked 0x100, none)
      else if existsWeave t o ((i, out) :: ends placed) (off placed) then (St.blocked 0x101, none)
      else (St.defect 0x110, none)

/-! ### The looping algorithm (R137 step 2) -/

/-- A route of a looping sub-problem: input, position on the input side, position on the output side,
direction vector so far with stages n and n + 1 straight, and the stages at which its loop's choices at n and n + 1
turn it over. -/
structure LoopItem where
  input : Nat
  p : Nat
  q : Nat
  d : Nat
  alt : Nat

/-- The direction vector of a route of a looping sub-problem. -/
def LoopItem.dir (x : LoopItem) : Nat := x.d ^^^ x.alt

/-- One loop grown from its start: paired routes take the two subnetworks in turn. -/
def growLoop (m : Nat) : Nat → List LoopItem → List (LoopItem × Nat) → List (LoopItem × Nat) →
    List (LoopItem × Nat) × List LoopItem
  | 0, pool, front, done => (done ++ front, pool)
  | _ + 1, pool, [], done => (done, pool)
  | n + 1, pool, (x, c) :: front, done =>
    let hit (y : LoopItem) : Bool := y.p = x.p ^^^ m || y.q = x.q ^^^ m
    growLoop m n (pool.filter (fun y => !hit y)) (front ++ (pool.filter hit).map (fun y => (y, 1 - c)))
      (done ++ [(x, c)])

/-- The loops of a sub-problem in ascending order of their smallest input. -/
def loopsOf (m : Nat) : Nat → List LoopItem → List (List (LoopItem × Nat))
  | 0, _ => []
  | _ + 1, [] => []
  | n + 1, x :: l =>
    let r := growLoop m (n + 1) l [(x, 0)] []
    r.1 :: loopsOf m n r.2

/-- A route sent through subnetwork `k` at level `j`: its flips at stages j and 2n - j. -/
def LoopItem.send (c j last k : Nat) (x : LoopItem) : LoopItem :=
  let b (v : Nat) : Nat := v / 2 ^ c % 2
  { x with
    d := x.d + (if b x.p = k then 0 else 2 ^ j) + (if b x.q = k then 0 else 2 ^ (last - j))
    p := x.p - b x.p * 2 ^ c + k * 2 ^ c, q := x.q - b x.q * 2 ^ c + k * 2 ^ c }

/-- The looping of all levels where criteria 1 to 3 of R138 are equal: each loop's starting direction
makes the flip of its smallest input at the later stage 0 (criterion 4). -/
def loopRoutes (n j : Nat) : List Nat → List LoopItem → List LoopItem
  | [], l => l
  | [c], l => l.map (fun x => if (x.p ^^^ x.q) / 2 ^ c % 2 = 1 then { x with d := x.d + 2 ^ j } else x)
  | c :: c' :: bs, l =>
    let sent := (loopsOf (2 ^ c) l.length l).flatMap (fun lp =>
      let k0 := match lp with
        | (x, _) :: _ => x.q / 2 ^ c % 2
        | [] => 0
      lp.map (fun y => ((k0 + y.2) % 2, y.1.send c j (2 * n) ((k0 + y.2) % 2))))
    let part (k : Nat) : List LoopItem :=
      sortBy (fun a b => decide (a.input ≤ b.input)) ((sent.filter (·.1 = k)).map (·.2))
    loopRoutes n (j + 1) (c' :: bs) (part 0) ++ loopRoutes n (j + 1) (c' :: bs) (part 1)

/-- The wear sum and the direction vectors of some routes, in ascending input order (R138 criteria 3, 4). -/
def loopKey (t : Terrain) (l : List LoopItem) : Nat × List Nat :=
  let l := sortBy (fun a b => decide (a.input ≤ b.input)) l
  ((l.map (fun x => ((routeCells t.y512 x.input x.dir).map (fun c => t.wear.getD c.1 0)).sum)).sum, l.map LoopItem.dir)

/-- Lexicographic order of direction vector lists. -/
def lexLe : List Nat → List Nat → Bool
  | [], _ => true
  | _ :: _, [] => false
  | a :: l, b :: r => if a = b then lexLe l r else decide (a < b)

/-- The first of two loop keys (R138 criteria 3 and 4). -/
def loopKeyLe (a b : Nat × List Nat) : Bool := decide (a.1 < b.1) || (a.1 = b.1 && lexLe a.2 b.2)

/-- One loop's routes from a starting direction, as `growLoop` gives them, with the loop's flips at n and n + 1. -/
def takeLoop (c j n alt k0 : Nat) (lp : List (LoopItem × Nat)) : List (Nat × LoopItem) :=
  lp.map (fun y => ((k0 + y.2) % 2, { y.1.send c j (2 * n) ((k0 + y.2) % 2) with alt := alt ^^^ y.1.alt }))

/-- The routes that go to a subnetwork, in ascending input order. -/
def halfOf (sent : List (Nat × LoopItem)) (k : Nat) : List LoopItem :=
  sortBy (fun a b => decide (a.input ≤ b.input)) ((sent.filter (·.1 = k)).map (·.2))

/-- The routes of some inputs. -/
def ofLoop (lp : List (LoopItem × Nat)) (l : List LoopItem) : List LoopItem :=
  l.filter (fun x => lp.any (fun y => y.1.input = x.input))

/-- The looping below the first level.  The loops are taken in order of their smallest input; each one's starting direction
is settled on its own routes, as the loops settled before it leave them: the smaller wear sum, then the smaller direction
vectors (R137, R138). -/
def loopRoutesWear (t : Terrain) (n j : Nat) : List Nat → List LoopItem → List LoopItem
  | [], l => l
  | [c], l => loopRoutes n j [c] l
  | c :: c' :: bs, l =>
    let sent := (loopsOf (2 ^ c) l.length l).foldl (fun (acc : List (Nat × LoopItem)) lp =>
      let key (k0 : Nat) : Nat × List Nat :=
        let all := acc ++ takeLoop c j n 0 k0 lp
        loopKey t (ofLoop lp (loopRoutesWear t n (j + 1) (c' :: bs) (halfOf all 0) ++
          loopRoutesWear t n (j + 1) (c' :: bs) (halfOf all 1)))
      acc ++ takeLoop c j n 0 (if loopKeyLe (key 0) (key 1) then 0 else 1) lp) []
    loopRoutesWear t n (j + 1) (c' :: bs) (halfOf sent 0) ++ loopRoutesWear t n (j + 1) (c' :: bs) (halfOf sent 1)

/-- Routes placed one by one where each fits beside the others; none where one does not (R124). -/
def placeAll (t : Terrain) (o : Occ) (l : List LoopItem) : Option Occ :=
  l.foldl (fun (acc : Option Occ) x => acc.bind (fun o => if o.fits t x.input x.dir then some (o.place t.y512 x.input x.dir) else none))
    (some o)

/-- The choices of one loop (R137): starting direction, flip at stage n, flip at stage n + 1.  A flip at n crosses to the
other half, so the flip at 2n turns over with it; one at n + 1 turns over the flip at n - 1.  A loop makes one choice at
each of the two stages for all its routes (DEDUCED, log entry 8). -/
def loopChoices (n : Nat) : List (Nat × Nat) :=
  [0, 1].flatMap (fun k0 => [0, 2 ^ n + 2 ^ (2 * n)].flatMap (fun f => [0, 2 ^ (n - 1) + 2 ^ (n + 1)].map (fun e => (k0, f ^^^ e))))

/-- All routes of the loops settled so far, the levels below the first looped over them together. -/
def jointRoutes (t : Terrain) (n : Nat) (rest : List Nat) (sent : List (Nat × LoopItem)) : List LoopItem :=
  loopRoutesWear t n 1 rest (halfOf sent 0) ++ loopRoutesWear t n 1 rest (halfOf sent 1)

/-- The loops of the first level, taken in order of their smallest input: each settles its choices on its own routes among
those that are valid with the loops settled before it in place, and the last of them leaves the routes of all
(R137, R138). -/
def settleLoops (t : Terrain) (n : Nat) : List Nat → List LoopItem → List LoopItem
  | [], l => l
  | c :: rest, l =>
    let free : Terrain := { t with banned := Array.replicate 21504 false }
    let sent := (loopsOf (2 ^ c) l.length l).foldl (fun (acc : List (Nat × LoopItem)) lp =>
      let with' (x : Nat × Nat) : List (Nat × LoopItem) := acc ++ takeLoop c 0 n x.2 x.1 lp
      let key (x : Nat × Nat) : Nat × List Nat := loopKey t (ofLoop lp (jointRoutes t n rest (with' x)))
      let valid := (loopChoices n).filter (fun x => (placeAll free Occ.empty (jointRoutes t n rest (with' x))).isSome)
      let best := (if valid.isEmpty then [(0, 0), (1, 0)] else valid).foldl (fun (b : Option (Nat × Nat)) x =>
        match b with
        | none => some x
        | some y => if loopKeyLe (key y) (key x) then b else some x) none
      with' (best.getD (0, 0))) []
    jointRoutes t n rest sent

/-- The joint routing of R137 steps 2 and 3 without kept paths: the placement, and the inputs left over. -/
def fullRoute (t : Terrain) (flat : Bool) (want : List (Nat × Nat)) : Occ × List (Nat × Nat) :=
  let n := if t.y512 then 9 else 10
  let items := want.map (fun p => ({ input := p.1, p := p.1, q := p.2, d := 0, alt := 0 } : LoopItem))
  let levels := (stageBits t.y512).take n
  let seeds := if want.length ≤ 1 then []
    else if flat then loopRoutes n 0 levels items else settleLoops t n levels items
  let r := want.foldl (fun (acc : Occ × List (Nat × Nat)) p =>
    match seeds.find? (·.input = p.1) with
    | some x => if acc.1.fits t p.1 x.dir then (acc.1.place t.y512 p.1 x.dir, acc.2) else (acc.1, acc.2 ++ [p])
    | none => (acc.1, acc.2 ++ [p])) (Occ.empty, [])
  r.2.foldl (fun (acc : Occ × List (Nat × Nat)) p =>
    match routeTo t acc.1 p.1 p.2 with
    | some d => (acc.1.place t.y512 p.1 d, acc.2)
    | none => (acc.1, acc.2 ++ [p])) (r.1, [])

/-! ### A solve -/

/-- What a solve works from: the base weave, the evaluated set, the epoch's CONN entries in key order
(entry, input, output), the defect map, wear snapshot and policy in force at the seal (R135, R138). -/
structure SolveJob where
  epoch : W32
  y512 : Bool
  base : Option Weave
  baseSlot : Nat
  conns : List Conn
  adds : List (Nat × Nat × Nat)
  dmap : List DmapEntry
  wearSnap : List (Nat × Nat)
  policy : Nat
  dmapGen : W32
  foldGen : W32
  solveNs : W32

/-- What a solve gives: the weave, the refused CONN entries and the planned set (R68). -/
structure SolveResult where
  weave : Weave
  refused : List (Nat × Status)
  planned : List Conn

/-- The ground of a job. -/
def SolveJob.terrain (j : SolveJob) : Terrain :=
  let ban := retiredCells j.dmap ++ pendingCells j.dmap
  { y512 := j.y512
    banned := ban.foldl (fun a c => a.setIfInBounds c true) (Array.replicate 21504 false)
    base := ((j.base.map (·.states)).getD []).foldl (fun a c => a.setIfInBounds c.1 c.2) (Array.replicate 21504 2)
    wear := j.wearSnap.foldl (fun a c => a.setIfInBounds c.1 c.2) (Array.replicate 21504 0)
    routes := (j.base.map (·.routes)).getD [], vacant := #[] }

/-- A solve under way: placement, connections still in the set, refusals, degraded records, NEEDS_MOVE
parts of the move list, the placement before each add that stands, latest first, and whether a seek moved others. -/
structure SolveRun where
  occ : Occ
  live : List Conn
  refused : List (Nat × Status)
  degraded : List (ConnRec × Nat)
  needs : List (Nat × ConnRec × List ConnRec)
  stack : List (Nat × Nat × Occ × Bool)
  rearranged : Bool

/-- The connection record of a connection (R126). -/
def Conn.toRec (c : Conn) (moved : Bool) : ConnRec :=
  { input := c.input, output := c.output, pinned := c.pinned, moved := moved, valid := true, epoch := c.epoch }

/-- An add is refused and leaves the set (R67, R136, R140, R474). -/
def SolveRun.refuse (r : SolveRun) (epoch : W32) (h i o : Nat) (st : Status) (set : Option (List Nat)) : SolveRun :=
  let rec0 : ConnRec :=
    { input := i, output := o, pinned := false, moved := false, valid := false, epoch := epoch }
  { r with
    live := r.live.filter (·.input ≠ i), refused := r.refused ++ [(h, st)]
    degraded := if st.detail = 0x110 || st.detail = 0x111 then
        r.degraded ++ [({ rec0 with valid := true }, st.detail)] else r.degraded
    needs := if st = St.blocked 0x100 then
        r.needs ++ [(h, rec0, (sortBy (fun a b => decide (a.input ≤ b.input))
          (r.live.filter (fun c => (set.getD []).contains c.input))).map (fun c => c.toRec false))]
      else r.needs }

/-- The ground for a connection's route beside the connections of a run. -/
def SolveRun.ground (t : Terrain) (r : SolveRun) : Terrain := t.beside (r.live.map (·.input)) false

/-- Step 3 of R134: movable connections leave the cells that await retirement. -/
def SolveRun.leavePending (t : Terrain) (pending : List Nat) (r : SolveRun) : SolveRun :=
  let t := r.ground t
  let on (c : Conn) : Bool := match r.occ.route? c.input with
    | some d => (walkDirs (stageBits t.y512) d 0 c.input).any (fun x => pending.contains x.1)
    | none => false
  (sortBy (fun a b => decide (a.input ≤ b.input)) (r.live.filter (fun c => !c.pinned && on c))).foldl
    (fun r c =>
      let bare := r.occ.remove t.y512 c.input
      match routeTo t bare c.input c.output with
      | some d => { r with occ := bare.place t.y512 c.input d }
      | none => { r with degraded := r.degraded ++ [(c.toRec false, 0x112)] }) r

/-- The movable connections that hold a path, but for one input, ascending. -/
def SolveRun.movable (r : SolveRun) (i : Nat) : List Nat :=
  sortNat ((r.live.filter (fun c => !c.pinned && c.input ≠ i && (r.occ.route? c.input).isSome)).map (·.input))

/-- Step 4 of R134: routes are sought for connections that have none, under the add rule of R135. -/
def SolveRun.seek (t : Terrain) (policy : Nat) (cs : List Conn) (r : SolveRun) : SolveRun :=
  let t := r.ground t
  (sortBy (fun a b => decide (a.input ≤ b.input)) cs).foldl (fun r c =>
    match routeTo t r.occ c.input c.output with
    | some d => { r with occ := r.occ.place t.y512 c.input d }
    | none =>
      match (if policy = 1 then minimalMoves t r.occ c.input c.output (r.movable c.input) else none) with
      | some x => { r with occ := x.2, rearranged := true }
      | none => { r with degraded := r.degraded ++ [(c.toRec false, 0x110)] }) r

/-- Step 5 of R134: one add under R135 and R136. -/
def SolveRun.add (t : Terrain) (j : SolveJob) (r : SolveRun) (a : Nat × Nat × Nat) : SolveRun :=
  let h := a.1
  let i := a.2.1
  let o := a.2.2
  let t := r.ground t
  match routeTo t r.occ i o with
  | some d => { r with occ := r.occ.place t.y512 i d, stack := (h, i, r.occ, false) :: r.stack }
  | none =>
    let v := refusal t (retiredCells j.dmap) r.occ r.live i o
    match v.2 with
    | some (set, occ') =>
      if j.policy = 1 then { r with occ := occ', stack := (h, i, r.occ, true) :: r.stack }
      else r.refuse j.epoch h i o v.1 (some set)
    | none => r.refuse j.epoch h i o v.1 none

/-- Idle routes one after another in ascending input order, each where R138 puts it, a closed output only once no open one
is left (R127, R128): the placement, the inputs placed so, and those left unrouted. -/
def idlesInOrder (t : Terrain) (flat : Bool) (outUse closed : Array Bool) (need : List Nat) (occ : Occ) (nOpen : Nat) :
    Occ × List Nat × List Nat :=
  let r := need.foldl
    (fun (acc : Occ × List Nat × List Nat × Nat) i =>
      let nOpen := acc.2.2.2
      let ok (o : Nat) : Bool := !outUse.getD o false && (nOpen = 0 || !closed.getD o false) &&
        decide (o < (if t.y512 then 512 else 1024))
      let d? := if flat && ok i && acc.1.fits t i 0 then some 0 else bestRoute t acc.1 i none ok
      match d? with
      | none => (acc.1, acc.2.1, acc.2.2.1 ++ [i], nOpen)
      | some d =>
        (acc.1.place t.y512 i d, i :: acc.2.1, acc.2.2.1,
          if closed.getD (routeOut t.y512 i d) false then nOpen else nOpen - 1))
    (occ, [], [], nOpen)
  (r.1, r.2.1, r.2.2.1)

/-- Idle routes (R127, R128): base idle routes still valid stay, and the others follow in order.  Where that order leaves an
input and a joint completion exists, the first such completion is taken (DESIGN CHOICE, log entry 8).  The placement with
them, the inputs on idle routes, and those left unrouted. -/
def placeIdles (t : Terrain) (j : SolveJob) (flat : Bool) (occ : Occ) (live : List Conn) :
    Occ × List Nat × List Nat :=
  let t := t.beside [] true
  let ports := List.range (if t.y512 then 512 else 1024)
  let inUse : Array Bool := live.foldl (fun a c => a.setIfInBounds c.input true) (Array.replicate 1024 false)
  let outUse : Array Bool := live.foldl (fun a c => a.setIfInBounds c.output true) (Array.replicate 1024 false)
  let closed : Array Bool := j.dmap.foldl (fun a e =>
    if e.kind = 2 && 44032 ≤ e.object then a.setIfInBounds (e.object - 44032) true else a) (Array.replicate 1024 false)
  let kept : Occ × List Nat := match j.base with
    | none => (occ, [])
    | some w => (w.routes.filter (fun (r : Route) => r.idle && !inUse.getD r.input false)).foldl
        (fun (acc : Occ × List Nat) (r : Route) =>
          if !outUse.getD r.output false && acc.1.fits t r.input r.dir then
            (acc.1.place t.y512 r.input r.dir, r.input :: acc.2)
          else acc) (occ, [])
  let keptA : Array Bool := kept.2.foldl (fun a i => a.setIfInBounds i true) (Array.replicate 1024 false)
  let need := ports.filter (fun i => !inUse.getD i false && !keptA.getD i false)
  let free := ports.filter (fun o => !outUse.getD o false && decide (kept.1.outs.getD o 0 = 0))
  let r := idlesInOrder t flat outUse closed need kept.1 (free.filter (fun o => !closed.getD o false)).length
  if r.2.2.isEmpty then (r.1, r.2.1 ++ kept.2, [])
  else match completeIdles t free need kept.1 with
    | some o => (o, need ++ kept.2, [])
    | none => (r.1, r.2.1 ++ kept.2, r.2.2)

/-- Adds given up in descending key order until the idle routes can be completed; none where they cannot even with
every add given up (R128). -/
def SolveRun.giveUp (t : Terrain) (j : SolveJob) (flat : Bool) : List (Nat × Nat × Occ × Bool) → SolveRun → Option SolveRun
  | [], _ => none
  | (h, i, occ, _) :: rest, r =>
    let r := { r with occ := occ, live := r.live.filter (·.input ≠ i), stack := rest
                      refused := r.refused ++ [(h, St.blocked 0x102)] }
    if (placeIdles t j flat r.occ r.live).2.2.isEmpty then some r else SolveRun.giveUp t j flat rest r

/-- The full solve of R137: CONN entries are refused in descending key order until the rest is placed. -/
def fullSolve (t : Terrain) (j : SolveJob) (flat : Bool) : List (Nat × Nat × Nat) → SolveRun → SolveRun
  | [], r =>
    let v := fullRoute t flat (sortBy (fun a b => decide (a.1 ≤ b.1)) (r.live.map (fun c => (c.input, c.output))))
    { r with occ := v.1
             degraded := r.degraded ++ (r.live.filter (fun c => v.2.any (·.1 = c.input))).map
               (fun c => (c.toRec false, 0x110)) }
  | (h, i, o) :: rest, r =>
    let v := fullRoute t flat (sortBy (fun a b => decide (a.1 ≤ b.1)) (r.live.map (fun c => (c.input, c.output))))
    if v.2.isEmpty then
      { r with occ := v.1, stack := ((h, i, o) :: rest).map (fun a => (a.1, a.2.1, v.1.remove t.y512 a.2.1, false)) }
    else
      let x := refusal t (retiredCells j.dmap) (v.1.remove t.y512 i) (r.live.filter (·.input ≠ i)) i o
      fullSolve t j flat rest (r.refuse j.epoch h i o x.1 (x.2.map (·.1)))

/-- The removal of adds of a full solve one after another, each placement without the adds given up. -/
def stackFix (y512 : Bool) (occ : Occ) : List (Nat × Nat × Occ × Bool) → List (Nat × Nat × Occ × Bool)
  | [] => []
  | (h, i, _, b) :: l =>
    let o := occ.remove y512 i
    (h, i, o, b) :: stackFix y512 o l

/-- The routed cells of a placement with their codes, ascending (R125). -/
def placedCodes (y512 : Bool) (occ : Occ) (retired : List Nat) (pending : List Nat) : List (Nat × Nat) :=
  let base := retired.foldl (fun a c => a.setIfInBounds c 3) (Array.replicate 21504 2)
  let codes := (List.range 1024).foldl (fun (a : Array Nat) i =>
    match occ.route? i with
    | none => a
    | some d => (routeCells y512 i d).foldl (fun a c => a.setIfInBounds c.1 c.2) a) base
  let codes := pending.foldl (fun a c => if a.getD c 2 = 2 then a.setIfInBounds c 3 else a) codes
  (codes.toList.zipIdx.filter (fun p => p.1 ≠ 2)).map (fun p => (p.2, p.1))

/-- Cells a connection's route passes in a weave. -/
def Weave.connCells (w : Weave) (y512 : Bool) (i : Nat) : List Nat :=
  match w.route? i with
  | some r => if r.idle then [] else (routeCells y512 i r.dir).map (·.1)
  | none => []

/-- The connections of a new weave against a base: added, removed, given a new path, by input (R132). -/
def classify (base new : Weave) : List Nat × List Nat × List Nat :=
  let same (c d : ConnRec) : Bool := c.output = d.output
  let added := new.conns.filter (fun c => !(base.conn? c.input).any (same c))
  let removed := base.conns.filter (fun c => !(new.conn? c.input).any (same c))
  let moved := new.conns.filter (fun c => (base.conn? c.input).any (same c) &&
    decide ((base.route? c.input).map (·.dir) ≠ (new.route? c.input).map (·.dir)))
  (added.map (·.input), removed.map (·.input), moved.map (·.input))

/-- The empty weave: nothing routed, every cell PARK. -/
def Weave.empty : Weave :=
  { epoch := 0, full := false, baseSlot := 0xFF, rearranged := false, conns := [], routes := [], states := []
    changes := [], moves := [], degrades := [], dmapGen := 0, foldGen := 0, parked := 0, retired := 0
    solveNs := 0 }

/-- PARKED and RETIRED of a weave follow its states (R130). -/
def Weave.counted (y512 : Bool) (w : Weave) : Weave :=
  { w with parked := (if y512 then 9728 else 21504) - w.states.length, retired := (w.states.filter (·.2 = 3)).length }

/-- The change list (R132): the cells whose code differs, with MOVE. -/
def changeList (y512 : Bool) (base new : Weave) : List (Nat × Bool) :=
  let arr (w : Weave) : Array Nat := w.states.foldl (fun a c => a.setIfInBounds c.1 c.2) (Array.replicate 21504 2)
  let a := arr base
  let b := arr new
  let cl := classify base new
  let mv : Array Bool := ((cl.1 ++ cl.2.2).flatMap (new.connCells y512) ++
    (cl.2.1 ++ cl.2.2).flatMap (base.connCells y512)).foldl (fun a c => a.setIfInBounds c true) (Array.replicate 21504 false)
  (List.range 21504).filterMap (fun c =>
    if a.getD c 2 = b.getD c 2 then none else some (c, mv.getD c false))

/-- A solve of an epoch (R133 to R140). The degraded list stands in the order in which the solve meets
its records (DESIGN CHOICE, log entry 8). -/
def SolveJob.solve (j : SolveJob) : SolveResult :=
  let t := j.terrain
  let flat := j.base.isNone && (match j.wearSnap with
    | [] => true
    | (_, v) :: l => l.all (·.2 = v) && decide (j.wearSnap.length = 21504))
  let r0 : SolveRun := { occ := Occ.empty, live := j.conns, refused := [], degraded := [], needs := [], stack := [], rearranged := false }
  let r1 : SolveRun := match j.base with
    | none =>
      let r := fullSolve t j flat j.adds.reverse r0
      { r with stack := stackFix j.y512 r.occ r.stack }
    | some w =>
      let addIn := j.adds.map (·.2.1)
      let stays (c : Conn) : Bool := !addIn.contains c.input && (w.conn? c.input).any (·.output = c.output)
      let occ := (j.conns.filter stays).foldl (fun (o : Occ) c => match w.route? c.input with
        | some r => if r.idle then o else o.place j.y512 c.input r.dir
        | none => o) Occ.empty
      let r := SolveRun.leavePending t (pendingCells j.dmap) { r0 with occ := occ }
      let lost := j.conns.filter (fun c => !addIn.contains c.input && (occ.route? c.input).isNone)
      j.adds.foldl (fun r a => SolveRun.add t j r a) (SolveRun.seek t j.policy lost r)
  let ids0 := placeIdles t j flat r1.occ r1.live
  let r2 := if ids0.2.2.isEmpty then r1 else (SolveRun.giveUp t j flat r1.stack r1).getD r1
  let ids := placeIdles t j flat r2.occ r2.live
  let idle : Array Bool := ids.2.1.foldl (fun a i => a.setIfInBounds i true) (Array.replicate 1024 false)
  let routes := (List.range 1024).filterMap (fun i => (ids.1.route? i).map (fun d =>
    ({ input := i, dir := d, idle := idle.getD i false, output := routeOut j.y512 i d } : Route)))
  let retired := retiredCells j.dmap
  let states := placedCodes j.y512 ids.1 retired (pendingCells j.dmap)
  let basew := j.base.getD Weave.empty
  let live := sortBy (fun a b => decide (a.input ≤ b.input)) r2.live
  let movedOf (c : Conn) : Bool := j.base.isSome && (basew.conn? c.input).any (·.output = c.output) &&
    decide ((basew.route? c.input).map (·.dir) ≠ (r2.occ.route? c.input))
  let conns := live.map (fun c => c.toRec (movedOf c))
  let noIdle := ids.2.2.map (fun i =>
    (({ input := i, output := 0, pinned := false, moved := false, valid := false, epoch := 0 } : ConnRec), 0x113))
  let w : Weave :=
    { epoch := j.epoch, full := j.base.isNone, baseSlot := j.baseSlot
      rearranged := r2.rearranged || r2.stack.any (·.2.2.2), conns := conns, routes := routes, states := states
      changes := [], moves := conns.filter (·.moved) ++ (j.adds.flatMap (fun a => r2.needs.filter (·.1 = a.1))).flatMap (fun n => n.2.1 :: n.2.2)
      degrades := r2.degraded ++ noIdle, dmapGen := j.dmapGen, foldGen := j.foldGen
      parked := 0, retired := 0, solveNs := j.solveNs }
  { weave := { w.counted j.y512 with changes := changeList j.y512 basew w }, refused := r2.refused, planned := live }

/-- The trial solve of R105: one add on a weave, under INCREMENTAL; its status and the records of the
move-list buffer, or none where the buffer stays unchanged. Where a valid weave exists and no set lets
the add in by R136, word 0 is 0 (DESIGN CHOICE, log entry 8). -/
def SolveJob.trial (j : SolveJob) (i o : Nat) : Status × Option (List ConnRec) :=
  let t := j.terrain.beside (i :: j.conns.map (·.input)) false
  let w := j.base.getD Weave.empty
  let occ := j.conns.foldl (fun (q : Occ) c => match w.route? c.input with
    | some r => if r.idle then q else q.place j.y512 c.input r.dir
    | none => q) Occ.empty
  match routeTo t occ i o with
  | some _ => (St.accepted, none)
  | none =>
    let v := refusal t (retiredCells j.dmap) occ j.conns i o
    match v.2 with
    | some (set, _) => (v.1, some ((sortBy (fun a b => decide (a.input ≤ b.input))
        (j.conns.filter (fun c => set.contains c.input))).map (fun c => c.toRec false)))
    | none => (v.1, some [])

end Sys2Proof.Machine
end

