-- ==== Sys2Proof/Machine/SenseOps.lean ====
section
/-! DEFINITION. The sense chain's operations (08): the three sample paths, correction, normalisation,
over-range and STALE, pilot chips, and the verification passes. -/

namespace Sys2Proof.Machine

/-! ### Decimated values (R230, R231) -/

/-- The exact ratio of two integers rounded to binary32. -/
def ratioF (n : Int) (d : Nat) : W32 :=
  let q := n.natAbs * 2 ^ 60
  F32.pack (decide (n < 0)) (2 * (q / d) + (if q % d = 0 then 0 else 1)) (-61)

/-- A bit as +1 or −1 (R230). -/
def bitVal (b : Bool) : Int := if b then 1 else -1

/-- The three bits of one frame, first in bit 2. -/
def lightBits (b : BitVec 3) : List Bool := [b.getLsbD 2, b.getLsbD 1, b.getLsbD 0]

/-- The bits of the newest `n` frames of a channel, oldest first, with whether each may be trusted;
none where a frame of the window is missing. -/
def windowOf (l : List FrameLight) (ch count : Nat) : Nat → Option (List Bool × Bool)
  | 0 => some ([], true)
  | n + 1 =>
    match l with
    | [] => none
    | f :: l' =>
      if f.count ≠ count then none
      else match f.bits.find? (·.1 = ch) with
        | none => none
        | some (_, b, ok) => (windowOf l' ch (count - 1) n).map (fun w => (w.1 ++ lightBits b, w.2 && ok))

/-- The bits of the newest frames of a channel, oldest first, at most `n` frames back to the first that is missing. -/
def windowUpTo (l : List FrameLight) (ch count : Nat) : Nat → List Bool
  | 0 => []
  | n + 1 =>
    match l with
    | [] => []
    | f :: l' =>
      if f.count ≠ count then []
      else match f.bits.find? (·.1 = ch) with
        | none => []
        | some (_, b, _) => windowUpTo l' ch (count - 1) n ++ lightBits b

/-- Weighted sum of bits. -/
def weigh : List Bool → List Int → Int
  | b :: l, w :: ws => bitVal b * w + weigh l ws
  | _, _ => 0

/-- The fast path's weights (R231). -/
def fastWeights : List Int := (List.range 30).map (fun j => Int.ofNat (Nat.min (j + 1) (30 - j)))

/-- Running sums of `n` consecutive values of a list. -/
def boxcar (n : Nat) (l : List Int) : List Int :=
  let pre := (l.foldl (fun (acc : List Int × Int) x => ((acc.2 + x) :: acc.1, acc.2 + x)) ([0], 0)).1.reverse
  (pre.zip (pre.drop n)).map (fun p => p.2 - p.1)

/-- The sinc³ sum of 1,798 bits (R231): three cascaded 600-bit boxcars. -/
def sinc3 (l : List Bool) : Int := ((boxcar 600 (boxcar 600 (boxcar 600 (l.map bitVal)))).head?).getD 0

/-- A run of `r` identical bits ends within the last `n` bits of a list (R235). -/
def runEnds (r n : Nat) (l : List Bool) : Bool :=
  let step (acc : Nat × Option Bool × Nat × Bool) (b : Bool) : Nat × Option Bool × Nat × Bool :=
    let len := if acc.2.1 = some b then acc.1 + 1 else 1
    (len, some b, acc.2.2.1 + 1, acc.2.2.2 || (decide (l.length - n ≤ acc.2.2.1) && decide (r ≤ len)))
  (l.foldl step (0, none, 0, false)).2.2.2

/-! ### One sample (R233 to R237) -/

/-- A path: its window in frames, offset of its tap value, OVR flag bit of CTRL, number in `SENSE_OVR_FIRST`. -/
inductive SensePath where
  | transition | fast | precise
  deriving DecidableEq, Repr

def SensePath.num : SensePath → Nat
  | .transition => 0 | .fast => 1 | .precise => 2
def SensePath.frames : SensePath → Nat
  | .transition => 2 | .fast => 10 | .precise => 600
def SensePath.off : SensePath → Nat
  | .transition => 0x0C | .fast => 0x10 | .precise => 0x14
def SensePath.ovrBit : SensePath → Nat
  | .transition => 6 | .fast => 7 | .precise => 8

/-- The fresh channels of a path. -/
def State.freshOf (s : State) : SensePath → List Nat
  | .transition => s.sense.freshT
  | .fast => s.sense.freshF
  | .precise => s.sense.freshP
/-- The fresh channels of a path set. -/
def State.setFresh (s : State) (p : SensePath) (l : List Nat) : State :=
  { s with sense := match p with
    | .transition => { s.sense with freshT := l }
    | .fast => { s.sense with freshF := l }
    | .precise => { s.sense with freshP := l } }

/-- A set of channels as marks, and back. -/
def chanMarks (l : List Nat) : Array Bool := l.foldl (fun a c => a.setIfInBounds c true) (Array.replicate 66560 false)
def marksList (a : Array Bool) : List Nat := (a.toList.zipIdx.filter (·.1)).map (·.2)

/-- The decimated value of a window as an exact ratio. -/
def SensePath.decimate (p : SensePath) (bits : List Bool) : Int × Nat :=
  match p with
  | .transition => ((bits.map bitVal).sum, 6)
  | .fast => (weigh bits fastWeights, 240)
  | .precise => (sinc3 (bits.drop 2), 216000000)

/-- The bits of a window on which a run counts (R235). -/
def SensePath.runBits : SensePath → Nat
  | .transition => 6 | .fast => 30 | .precise => 600

/-- An over-range sample is counted and the first one recorded (R235). -/
def State.noteOvr (s : State) (ch path cause : Nat) : State :=
  let s := (s.inc F.SENSE_STATUS_OVR).setSCtrl ch 9 1 cause
  if s.bit F.SENSE_OVR_FIRST_VALID then s
  else (((s.wr F.SENSE_OVR_FIRST_CHANNEL ch).wr F.SENSE_OVR_FIRST_PATH path).wr F.SENSE_OVR_FIRST_CAUSE cause).wrB
    F.SENSE_OVR_FIRST_VALID true

/-- The frame count and the frame number of the newest light (R229). -/
def State.lightCount (s : State) : Nat := ((s.sense.light.head?).map (·.count)).getD 0
def State.lightFrame (s : State) : Nat := ((s.sense.light.head?).map (·.frame)).getD 0

/-- OFS and GAIN of a channel for a sample that completes with the light of frame `n`, at the start of the next frame: a
write counts when it came at least 40 ns before (R233, R237). -/
def State.corrAt (s : State) (ch n : Nat) : W32 × W32 :=
  match s.sense.keep.find? (fun k => k.chan = ch && decide (n + 1 < k.frame)) with
  | some k => (k.ofs, k.gain)
  | none => (s.sw' ch 4, s.sw' ch 8)

/-- OFS and GAIN of a channel are written; the old ones stand for samples that complete within 40 ns (R237). -/
def State.setCorr (s : State) (ch : Nat) (ofs gain : W32) : State :=
  let k : SenseKeep := { chan := ch, frame := ceilDiv (s.ext0 + 40 * nsUnit) frameUnits, ofs := s.sw' ch 4, gain := s.sw' ch 8 }
  ({ s with sense := { s.sense with keep := s.sense.keep ++ [k] } } : State).setSw ch 4 ofs |>.setSw ch 8 gain

/-- A channel whose samples cannot be trusted whatever its bits (R236). -/
def State.senseBarred (s : State) (ch : Nat) : Bool :=
  s.sCtrl ch 2 1 = 1 || s.senseAbsent ch || s.sCtrl ch 5 1 = 1 || s.sense.failed.contains ch

/-- One sample of a channel on a path that completes with the newest frame of light, and whether it is fresh.  A run of
identical bits may have begun before the window (R235); a port tap's normalised value is its tap value (R234). -/
def State.sample (s : State) (p : SensePath) (ch : Nat) : State × Bool :=
  let count := s.lightCount
  match windowOf s.sense.light ch count p.frames with
  | none => (s, false)
  | some (bits, ok) =>
    let early := ((alist s.sense.notBefore ch).map (fun n => decide (count + 1 < n + p.frames))).getD false
    let stale := !ok || early || s.senseBarred ch
    let d := p.decimate bits
    let level := decide (s.rd F.SENSE_CTRL_OVR_LEVEL * d.2 ≤ 256 * d.1.natAbs)
    let back := windowUpTo s.sense.light ch count (p.frames + 11)
    let ovr := level || runEnds (s.rd F.SENSE_CTRL_OVR_RUN) p.runBits back
    let s := s.setSCtrl ch p.ovrBit 1 (boolNat ovr)
    let s := if p = .transition then
        { s with sense := { s.sense with ovrT := s.sense.ovrT.filter (· ≠ ch) ++ (if ovr then [ch] else []) } }
      else s
    let s := if ovr then s.noteOvr ch p.num 0 else s
    if stale then (s, false)
    else
      let k := s.corrAt ch s.lightFrame
      let v := F32.mul (F32.sub (ratioF d.1 d.2) k.1) k.2
      let s := s.setSw ch p.off v
      let s := if 64512 ≤ ch then (match p with
          | .transition => s.setSw ch 0x1C v
          | .fast => s.setSw ch 0x18 v
          | .precise => s) else s
      (if p = .fast then s.monOffer 6 ch (F32.roundEven (F32.mul v 0x47800000)) else s, true)

/-- The normalised value of a cell's BAR or CROSS tap (R234); REF's flag travels with it (R235). -/
def State.normalise (s : State) (p : SensePath) (fresh : Array Bool) (c tap : Nat) : State :=
  let ch := 3 * c + tap
  let ref := 3 * c + 2
  let off := if p = .transition then 0x1C else 0x18
  if s.tapDead c 2 then s.setSw ch off 0
  else if !fresh.getD ch false || !fresh.getD ref false then s
  else
    let r := s.sw' ref p.off
    if F32.lt r (s.rdW F.SENSE_REF_MIN_V) then
      ((s.setSw ch off 0).setSCtrl ch p.ovrBit 1 1).noteOvr ch p.num 1
    else
      let s := s.setSw ch off (F32.div (s.sw' ch p.off) r)
      if s.sCtrl ref p.ovrBit 1 = 1 then (s.setSCtrl ch p.ovrBit 1 1).setSCtrl ch 9 1 0 else s

/-- The STALE bit of a record: any output STALE (R236, R245). -/
def State.staleOf (s : State) (ch : Nat) : Bool :=
  let ref := 3 * (ch / 3) + 2
  let n := decide (64512 ≤ ch) || ch % 3 = 2 || s.tapDead (ch / 3) 2 ||
    (s.sense.freshT.contains ref && s.sense.freshF.contains ref)
  s.senseAbsent ch || !(s.sense.freshT.contains ch && s.sense.freshF.contains ch && s.sense.freshP.contains ch && n)

/-- The kind of a sense channel in its record (R245): BAR, CROSS, REF, port tap. -/
def senseKind (ch : Nat) : Nat := if ch < 64512 then ch % 3 else 3

/-- Byte 0 of a record's CTRL as it reads: KIND, ABSENT and STALE as they are, the rest as stored (R245). -/
def State.senseCtrl0 (s : State) (ch : Nat) : Nat :=
  s.sCtrl ch 0 8 / 32 * 32 + senseKind ch + 4 * s.sCtrl ch 2 1 + 8 * boolNat (s.senseAbsent ch) + 16 * boolNat (s.staleOf ch)

/-- A tap's pair completes with the newest frame: it began with the frame before, of the pairing parity, no earlier than
the lay that set it (R232). -/
def State.pairEnds (s : State) (ch : Nat) : Bool :=
  match s.sense.light with
  | f :: g :: _ => decide (g.frame + 1 = f.frame) && decide (s.sCtrl ch 10 1 = g.frame % 2) &&
      ((alist s.sense.phaseFrom ch).getD 0 ≤ g.frame)
  | _ => false

/-- A tap's pairs begin with frames of the parity of `frame`, from that frame on; the pair in progress is discarded
(R232). -/
def State.rephase (s : State) (ch frame : Nat) : State :=
  if s.sCtrl ch 10 1 = frame % 2 then s
  else
    { s.setSCtrl ch 10 1 (frame % 2) with sense := { s.sense with phaseFrom := aset s.sense.phaseFrom ch frame } }

/-- Every sample of a path that completes with the newest frame: channels carried now or fresh before. -/
def State.samplePath (s : State) (p : SensePath) (chans : List Nat) : State :=
  let cand := marksList (chanMarks (chans ++ s.freshOf p))
  let cand := if p = .transition then cand.filter s.pairEnds else cand
  let r := cand.foldl (fun (acc : State × Array Bool) ch =>
    let x := acc.1.sample p ch
    (x.1, acc.2.setIfInBounds ch x.2)) (s, chanMarks (s.freshOf p))
  let s := r.1.setFresh p (marksList r.2)
  if p = .precise then s
  else forEach (cand.filter (fun ch => ch < 64512 && ch % 3 < 2)) (fun s ch => s.normalise p r.2 (ch / 3) (ch % 3)) s

/-! ### Pilot chips (R28, R238) -/

/-- The chip of a bit position of the code period (R238). -/
def chipOf (p : Nat) : Nat := ceilDiv ((p + 1) * 1024) 150000 - 1
/-- The first bit of chip k. -/
def chipStart (k : Nat) : Nat := 150000 * k / 1024

/-- The position in the code period of bit j of the frame with a frame count. -/
def bitPos (count j : Nat) : Nat := 3 * (count % 50000) + j

/-- One bit of one tap, `k` bits into its chip; none where the bit is missing or not to be trusted. -/
def TapAcc.bit (a : TapAcc) (guard ovrRun k : Nat) (b : Option Bool) : TapAcc :=
  match b with
  | none => { a with bad := true, run := 0 }
  | some x =>
    let run := if x then (if 0 < a.run then a.run + 1 else 1) else (if a.run < 0 then a.run - 1 else -1)
    let a := { a with run := run, ovr := a.ovr || decide (ovrRun ≤ run.natAbs) }
    if k < guard then a else { a with sum := a.sum + bitVal x, n := a.n + 1 }

/-- A chip ends on a tap: its mean is taken (R238). -/
def TapAcc.chip (a : TapAcc) (level : Nat) : TapAcc :=
  { a with means := (if a.n = 0 then 0 else ratioF a.sum a.n) :: a.means
           ovr := a.ovr || decide (level * a.n ≤ 256 * a.sum.natAbs), sum := 0, n := 0 }

/-- One bit instant of a running pass: `look` gives each channel's bit. -/
def VfyPass.bit (v : VfyPass) (ovrRun level pos : Nat) (look : List (Nat × Bool)) : VfyPass :=
  let k := chipOf pos
  if 1024 ≤ v.chips then v
  else
    let last := decide (chipStart (k + 1) = pos + 1)
    let taps := v.taps.map (fun a => a.bit v.guardBits ovrRun (pos - chipStart k) ((look.find? (·.1 = a.chan)).map (·.2)))
    let taps := if last then taps.map (TapAcc.chip · level) else taps
    { v with taps := taps, chips := v.chips + boolNat last }

/-! ### Verification (R239 to R244) -/

/-- One butterfly stage of the fast Walsh–Hadamard transform (R239). -/
def fwhtStage (h : Nat) (x : List W32) : List W32 :=
  let a := x.toArray
  (List.range x.length).map (fun j =>
    if j / h % 2 = 0 then F32.add (a.getD j 0) (a.getD (j + h) 0) else F32.sub (a.getD (j - h) 0) (a.getD j 0))

/-- The transform over 2ᵏ values: stages h = 1, 2, 4, … (R239). -/
def fwht : Nat → Nat → List W32 → List W32
  | 0, _, x => x
  | k + 1, h, x => fwht k (2 * h) (fwhtStage h x)

/-- The pilot cover's sign of chip k is −1 (R27, R41). -/
def coverNeg (cover : List Byte) (k : Nat) : Bool := (cover.getD (k / 8) 0).getLsbD (k % 8)

/-- cbar and the scores r of a tap at the end of a pass (R239). -/
def scores (a : TapAcc) (d : Desc) (startChip : Nat) : W32 × List W32 :=
  let delta := F32.div (F32.ofNat d.pilotDepth) 0x43800000
  let raw := a.means.reverse
  let byChip := raw.drop (1024 - startChip) ++ raw.take (1024 - startChip)
  let c := byChip.map (fun m => F32.mul (F32.sub m a.ofs) a.gain)
  let cbar := F32.div (c.foldl F32.add 0) 0x44800000
  let x := c.zipIdx.map (fun p =>
    let v := F32.sub p.1 cbar
    if coverNeg d.cover p.2 then F32.negate v else v)
  let den := F32.mul (F32.mul 0x44800000 delta) cbar
  (cbar, (fwht 10 1 x).map (fun v => F32.div v den))

/-- The index of the largest value, the lowest on a tie (R240). -/
def bestOf : List W32 → Nat → Nat × W32 → Nat × W32
  | [], _, b => b
  | v :: l, i, b => bestOf l (i + 1) (if F32.lt b.2 v then (i, v) else b)

/-- A score in units of 2⁻¹⁴ (R244): rounded to nearest, negative gives 0, saturating. -/
def scoreUnits (r : W32) : Nat :=
  if F32.isNan r || F32.neg? r then 0
  else if F32.isInf r then 65535
  else Nat.min 65535 (F32.roundEven (F32.mul r 0x46800000)).toNat

/-- Output outcome codes of R244: 1 MATCH … 9 ABORTED, with BEST, R_BEST and R_NEXT. -/
structure VfyOut where
  outcome : Nat
  best : Nat
  rBest : Nat
  rNext : Nat
  deriving DecidableEq, Repr

/-- The outcome of one output under R240. -/
def State.judgeOut (s : State) (v : VfyPass) (d : Desc) (o expect : Nat) : VfyOut :=
  match v.taps.find? (·.chan = 65536 + o) with
  | none => ⟨7, 0, 0, 0⟩
  | some a =>
    if dmapHas s.solve.dmapForce 1 (65536 + o) then ⟨6, 0, 0, 0⟩
    else if a.bad || a.ovr || a.means.length ≠ 1024 then ⟨7, 0, 0, 0⟩
    else
      let sc := scores a d v.startChip
      let b := bestOf (sc.2.drop 1) 1 (0, sc.2.getD 0 0)
      let others := (sc.2.zipIdx.filter (fun p => p.2 ≠ b.1)).map (fun p => F32.abs p.1)
      let next := others.foldl F32.fmax 0
      let mk (k : Nat) : VfyOut := ⟨k, b.1, scoreUnits b.2, scoreUnits next⟩
      let mt := F32.div (F32.ofNat v.matchT) 0x43800000
      let ot := F32.div (F32.ofNat v.other) 0x43800000
      if v.touched.contains o then mk 8
      else if F32.lt sc.1 (s.rdW F.SENSE_VFY_DARK_V) then mk 5
      else if F32.lt b.2 mt then mk 3
      else if b.1 ≠ expect then mk 2
      else if others.any (F32.le ot) then mk 4
      else mk 1

/-- The outcome of one input (R240): its code and R_OWN. -/
def State.judgeIn (s : State) (v : VfyPass) (d : Desc) (i : Nat) : Nat × Nat :=
  match v.taps.find? (·.chan = 64512 + i) with
  | none => (7, 0)
  | some a =>
    if dmapHas s.solve.dmapForce 1 (64512 + i) then (6, 0)
    else if a.bad || a.ovr || a.means.length ≠ 1024 then (7, 0)
    else
      let sc := scores a d v.startChip
      let r := sc.2.getD i 0
      let mt := F32.div (F32.ofNat v.matchT) 0x43800000
      if F32.lt sc.1 (s.rdW F.SENSE_VFY_DARK_V) then (5, scoreUnits r)
      else if F32.lt r mt then (3, scoreUnits r) else (1, scoreUnits r)

/-- An output's result record is posted (R244). -/
def State.postOut (s : State) (o expect : Nat) (conn : Bool) (r : VfyOut) : State :=
  s.st (0x060C0100 + 8 * o) 8 (expect % 1024 + boolNat conn * 1024 + r.outcome * 2 ^ 12 + r.best % 1024 * 2 ^ 16 +
    r.rBest * 2 ^ 32 + r.rNext * 2 ^ 48)

/-- Header words of the result memory (R243). -/
def vfyHdr : Nat := 0x060C0000

/-- Posts the summary counts (R243, `SENSE_VFY_COUNT`): MATCH, FAIL, UNVERIFIABLE, INVALID, SKIPPED, PILOT_BAD. -/
def State.postCounts (s : State) (m f u i k p : Nat) : State :=
  let s := (((((s.st (vfyHdr + 0x10) 2 m).st (vfyHdr + 0x12) 2 f).st (vfyHdr + 0x14) 2 u).st (vfyHdr + 0x16) 2 i).st
    (vfyHdr + 0x18) 2 k).st (vfyHdr + 0x1A) 2 p
  (((s.wr F.SENSE_VFY_COUNT_MATCH m).wr F.SENSE_VFY_COUNT_FAIL f).wr F.SENSE_VFY_COUNT_OTHER (u + i + k)).wr
    F.SENSE_VFY_COUNT_PILOT_BAD p

/-- The connections and idle routes of a set of routes and connections, as expectations by output. -/
def expectsOf (conns : List (Nat × Nat)) (routes : List Route) : List (Nat × Nat × Bool) :=
  conns.map (fun c => (c.2, c.1, true)) ++
    (routes.filter (fun r => r.idle && !conns.any (·.2 = r.output))).map (fun r => (r.output, r.input, false))

/-- Outputs that the lay in progress moves, adds or removes. -/
def State.layOutputs (s : State) : List Nat := ((s.lay.cur.map (·.moved)).getD []).map (·.2)

/-- A pass as it starts, with chip `chip` in frame `frame`: the thresholds, and the lay already under way (R239, R240). -/
def State.newPass (s : State) (e : W32) (byLay : Bool) (rec : Option Nat) (exp : List (Nat × Nat × Bool))
    (frame chip : Nat) : VfyPass :=
  let ports := List.range s.nPorts
  { epoch := e, byLay := byLay, recIdx := rec, started := true, startFrame := frame, startChip := chip
    chips := 0, expects := exp, matchT := s.rd F.SENSE_VFY_CFG_MATCH, other := s.rd F.SENSE_VFY_CFG_OTHER
    guardBits := s.rd F.SENSE_VFY_CFG_GUARD, touched := s.layOutputs, ending := s.holdOn || s.safeOn
    taps := (ports.map (fun i => 64512 + i) ++ ports.map (fun o => 65536 + o)).map (fun ch =>
      { chan := ch, means := [], sum := 0, n := 0, run := 0, bad := false, ovr := false, ofs := 0, gain := 0 }) }

/-- A pass runs: status and header say so (R243). -/
def State.beginPass (s : State) (v : VfyPass) : State :=
  let s := { s with sense := { s.sense with pass := some v } }
  let s := ((s.wrB F.SENSE_VFY_STATUS_RUNNING true).wr F.SENSE_VFY_STATUS_EPOCH v.epoch.toNat).wrB
    F.SENSE_VFY_STATUS_ENDED_EARLY false
  (s.st vfyHdr 4 v.epoch.toNat).st (vfyHdr + 4) 4 (1 + boolNat v.byLay * 256)

/-- What the weave that has landed lets each output expect (R166, R241). -/
def State.landedExpects (s : State) : List (Nat × Nat × Bool) :=
  let w := (s.ledger.laid.map (fun n => s.weave n.val)).getD Weave.empty
  expectsOf (w.conns.map (fun c => (c.input, c.output))) w.routes

/-- The instant of bit `j` of a frame, in units of 2⁻¹⁶ ns. -/
def bitTime (frame j : Nat) : Nat := frame * frameUnits + j * frameUnits / 3

/-- At a chip boundary, bit `j` of a frame, with no pass running, the pass that waits starts: a completed lay's first,
then the one that a link restart ended, then the one request, over the stable epoch as it stands (R241, R242). -/
def State.startPass (s : State) (frame count j : Nat) : State :=
  let chip := chipOf (bitPos count j)
  let ripe (since : Nat) (again : Bool) : Bool := decide (since ≤ bitTime frame j) && (!again || decide (0 < count))
  match s.sense.layPass with
  | some p =>
    if ripe p.since p.again then
      ({ s with sense := { s.sense with layPass := none } } : State).beginPass
        (s.newPass p.epoch true (some p.record) p.expects frame chip)
    else s
  | none =>
    let v := s.newPass s.stableEpoch false none
      (expectsOf (s.stableSet.map (fun c => (c.input, c.output))) s.ledger.stableRoutes) frame chip
    if s.sense.redo then
      if 0 < count then ({ s with sense := { s.sense with redo := false } } : State).beginPass v else s
    else match s.sense.waiting with
      | some since =>
        if ripe since false then
          (({ s with sense := { s.sense with waiting := none } } : State).wrB F.SENSE_VFY_STATUS_QUEUED false).beginPass v
        else s
      | none => s

/-- A lay's outputs are skipped by the pass that runs, until its last chip has ended (R239, R240 row 3). -/
def State.touchPass (s : State) (outs : List Nat) : State :=
  { s with sense := { s.sense with pass := s.sense.pass.map (fun (v : VfyPass) =>
    if v.chips < 1024 then { v with touched := v.touched ++ outs } else v) } }

/-- A hold or safe reaction ends the running pass with the chip in progress (R242). -/
def State.passEnding (s : State) : State :=
  { s with sense := { s.sense with pass := s.sense.pass.map (fun (v : VfyPass) =>
    { v with ending := v.ending || decide (v.chips < 1024) }) } }

/-- A request by VERIFY or by `SENSE_VFY_REQ` (R108, R241): accepted unless one already waits. -/
def State.requestPass (s : State) : State × Bool :=
  if s.sense.waiting.isSome then (s, false)
  else
    (({ s with sense := { s.sense with waiting := some s.ext0 } } : State).wrB F.SENSE_VFY_STATUS_QUEUED true, true)

/-- Common end of a pass: header, status, the lay record's VFY_FAIL, hook VERIFY_DONE (R166, R242). -/
def State.closePass (s : State) (v : VfyPass) (state fails : Nat) : State :=
  let s := (((s.st (vfyHdr + 4) 1 state).st (vfyHdr + 8) 4 (v.startFrame % 2 ^ 32)).st (vfyHdr + 0xC) 2 v.startChip).st
    (vfyHdr + 0x1C) 4 (s.frame % 2 ^ 32)
  let s := (s.wrB F.SENSE_VFY_STATUS_RUNNING false).wrB F.SENSE_VFY_STATUS_ENDED_EARLY (state = 3)
  let s := match v.recIdx with
    | some n => s.wr F.LAY_REC_VFY_FAIL fails n
    | none => s
  ({ s with sense := { s.sense with pass := none } } : State).fireHook 7 v.epoch

/-- The running pass ends early: its records take outcome ABORTED, those of outputs it does not check NOT_CHECKED
(R242). -/
def State.endPass (s : State) : State :=
  match s.sense.pass with
  | none => s
  | some v =>
    let s := forEach ((List.range s.nPorts).filter (fun o => !v.expects.any (·.1 = o)))
      (fun s o => s.st (0x060C0100 + 8 * o) 8 0) s
    let s := forEach v.expects (fun s x => s.postOut x.1 x.2.1 x.2.2 ⟨9, 0, 0, 0⟩) s
    let s := forEach (List.range s.nPorts) (fun s i => s.st (0x060C2100 + 4 * i) 4 9) s
    (s.postCounts 0 0 0 0 v.expects.length 0).closePass v 3 0

/-- One bit instant of the tap streams: a waiting pass starts at a chip boundary; the running pass takes the bit, the
correction in force at its end, and its end under a reaction (R239, R241, R242). -/
def State.passBit (s : State) (frame count j : Nat) (look : List (Nat × Bool)) : State :=
  let pos := bitPos count j
  let k := chipOf pos
  let s := if s.sense.pass.isNone && chipStart k = pos then s.startPass frame count j else s
  match s.sense.pass with
  | none => s
  | some v =>
    let w := v.bit (s.rd F.SENSE_CTRL_OVR_RUN) (s.rd F.SENSE_CTRL_OVR_LEVEL) pos look
    let w := if v.chips < 1024 && 1024 ≤ w.chips then
        { w with taps := w.taps.map (fun a =>
          let c := s.corrAt a.chan frame
          { a with ofs := c.1, gain := c.2 }) }
      else w
    let s := { s with sense := { s.sense with pass := some w } }
    if w.ending && v.chips < w.chips then s.endPass else s

/-- The bits of one frame pass through the chips; frames that never came pass as missing bits. -/
def State.passFrame (s : State) (f : FrameLight) : State :=
  if s.sense.pass.isNone && s.sense.waiting.isNone && s.sense.layPass.isNone && !s.sense.redo then s
  else
    let ports := f.bits.filter (fun b => 64512 ≤ b.1 && b.2.2)
    let prev := ((s.sense.light.drop 1).head?.map (·.count)).getD (f.count - 1)
    let s := forEach (List.range (f.count - 1 - prev)) (fun s n =>
      let c := prev + 1 + n
      forEach [0, 1, 2] (fun s j => s.passBit (f.frame - (f.count - c)) c j []) s) s
    forEach [0, 1, 2] (fun s j => s.passBit f.frame f.count j (ports.map (fun b => (b.1, b.2.1.getLsbD (2 - j))))) s

/-- A connection that fails verification is shuttered where VFY_BLANK asks for it (R167). -/
def State.shutFailed (s : State) (o : Nat) : State :=
  if s.bit F.LAY_CTRL_VFY_BLANK then
    ({ s with lay := { s.lay with vfyClosed := sadd s.lay.vfyClosed o } } : State).closeShutter (outShut o)
  else s

/-- A pass of full length posts its result (R240, R242 to R244). -/
def State.postPass (s : State) (v : VfyPass) (d : Desc) : State :=
  let outs := v.expects.map (fun x => (x, s.judgeOut v d x.1 x.2.1))
  let ins := (List.range s.nPorts).map (fun i => (i, s.judgeIn v d i))
  let s := forEach ((List.range s.nPorts).filter (fun o => !v.expects.any (·.1 = o)))
    (fun s o => s.st (0x060C0100 + 8 * o) 8 0) s
  let s := forEach outs (fun s x => s.postOut x.1.1 x.1.2.1 x.1.2.2 x.2) s
  let s := forEach ins (fun s x => s.st (0x060C2100 + 4 * x.1) 4 (x.2.1 + x.2.2 * 65536)) s
  let cnt (p : Nat → Bool) : Nat := (outs.filter (fun x => p x.2.outcome)).length
  let fail (k : Nat) : Bool := 2 ≤ k && k ≤ 5
  let badIn := ins.filter (fun x => x.2.1 ≠ 1 && x.2.1 ≠ 6)
  let s := s.postCounts (cnt (· = 1)) (cnt fail) (cnt (· = 6)) (cnt (· = 7)) (cnt (· = 8)) badIn.length
  let s := forEach (outs.filter (fun x => fail x.2.outcome)) (fun s x =>
    let s := s.raise 19 (BitVec.ofNat 32 (x.1.2.1 + x.1.1 * 65536))
    if x.1.2.2 then s.shutFailed x.1.1 else s) s
  let s := forEach badIn (fun s x => s.raise 20 (BitVec.ofNat 32 x.1)) s
  s.closePass v 2 (outs.filter (fun x => fail x.2.outcome && x.1.2.2)).length

/-! ### One frame of light (R229, R231) -/

/-- The light of one inbound frame, by its count and number, enters the decimators; `bits` lists the channels its
valid lanes carried. -/
def State.senseFrame (s : State) (count frame : Nat) (bits : List (Nat × BitVec 3)) : State :=
  let f : FrameLight := { count := count, frame := frame, bits := bits.map (fun b => (b.1, b.2, !s.senseBarred b.1)) }
  let s := { s with sense := { s.sense with light := (f :: s.sense.light).take 611 } }
  let chans := bits.map (·.1)
  let s := s.samplePath .transition chans
  let s := if count % 10 = 9 then s.samplePath .fast chans else s
  let s := if count % 200 = 199 then
      let s := s.samplePath .precise chans
      { s with loop := { s.loop with auxNew := (List.range 64).foldl (fun l a =>
        if s.rd F.LOOP_AUX_SRC_KIND a 0 = 2 && !s.bit F.LOOP_AUX_CFG_TRIG a then sadd l a else l) s.loop.auxNew } }
    else s
  let s := (s.wr F.SENSE_PILOT_CHIP (chipOf (bitPos count 2))).wrB F.SENSE_PILOT_VALID true
  let s := s.passFrame f
  { s with sense := { s.sense with keep := s.sense.keep.filter (fun k => decide (frame + 2 < k.frame)) } }

end Sys2Proof.Machine
end

