-- ==== Sys2Proof/Machine/CalOps.lean ====
section
/-! DEFINITION. The calibration engine's operations (09): temperature slots, the checks before a run, the
end of runs and requests, acceptance, blending and passive points. -/

namespace Sys2Proof.Machine

/-! ### Slots (R248) -/

/-- Δ of R248. -/
def calDelta (d : Desc) : W32 :=
  F32.fmax (F32.div (F32.div (F32.ofInt (d.calTmax - d.calTmin)) 0x41200000) 0x40800000) F32.one
/-- Tn of R248. -/
def calSlotT (d : Desc) (n : Nat) : W32 :=
  F32.add (F32.div (F32.ofInt d.calTmin) 0x41200000) (F32.mul (F32.ofNat n) (calDelta d))
/-- The slot a temperature belongs to (R248). -/
def calSlot (d : Desc) (t : W32) : Option Nat :=
  let h := F32.div (calDelta d) 0x40000000
  (List.range 5).find? (fun n => F32.le (F32.sub (calSlotT d n) h) t && F32.lt t (F32.add (calSlotT d n) h))

/-! ### Objects (R25, R252, R259) -/

/-- The cells on the connection routes of a weave. -/
def Weave.busyCells (w : Weave) (y512 : Bool) : List Nat := w.conns.flatMap (fun c => w.connCells y512 c.input)

/-- A cell carries a connection (R25). -/
def State.cellBusy (s : State) (c : Nat) : Bool :=
  match s.weaveSlot with
  | some n => ((s.weave n.val).busyCells s.strand.geomY512).contains c
  | none => false

/-- The cells a lay of a weave takes (R259). -/
def Weave.takes (w : Weave) (y512 : Bool) : List Nat := w.changes.map (·.1) ++ w.busyCells y512

/-- The cells taken by staged or running lays (R252, R259). -/
def State.layTaken (s : State) : List Nat :=
  (s.lay.staged.flatMap (fun (x : StagedLay) => (s.weave x.slot.val).takes s.strand.geomY512)) ++
  (match s.lay.cur with
   | some l => l.changing.map (·.1) ++ (s.weave l.slot.val).busyCells s.strand.geomY512
   | none => [])

/-- The cell of a cell tap. -/
def tapCell (ch : Nat) : Option Nat := if ch < 64512 then some (ch / 3) else none

/-- The outcome that ends a request before a run, by the first row of R252's table; none where a run
starts. -/
def State.calCheck (s : State) (r : CalReq) : Option Nat :=
  let taken := s.layTaken
  let slot := s.strand.desc.bind (fun d => calSlot d s.tCart)
  if r.sense then
    if s.senseAbsent r.object then some 6
    else if s.sCtrl r.object 2 1 = 1 then some 7
    else if ((tapCell r.object).map taken.contains).getD false then some 4
    else if slot.isNone then some 9
    else none
  else
    let ref := 3 * r.object + 2
    if s.cellAbsent r.object then some 6
    else if s.cellState r.object = 3 then some 5
    else if s.cellBusy r.object then some 4
    else if taken.contains r.object then some 4
    else if s.cCal r.object 0 5 = 0 then some 15
    else if slot.isNone then some 9
    else if F32.lt (s.sw' ref 0x10) (s.rdW F.SENSE_REF_MIN_V) || !s.sense.freshF.contains ref then some 8
    else none

/-- A run must wait: PAR, the actuation budget, a tap of a cell in use, verification exclusion (R259 to R261). -/
def State.calWaits (s : State) (r : CalReq) : Bool :=
  let cells := s.cal.runs.filter (fun x => !x.req.sense)
  let n := F32.ofNat (cells.length + 1)
  let sv2 := F32.mul (s.rdW F.LOOP_STRESS_V) (s.rdW F.LOOP_STRESS_V)
  let need := F32.add (s.rdW F.LOOP_BUDGET_SUM_V2) (F32.mul (F32.mul 0x40000000 sv2) n)
  let budget := (s.strand.desc.map (·.actBudget)).getD 0
  let mine : Option Nat := if r.sense then tapCell r.object else some r.object
  let clash := s.cal.runs.any (fun x => match (if x.req.sense then tapCell x.req.object else some x.req.object), mine with
    | some a, some b => a = b
    | _, _ => false)
  let vfy := s.bit F.CAL_CTRL_VFY_EXCL && (s.sense.pass.isSome || s.sense.waiting.isSome || s.sense.redo || s.sense.layPass.isSome) &&
    (if r.sense then decide (64512 ≤ r.object) else s.inService r.object)
  s.coldStandby || decide (s.rd F.CAL_CTRL_PAR ≤ s.cal.runs.length) || clash || vfy ||
    (!r.sense && !F32.le need budget)

/-! ### Ends of requests -/

/-- A result is written cyclically (CAL_RES). -/
def State.calResult (s : State) (r : CalReq) (outcome slot : Nat) (temp : W32) : State :=
  let n := if s.bit F.CAL_RES_HEAD_ANY then (s.rd F.CAL_RES_HEAD_NEWEST + 1) % 64 else 0
  let s := (((s.wr F.CAL_RES_OBJECT r.object n).wrB F.CAL_RES_KIND r.sense n).wr F.CAL_RES_OUTCOME outcome n).wr
    F.CAL_RES_ATTEMPTS r.attempts n
  let s := ((s.wr F.CAL_RES_SLOT slot n).wr F.CAL_RES_TIME s.tb0Sec.toNat n).wr F.CAL_RES_TEMP temp.toNat n
  (s.wr F.CAL_RES_HEAD_NEWEST n).wrB F.CAL_RES_HEAD_ANY true

/-- A request ends without a measured temperature: TEMP is a free value (log entry 7). -/
def State.calEnd (s : State) (r : CalReq) (outcome : Nat) : State :=
  let s := if r.sense || s.cellAbsent r.object then s else s.setCCal r.object 8 4 r.attempts
  let d := s.draw
  d.2.calResult r outcome 0 (BitVec.ofNat 32 d.1.toNat)

/-- A sense channel's modulator input goes to its tap (0), to ZERO (1) or to FULL (2) (R259). -/
def State.senseInput (s : State) (ch k : Nat) : State :=
  { s with strand := { s.strand with mgmt := s.strand.mgmt ++ [{ op := 3, waddr := 0, data := BitVec.ofNat 32 (ch + k * 2 ^ 17), dest := .any, who := .controller }] } }

/-- The arms of a cell take the rest code. -/
def State.restArms (s : State) (c : Nat) : State := (s.toRest (2 * c)).toRest (2 * c + 1)

/-- The object of a request is given back (R256, R259): a PARK cell's arms rest; a free cell's setpoint ramps to its
calibrated target, where its loop is preset; a cell that a lay has connected meanwhile is the lay's; CAL of a sense channel
clears. -/
def State.calRelease (s : State) (r : CalReq) : State :=
  if r.sense then
    let s := s.setSCtrl r.object 5 1 0
    { s with sense := { s.sense with notBefore := aset s.sense.notBefore r.object s.strand.count } }
  else if s.cellBusy r.object then s
  else if s.inService r.object then
    let c := r.object
    let u := s.ffOf c
    if F32.finite u then
      { s with cal := { s.cal with ramps := sadd s.cal.ramps c }, drive := { s.drive with sp := Sparse.put 0 s.drive.sp c u } }
    else s.presetCell c u 0
  else s.restArms r.object

/-- The ramps that have come to their target end with the preset of R256, as by LPRESET with fb. -/
def State.rampsEnd (s : State) : State :=
  forEach (s.cal.ramps.filter (fun c => s.dw (2 * c) 4 = Sparse.get 0 s.drive.sp c)) (fun s c =>
    let u := s.dw (2 * c) 4
    let s := { s with cal := { s.cal with ramps := s.cal.ramps.filter (· ≠ c) } }
    (if s.cellMode c = 1 then s.setCw c 0x2C u else s).presetCell c u 0) s

/-- A run in progress ends with its request (STOPPED, ABANDONED); a PARK cell that a lay takes rests until its strobe
(R209, R261). -/
def State.calStop (s : State) (outcome : Nat) (release : Bool) (p : CalRun → Bool) : State :=
  let gone := s.cal.runs.filter p
  let s := { s with cal := { s.cal with runs := s.cal.runs.filter (fun r => !p r) } }
  forEach gone (fun s r =>
    let s := if r.req.sense then s.senseInput r.req.object 0 else s
    let s := if release || r.req.sense then s.calRelease r.req
      else if s.inService r.req.object then s else s.restArms r.req.object
    s.calEnd r.req outcome) s

/-! ### Acceptance (R255, R258, R262) -/

/-- A cell set is accepted: VALID, SUSPECT, RECAL_DUE, the count and time, the blend from the record's values, the
write-back and the checkpoint entry (R255, R258, R262, R355). -/
def State.acceptSet (s : State) (c n : Nat) (new : List W32) : State :=
  let cur := (List.range 6).map (fun k => s.ldW (setAddr c n + 4 * k))
  let old := s.cal.blends.find? (fun b => b.cell = c && b.set = n)
  let b : Blend := { cell := c, set := n, start := cur, new := new, j := 0
                     n := s.rd F.CAL_BLEND_N, running := (old.map (·.running)).getD false }
  let rest := s.cal.blends.filter (fun b => !(b.cell = c && b.set = n))
  let s := { s with cal := { s.cal with blends := rest ++ [b] } }
  let s := ((s.setCCal c n 1 1).setCCal c 5 1 0).setCCal c 6 1 0
  let s := (s.setCw c 0xB8 (s.cw c 0xB8 + 1)).setCw c 0xBC s.tb0Sec
  let s := s.wr F.CAL_COUNT_CELL (s.rd F.CAL_COUNT_CELL + 1)
  let s := ((s.wr F.CAL_LAST_TIME s.tb0Sec.toNat).wr F.CAL_LAST_OBJECT c).wrB F.CAL_LAST_KIND false
  let s := { s with strand := { s.strand with wbCal := sadd s.strand.wbCal c } }
  let sets := (List.range 5).flatMap (fun k => (List.range 6).map (fun f =>
    if k = n then new.getD f 0
    else match s.cal.blends.find? (fun b => b.cell = c && b.set = k) with
      | some b => b.new.getD f 0
      | none => s.ldW (setAddr c k + 4 * f)))
  let entry := sets ++ [s.cw c 0xB8, BitVec.ofNat 32 (s.cCal c 0 5)]
  let im := s.redund.image
  let im := if im.cal.length < 8192 || im.cal.any (·.1 = c) then { im with cal := aset im.cal c entry }
    else { im with calOvf := true }
  ({ s with redund := { s.redund with image := im } } : State).ckptTouch .cal

/-- A sense channel's OFS and GAIN are accepted (R259, R262, R355). -/
def State.acceptSense (s : State) (ch : Nat) (ofs gain : W32) : State :=
  let s := s.setCorr ch ofs gain
  let s := { s with sense := { s.sense with failed := s.sense.failed.filter (· ≠ ch) } }
  let s := s.wr F.CAL_COUNT_SENSE (s.rd F.CAL_COUNT_SENSE + 1)
  let s := ((s.wr F.CAL_LAST_TIME s.tb0Sec.toNat).wr F.CAL_LAST_OBJECT ch).wrB F.CAL_LAST_KIND true
  let im := s.redund.image
  let im := if im.senseCal.length < 4096 || im.senseCal.any (·.1 = ch) then
      { im with senseCal := aset im.senseCal ch (ofs, gain) }
    else { im with senseOvf := true }
  ({ s with redund := { s.redund with image := im } } : State).ckptTouch .senseCal

/-! ### Runs (R253 to R256, R259) -/

/-- The first loop period with P mod 20 = 0 whose boundary lies at least `ns` away. -/
def State.boundary20 (s : State) (ns : Nat) : Nat :=
  20 * ceilDiv (s.strand.count + ceilDiv (s.ext0 + ns * nsUnit) frameUnits - s.strand.sentFrame) 200

/-- A run starts on an object (R252, R253, R259). -/
def State.calBegin (s : State) (r : CalReq) : State :=
  let t := s.tCart
  let run : CalRun := { req := r, dwell := 0, samples := [], failed := false, tStart := t
                        gA := if r.sense then 0 else calEval s.mem r.object calGA t
                        gB := if r.sense then 0 else calEval s.mem r.object calGB t
                        next := s.boundary20 (if r.sense then 320000 else 32000) }
  let s := { s with cal := { s.cal with runs := s.cal.runs ++ [run], ramps := s.cal.ramps.filter (fun c => r.sense || c ≠ r.object) } }
  if r.sense then (s.setSCtrl r.object 5 1 1).senseInput r.object 1
  else
    let s := s.actuate r.object 4
    { s with drive := { s.drive with sp := Sparse.put 0 s.drive.sp r.object 0 } }

/-- The run of an object changed. -/
def State.modRun (s : State) (obj : Nat) (sense : Bool) (f : CalRun → CalRun) : State :=
  { s with cal := { s.cal with runs := s.cal.runs.map (fun r =>
    if r.req.object = obj && r.req.sense = sense then f r else r) } }
/-- The run of an object. -/
def State.runOf (s : State) (obj : Nat) (sense : Bool) : Option CalRun :=
  s.cal.runs.find? (fun r => r.req.object = obj && r.req.sense = sense)

/-- V²ₖ of R253. -/
def State.sweepV2 (s : State) (k : Nat) : W32 :=
  let v := s.rdW F.LOOP_STRESS_V
  F32.mul (F32.div (F32.ofNat k) 0x427C0000) (F32.mul v v)

/-- The setpoint of dwell d, for d = 1–127 (R253). -/
def State.dwellSp (s : State) (r : CalRun) (d : Nat) : W32 :=
  if d ≤ 64 then F32.mul r.gA (s.sweepV2 (d - 1)) else F32.negate (F32.mul r.gB (s.sweepV2 (d - 64)))

/-- The precise samples of a cell's taps and whether any is STALE or over-range (R253, R254). -/
def State.calSample (s : State) (c : Nat) : (W32 × W32) × Bool :=
  let v (t : Nat) : W32 := s.sw' (3 * c + t) 0x14
  let bad (t : Nat) : Bool := !s.sense.freshP.contains (3 * c + t) || s.sCtrl (3 * c + t) 8 1 = 1
  ((F32.div (v 0) (v 2), F32.div (v 1) (v 2)), bad 0 || bad 1 || bad 2)

/-- One dwell boundary of a cell run, once its loop period has come (R253). -/
def State.calDwell (s : State) (c : Nat) : State :=
  match s.runOf c false with
  | none => s
  | some r =>
    if 127 < r.dwell || s.rd F.LOOP_PERIOD_P < r.next then s
    else
      let x := s.calSample c
      let r' := if r.dwell = 0 then { r with dwell := 1, next := r.next + 100 }
        else { r with dwell := r.dwell + 1, next := r.next + 100, samples := r.samples ++ [x.1], failed := r.failed || x.2 }
      let s := s.modRun c false (fun _ => r')
      if r'.dwell ≤ 127 then
        { s with drive := { s.drive with sp := Sparse.put 0 s.drive.sp c (s.dwellSp r r'.dwell) } }
      else s

/-- 2π in binary32. -/
def twoPi : W32 := 0x40C90FDB

/-- The representative of a phase in an interval nearest 0.0 (R254).  The interval holds 0.0 (GA and GB are above 0.0 where
the run does not fail), so none but the nearest to 0.0 and the next on each side can be it. -/
def representative (p lo hi : W32) : Option W32 :=
  let m0 := F32.roundEven (F32.div (F32.negate p) twoPi)
  let cand := (List.range 3).map (fun k => F32.add p (F32.mul twoPi (F32.ofInt (m0 + Int.ofNat k - 1))))
  (cand.filter (fun x => F32.le lo x && F32.le x hi)).foldl (fun b x => match b with
    | none => some x
    | some y => if F32.lt (F32.abs x) (F32.abs y) then some x else some y) none

/-- The input of a cell that is lit (R19): its route's, from the output the route leaves by and the cell's state; for a
PARK cell the weave names none. -/
def State.litInput (s : State) (c : Nat) : Nat :=
  let o := s.peaks.getD c 0
  match s.cellState c with
  | 0 => o
  | 1 => 1 - o
  | _ => boolNat (Config.parkLit c)

/-- The angle of a word in radians, plus quarters of a turn, as a part of 2⁶⁰ of a turn. -/
def turn60 (u : W32) (quarters : Nat) : Nat :=
  ((unit149 u * 255752132986241185678408580023709873616295664310550962376831 / 2 ^ 289 + Int.ofNat quarters * 2 ^ 58) % 2 ^ 60).toNat

/-- A free value for a sine held within 2⁻²³ of it, else the sine rounded; of no finite angle, NaN. -/
def trigWord (free : W32 → W32) (u : W32) (quarters : Nat) : W32 :=
  let r := sineRef (turn60 u quarters) (2 ^ 60)
  if !F32.finite u then F32.nan
  else if F32.finite (free u) && decide ((unit149 (free u) * 2 ^ 48 - r * 2 ^ 149).natAbs ≤ 2 ^ 174) then free u
  else F32.pack (decide (r < 0)) r.natAbs (-48)

/-- cos and sin in binary32 as the fit forms them (R254), whose rounding the spec does not give: any words within 2⁻²³ of
them, so the free values where they lie there (DESIGN CHOICE, log entry 7). -/
def cosWord (u : W32) : W32 := trigWord Config.cosF u 1
def sinWord (u : W32) : W32 := trigWord Config.sinF u 0

/-- A finite word, exact. -/
def ratOf (x : W32) : Rat := (unit149 x : Rat) / (2 ^ 149 : Rat)

/-- A rational rounded to binary32. -/
def roundRat (q : Rat) : W32 :=
  let n := q.num.natAbs * 2 ^ 320
  F32.pack (decide (q < 0)) (2 * (n / q.den) + boolNat (decide (n % q.den ≠ 0))) (-321)

/-- The solution of `n` linear equations, each its `n` coefficients and its right side; none where they are singular. -/
def solveRat : Nat → List (List Rat) → Option (List Rat)
  | 0, _ => some []
  | n + 1, rows =>
    match rows.find? (fun r => decide (r.headD 0 ≠ 0)) with
    | none => none
    | some p =>
      let rest := (rows.erase p).map (fun r => (List.zipWith (fun a b => a - b * (r.headD 0 / p.headD 0)) r p).tail)
      (solveRat n rest).map (fun xs =>
        ((p.getLastD 0 - (List.zipWith (· * ·) p.tail xs).sum) / p.headD 0) :: xs)

/-- An equation holds up to 2⁻¹⁶ of the size of its terms. -/
def nearRow (row xs : List Rat) : Bool :=
  let terms := List.zipWith (· * ·) row xs
  let mag (q : Rat) : Rat := if q < 0 then -q else q
  decide (mag (terms.sum - row.getLastD 0) ≤ ((terms.map mag).sum + mag (row.getLastD 0)) / 65536)

/-- The step of an iteration in binary32, whose order of elimination and so rounding the spec does not give: any words that
satisfy the equations up to 2⁻¹⁶ of the size of their terms, so the free value where it does, else the exact solution
rounded; of sums that are not finite, or of equations with no single solution, the free value (DESIGN CHOICE, log entry 7). -/
def stepOf (a b : List W32) : List W32 :=
  let free := Config.solve8 a b
  if !(a.all F32.finite && b.all F32.finite) then free
  else
    let rows := (List.range 8).map (fun i => (List.range 8).map (fun j => ratOf (a.getD (8 * i + j) 0)) ++ [ratOf (b.getD i 0)])
    if free.length = 8 && free.all F32.finite && rows.all (fun r => nearRow r (free.map ratOf)) then free
    else match solveRat 8 rows with
      | some xs => xs.map roundRat
      | none => free

/-- A point of the fit: arm A, V², and y of the taps that peak in BAR and in CROSS. -/
structure FitPoint where
  armA : Bool
  v2 : W32
  yB : W32
  yC : W32

/-- The rows of a point for the two taps: the derivatives by GA, GB, a, b and p of the first tap, a, b and p of the
second, and the residual. -/
def FitPoint.rows (x : FitPoint) (th : List W32) : List (List W32 × W32) :=
  let q (k : Nat) : W32 := th.getD k F32.nan
  let phi := if x.armA then F32.mul (q 0) x.v2 else F32.negate (F32.mul (q 1) x.v2)
  let tap (k : Nat) (y : W32) : List W32 × W32 :=
    let u := F32.sub phi (q (k + 2))
    let c := cosWord u
    let bs := F32.mul (q (k + 1)) (sinWord u)
    let g := F32.mul bs x.v2
    let own := [F32.one, c, bs]
    ((if x.armA then [F32.negate g, 0] else [0, g]) ++ (if k = 2 then own ++ [0, 0, 0] else [0, 0, 0] ++ own),
     F32.sub y (F32.add (q k) (F32.mul (q (k + 1)) c)))
  [tap 2 x.yB, tap 5 x.yC]

/-- One Gauss–Newton iteration: the normal equations summed in ascending point order, and the step they give. -/
def fitStep (pts : List FitPoint) (th : List W32) : List W32 :=
  let addTo (a : List W32) (b : List W32) : List W32 := List.zipWith F32.add a b
  let r := (pts.flatMap (fun x => x.rows th)).foldl (fun (acc : List W32 × List W32) w =>
    (addTo acc.1 (w.1.flatMap (fun a => w.1.map (F32.mul a))), addTo acc.2 (w.1.map (F32.mul w.2))))
    (List.replicate 64 0, List.replicate 8 0)
  List.zipWith F32.add th (stepOf r.1 r.2)

/-- The points of a run in ascending order: arm A k = 0–63, then arm B k = 1–63. -/
def State.fitPoints (s : State) (r : CalRun) : List FitPoint :=
  let lit := s.litInput r.req.object
  r.samples.zipIdx.map (fun p =>
    let a := decide (p.2 < 64)
    { armA := a, v2 := s.sweepV2 (if a then p.2 else p.2 - 63)
      yB := if lit = 0 then p.1.1 else p.1.2, yC := if lit = 0 then p.1.2 else p.1.1 })

/-- The result of a cell run: GA, GB, BAR, CROSS, SENS; TEMP; failed (R254).  Eight iterations from the effective values
and a = b = 0.5. -/
def State.calFitRun (s : State) (r : CalRun) : List W32 × W32 × Bool :=
  let c := r.req.object
  let t := r.tStart
  let temp := F32.div (F32.add t s.tCart) 0x40000000
  let ev (f : Nat) : W32 := calEval s.mem c f t
  let start := [r.gA, r.gB, 0x3F000000, 0x3F000000, ev calBar, 0x3F000000, 0x3F000000, ev calCross]
  let pts := s.fitPoints r
  let f := (List.range 8).foldl (fun th _ => fitStep pts th) start
  let ga := f.getD 0 F32.nan
  let gb := f.getD 1 F32.nan
  let bB := f.getD 3 F32.nan
  let bC := f.getD 6 F32.nan
  let sv2 := F32.mul (s.rdW F.LOOP_STRESS_V) (s.rdW F.LOOP_STRESS_V)
  let lo := F32.negate (F32.mul gb sv2)
  let hi := F32.mul ga sv2
  let bar := representative (f.getD 4 F32.nan) lo hi
  let cross := representative (f.getD 7 F32.nan) lo hi
  let sens := F32.div (F32.add bB bC) 0x40000000
  let res := [ga, gb, bar.getD F32.nan, cross.getD F32.nan, sens]
  (res, temp, r.failed || !res.all F32.finite || F32.le ga 0 || F32.le gb 0 || F32.lt bB 0x3DCCCCCD ||
    F32.lt bC 0x3DCCCCCD)

/-- |a − b| ≤ tol. -/
def within (a b tol : W32) : Bool := F32.le (F32.abs (F32.sub a b)) tol
/-- |a − b| ≤ tol × mean. -/
def withinFrac (a b tol : W32) : Bool :=
  F32.le (F32.abs (F32.sub a b)) (F32.mul tol (F32.div (F32.add a b) 0x40000000))
/-- The mean of two values. -/
def mean2 (a b : W32) : W32 := F32.div (F32.add a b) 0x40000000

/-- Two runs agree (R255, R259). -/
def State.calAgree (s : State) (sense : Bool) (a b : List W32) : Bool :=
  let x (l : List W32) (k : Nat) : W32 := l.getD k F32.nan
  let gt := s.rdW F.CAL_AGREE_GAIN_TOL
  if sense then within (x a 0) (x b 0) (s.rdW F.CAL_OFS_TOL_V) && withinFrac (x a 1) (x b 1) gt
  else
    let pt := s.rdW F.CAL_AGREE_PHASE_TOL
    within (x a 2) (x b 2) pt && within (x a 3) (x b 3) pt && withinFrac (x a 0) (x b 0) gt &&
      withinFrac (x a 1) (x b 1) gt && withinFrac (x a 4) (x b 4) gt

/-- A run has ended with a result: the attempt is judged (R255, R259). -/
def State.calJudge (s : State) (req : CalReq) (res : List W32 × W32 × Bool) : State :=
  match req.first with
  | none =>
    { s with cal := { s.cal with queue := { req with first := some res } :: s.cal.queue } }
  | some f =>
    let temp := mean2 f.2.1 res.2.1
    let req0 := { req with first := none }
    if F32.lt (s.rdW F.CAL_TEMP_TOL_V) (F32.abs (F32.sub f.2.1 res.2.1)) then
      (s.calRelease req0).calResult req0 10 0 temp
    else
      let req1 := { req0 with attempts := req0.attempts + 1 }
      let s := if req.sense then s else s.setCCal req.object 8 4 req1.attempts
      if !f.2.2 && !res.2.2 && s.calAgree req.sense f.1 res.1 then
        let m (k : Nat) : W32 := mean2 (f.1.getD k 0) (res.1.getD k 0)
        if req.sense then
          (((s.acceptSense req.object (m 0) (m 1)).calRelease req1).calResult req1 2 0 temp)
        else match s.strand.desc.bind (fun d => calSlot d temp) with
          | none => (s.calRelease req1).calResult req1 9 0 temp
          | some n =>
            let s := s.acceptSet req.object n [temp, m 0, m 1, m 2, m 3, m 4]
            (s.calRelease req1).calResult req1 2 n temp
      else if req0.attempts < s.rd F.CAL_CTRL_RETRIES then
        { s with cal := { s.cal with queue := req1 :: s.cal.queue } }
      else
        let s := s.calRelease req1
        if req.sense then
          let s := if req.lost then
              match s.strand.senseBase.find? (·.1 = req.object) with
              | some (_, o, g) =>
                ({ s with sense := { s.sense with failed := s.sense.failed.filter (· ≠ req.object) } } : State).setCorr
                  req.object o g
              | none => s
            else s
          (s.raise 31 (BitVec.ofNat 32 req.object)).calResult req1 3 0 temp
        else ((s.setCCal req.object 5 1 1).raise 30 (BitVec.ofNat 32 req.object)).calResult req1 3 0 temp

/-- A cell run ends (R253 to R255). -/
def State.calRunEnd (s : State) (c : Nat) : State :=
  match s.runOf c false with
  | none => s
  | some r =>
    if r.dwell ≤ 127 then s
    else
      let res := s.calFitRun r
      let s := if s.inService c then s else s.restArms c
      let s := { s with cal := { s.cal with runs := s.cal.runs.filter (fun x => !(x.req.object = c && !x.req.sense)) } }
      s.calJudge r.req res

/-- The decimated precise value of a channel now, and whether it is over-range or missing (R259). -/
def State.rawPrecise (s : State) (ch : Nat) : W32 × Bool :=
  match windowOf s.sense.light ch s.lightCount 600 with
  | none => (0, true)
  | some (bits, _) =>
    let d := SensePath.precise.decimate bits
    (ratioF d.1 d.2, decide (s.rd F.SENSE_CTRL_OVR_LEVEL * d.2 ≤ 256 * d.1.natAbs) ||
      runEnds (s.rd F.SENSE_CTRL_OVR_RUN) 600 bits)

/-- The end of ZERO or of FULL of a sense-channel run, 320 µs each, ending where a precise sample completes (R259). -/
def State.senseStep (s : State) (ch : Nat) : State :=
  match s.runOf ch true with
  | none => s
  | some r =>
    if 1 < r.dwell || s.rd F.LOOP_PERIOD_P < r.next then s
    else
      let x := s.rawPrecise ch
      let s := s.modRun ch true (fun r =>
        { r with dwell := r.dwell + 1, next := r.next + 100, samples := r.samples ++ [(x.1, 0)], failed := r.failed || x.2 })
      if r.dwell = 0 then s.senseInput ch 2 else s

/-- A sense-channel run ends: the channel returns to its tap (R259). -/
def State.senseRunEnd (s : State) (ch : Nat) : State :=
  match s.runOf ch true with
  | none => s
  | some r =>
    if r.dwell < 2 then s
    else
      let dz := (r.samples.getD 0 (0, 0)).1
      let df := (r.samples.getD 1 (0, 0)).1
      let diff := F32.sub df dz
      let res := ([dz, F32.div F32.one diff], mean2 r.tStart s.tCart, r.failed || !F32.lt 0 diff)
      let s := { s with cal := { s.cal with runs := s.cal.runs.filter (fun x => !(x.req.object = ch && x.req.sense)) } }
      (s.senseInput ch 0).calJudge r.req res

/-! ### Passive points (R257) -/

/-- The conditions of a passive observation; the set whose TEMP lies within the window. -/
def State.passiveSet (s : State) (c : Nat) : Option Nat :=
  let ok := s.handedBack c && !s.cellFull c && s.cellMode c = 0 && (s.cellInj c).isNone && F32.isZero (s.cw c 0x30) &&
    !s.cellFaulted c && s.cCal c 7 1 = 0 && s.cStat c 6 2 = 0 &&
    decide (s.rd F.CAL_PASSIVE_INTERVAL ≤ (s.tb0Sec - s.cw c 0xBC).toNat)
  if ok then
    (List.range 5).find? (fun n => s.cCal c n 1 = 1 && within s.tCart (s.ldW (setAddr c n)) (s.rdW F.CAL_PASSIVE_WINDOW))
  else none

/-- PASSIVE_PEND clears. -/
def State.passiveClear (s : State) (c : Nat) : State := s.setCCal c 12 1 0
/-- Seconds since the first passive observation, from its low 16 bits. -/
def State.passiveAge (s : State) (c : Nat) : Nat := (s.tb0Sec.toNat + 65536 - s.cCal c 16 16) % 65536

/-- One cell at the 64 ms examination (R257). -/
def State.passiveCell (s : State) (c : Nat) : State :=
  let pend := s.cCal c 12 1 = 1
  match s.passiveSet c with
  | none => if pend then s.passiveClear c else s
  | some n =>
    let delta := F32.sub (s.cw c 0x08) (s.ffOf c)
    let st := s.cellState c
    if !pend then
      let s := ((s.setCCal c 12 1 1).setCCal c 13 3 n).setCCal c 16 16 s.tb0Sec.toNat
      let s := s.setCw c 0xC4 delta
      { s with cal := { s.cal with passiveState := aset s.cal.passiveState c st } }
    else if s.cCal c 13 3 ≠ n || alist s.cal.passiveState c ≠ some st || 60 < s.passiveAge c then s.passiveClear c
    else if s.passiveAge c < 1 then s
    else
      let d1 := s.cw c 0xC4
      let s := s.passiveClear c
      if within d1 delta (s.rdW F.CAL_AGREE_PHASE_TOL) then
        let k := if st = 0 then 3 else 4
        let cur := (List.range 6).map (fun f => s.ldW (setAddr c n + 4 * f))
        s.acceptSet c n (cur.set k (F32.add (cur.getD k 0) (mean2 d1 delta)))
      else s

/-- The passive examination of every cell in service (R257). -/
def State.passiveAll (s : State) : State :=
  if s.bit F.CAL_CTRL_PASSIVE_EN && s.bit F.THERM_STATUS_CART_VALID then forEach s.serviceCells State.passiveCell s else s

/-! ### Requests and blends -/

/-- A request is submitted (R260, R261). -/
def State.calSubmit (s : State) (obj : Nat) (sense : Bool) : State :=
  let same (r : CalReq) : Bool := r.object = obj && r.sense = sense
  let out (n : Nat) : State := s.wr F.CAL_REQ_RESULT_OUTCOME n
  if s.cal.queue.any same || s.cal.runs.any (fun r => same r.req) then out 13
  else if 256 ≤ s.cal.queue.length then out 14
  else if !s.bit F.CAL_CTRL_EN then out 16
  else
    let s := out 1
    { s with cal := { s.cal with queue := s.cal.queue ++ [CalReq.mk obj sense 0 none false false] } }

/-- A request ends before a run of it starts: the object is given back where an earlier run had taken it (R252, R256). -/
def State.calDrop (s : State) (r : CalReq) (outcome : Nat) : State :=
  (if r.first.isSome || decide (0 < r.attempts) then s.calRelease r else s).calEnd r outcome

/-- The request at the head of the queue is checked on reaching it, and again as its run starts, where nothing holds the
run; with EN = 0 only an attempt in progress goes on, and t_cart must be valid (R252, R260, R261, R400). -/
def State.calStart (s : State) : State :=
  match s.cal.queue with
  | [] => s
  | r :: rest =>
    let wait := s.calWaits r || s.holdOn || s.safeOn
    if (!s.bit F.CAL_CTRL_EN && r.first.isNone && r.attempts = 0) || !s.bit F.THERM_STATUS_CART_VALID || (wait && r.seen) then s
    else match s.calCheck r with
      | some o => ({ s with cal := { s.cal with queue := rest } } : State).calDrop r o
      | none =>
        if wait then { s with cal := { s.cal with queue := { r with seen := true } :: rest } }
        else ({ s with cal := { s.cal with queue := rest } } : State).calBegin { r with seen := true }

/-- `CAL_CTRL.ABORT` (R261). -/
def State.calAbortAll (s : State) : State :=
  let q := s.cal.queue
  let s := s.calStop 12 true (fun _ => true)
  let s := { s with cal := { s.cal with queue := [] } }
  forEach q (fun s r => s.calDrop r 12) s

/-- A waiting acceptance begins its blend where one of the 16 slots is free (R258). -/
def State.blendStart (s : State) : State :=
  if 16 ≤ (s.cal.blends.filter (·.running)).length then s
  else match s.cal.blends.find? (fun b => !b.running) with
    | none => s
    | some b =>
      let cur := (List.range 6).map (fun k => s.ldW (setAddr b.cell b.set + 4 * k))
      { s with cal := { s.cal with blends := s.cal.blends.map (fun x =>
        if x.cell = b.cell && x.set = b.set then { x with running := true, start := cur } else x) } }

end Sys2Proof.Machine
end

