-- ==== Sys2Proof/Machine/DriveOps.lean ====
section
/-! DEFINITION. The drive chain's operations (07): the stages of one channel for one frame, drive faults,
the deglitcher and the modulator, rebuilds, and what a frame carries (R207 to R228). -/

namespace Sys2Proof.Machine

/-! ### Drive faults (R214) -/

/-- DRIVE_FAULT of a channel: the first is recorded, every one raised. FAULT and FAULT_CAUSE of the record are set by the hold of a bad gain or value
alone, not for the causes RATE and STATE, after which the channel goes on (DESIGN CHOICE, log entry 30). -/
def State.driveFault (s : State) (ch cause : Nat) : State :=
  let s := if s.bit F.DRIVE_FAULT_FIRST_VALID then s
    else ((s.wr F.DRIVE_FAULT_FIRST_CHANNEL ch).wr F.DRIVE_FAULT_FIRST_CAUSE cause).wrB F.DRIVE_FAULT_FIRST_VALID true
  s.raise 27 (BitVec.ofNat 32 (ch + cause * 65536))

/-- A channel enters the hold of R214, raising once (DEDUCED: at its entry). -/
def State.driveHold (s : State) (ch cause : Nat) : State :=
  let was := s.dCtrl ch 9 1 = 1
  let s := s.setDCtrl ch 10 2 cause
  if was then s
  else
    let s := (s.setDCtrl ch 9 1 1).wr F.DRIVE_STATUS_FAULTED (s.rd F.DRIVE_STATUS_FAULTED + 1)
    s.driveFault ch cause

/-- A channel leaves the hold of R214. -/
def State.driveOk (s : State) (ch : Nat) : State :=
  if s.dCtrl ch 9 1 = 1 then
    (s.setDCtrl ch 9 1 0).wr F.DRIVE_STATUS_FAULTED (s.rd F.DRIVE_STATUS_FAULTED - 1)
  else s

/-! ### The modulator (R219, R221) -/

/-- Division by 4,096 rounded to nearest, ties to even. -/
def nearest4096 (w : Int) : Int :=
  let q := w / 4096
  let r := w % 4096
  if r < 2048 then q else if r > 2048 then q + 1 else if q % 2 = 0 then q else q + 1

/-- One step of the error-feedback quantiser: level, E1, E2, whether it clipped (R221). -/
def modStep (x e1 e2 : Int) : Int × Int × Int × Bool :=
  let w := x - 2 * e1 + e2
  let q0 := nearest4096 w
  let q := if q0 > 7 then 7 else if q0 < -7 then -7 else q0
  let e := q * 4096 - w
  let e' := if e > 2048 then 2048 else if e < -2048 then -2048 else e
  (q, e', e1, decide (e' ≠ e))

/-- E1, E2 or DG_CNT lies outside its range (R214, cause STATE). -/
def State.modBad (s : State) (ch : Nat) : Bool :=
  decide (2048 < (s.dI16 ch 0x16).natAbs) || decide (2048 < (s.dI16 ch 0x18).natAbs) ||
    decide (4 < s.ld (driveRec ch + 0x1B) 1)

/-- The modulator is reseeded, a major transition (R214, R219). -/
def State.reseed (s : State) (ch : Nat) : State :=
  ((s.setDI16 ch 0x16 0).setDI16 ch 0x18 0).st (driveRec ch + 0x1B) 1 (s.rd F.DRIVE_DEGLITCH_HOLD)

/-- Stages 6 and 7 of one channel: the level sent in the frame (R219, R221, R223).  A channel whose record failed
repeats its code (R227); modulator words written too late for this frame are not in it (R208). -/
def State.modulate (s : State) (ch : Nat) : State :=
  if s.drive.bad.contains ch then s
  else if s.dCtrl ch 8 1 = 1 then s.st (driveRec ch + 0x1A) 1 8
  else
    let s := match s.drive.keep.find? (fun k => k.chan = ch && k.frame = s.frame) with
      | some k => (s.setDw ch 0x16 k.err).st (driveRec ch + 0x1B) 1 k.dg
      | none => s
    let s := if s.modBad ch then (s.driveFault ch 3).reseed ch else s
    let n := s.ld (driveRec ch + 0x1B) 1
    let x := s.dI16 ch 0x12
    let out (s : State) (q : Int) : State := s.st (driveRec ch + 0x1A) 1 (BitVec.ofInt 4 q).toNat
    if 0 < n then
      let s := s.st (driveRec ch + 0x1B) 1 (n - 1)
      let s := if n = 1 then (s.setDI16 ch 0x16 0).setDI16 ch 0x18 0 else s
      out s (nearest4096 x)
    else
      let m := modStep x (s.dI16 ch 0x16) (s.dI16 ch 0x18)
      let s := (s.setDI16 ch 0x16 m.2.1).setDI16 ch 0x18 m.2.2.1
      let s := if m.2.2.2 then
          (s.st (driveRec ch + 0x1E) 2 (satAdd 65535 (s.ld (driveRec ch + 0x1E) 2) 1)).inc F.DRIVE_STATUS_CLIP
        else s
      out s m.1

/-! ### Stages 1 to 5 of a cell (R209 to R216) -/

/-- The rate limiter (R210). -/
def rateLimit (sp cmd rate : W32) : W32 :=
  let d := F32.sub sp cmd
  if F32.lt rate d then F32.add cmd rate
  else if F32.lt d (F32.negate rate) then F32.sub cmd rate
  else sp

/-- The first frame that begins at least 40 ns from now (R208). -/
def State.frame40 (s : State) : Nat := ceilDiv (s.ext0 + 40 * nsUnit) frameUnits

/-- A write to a channel's program fields leaves what they held, in state `u`, to a frame that begins less than 40 ns
later (R208). -/
def State.keepWrite (s u : State) (ch : Nat) : State :=
  let next := ceilDiv s.ext0 frameUnits
  if s.frame40 = next || s.drive.keep.any (fun k => k.chan = ch && k.frame = next) then s
  else { s with drive := { s.drive with keep := s.drive.keep ++
    [{ frame := next, chan := ch, group := u.dCtrl ch 2 4, rate := u.dw ch 8, err := u.dw ch 0x16
       dg := u.ld (driveRec ch + 0x1B) 1 }] } }

/-- What a channel's record held before a write too late for this frame (R208). -/
def State.kept (s : State) (ch : Nat) : Option DriveKeep :=
  s.drive.keep.find? (fun k => k.chan = ch && k.frame = s.frame)

/-- GROUP of a channel as this frame takes it. -/
def State.groupOf (s : State) (ch : Nat) : Nat := ((s.kept ch).map (·.group)).getD (s.dCtrl ch 2 4)

/-- The channel's strobe fires this frame (R216). -/
def State.strobeFires (s : State) (ch : Nat) : Bool :=
  let g := s.groupOf ch
  g = 0 || s.drive.fire.any (fun f => decide (f.1 ≤ s.frame) && f.2.getLsbD g)

/-- Stages 4 and 5 of one arm, from the result of the map. -/
def State.armStage (s : State) (ch : Nat) (a : ArmOut) : State :=
  match a.fail with
  | some cause => s.driveHold ch cause
  | none =>
    let s := s.driveOk ch
    let s := if a.sat then
        (s.st (driveRec ch + 0x1C) 2 (satAdd 65535 (s.ld (driveRec ch + 0x1C) 2) 1)).inc F.DRIVE_STATUS_SAT
      else s
    let code := s.polCode ch a.code
    let s := (s.setDw ch 0x0C a.volt).setDI16 ch 0x10 code
    if s.strobeFires ch || s.dCtrl ch 8 1 = 1 then s.loadAct ch code else s

/-- Stages 1 to 5 of the arms of a cell in service or in a calibration run. An arm whose record failed is left as it is; where that is
arm A, CMD is arm B's copy and RATE its rebuilt value (R227). -/
def State.cellStages (s : State) (c P : Nat) : State :=
  let badA := s.drive.bad.contains (2 * c)
  let kept := (s.kept (2 * c)).map (·.rate)
  let rate := if badA then s.rdW F.DRIVE_RATE_DEF_RATE else kept.getD (s.dw (2 * c) 8)
  let badRate := !F32.finite rate || F32.le rate 0
  let s := if badRate then (s.driveFault (2 * c) 2).setDw (2 * c) 8 (s.rdW F.DRIVE_RATE_DEF_RATE) else s
  let rate := if badRate then s.rdW F.DRIVE_RATE_DEF_RATE else rate
  let cmd := rateLimit (Sparse.get 0 s.drive.sp c) (s.dw (2 * c + boolNat badA) 4) rate
  let s := s.setCmd c cmd
  let dith := if s.handedBack c && !s.calRunOn c then s.ditherTerm c P else 0
  let o := armsOut (F32.add cmd dith) (s.gainOf c false) (s.gainOf c true)
  let s := if badA then s else s.armStage (2 * c) o.1
  if s.drive.bad.contains (2 * c + 1) then s else s.armStage (2 * c + 1) o.2

/-- The open shutters. -/
def State.openShutters (s : State) : List Nat :=
  (memRange s.mem (driveRec 43008) (driveRec 45056)).filterMap (fun p =>
    if p.1 % 32 = 2 && p.2.getLsbD 4 then some (43008 + p.1 / 32) else none)

/-- A channel carries its fault value (R225). -/
def State.toFault (s : State) (ch : Nat) : State :=
  let f := s.fltCode ch
  if f = 8 then (if s.dCtrl ch 8 1 = 1 then s else s.toRest ch) else s.st (driveRec ch + 0x1A) 1 f

/-- A frame has passed: the strobes due in it have fired, and later writes stand (R208, R216). A program strobe whose frame falls while hold freezes the
chain is discarded with it (DESIGN CHOICE, log entry 30). -/
def State.strobesPast (s : State) : State :=
  { s with drive := { s.drive with fire := s.drive.fire.filter (fun f => decide (s.frame < f.1))
                                   keep := s.drive.keep.filter (fun k => decide (s.frame < k.frame)) } }

/-- The setpoints that come into force at a period boundary (R208): U_OUT of the cells no calibration run drives. -/
def State.takeSetpoints (s : State) : State :=
  { s with drive := { s.drive with sp := s.serviceCells.foldl (fun l c =>
    if s.calRunOn c then l else Sparse.put 0 l c (s.cw c 0x08)) s.drive.sp } }

/-- The arms of a cell in service or in a calibration run in this frame: FS gives a changing cell its codes (R218). -/
def State.cellFrame (s : State) (P : Nat) (strobing : List Nat) (c : Nat) : State :=
  let s := if strobing.contains c || s.drive.puLeft.contains (2 * c) then s else s.cellStages c P
  if s.drive.puLeft.contains (2 * c) then s else (s.modulate (2 * c)).modulate (2 * c + 1)

/-- An open shutter in this frame (R213). -/
def State.shutterFrame (s : State) (ch : Nat) : State :=
  if s.driveAbsent ch || s.drive.bad.contains ch || s.drive.puLeft.contains ch then s
  else
    let code := s.polCode ch (Int.ofNat (s.rd F.DRIVE_SHUTTER_OPEN_CODE))
    let s := s.setDI16 ch 0x10 code
    (if s.strobeFires ch then s.loadAct ch code else s).modulate ch

/-- The drive chain computes the codes of the frame at hand (R207, R208, R218, R224, R225). -/
def State.driveFrame (s : State) (num : Nat) : State :=
  let P := s.strand.count / 10
  if s.safeOn then
    (forEach ((List.range 45056).filter (fun ch => !s.driveAbsent ch)) State.toFault s).strobesPast
  else if s.holdOn || s.drive.powerUp || s.drive.faultHeld || s.coldStandby then s.strobesPast
  else
    let s := if s.strand.count % 10 = 0 then s.takeSetpoints else s
    let runs := (s.cal.runs.filter (fun r => !r.req.sense)).map (·.req.object)
    let cells := s.serviceCells ++ runs.filter (fun c => !s.inService c)
    let strobing : List Nat := match s.lay.cur with
      | some l => if l.strobed && num = l.frame + l.s then l.changing.map (·.1) else []
      | none => []
    let s := forEach cells (fun s c => s.cellFrame P strobing c) s
    (forEach s.openShutters State.shutterFrame s).strobesPast.rampsEnd

/-- A shutter whose record failed was open: it sends a code other than rest, but where the power-up or the fault value
stands it is the landed weave's connections that say (R227). -/
def State.wasOpen (s : State) (ch out : Nat) : Bool :=
  if s.drive.powerUp || s.drive.faultHeld || s.safeOn then
    let conn := match s.weaveSlot with
      | some n => (s.weave n.val).conns.any (fun c => inShut c.input = ch || outShut c.output = ch)
      | none => false
    conn && !s.lay.vfyClosed.any (fun o => outShut o = ch) &&
      !s.lay.lagging.any (fun l => inShut l.input = ch || outShut l.output = ch)
  else decide (out ≠ 8)

/-- A drive record is rebuilt after a parity failure (R227); the setpoint of a cell in a calibration run stays the engine's (R209). -/
def State.driveRebuild (s : State) (ch : Nat) : State :=
  let kind := if ch < 43008 then ch % 2 else if ch < 44032 then 2 else 3
  let out := s.ld (driveRec ch + 0x1A) 1
  let s := (s.driveOk ch).stZero (driveRec ch) 32
  let s := { s with drive := { s.drive with polInForce := adel s.drive.polInForce ch,
                                              bad := s.drive.bad.filter (· ≠ ch) } }
  let ctrl := kind + boolNat (s.polBit ch) * 64 + s.puCode ch * 4096 + s.fltCode ch * 65536
  let s := (s.st (driveRec ch) 4 ctrl).st (driveRec ch + 0x1A) 1 out
  let s := s.setDw ch 8 (s.rdW F.DRIVE_RATE_DEF_RATE)
  if ch < 43008 then
    let c := ch / 2
    let u := s.cw c 0x08
    let s := s.setDw ch 4 u
    if (s.inService c || s.calRunOn c) && !s.drive.powerUp && !s.drive.faultHeld then
      let s := if s.calRunOn c then s else { s with drive := { s.drive with sp := Sparse.put 0 s.drive.sp c u } }
      let o := armsOut u (s.gainOf c false) (s.gainOf c true)
      let a := if ch % 2 = 0 then o.1 else o.2
      let s := s.armStage ch a
      s.st (driveRec ch + 0x1B) 1 (s.rd F.DRIVE_DEGLITCH_HOLD)
    else if out = 8 then s.toRest ch else s
  else
    if s.wasOpen ch out then
      let code := s.polCode ch (Int.ofNat (s.rd F.DRIVE_SHUTTER_OPEN_CODE))
      let s := (((s.setDCtrl ch 20 1 1).setDI16 ch 0x10 code).loadAct ch code).st (driveRec ch + 0x1B) 1
        (s.rd F.DRIVE_DEGLITCH_HOLD)
      s
    else if out = 8 then s.toRest ch else s

end Sys2Proof.Machine
end

