-- ==== Sys2Proof/Machine/LayOps.lean ====
section
/-! DEFINITION. The lay engine's operations (05): staging, F0, the strobe, hand-back, settle checks,
unblanking, completion, withdrawal, interruption and recovery lays. -/

namespace Sys2Proof.Machine

/-- A domain that R423 names runs from its fallback source. -/
def State.onRco (s : State) : Bool := [1, 2, 3, 4, 5].any (fun d => s.bit F.CLK_DOM_ACT_SRC d)

/-- An instant of the frame grid, in units of 2⁻¹⁶ ns. -/
def frameAt (k : Nat) : Nat := k * frameUnits

/-! ### Plans -/

/-- The slot of an epoch's base weave, as the weave records it; 0xFF for none. -/
def State.baseWeave (s : State) (w : Weave) : Weave := if w.baseSlot < 16 then s.weave w.baseSlot else Weave.empty

/-- Removed, added and moved connections of a weave against its base, as (input, output) (R156). -/
def layMoves (b w : Weave) : List (Nat × Nat) × List (Nat × Nat) × List (Nat × Nat) :=
  let cl := classify b w
  let of (x : Weave) (l : List Nat) : List (Nat × Nat) :=
    (x.conns.filter (fun c => l.contains c.input)).map (fun c => (c.input, c.output))
  (of b cl.2.1, of w cl.1, of w cl.2.2)

/-- The connections a weave moves against its base, as (input, output) (R156). -/
def State.movesOf (s : State) (w : Weave) : List (Nat × Nat) :=
  let mv := layMoves (s.baseWeave w) w
  mv.1 ++ mv.2.1 ++ mv.2.2

/-- The connections whose shutters a staged or running lay holds (R152, R165, R167). -/
def State.layHeld (s : State) : List (Nat × Nat) :=
  (s.lay.cur.map (·.moved)).getD [] ++
    s.lay.staged.flatMap (fun (y : StagedLay) => s.movesOf (s.weave y.slot.val))

/-- The connections left blanked that no staged or running lay has taken over (R165). -/
def State.laggingFree (s : State) : List Lagging :=
  s.lay.lagging.filter (fun g => !s.layHeld.contains (g.input, g.output))

/-- The shutters of a connection that a lay may close: those not SHUTTER_OPEN (R161). -/
def closable (dm : List DmapEntry) (c : Nat × Nat) : List Nat :=
  [inShut c.1, outShut c.2].filter (fun ch => !dmapHas dm 3 ch)

/-- S of R152 for a lay that closes these shutters. -/
def State.shutterOffset (s : State) (chans : List Nat) : Nat :=
  if chans.any s.shutOpen then s.rd F.LAY_TIMING_S else 0

/-- S_open of R152: frames for a shutter of a given time in ns. -/
def sOpen (shutterNs : Nat) : Nat := ceilDiv (shutterNs * 10 + 2112) 3200

/-! ### Feedforward of a lay (R154, R217) -/

/-- The arms of a cell at its feedforward, from a memory's sets at a temperature. -/
def layArms (m : List Host.Cell) (t : W32) (c code : Nat) : W32 × ArmOut × ArmOut :=
  let ff := calTarget m c code t
  let o := armsOut ff (calEval m c calGA t) (calEval m c calGB t)
  (ff, o.1, o.2)

/-- The calibration a lay of an epoch uses: what the epoch retains, else the present one (R82, R154). -/
def State.layHealth (s : State) (e : W32) (kind : LayKind) : List Host.Cell × W32 :=
  match (if kind = .epoch then (s.epoch? e).bind (·.health) else none) with
  | some h => (h.cal, h.tCart)
  | none => (s.mem, s.tCart)

/-- V² of the driven arm of a cell, held to 1,225 V²; 1,225 where it cannot be formed (R154). -/
def feedV2 (m : List Host.Cell) (t : W32) (c code : Nat) : W32 :=
  let ff := calTarget m c code t
  let g := calEval m c (if F32.lt ff 0 then calGB else calGA) t
  let v := F32.div (F32.abs ff) g
  if F32.finite v && F32.lt 0 g then F32.fmin v 0x44992000 else 0x44992000

/-- The actuation of a weave exceeds the budget (R154). The sum is formed and compared in steps of 2⁻²⁴, as R188 forms
the budget loop's; R154 gives no arithmetic (DESIGN CHOICE, log entry 28). -/
def overBudget (m : List Host.Cell) (t budget : W32) (w : Weave) : Bool :=
  let tot := ((w.states.filter (·.2 < 2)).map (fun c => fixed24 (feedV2 m t c.1 c.2))).sum
  F32.lt budget (F32.pack false tot (-24))

/-! ### Lay records -/

/-- The fields of a lay record. -/
structure LayRec where
  epoch : W32
  frame : Nat
  outcome : Nat
  noblank : Bool := false
  verify : Bool := false
  s : Nat := 0
  m : Nat := 0
  driveNs : Nat := 0
  changed : Nat := 0
  blanked : Nat := 0
  unblankedMoves : Nat := 0
  unsettled : Nat := 0
  settleNs : Nat := 0
  btmNs : Nat := 0
  vfyFail : Nat := 0
  detail : Nat := 0
  deriving DecidableEq, Repr

/-- A lay record is written, cyclically; its latency is offered to the monitors (R389). -/
def State.layRecord (s : State) (r : LayRec) : State :=
  let n := s.lay.nextRec
  let sat (v : Nat) : Nat := Nat.min 65535 v
  let s := ((((s.wr F.LAY_REC_EPOCH r.epoch.toNat n).wr F.LAY_REC_LAY_FRAME r.frame n).wr F.LAY_REC_OUTCOME r.outcome n).wrB
    F.LAY_REC_NOBLANK r.noblank n).wrB F.LAY_REC_VERIFY r.verify n
  let s := ((((s.wr F.LAY_REC_S r.s n).wr F.LAY_REC_M r.m n).wr F.LAY_REC_DRIVE_NS (sat r.driveNs) n).wr F.LAY_REC_CHANGED
    (sat r.changed) n).wr F.LAY_REC_BLANKED (sat r.blanked) n
  let s := ((((s.wr F.LAY_REC_UNBLANKED_MOVES (sat r.unblankedMoves) n).wr F.LAY_REC_UNSETTLED (sat r.unsettled) n).wr
    F.LAY_REC_SETTLE_NS (sat r.settleNs) n).wr F.LAY_REC_BTM_NS (sat r.btmNs) n).wr F.LAY_REC_VFY_FAIL r.vfyFail n
  let s := ((s.wr F.LAY_REC_DETAIL r.detail n).wr F.LAY_REC_HEAD_NEWEST n).wrB F.LAY_REC_HEAD_ANY true
  let s := { s with lay := { s.lay with nextRec := (n + 1) % 16 } }
  if r.driveNs = 0 then s else s.monOffer 2 0 (Int.ofNat r.driveNs)

/-- The record of a lay that has run. -/
def Lay.record (l : Lay) (outcome detail : Nat) : LayRec :=
  { epoch := l.epoch, frame := l.frame, outcome := outcome, noblank := l.noblank, verify := l.verify, s := l.s
    m := l.lastM, driveNs := l.driveNs, changed := l.changing.length, blanked := l.nBlanked
    unblankedMoves := l.nUnblankedMoves, unsettled := l.unsettled, settleNs := l.settleNs, btmNs := l.btmNs
    detail := detail }

/-- The record of a lay that never began. -/
def Epoch.record (x : Epoch) (outcome detail : Nat) : LayRec :=
  { epoch := x.num, frame := x.layFrame, outcome := outcome, noblank := x.noblank, verify := x.verify, detail := detail }

/-! ### The lay mark (R355, R364) -/

/-- Connection records of a lay (R355): removed ones with VALID = 0, added ones, and moved ones with MOVED = 1, by input. -/
def layRecords (b w : Weave) : List ConnRec :=
  let cl := classify b w
  let of (x : Weave) (l : List Nat) (valid moved : Bool) : List ConnRec :=
    (x.conns.filter (fun c => l.contains c.input)).map (fun c => { c with valid := valid, moved := moved })
  sortBy (fun a c => decide (a.input ≤ c.input)) (of b cl.2.1 false false ++ of w cl.1 true false ++ of w cl.2.2 true true)

/-- STATE of LAYMARK. -/
def State.markTo (s : State) (state : Nat) : State :=
  ({ s with redund := { s.redund with image := { s.redund.image with markState := state } } } : State).ckptTouch .laymarkState

/-- LAYMARK of a staged epoch: epoch, options, S, change list and connections, and after them STATE = 1 (R355, R364). -/
def State.markStaged (s : State) (x : Epoch) (st : StagedLay) : State :=
  let w := s.weave st.slot.val
  (({ s with redund := { s.redund with image := { s.redund.image with
      markEpoch := x.num, markOpts := boolNat x.noblank + 2 * boolNat x.verify, markS := st.s
      markCells := w.changes.map (fun c => (c.1, w.code c.1, c.2)), markConns := layRecords (s.baseWeave w) w
      markComplete := true, markListed := true, markCoord := x.net.map (·.coord) } } } : State).ckptTouch .laymark).markTo 1

/-- LAYMARK holds one lay: the first staged epoch takes it once no other lay has it (R355). -/
def State.markNext (s : State) : State :=
  if s.redund.image.markState ≠ 0 then s
  else
    match s.lay.staged.find? (fun (y : StagedLay) => (s.epoch? y.epoch).any (fun x => x.st = .staged)) with
    | none => s
    | some st => match s.epoch? st.epoch with
      | some x => s.markStaged x st
      | none => s

/-- STATE of LAYMARK changed for the epoch it names; at the end of its lay the next staged one takes it. -/
def State.markState (s : State) (e : W32) (state : Nat) : State :=
  if s.redund.image.markEpoch = e && s.redund.image.markState ≠ 0 then
    let s := s.markTo state
    if state = 0 then s.markNext else s
  else s

/-! ### Arming (R217) -/

/-- LAY_PEND and LAY_ARMED of the arms of changing cells; what an earlier lay armed stands until its strobe. -/
def State.armCells (s : State) (m : List Host.Cell) (t : W32) (cells : List (Nat × Nat)) : State :=
  forEach (cells.filter (fun c => s.dCtrl (2 * c.1) 7 1 = 0)) (fun s c =>
    let o := layArms m t c.1 c.2
    let arm (s : State) (ch : Nat) (a : ArmOut) : State :=
      let s := s.setDCtrl ch 7 1 1
      if c.2 < 2 && a.fail.isNone then s.setDI16 ch 0x14 (s.polCode ch a.code) else s.setDI16 ch 0x14 0
    arm (arm s (2 * c.1) o.2.1) (2 * c.1 + 1) o.2.2) s

/-- LAY_ARMED cleared without loading (R217). -/
def State.disarmCells (s : State) (cells : List Nat) : State :=
  forEach cells (fun s c => (s.setDCtrl (2 * c) 7 1 0).setDCtrl (2 * c + 1) 7 1 0) s

/-! ### Staging (R153 to R155, R158, R165, R261) -/

/-- What a refused or withdrawn epoch of the lay engine ends with: the epoch's own status, its commands',
and the lay record. -/
def State.layRefuse (s : State) (x : Epoch) (cmds : Status) (outcome detail : Nat) : State :=
  (s.layRecord (x.record outcome detail)).abortEpoch x.num (St.aborted detail) (fun _ => cmds)

/-- Whether the preceding epoch of R153 has been staged. -/
def State.baseStaged (s : State) (x : Epoch) : Bool :=
  match x.base with
  | none => true
  | some b => match s.epoch? b with
    | some y => y.st = .staged || y.st = .landed
    | none => true

/-- The staging deadline of R153, in units of 2⁻¹⁶ ns. -/
def Epoch.deadline (x : Epoch) : Int := (Int.ofNat x.layFrame - Int.ofNat x.margin) * Int.ofNat frameUnits

/-- A READY weave is staged: S, M_B_HELD, LAY_PEND, the mark, calibration runs it takes (R152, R154, R158, R217,
R261, R310); the lagging connections it moves are its own from here on (R165). -/
def State.stage (s : State) (x : Epoch) (slot : Fin 16) : State :=
  let w := s.weave slot.val
  let h := s.layHealth x.num .epoch
  let budget := (s.strand.desc.map (·.actBudget)).getD 0
  if decide (x.deadline ≤ Int.ofNat s.ext0) then s.layRefuse x (St.late 0x200) 3 0x200
  else if overBudget h.1 h.2 budget w then s.layRefuse x (St.aborted 0x203) 3 0x203
  else
    let moved := s.movesOf w
    let dm := (x.health.map (·.dmap)).getD s.solve.dmapForce
    let sOff := match x.net with
      | some n => if x.noblank then 0 else n.sNet
      | none => if x.noblank then 0 else s.shutterOffset (moved.flatMap (closable dm))
    let beta := s.rdW F.LOOP_BUDGET_BETA
    let st : StagedLay := { epoch := x.num, slot := slot, s := sOff, level := s.rd F.LAY_SETTLE_LEVEL
                            count := s.rd F.LAY_SETTLE_COUNT, beta := beta }
    let s := { s with lay := { s.lay with staged := s.lay.staged ++ [st] } }
    let s := (s.modEpoch x.num (fun x => { x with st := .staged })).setSlot slot.val 3 x.num
    let changing := w.changes.map (fun c => (c.1, w.code c.1))
    let head := s.rdW F.LOOP_BUDGET_CFG_HEADROOM
    let s := forEach (s.serviceCells.filter (fun c => !changing.any (·.1 = c))) (fun s c =>
      s.setCw c 0x34 (F32.add (F32.abs (s.ffOf c)) (F32.mul beta head))) s
    let takes := w.takes s.strand.geomY512
    let s := s.calStop 11 false (fun r =>
      match (if r.req.sense then tapCell r.req.object else some r.req.object) with
      | some c => takes.contains c
      | none => false)
    (s.armCells h.1 h.2 changing).markNext

/-! ### F0 and FS (R156, R159, R161) -/

/-- What a channel carries, for the test of R159: the rest flag and ACT. -/
def State.carries (s : State) (ch : Nat) : Nat × Int := (s.dCtrl ch 8 1, s.dI16 ch 0x12)

/-- The lay-to-drive latency over the channels whose ACT an action changed (R159): 0 where none. -/
def State.latency (s : State) (before : List (Nat × Nat × Int)) : Nat × State :=
  let js := (before.filter (fun b => s.carries b.1 ≠ b.2)).map (fun b => s.driveBlock b.1)
  match js with
  | [] => (0, s)
  | j :: l => s.nsRound (blockStart10 (l.foldl Nat.min j))

/-- The lay in progress replaced. -/
def State.setLay (s : State) (l : Lay) : State := { s with lay := { s.lay with cur := some l } }

/-- F0 of a lay is dispatched (R156 step 1, R161): `opens` the shutters a NOBLANK lay opens. A shutter that a NOBLANK lay both removes and adds is closed and then
opened, so the frame carries the open level (DESIGN CHOICE, log entry 28). -/
def State.dispatchF0 (s : State) (l : Lay) (close opens : List Nat) (wasOpen : List Nat) : State :=
  let before := (close ++ opens).map (fun ch => (ch, s.carries ch))
  let s := forEach close State.closeShutter s
  let s := forEach opens State.openShutter s
  let d := s.latency before
  let s := d.2.wr F.LAY_STATUS_EPOCH l.epoch.toNat
  s.setLay { l with closed := wasOpen, driveNs := d.1 }

/-- A lay as it begins. -/
def newLay (kind : LayKind) (e : W32) (slot : Fin 16) (frame sOff level count timeout : Nat) (beta : W32)
    (changing moved blanked : List (Nat × Nat)) : Lay :=
  { kind := kind, epoch := e, slot := slot, frame := frame, s := sOff, noblank := false, verify := false
    level := level, count := count, timeout := timeout, beta := beta, strobed := false, handed := false, m := 0
    changing := changing, runs := [], settled := [], blanked := blanked, moved := moved, closed := [], lastM := 0
    driveNs := 0, nBlanked := 0, nUnblankedMoves := 0, unsettled := 0, settleNs := 0, btmNs := 0 }

/-- The lay of a staged epoch begins at its lay instant (R156, R161). -/
def State.beginLay (s : State) (x : Epoch) (st : StagedLay) : State :=
  let w := s.weave st.slot.val
  let mv := layMoves (s.baseWeave w) w
  let moved := mv.1 ++ mv.2.1 ++ mv.2.2
  let dm := (x.health.map (·.dmap)).getD s.solve.dmapForce
  let changing := w.changes.map (fun c => (c.1, w.code c.1))
  let blankable := moved.filter (fun c => !(closable dm c).isEmpty)
  let new := (mv.2.1 ++ mv.2.2).filter (fun c => !(closable dm c).isEmpty)
  let l := newLay .epoch x.num st.slot x.layFrame st.s st.level st.count x.timeout st.beta changing moved
    (if x.noblank then [] else new)
  let l := { l with
    noblank := x.noblank, verify := x.verify
    nBlanked := if x.noblank then 0 else blankable.length
    nUnblankedMoves := if x.noblank then moved.length else moved.length - blankable.length }
  let close := if x.noblank then mv.1.flatMap (closable dm) else moved.flatMap (closable dm)
  let opens := if x.noblank then mv.2.1.flatMap (fun c => [inShut c.1, outShut c.2]) else []
  let s := { s with lay := { s.lay with staged := s.lay.staged.filter (fun (y : StagedLay) => y.epoch ≠ x.num) } }
  let s := (s.modEpoch x.num (fun x => { x with layBegun := true })).touchPass (moved.map (·.2))
  s.dispatchF0 l close opens (close.filter s.shutOpen)

/-- One changing cell steps at FS (R156 step 2, R36, R194, R217, R232). -/
def State.strobeCell (s : State) (m : List Host.Cell) (t : W32) (frame : Nat) (c : Nat × Nat) : State :=
  let old := s.cellState c.1
  let s := if old ≠ c.2 && old < 3 && c.2 < 3 then s.actuate c.1 1 else s
  let s := ((s.leavePowerUp [2 * c.1, 2 * c.1 + 1]).setCCtrl c.1 0 2 c.2).noteStep c.1
  let s := forEach [0, 1, 2] (fun s k => s.rephase (3 * c.1 + k) frame) s
  let armed := s.dCtrl (2 * c.1) 7 1 = 1
  let s := s.disarmCells [c.1]
  if c.2 < 2 then
    let o := layArms m t c.1 c.2
    let load (s : State) (ch : Nat) (a : ArmOut) : State :=
      match a.fail with
      | some cause => s.driveHold ch cause
      | none =>
        let code := if armed then s.dI16 ch 0x14 else s.polCode ch a.code
        ((((s.driveOk ch).setDI16 ch 0x14 code).setDI16 ch 0x10 code).setDw ch 0x0C a.volt).loadAct ch code
    let s := s.setCmd c.1 o.1
    let s := { s with cal := { s.cal with ramps := s.cal.ramps.filter (· ≠ c.1) } }
    let s := { s with drive := { s.drive with sp := Sparse.put 0 s.drive.sp c.1 o.1 } }
    load (load s (2 * c.1) o.2.1) (2 * c.1 + 1) o.2.2
  else
    let s := (s.toRest (2 * c.1)).toRest (2 * c.1 + 1)
    let s := (s.setCellInj c.1 none).setCStat c.1 4 2 0
    let s := { s with loop := { s.loop with woken := s.loop.woken.filter (· ≠ c.1), wokenNext := s.loop.wokenNext.filter (· ≠ c.1) }
                      cal := { s.cal with ramps := s.cal.ramps.filter (· ≠ c.1) } }
    forEach (sortNat ((s.loop.caps.filter (fun p => p.2.loopNo = c.1)).map (·.1))) State.capEnd s

/-- The lesser of two latencies, where 0 is none. -/
def minPos (a b : Nat) : Nat := if a = 0 then b else if b = 0 then a else Nat.min a b

/-- FS of the lay in progress (R156 step 2); with S = 0 its codes and those of F0 leave in one frame (R159). -/
def State.strobe (s : State) (l : Lay) : State :=
  let h := s.layHealth l.epoch l.kind
  let before := l.changing.flatMap (fun c => [(2 * c.1, s.carries (2 * c.1)), (2 * c.1 + 1, s.carries (2 * c.1 + 1))])
  let s := s.setLay { l with strobed := true }
  let s := forEach l.changing (fun s c => s.strobeCell h.1 h.2 (l.frame + l.s) c) s
  let w := s.weave l.slot.val
  let s := if (w.full && l.kind = .epoch) || (l.kind = .restoring && s.drive.faultHeld) then s.restIdle else s
  let s := if l.kind = .restoring then { s with drive := { s.drive with faultHeld := false } } else s
  let s := forEach s.lay.staged (fun s (y : StagedLay) =>
    let wy := s.weave y.slot.val
    let hy := s.layHealth y.epoch .epoch
    s.armCells hy.1 hy.2 (wy.changes.map (fun c => (c.1, wy.code c.1)))) s
  let s := if l.driveNs = 0 || l.s = 0 then
      let d := s.latency before
      d.2.setLay { l with strobed := true, driveNs := minPos l.driveNs d.1 }
    else s
  s.markState l.epoch 2

/-! ### Hand-back (R156 step 3, R190, R112) -/

/-- A cell's mode is set (R189): leaving FROZEN presets with U_OUT and E, but a loop fault stands (R187); the
current mode changes nothing. -/
def State.setMode (s : State) (c m : Nat) : State :=
  let old := s.cellMode c
  if old = m then s
  else
    let was := s.cellFaulted c
    let s := s.setCCtrl c 14 2 m
    if old = 2 then
      let s := s.presetCell c (s.cw c 0x08) (s.cw c 0x10)
      if was then s.setCStat c 0 1 1 else s
    else s

/-- LPRESET of a cell (R192). -/
def State.presetInstr (s : State) (c : Nat) (fb : Option W32) : State :=
  match fb with
  | none => s.presetCell c (s.cw c 0x08) (s.cw c 0x10)
  | some v =>
    let s := if s.cellMode c = 1 then s.setCw c 0x2C v else s
    s.presetCell c v 0

/-- An injection from a copied descriptor of six words; none stops it (R202). -/
def injOfWords (ws : List W32) : Option Inj :=
  match ws with
  | [cfg, ampl, period, dur, delay, seed] =>
    some { cfg := cfg, ampl := ampl, period := period, duration := dur, delay := delay, seed := seed, n := 0, prbs := seed }
  | _ => none

/-- A loop instruction deferred to the hand-back is applied (R112). -/
def State.applyDeferred (s : State) (d : DeferredInstr) : State :=
  match d with
  | .mode c m => s.setMode c m
  | .preset c fb => s.presetInstr c fb
  | .inj c ws => s.setCellInj c (injOfWords ws)

/-- The cell a deferred instruction names. -/
def DeferredInstr.cell : DeferredInstr → Nat
  | .mode c _ => c
  | .preset c _ => c
  | .inj c _ => c

/-- The loop instructions that waited for the hand-back are applied, in their order, to the cells in service
(R112). -/
def State.flushDeferred (s : State) : State :=
  let ds := s.loop.deferred
  let s := { s with loop := { s.loop with deferred := [] } }
  forEach (ds.filter (fun d => s.inService d.cell)) State.applyDeferred s

/-- The hand-back of the changing cells in service (R156, R190, R192, R195). -/
def State.handBack (s : State) (l : Lay) : State :=
  let s := s.setLay { l with handed := true }
  let cells := l.changing.filter (·.2 < 2)
  let s := forEach cells (fun s c =>
    let s := (s.setCCtrl c.1 14 2 0).setCellInj c.1 none
    let s := s.presetCell c.1 (s.dw (2 * c.1) 4) 0
    ((s.setCStat c.1 5 1 1).setCStat c.1 4 1 1).setCStat c.1 16 8 0) s
  s.flushDeferred

/-! ### Settle checks (R163 to R165) -/

/-- The peak taps of the weave of a slot. -/
def State.slotPeaks (s : State) (slot : Fin 16) : Array Nat :=
  peakTaps s.strand.geomY512 (s.weave slot.val).routes

/-- A cell's transition samples pass the settle level (R163). -/
def State.settlePass (s : State) (level : Nat) (pk c : Nat) : Bool :=
  let op := 1 - pk
  let good (t : Nat) : Bool := s.sense.freshT.contains (3 * c + t) && s.sCtrl (3 * c + t) 6 1 = 0
  let goodV (t : Nat) : Bool := s.sense.freshT.contains (3 * c + t) && !s.sense.ovrT.contains (3 * c + t)
  let v (t : Nat) : W32 := s.sw' (3 * c + t) 0x0C
  let n (t : Nat) : W32 := s.sw' (3 * c + t) 0x1C
  let thr := F32.div (F32.ofNat level) 0x43800000
  if s.tapDead c pk then good op && good 2 && F32.le thr (F32.sub F32.one (n op))
  else if s.tapDead c op then good pk && good 2 && F32.le thr (n pk)
  else goodV 0 && goodV 1 && F32.le thr (F32.div (v pk) (F32.add (v 0) (v 1)))

/-- One check of cells: their runs of passing samples, and those now settled. -/
def State.checkCells (s : State) (level count : Nat) (peaks : Array Nat) (runs : List (Nat × Nat)) (cells : List Nat) :
    List (Nat × Nat) × List Nat :=
  let new := cells.map (fun c =>
    (c, if s.settlePass level (peaks.getD c 0) c then (alist runs c).getD 0 + 1 else 0))
  (new.filter (fun r => r.2 < count), (new.filter (fun r => count ≤ r.2)).map (·.1))

/-- The check at which a connection of the new weave counts as settled (R156 step 5). -/
def Lay.settledAt (l : Lay) (routeCells : List Nat) : Option Nat :=
  let mine := (l.changing.filter (fun c => c.2 < 2 && routeCells.contains c.1)).map (·.1)
  if mine.all (fun c => (alist l.settled c).isSome) then
    some (mine.foldl (fun a c => Nat.max a ((alist l.settled c).getD 1)) 1)
  else none

/-- One settle check of the lay in progress (R163, R164). -/
def State.settleCheck (s : State) (l : Lay) : State :=
  let m := l.m + 1
  let pk := s.slotPeaks l.slot
  let todo := ((l.changing.filter (·.2 < 2)).map (·.1)).filter (fun c => (alist l.settled c).isNone)
  let r := s.checkCells l.level l.count pk l.runs todo
  let s := forEach (sortNat r.2) (fun s _ => s.monOffer 3 0 (Int.ofNat (640 * m))) s
  let l := { l with m := m, runs := r.1, settled := l.settled ++ r.2.map (fun c => (c, m))
                    settleNs := if r.2.isEmpty then l.settleNs else 640 * m }
  let s := s.setLay l
  if m < l.timeout then s
  else
    let w := s.weave l.slot.val
    let left := l.blanked.filter (fun c => (l.settledAt (w.connCells s.strand.geomY512 c.1)).isNone)
    if left.isEmpty then s
    else (s.setLay { l with unsettled := left.length }).raise 17 l.epoch

/-- A reverting or restoring lay moves no connection: an output shutter that verification closed stays closed (R167). -/
def Lay.keepsClosed (l : Lay) : Bool := l.kind = .reverting || l.kind = .restoring

/-- The break-to-make time of a connection unblanked in the n-th frame of its lay (R160). -/
def State.breakToMake (s : State) (c : Nat × Nat) (n : Nat) : Nat × State :=
  let j := Nat.max (s.driveBlock (inShut c.1)) (s.driveBlock (outShut c.2))
  s.nsRound (3200 * n + 600 + 64 * (j + 1) + 10 * (s.strand.desc.map (·.shutterNs)).getD 0)

/-- The blanked connections settled by a check made so far are unblanked, in ascending order of input (R156 step 5, R160,
R167, R390). -/
def State.unblank (s : State) (l : Lay) : State :=
  let w := s.weave l.slot.val
  let ready := (sortBy (fun a c => decide (a.1 ≤ c.1)) l.blanked).filterMap (fun c => (l.settledAt (w.connCells s.strand.geomY512 c.1)).map (fun m => (c, m)))
  let ready := ready.filter (fun r => r.2 ≤ l.m)
  let s := forEach ready (fun s r =>
    let c := r.1
    let ns := s.breakToMake c (l.s + 2 * r.2 + 1)
    let s := ns.2.openShutter (inShut c.1)
    let s := if l.keepsClosed && s.lay.vfyClosed.contains c.2 then s else s.openShutter (outShut c.2)
    let s := s.monOffer 4 0 (Int.ofNat ns.1)
    match s.lay.cur with
    | some l => s.setLay { l with btmNs := Nat.max l.btmNs ns.1 }
    | none => s) s
  match s.lay.cur with
  | none => s
  | some l => s.setLay { l with
      blanked := l.blanked.filter (fun c => !ready.any (·.1 = c))
      lastM := ready.foldl (fun a r => Nat.max a r.2) l.lastM }

/-- M of R156 step 6, once the lay has come to it; none before. -/
def Lay.finalM (l : Lay) : Option Nat :=
  let service := (l.changing.filter (·.2 < 2)).map (·.1)
  let all := service.all (fun c => (alist l.settled c).isSome)
  if !l.blanked.isEmpty then (if l.timeout ≤ l.m then some l.timeout else none)
  else if 0 < l.lastM then some l.lastM
  else if service.isEmpty then some 1
  else if all then some (service.foldl (fun a c => Nat.max a ((alist l.settled c).getD 1)) 1)
  else if l.timeout ≤ l.m then some l.timeout else none

/-! ### Completion (R157, R33, R164, R166) -/

/-- PENDING clears on the entries of cells a weave retires (R33). -/
def retireDone (dm : List DmapEntry) (retired : List Nat) : List DmapEntry :=
  dm.map (fun e => match e.cell? with
    | some c => if retired.contains c then { e with pending := false } else e
    | none => e)

/-- A recovery from safe ends: each loop in service holds until the next echo of its arms presets it (R193, R225). -/
def State.safeEnds (s : State) : State :=
  if s.lay.echoAfter then
    { s with lay := { s.lay with echoAfter := false }, loop := { s.loop with echoWait := s.serviceCells, echoSeen := [] } }
  else s

/-- The lay in progress completes with M. -/
def State.completeLay (s : State) (l : Lay) (M : Nat) : State :=
  let w := s.weave l.slot.val
  let lag := l.blanked.map (fun c =>
    let cells := (w.connCells s.strand.geomY512 c.1).filter (fun k =>
      l.changing.any (fun x => x.1 = k && x.2 < 2) && (alist l.settled k).isNone)
    ({ input := c.1, output := c.2, cells := cells, level := l.level, count := l.count
       runs := l.runs.filter (fun r => cells.contains r.1), layFrame := l.frame, strobeFrame := l.frame + l.s, openAt := none } : Lagging))
  let s := { s with lay := { s.lay with
    cur := none, interrupted := none
    lagging := s.lay.lagging.filter (fun (g : Lagging) => !l.moved.contains (g.input, g.output)) ++ lag } }
  let l := { l with lastM := M }
  let idx := s.lay.nextRec
  match l.kind with
  | .epoch | .rolled =>
    let ret := (w.states.filter (·.2 = 3)).map (·.1)
    let s := { s with lay := { s.lay with vfyClosed := s.lay.vfyClosed.filter (fun o => !l.moved.any (·.2 = o)) } }
    let s := { s with solve := { s.solve with dmap := retireDone s.solve.dmap ret
                                              dmapForce := retireDone s.solve.dmapForce ret } }
    let s := s.layRecord { l.record 0 0 with vfyFail := if l.verify then 0xFFFF else 0 }
    let s := s.landEpoch l.epoch w.states w.routes
    let s := s.markState l.epoch 0
    if l.verify then
      let s := s.endPass
      let p : LayPass := { epoch := l.epoch, record := idx, expects := s.landedExpects, since := s.ext0, again := false }
      { s with sense := { s.sense with layPass := some p } }
    else s
  | .reverting => (s.layRecord (l.record 0 0)).fireHook 6 l.epoch
  | .restoring => (s.safeEnds.layRecord (l.record 0 0)).fireHook 6 l.epoch

/-- The lay in progress may complete: its cells are handed back, or it has none and blanks nothing (R156). -/
def Lay.mayComplete (l : Lay) : Bool := (l.strobed && l.handed) || (l.changing.isEmpty && decide (l.nBlanked = 0))

/-- The frame at which a lay completes with M (R156 step 6). A lay that blanks removed connections only
takes the first check that finds every changing cell settled as M, with the 2S of a blanking lay (DESIGN CHOICE, log entry
28). -/
def Lay.lastFrame (l : Lay) (M : Nat) : Nat := l.frame + (if l.nBlanked = 0 then 0 else 2 * l.s) + 2 * M + 1

/-- The lay in progress completes once it has come to its M (R156 step 6, R157). -/
def State.finishLay (s : State) (l : Lay) : State :=
  match l.finalM with
  | none => s
  | some M =>
    let s := (s.passTo (frameAt (l.lastFrame M))).unblank l
    match s.lay.cur with
    | some l => s.completeLay l M
    | none => s

/-- A frame begins before the CORE cycle at hand ends. -/
def State.comes (s : State) (frame : Nat) : Bool := decide (frameAt frame < s.ext0 + nsUnit)

/-- FS of the lay in progress, and its completion, where they fall in this cycle or fell before it: they win over an
abort, a flush or an interruption (R173). -/
def State.layDue (s : State) : State :=
  let s := match s.lay.cur with
    | some l => if !l.strobed && s.comes (l.frame + l.s) then s.strobe l else s
    | none => s
  match s.lay.cur with
  | some l => if l.mayComplete && l.finalM.any (fun M => s.comes (l.lastFrame M)) then s.finishLay l else s
  | none => s

/-- The frame of the next check of a connection left blanked: 640 ns steps from its own strobe (R165). -/
def State.lagFrame (s : State) (g : Lagging) : Nat := g.strobeFrame + 2 * ((s.frame + 2 - g.strobeFrame) / 2)

/-- The frame of the next check of any connection left blanked; none where there is nothing to check. -/
def State.lagNext (s : State) : Option Nat :=
  match (s.laggingFree.filter (fun g => g.openAt.isNone)).map s.lagFrame with
  | [] => none
  | f :: l => some (l.foldl Nat.min f)

/-- One check, at the start of frame `f`, of the connections left blanked whose grid it lies on; the settle times of the cells
it finds settled are offered to the monitors (R165, R389). -/
def State.laggingCheck (s : State) (f : Nat) : State :=
  let peaks := s.peaks
  let free := s.laggingFree
  let due (g : Lagging) : Bool := free.contains g && g.openAt.isNone && (f - g.strobeFrame) % 2 = 0
  let check (g : Lagging) : List (Nat × Nat) × List Nat := s.checkCells g.level g.count peaks g.runs g.cells
  let done := (s.lay.lagging.filter due).flatMap (fun g => (check g).2.map (fun c => (c, 320 * (f - g.strobeFrame))))
  let s := { s with lay := { s.lay with lagging := s.lay.lagging.map (fun g =>
    if due g then
      let x := check g
      let cells := g.cells.filter (fun c => !x.2.contains c)
      { g with cells := cells, runs := x.1, openAt := if cells.isEmpty then some (f + 1) else none }
    else g) } }
  forEach (sortBy (fun a c => decide (a.1 ≤ c.1)) done) (fun s p => s.monOffer 3 0 (Int.ofNat p.2)) s

/-- The connections left blanked and now settled open in their frame, in ascending order of input (R165, R389, R390); an
output shutter that verification closed stays closed (R167). -/
def State.laggingOpen (s : State) (frame : Nat) : State :=
  let due := s.laggingFree.filter (fun g => g.openAt.any (fun f => decide (f ≤ frame)))
  let s := { s with lay := { s.lay with lagging := s.lay.lagging.filter (fun g => !due.contains g) } }
  forEach (sortBy (fun a c => decide (a.input ≤ c.input)) due) (fun s g =>
    let s := s.openShutter (inShut g.input)
    let s := if s.lay.vfyClosed.contains g.output then s else s.openShutter (outShut g.output)
    let ns := s.breakToMake (g.input, g.output) (frame - g.layFrame)
    ns.2.monOffer 4 0 (Int.ofNat ns.1)) s

/-! ### Withdrawal, interruption, recovery (R168, R171 to R174, R388) -/

/-- A lay between F0 and FS is withdrawn: its shutters reopen in the next frame, and loop instructions that
waited for its hand-back are applied (R168, R171, R112). -/
def State.withdrawLay (s : State) (l : Lay) (outcome detail : Nat) : State :=
  let s := { s with lay := { s.lay with cur := none } }
  let s := forEach l.closed State.openShutter s
  let s := (s.disarmCells (l.changing.map (·.1))).flushDeferred
  let s := (s.layRecord (l.record outcome detail)).fireHook 6 l.epoch
  (s.abortEpoch l.epoch (St.aborted detail) (fun _ => St.aborted detail)).markState l.epoch 0

/-- The cells and connections of the landed weave that a restoring lay treats as changing (R388). -/
def State.restoreAll (s : State) (fromFrame : Nat) : Option Recovery :=
  s.ledger.laid.map (fun n =>
    let w := s.weave n.val
    { kind := .restoring, slot := n, epoch := s.ledger.cur.landedEpoch, cells := w.states.filter (·.2 < 2)
      conns := w.litConns
      close := [], allOut := true, at' := fromFrame, waitStream := false, waitLane := false })

/-- The recovery that follows an interrupted lay of an epoch: the base weave's states and connections
(R172). -/
def State.revertOf (s : State) (l : Lay) : Option Recovery :=
  s.ledger.laid.map (fun n =>
    let w := s.weave n.val
    let shut (c : Nat × Nat) : Bool := l.moved.any (fun m => m.1 = c.1 || m.2 = c.2)
    { kind := .reverting, slot := n, epoch := s.ledger.cur.landedEpoch
      cells := l.changing.map (fun c => (c.1, w.code c.1))
      conns := w.litConns.filter shut
      close := l.moved.flatMap (closable s.solve.dmapForce), allOut := false, at' := 0
      waitStream := false, waitLane := false })

/-- A reaction, a stream that stops or a lane failure ends the lay in progress (R172, R174, R175, R277). A loop instruction deferred under the lay (R112)
stays deferred for the recovery lay's hand-back and is applied at once where no recovery lay follows (DESIGN CHOICE, log
entry 28). -/
def State.interruptLay (s : State) (stream lane : Bool) : State :=
  let s := s.layDue
  match s.lay.cur with
  | none => s
  | some l =>
    let s := { s with lay := { s.lay with cur := none, interrupted := some l } }
    let s := s.disarmCells (l.changing.map (·.1))
    let s := (s.layRecord (l.record 2 0x206)).fireHook 6 l.epoch
    let wait (r : Option Recovery) : Option Recovery := r.map (fun r => { r with waitStream := stream, waitLane := lane })
    match l.kind with
    | .epoch | .rolled =>
      let s := s.abortPlain l.epoch (St.aborted 0x206)
      let s := s.markState l.epoch 0
      let rec' := if s.safeOn then s.restoreAll 0 else s.revertOf l
      let s := if rec'.isNone then s.flushDeferred else s
      ({ s with lay := { s.lay with recover := wait rec' } } : State).raise 18 l.epoch
    | .reverting | .restoring =>
      { s with lay := { s.lay with recover := wait (s.restoreAll 0) } }

/-- A write took LAY_CTRL.EN from `was` to what it is (R170). -/
def State.noteLayEn (s : State) (was : Bool) : State :=
  if was && !s.bit F.LAY_CTRL_EN then { s with lay := { s.lay with enOffAt := some s.time.cycle } } else s

/-- F0 of the recovery lay that waits may go (R172, R174, R175, R277, R367, R388, R423): streaming and owning the drive, no
lane failed, no reaction in force, and the state not lost. -/
def State.mayRecover (s : State) (r : Recovery) : Bool :=
  !r.waitStream && !r.waitLane && s.lay.cur.isNone && !s.holdOn && !s.safeOn && !s.onRco && s.rd F.STRAND_STATUS_STATE = 5 &&
    s.bit F.STRAND_STATUS_OWNER && s.strand.failed.isEmpty && !s.ledger.noLays

/-- A recovery lay as it begins: it restores the weave that is landed then (R174). -/
def State.recoveryNow (s : State) (r : Recovery) : Recovery :=
  match s.ledger.laid with
  | none => r
  | some n =>
    let w := s.weave n.val
    { r with slot := n, epoch := s.ledger.cur.landedEpoch
             cells := if r.allOut then w.states.filter (·.2 < 2) else r.cells.map (fun c => (c.1, w.code c.1))
             conns := if r.allOut then w.litConns else r.conns.filter (fun c => w.litConns.contains c) }

/-- The recovery lay that waits begins in the frame at hand (R172, R174, R388). A shutter that carries its fault value
counts as open where that value is neither the rest code nor code 0. -/
def State.beginRecovery (s : State) (r : Recovery) : State :=
  let r := s.recoveryNow r
  let close := if r.allOut then (List.range 2048).map (43008 + ·) else r.close
  let open' (ch : Nat) : Bool :=
    if s.drive.faultHeld then decide (s.fltCode ch ≠ 8 && s.fltCode ch ≠ 0) else s.shutOpen ch
  let wasOpen := close.filter open'
  let sOff := if wasOpen.isEmpty then 0 else s.rd F.LAY_TIMING_S
  let l := newLay r.kind r.epoch r.slot s.frame sOff (s.rd F.LAY_SETTLE_LEVEL) (s.rd F.LAY_SETTLE_COUNT)
    (s.rd F.LAY_TIMING_TIMEOUT) (s.rdW F.LOOP_BUDGET_BETA) r.cells r.conns r.conns
  let l := { l with nBlanked := r.conns.length }
  let s := { s with lay := { s.lay with recover := none, lagging := s.lay.lagging.filter (fun g =>
    !r.conns.contains (g.input, g.output)) } }
  let h := s.layHealth r.epoch r.kind
  let s := s.touchPass (r.conns.map (·.2))
  ((s.disarmCells (r.cells.map (·.1))).armCells h.1 h.2 r.cells).dispatchF0 l close [] wasOpen

/-- FLUSH (R171): the latest epoch first, so that each ends FLUSHED and not by R69's cascade (DEDUCED, log
entry 23). -/
def State.flushLays (s : State) : State :=
  let s := s.layDue
  let cur : List W32 := match s.lay.cur with
    | some l => if l.kind = .epoch && !l.strobed && l.s ≠ 0 && (s.epoch? l.epoch).all (·.net.isNone) then [l.epoch] else []
    | none => []
  let staged := (s.lay.staged.map (·.epoch)).filter (fun e => match (s.epoch? e).bind (·.net) with
    | some n => !(n.commitHeld || (n.coordinator && n.decided))
    | none => true)
  let s := forEach staged.reverse (fun s e => match s.epoch? e with
    | some x => if x.ended then s else s.layRefuse x (St.aborted 0x205) 4 0x205
    | none => s) s
  let s := match s.lay.cur with
    | some l => if cur.contains l.epoch then s.withdrawLay l 4 0x205 else s
    | none => s
  s.inc F.LAY_FLUSHED_COUNT (cur.length + staged.length)

end Sys2Proof.Machine
end

