-- ==== Sys2Proof/Machine/StrandOps.lean ====
section
/-! DEFINITION. The strand link's shared operations (10): the frame check sum, lanes and their map, what an
outbound frame carries, what an inbound frame delivers, link start, presets from the echo, the weave and
the lay that a checkpoint image gives back (14), and write-back. -/

namespace Sys2Proof.Machine

/-! ### CRC-16 (R471) -/

/-- `k` steps of the CRC-16, most significant bit first. -/
def crc16Bits : Nat → Nat → Nat
  | 0, c => c
  | k + 1, c => crc16Bits k (if 65536 ≤ 2 * c then (2 * c - 65536) ^^^ 0x1021 else 2 * c)

/-- The CRC-16 of a list of bytes. -/
def crc16 (l : List Byte) : Nat := l.foldl (fun c b => crc16Bits 8 (c ^^^ (b.toNat * 256))) 0xFFFF

/-- DCRC or SCRC of a header and its blocks: header bits [47:0], then the blocks. -/
def frameCrc (header : BitVec 64) (blocks : List (BitVec 64)) : Nat :=
  crc16 (natBytes 6 header.toNat ++ blocks.flatMap (fun b => natBytes 8 b.toNat))

/-! ### Lanes (R271 to R277) -/

/-- The starting states of a lane's scrambler and of its PRBS31 generator, which the spec does not state (log entry 7). -/
opaque Config.scramSeed : Nat → BitVec 58
opaque Config.prbsSeed : Nat → BitVec 31

/-- 64 bits through the scrambler x⁵⁸ + x³⁹ + 1 (R266): its last 58 bits after, and the bits sent. -/
def scramble (h w : Nat) : Nat × Nat :=
  let a := (w ^^^ h / 2 ^ 19 ^^^ h) % 2 ^ 39
  let g := h / 2 ^ 39 + a * 2 ^ 19
  let b := (w / 2 ^ 39 ^^^ g / 2 ^ 19 ^^^ g) % 2 ^ 25
  (g / 2 ^ 25 + b * 2 ^ 33, a + b * 2 ^ 39)

/-- Blocks, each a sync header and a payload, as the line carries them (R266). -/
def lineBlocks : Nat → List (Nat × Nat) → Nat × List (BitVec 66)
  | h, [] => (h, [])
  | h, b :: l =>
    let x := scramble h b.2
    let r := lineBlocks x.1 l
    (r.1, BitVec.ofNat 66 (b.1 + 4 * x.2) :: r.2)

/-- `n` chunks of `k` bits, at most 28, of PRBS31, x³¹ + x²⁸ + 1 (ITU-T O.150), as one number, and its last 31 bits. -/
def prbsBits (k : Nat) : Nat → Nat → Nat × Nat
  | 0, h => (h, 0)
  | n + 1, h =>
    let c := (h ^^^ h / 8) % 2 ^ k
    let r := prbsBits k n (h / 2 ^ k + c * 2 ^ (31 - k))
    (r.1, c + 2 ^ k * r.2)

/-- `n` words of `m` chunks of `k` bits of PRBS31. -/
def prbsWords (k m : Nat) : Nat → Nat → Nat × List Nat
  | 0, h => (h, [])
  | n + 1, h =>
    let x := prbsBits k m h
    let r := prbsWords k m n x.1
    (r.1, x.2 :: r.2)

/-- The role of a physical lane. -/
def State.laneRole (s : State) (n : Nat) : Nat := s.rd F.STRAND_LANE_ROLE n
/-- The logical lane of a physical lane; 0x7F for none. -/
def State.laneLogical (s : State) (n : Nat) : Nat := s.rd F.STRAND_LANE_LOGICAL n
/-- A physical lane's role and logical lane set. -/
def State.setLane (s : State) (n role logical : Nat) : State :=
  (s.wr F.STRAND_LANE_ROLE role n).wr F.STRAND_LANE_LOGICAL logical n
/-- The physical lanes of a role, ascending. -/
def State.lanesOf (s : State) (role : Nat) : List Nat := (List.range 96).filter (fun n => s.laneRole n = role)

/-- The lanes of the map a link start begins with (R272): before the descriptor is read, those of a Y1024. -/
def State.initLanes (s : State) : State :=
  let s := forEach (List.range 96) (fun s n =>
    let s := if n < 88 then s.setLane n 1 n else s.setLane n 2 0x7F
    ((s.wr F.STRAND_LANE_LOCK 0 n).wr F.STRAND_LANE_ALIGNED 0 n).wr F.STRAND_LANE_ADV 0 n) s
  (s.wr F.STRAND_STATUS_LANES 88).wr F.STRAND_STATUS_MAPGEN 0

/-- SPARING, SPARES and the end of STRAND_NO_SPARE follow the lanes (R276, R277). -/
def State.laneStatus (s : State) : State :=
  let s := s.wrB F.STRAND_STATUS_SPARING (!s.strand.failed.isEmpty)
  let s := s.wr F.STRAND_STATUS_SPARES ((s.lanesOf 2).filter (fun n => s.bit F.STRAND_LANE_LOCK n)).length
  if s.strand.failed.isEmpty then s.levelEnd 43 else s

/-- A management command is queued for block 33 (R278). -/
def State.mgmtPush (s : State) (c : MgmtCmd) : State :=
  { s with strand := { s.strand with mgmt := s.strand.mgmt ++ [c] } }

/-- PORT: 1 requests ownership, 0 releases it (R278, R288). -/
def State.portCmd (s : State) (req : Bool) : State :=
  s.mgmtPush { op := 6, waddr := 0, data := if req then 1 else 0, dest := .first, who := .controller }

/-- The commands that a failed lane had not answered are sent again, on other lanes (R278; DEDUCED, log entry 33). -/
def State.mgmtReturn (s : State) (n : Nat) : State :=
  let back := (s.strand.outstanding.filter (fun p => p.lane = n && p.cmd.op ≠ 4 && decide (p.cmd.dest ≠ .lane n))).map
    (fun p => { p.cmd with begun := true })
  { s with strand := { s.strand with
      outstanding := s.strand.outstanding.filter (fun p => p.lane ≠ n), mgmt := back ++ s.strand.mgmt } }

/-- A physical lane is declared failed (R273, R277). -/
def State.failLane (s : State) (n : Nat) : State :=
  if s.laneRole n = 1 || s.laneRole n = 2 then
    let l := s.laneLogical n
    let s := s.setLane n 3 0x7F
    let s := { s with strand := { s.strand with
      bad := adel s.strand.bad n, outErr := adel s.strand.outErr n
      failed := if l < 88 then sadd s.strand.failed l else s.strand.failed
      newFailed := sadd s.strand.newFailed l } }
    let s := (s.mgmtReturn n).laneStatus.raise 42 (BitVec.ofNat 32 n)
    if l < 88 then s.interruptLay false true else s
  else s

/-- The lanes a SPARE already names wait for their switch frame. -/
def LaneSwitch.isRemap : LaneSwitch → Bool
  | .spare _ _ _ => false
  | .remap _ _ => true

/-- The SPARE command (R278). -/
def spareCmd (frame logical phys mapgen : Nat) : MgmtCmd :=
  { op := 4, waddr := frame % 2 ^ 22, data := BitVec.ofNat 32 (logical + phys * 128 + mapgen % 16 * 2 ^ 14)
    dest := .all, who := .controller }

/-- In the frame after a failure, spares are given (R274), or a map of a Y512 is reduced or extended (R275); a
failure that finds neither raises STRAND_NO_SPARE (R276). Lanes that fail together get one switch frame, the
lowest logical lane the lowest spare; their SPARE commands leave one per frame, since block 33 carries one
command (R278; DEDUCED, log entry 22). -/
def State.assignLanes (s : State) (frame count : Nat) : State :=
  if s.strand.geomY512 then
    let act := s.lanesOf 1
    let n := Nat.min 48 act.length
    let want := !s.strand.newFailed.isEmpty || act.any (fun p => s.laneLogical p = 0x7F) || decide (n < s.rd F.STRAND_STATUS_LANES)
    if !want || s.strand.switches.any LaneSwitch.isRemap then s
    else if n < 40 then
      if s.strand.newFailed.isEmpty then s
      else ({ s with strand := { s.strand with newFailed := [] } } : State).raise 43
        (BitVec.ofNat 32 ((sortNat s.strand.failed).headD 0))
    else
      let g := s.rd F.STRAND_STATUS_MAPGEN + 1
      { s with strand := { s.strand with
          newFailed := [], mgmt := spareCmd (frame + 8) n 0x7F g :: s.strand.mgmt
          switches := s.strand.switches ++ [.remap (count + 8) act] } }
  else
    let dead (x : LaneSwitch) : Bool := match x with
      | .spare _ _ p => s.laneRole p ≠ 2
      | .remap _ _ => false
    let lanesIn (l : List LaneSwitch) : List (Nat × Nat) := l.filterMap (fun x => match x with
      | .spare _ l p => some (l, p)
      | .remap _ _ => none)
    let lost := lanesIn (s.strand.switches.filter dead)
    let kept := s.strand.switches.filter (fun x => !dead x)
    let taken := lanesIn kept
    let todo := sortNat (s.strand.failed.filter (fun l => !taken.any (·.1 = l)))
    let free := (s.lanesOf 2).filter (fun p => s.bit F.STRAND_LANE_LOCK p && !taken.any (·.2 = p))
    let give := todo.zip free
    let left := (todo.drop free.length).filter (fun l => s.strand.newFailed.contains l || lost.any (·.1 = l))
    let g := s.rd F.STRAND_STATUS_MAPGEN
    let s := { s with strand := { s.strand with
      newFailed := []
      mgmt := give.map (fun x => spareCmd (frame + 8) x.1 x.2 g) ++ s.strand.mgmt
      switches := kept ++ give.map (fun x => LaneSwitch.spare (count + 8) x.1 x.2) } }
    forEach left (fun s l => s.raise 43 (BitVec.ofNat 32 l)) s

/-- One switch takes effect (R274, R275). -/
def State.applySwitch (s : State) (x : LaneSwitch) : State :=
  match x with
  | .spare _ l p =>
    if s.laneRole p = 2 then
      let s := s.setLane p 1 l
      { s with strand := { s.strand with failed := s.strand.failed.filter (· ≠ l) } }
    else s
  | .remap c lanes =>
    let n := Nat.min 48 lanes.length
    let s := forEach (s.lanesOf 1) (fun s p =>
      s.wr F.STRAND_LANE_LOGICAL (if lanes.contains p && lanes.idxOf p < n then lanes.idxOf p else 0x7F) p) s
    let s := (s.wr F.STRAND_STATUS_LANES n).wr F.STRAND_STATUS_MAPGEN (s.rd F.STRAND_STATUS_MAPGEN + 1)
    let gone := (List.range n).filter (fun l => s.laneRole (lanes.getD l 0) ≠ 1)
    { s with strand := { s.strand with failed := gone, remapAt := some c } }

/-- The frame count at which a switch takes effect. -/
def LaneSwitch.due : LaneSwitch → Nat
  | .spare c _ _ => c
  | .remap c _ => c

/-- Every switch due at the frame with a count; a recovery lay that waits for a lane begins in the frame that follows
(R277). -/
def State.applySwitches (s : State) (count frame : Nat) : State :=
  let due := s.strand.switches.filter (fun x => x.due ≤ count)
  if due.isEmpty then s
  else
    let s := { s with strand := { s.strand with switches := s.strand.switches.filter (fun x => decide (count < x.due)) } }
    let s := (forEach due State.applySwitch s).laneStatus
    if s.strand.failed.isEmpty then
      { s with lay := { s.lay with recover := s.lay.recover.map (fun (r : Recovery) =>
          { r with waitLane := false, at' := Nat.max r.at' (frame + 1) }) } }
    else s

/-! ### Outbound frames (R267, R268, R271, R278) -/

/-- The code nibble of every drive channel, from the drive records. -/
def State.outCodes (s : State) : Array Nat :=
  (memRange s.mem (driveRec 0) (driveRec 45056)).foldl
    (fun a p => if p.1 % 32 = 0x1A then a.setIfInBounds (p.1 / 32) (p.2.toNat % 16) else a) (Array.replicate 45056 0)

/-- Drive block `b` (0 to 31) of a logical lane. -/
def driveWord (y512 : Bool) (lanes : Nat) (codes : Array Nat) (l b : Nat) : BitVec 64 :=
  BitVec.ofNat 64 ((List.range 16).foldl (fun v i =>
    let r := (16 * b + i) * lanes + l
    if r < driveCount y512 then v + codes.getD (driveOfRank y512 r) 0 * 16 ^ i else v) 0)

/-- The outbound header without its check sum. -/
def outHeader (lane : Nat) (pilot valid hold : Bool) (mapgen frame : Nat) : Nat :=
  0xD2 + lane * 256 + boolNat pilot * 2 ^ 15 + boolNat valid * 2 ^ 16 + boolNat hold * 2 ^ 17 +
    mapgen % 16 * 2 ^ 20 + frame % 2 ^ 24 * 2 ^ 24

/-- The word of block 33 (R278). -/
def MgmtCmd.word (c : MgmtCmd) (tag : Nat) : BitVec 64 :=
  BitVec.ofNat 64 (c.op % 16 + tag % 16 * 16 + c.waddr % 2 ^ 22 * 256 + c.data.toNat * 2 ^ 32)

/-- What a lane's line carries in one frame: the header, blocks 1 to 33, and idle blocks 34 to 49 (R266, R267). -/
def frameLine (scram : Nat) (header : BitVec 64) (blocks : List (BitVec 64)) : Nat × List (BitVec 66) :=
  lineBlocks scram ((2, header.toNat) :: blocks.map (fun b => (1, b.toNat)) ++ List.replicate 16 (2, 0x1E))

/-- Every lane's outbound frame, with its scrambler and PRBS31 generator after it: an active lane's drive codes, a
spare's PRBS31 (R369), both with the management word of block 33, and the PRBS31 of a lane under test (R274). The header's HOLD bit is sent while hold is in force, under a safe
reaction too (DESIGN CHOICE, log entry 30). -/
def State.buildTx (s : State) (count frame : Nat) (words : List (Nat × BitVec 64)) : List (Option LaneTx × Nat × Nat) :=
  let codes := s.outCodes
  let y := s.strand.geomY512
  let L := s.nLanes
  let hold := s.bit F.STRAND_STATUS_HOLD
  let gen := s.rd F.STRAND_STATUS_MAPGEN
  let pilot := decide (count % 50000 = 0)
  (List.range 96).map (fun n =>
    let role := s.laneRole n
    let l := s.laneLogical n
    let scr := s.strand.scram.getD n 0
    let prb := s.strand.prbs.getD n 0
    let b33 := (alist words n).getD 0
    let tx (lane : Nat) (valid : Bool) (body : List (BitVec 64)) : LaneTx × Nat :=
      let blocks := body ++ [b33]
      let h := outHeader lane pilot valid hold gen frame
      let header := BitVec.ofNat 64 (h + frameCrc (BitVec.ofNat 64 h) blocks * 2 ^ 48)
      let x := frameLine scr header blocks
      ({ lane := n, header := header, blocks := blocks, line := x.2 }, x.1)
    if role = 1 && l < 0x7F then
      let t := tx l s.strand.driveValid ((List.range 32).map (driveWord y L codes l))
      (some t.1, t.2, prb)
    else if role = 1 || role = 2 then
      let p := prbsWords 16 4 32 prb
      let t := tx 0x7F false (p.2.map (BitVec.ofNat 64))
      (some t.1, t.2, p.1)
    else if role = 4 then
      let p := prbsWords 22 3 50 prb
      (some { lane := n, header := 0, blocks := [], line := p.2.map (BitVec.ofNat 66) }, scr, p.1)
    else (none, scr, prb))

/-! ### The write gate and the management channel (R278, R283, R285) -/

/-- The write gate: t_cart is valid and lies between ID_WRITE_TMIN and ID_WRITE_TMAX (R285, R400). -/
def State.writeGate (s : State) : Bool :=
  match s.strand.desc with
  | none => false
  | some d =>
    s.bit F.THERM_STATUS_CART_VALID && F32.le (F32.div (F32.ofInt d.idTmin) 0x41200000) s.tCart && F32.le s.tCart (F32.div (F32.ofInt d.idTmax) 0x41200000)

/-- A program's write waits for the gate, but for one to the CHALLENGE window (R283, R285); the words of an object
already begun do not, nor does a write sent before (R407). -/
def MgmtCmd.gated (c : MgmtCmd) : Bool :=
  c.op = 2 && c.who = .program && !c.begun && !(decide (0xFFFC0 ≤ c.waddr) && decide (c.waddr < 0xFFFC8))

/-- The healthy lanes, each a requester (R278): active and spare lanes that are locked. -/
def State.mgmtLanes (s : State) : List Nat :=
  (List.range 96).filter (fun n => (s.laneRole n = 1 || s.laneRole n = 2) && s.bit F.STRAND_LANE_LOCK n)

/-- The lowest tag of a lane, below a bound, that no command holds; none while all are outstanding (R278). -/
def State.freeTag (s : State) (n bound : Nat) : Option Nat :=
  let used := (s.strand.outstanding.filter (fun p => p.lane = n)).map (·.tag)
  (List.range bound).find? (fun t => !used.contains t)

/-- The loads of IDENTIFY, as word addresses and lengths (R282, R287): DESC, IDENT, AUTH, HOURS, DEFECT, WEAR, CAL and
SENSECAL. -/
def loadAreas : List (Nat × Nat) :=
  [(0, 64), (0x40, 16), (0x80, 64), (0xC0, 4), (0x400, 4098), (0x4000, 21504), (0x10000, 688128), (0xC0000, 133120)]

/-- The word address of load `k`; none past the last. -/
def loadWord : List (Nat × Nat) → Nat → Option Nat
  | [], _ => none
  | a :: l, k => if k < a.2 then some (a.1 + k) else loadWord l (k - a.2)

/-- A command goes out on a lane under a tag: a program's access becomes PENDING, and the last CHALLENGE word starts the
signing (R284). -/
def State.mgmtSend (s : State) (n tag : Nat) (c : MgmtCmd) : State :=
  let s := if c.who = .program then s.wr F.STRAND_ID_RESULT_STATUS 5 else s
  { s with strand := { s.strand with
      outstanding := s.strand.outstanding ++ [{ lane := n, tag := tag, cmd := c }]
      chalAt := if c.op = 2 && c.who = .controller && c.waddr = 0xFFFC7 then some s.time.cycle else s.strand.chalAt } }

/-- The command a lane takes from the queue, else the next load of IDENTIFY; bulk transfers so spread over all lanes
(R278, R287). -/
def State.mgmtPick (s : State) (n : Nat) (first : Bool) : Option (MgmtCmd × State) :=
  let gate := s.writeGate
  let fits (c : MgmtCmd) : Bool := (c.dest = .any || c.dest = .lane n || (first && c.dest = .first)) && (!c.gated || gate)
  match s.strand.mgmt.find? fits with
  | some c => some (c, { s with strand := { s.strand with mgmt := s.strand.mgmt.erase c } })
  | none =>
    if s.rd F.STRAND_STATUS_STATE = 3 then
      (loadWord loadAreas s.strand.loadAt).map (fun a =>
        ({ op := 1, waddr := a, data := 0, dest := .any, who := .load },
          { s with strand := { s.strand with loadAt := s.strand.loadAt + 1 } }))
    else none

/-- The management words of one frame, by lane (R278): a SPARE goes on every healthy lane, one in a frame; otherwise each
lane with a free tag takes its next command, of 15 tags: the 16th is kept for SPARE (DESIGN CHOICE, log entry 22). -/
def State.mgmtFrame (s : State) : State × List (Nat × BitVec 64) :=
  let lanes := s.mgmtLanes
  let first := (s.lanesOf 1).headD 0
  match s.strand.mgmt.find? (fun c => c.dest = .all) with
  | some c =>
    let s := if lanes.any (fun n => (s.freeTag n 16).isSome) then
        { s with strand := { s.strand with mgmt := s.strand.mgmt.erase c } }
      else s
    lanes.foldl (fun (a : State × List (Nat × BitVec 64)) n =>
      match a.1.freeTag n 16 with
      | none => a
      | some tag => (a.1.mgmtSend n tag c, a.2 ++ [(n, c.word tag)])) (s, [])
  | none =>
    lanes.foldl (fun (a : State × List (Nat × BitVec 64)) n =>
      match a.1.freeTag n 15 with
      | none => a
      | some tag =>
        match a.1.mgmtPick n (n = first) with
        | none => a
        | some p => (p.2.mgmtSend n tag p.1, a.2 ++ [(n, p.1.word tag)])) (s, [])

/-- The frame at hand goes out: its management words, its lanes, and what its inbound frame will be read by. -/
def State.emitFrame (s : State) (frame count : Nat) : State :=
  let m := s.mgmtFrame
  let s := m.1
  let out := s.buildTx count frame m.2
  let tx := out.filterMap (·.1)
  let use := (List.range 96).filter (fun n => s.laneRole n = 1 || s.laneRole n = 2)
  let e : InFlight := { frame := frame, count := count, start := if s.onRco then s.ext0 else frame * frameUnits
                        lanes := use.map (fun n => (n, s.laneLogical n)), nLanes := s.nLanes
                        mapgen := s.rd F.STRAND_STATUS_MAPGEN
                        spares := (tx.filter (fun x => s.laneRole x.lane = 2)).map (fun x => (x.lane, x.blocks.take 32)) }
  { s with strand := { s.strand with
      tx := tx, scram := out.map (·.2.1), prbs := out.map (·.2.2), count := count + 1, sentFrame := frame + 1
      flight := (s.strand.flight ++ [e]).drop (s.strand.flight.length - 1) } }

/-- Time passes to the beginning of the next outbound frame: its TB0 boundary, or one frame of the lanes after the last while
TB0 does not bind them (R267, R343, R423). -/
def State.frameBegins (s : State) : State :=
  if s.strand.sentFrame = 0 then s.passTo (ceilDiv s.ext0 frameUnits * frameUnits)
  else if s.onRco then s.passToCycle (s.strand.sentCycle + 160)
  else s.passTo (s.strand.sentFrame * frameUnits)

/-- The number of the outbound frame at hand. -/
def State.frameNo (s : State) : Nat :=
  if s.onRco && s.strand.sentFrame ≠ 0 then s.strand.sentFrame - 1 + (s.time.cycle - s.strand.sentCycle) / 160 else s.frame

/-- The TIME cycle at which the frame at hand began. -/
def State.frameCycle (s : State) (frame : Nat) : Nat :=
  if s.onRco && s.strand.sentFrame ≠ 0 then s.strand.sentCycle + 160 * ((s.time.cycle - s.strand.sentCycle) / 160)
  else s.time.cycle - (s.ext0 - frame * frameUnits) / (2 * nsUnit)

/-- The next frame is sent (R267, R268): the instant of its boundary, the switches it brings, a reverting
lay that begins in it, its drive codes and its lanes. -/
def State.sendStrandFrame (s : State) : State :=
  let s := s.frameBegins
  let frame := s.frameNo
  let s := { s with strand := { s.strand with sentCycle := s.frameCycle frame } }
  let count := s.strand.count
  let s := s.applySwitches count frame
  let s := if s.strand.remapAt = some count then s else s.assignLanes frame count
  let s := match s.lay.recover with
    | some r =>
      if r.kind = LayKind.reverting && r.at' ≤ frame && s.mayRecover r then s.beginRecovery r
      else s
    | none => s
  let s := if count % 10 = 0 then s.periodBegins else s
  let s := (s.laggingOpen frame).driveFrame frame
  let s := s.wrB F.STRAND_STATUS_HOLD (s.holdOn || s.onRco || decide (s.ext0 < s.fault.holdTill))
  let s := if count % 10 = 0 then s.wr F.LOOP_PERIOD_P (count / 10) else s
  s.emitFrame frame count

/-! ### Inbound frames (R269, R270, R273, R279) -/

/-- A lane's inbound frame came within the window of R270. -/
def rxInWindow (r : LaneRx) : Bool := decide (r.offset = 0)

/-- An inbound frame of one physical lane is valid (R269): it answers the outbound frame `e`. -/
def InFlight.valid (e : InFlight) (r : LaneRx) : Bool :=
  let h := r.header.toNat
  r.blocks.length = 37 && rxInWindow r && h % 256 = 0xE1 && (alist e.lanes r.lane).any (fun l => l = h / 256 % 128) &&
    h / 2 ^ 24 % 2 ^ 24 = e.frame % 2 ^ 24 && h / 2 ^ 20 % 16 = e.mapgen % 16 &&
    h / 2 ^ 48 = frameCrc r.header r.blocks

/-- The sense bits the valid lanes of a frame carry (R271), in ascending channel order. -/
def State.senseBits (s : State) (e : InFlight) (rxs : List LaneRx) : List (Nat × BitVec 3) :=
  let L := e.nLanes
  let y := s.strand.geomY512
  let blocks : Array (Array (BitVec 64)) := rxs.foldl
    (fun a r => a.setIfInBounds ((alist e.lanes r.lane).getD 0x7F) r.blocks.toArray) (Array.replicate 127 #[])
  (List.range (senseCount y)).filterMap (fun r =>
    let bs := blocks.getD (r % L) #[]
    if bs.size = 0 then none
    else
      let b (j : Nat) : Nat :=
        let p := 3 * (r / L) + j
        boolNat ((bs.getD (p / 64) 0).getLsbD (p % 64))
      some (senseOfRank y r, BitVec.ofNat 3 (4 * b 0 + 2 * b 1 + b 2)))

/-- The two echo entries of a block 37 (R279). -/
def echoEntries (w : BitVec 64) : List (Nat × Nat) :=
  let v := w.toNat
  [v / 16 % 2 ^ 28, v / 2 ^ 32 % 2 ^ 28].map (fun e => (e % 512, e))

/-- The echoes a lane's block 37 delivers. -/
def State.laneEcho (s : State) (f : InFlight) (r : LaneRx) : List Echo :=
  let w := r.blocks.getD 36 0
  let l := (alist f.lanes r.lane).getD 0x7F
  if w.toNat % 16 = 1 && l < 0x7F then
    (echoEntries w).filterMap (fun e =>
      let rank := e.1 * f.nLanes + l
      if rank < driveCount s.strand.geomY512 then
        some { chan := driveOfRank s.strand.geomY512 rank, level := BitVec.ofNat 16 (e.2 / 2 ^ 12)
               rest := e.2.testBit 9, replay := e.2.testBit 10, count := f.count }
      else none)
  else []

/-! ### Write-back (R285) -/

/-- The words of an object's write-back, as (word address, datum): the committed sets and CAL_COUNT of a cell (R251). -/
def State.wbCalWords (s : State) (c : Nat) : List (Nat × W32) :=
  let area := s.committedCal
  (List.range 32).map (fun k =>
    (0x10000 + 32 * c + k, if k < 30 then BitVec.ofNat 32 (memNat area (cellRec c + 0x40 + 4 * k) 4) else if k = 30 then s.cw c 0xB8 else 0))

/-- The words of an object: CAL entry, wear counter, THERMAL (R282, R285). -/
def State.wbWords (s : State) (kind c : Nat) : List (Nat × W32) :=
  if kind = 0 then s.wbCalWords c
  else if kind = 1 then [(0x4000 + c, s.cw c 0xC8)]
  else (List.range 98).map (fun k => (0x100 + k, (alist s.strand.thermal k).getD 0))

/-- Objects flagged (R285, `STRAND_WB`): one in progress counts. -/
def State.wbCount (s : State) : Nat :=
  s.strand.wbCal.length + s.strand.wbWear.length + boolNat s.strand.wbThermal + boolNat s.strand.wbNow.isSome

/-- An object is flagged. -/
def State.wbFlag (s : State) (kind c : Nat) : State :=
  { s with strand :=
    if kind = 0 then { s.strand with wbCal := sadd s.strand.wbCal c }
    else if kind = 1 then { s.strand with wbWear := sadd s.strand.wbWear c }
    else { s.strand with wbThermal := true } }

/-- The flagged object that is written next (R285): CAL entries, wear counters, THERMAL. -/
def State.wbNext (s : State) : Option (Nat × Nat) :=
  match sortNat s.strand.wbCal with
  | c :: _ => some (0, c)
  | [] => match sortNat s.strand.wbWear with
    | c :: _ => some (1, c)
    | [] => if s.strand.wbThermal then some (2, 0) else none

/-- The flagged objects wait for the gate: each counts as deferred once, and the first after the gate closed raises
WRITE_DEFERRED (R285, R408). -/
def State.wbDefer (s : State) : State :=
  let objs := s.strand.wbCal.map (fun c => 3 * c) ++ s.strand.wbWear.map (fun c => 3 * c + 1) ++
    (if s.strand.wbThermal then [2] else [])
  let new := objs.filter (fun o => !s.strand.wbDeferred.contains o)
  let s := { s with strand := { s.strand with wbDeferred := s.strand.wbDeferred ++ new } }
  if new.isEmpty then s
  else
    let s := s.inc F.STRAND_WB_DEFERRED new.length
    if s.therm.idDefer then s
    else ({ s with therm := { s.therm with idDefer := true } } : State).raise 70 2

/-- Where none is under way, the next flagged object begins, while the gate is open and this port owns the drive (R283,
R285); its words spread over the lanes. -/
def State.wbBegin (s : State) : State :=
  if s.strand.wbNow.isSome || !s.bit F.STRAND_STATUS_OWNER then s
  else if !s.writeGate then s.wbDefer
  else match s.wbNext with
    | none => s
    | some o =>
      let ws := s.wbWords o.1 o.2
      { s with strand := { s.strand with
          wbCal := if o.1 = 0 then s.strand.wbCal.filter (· ≠ o.2) else s.strand.wbCal
          wbWear := if o.1 = 1 then s.strand.wbWear.filter (· ≠ o.2) else s.strand.wbWear
          wbThermal := s.strand.wbThermal && decide (o.1 ≠ 2)
          wbNow := some { kind := o.1, cell := o.2, left := ws.length, bad := false }
          mgmt := s.strand.mgmt ++ ws.map (fun p =>
            { op := 2, waddr := p.1, data := p.2, dest := .any, who := .writeBack }) } }

/-- A word of the object in progress is answered: with the last one the object is written, and the next begins; where an
answer was not OK its flag stands again, and it waits for the next WRITE_BACK (R285; DEDUCED, log entry 33). -/
def State.wbAnswer (s : State) (ok : Bool) : State :=
  match s.strand.wbNow with
  | none => s
  | some o =>
    let bad := o.bad || !ok
    if 1 < o.left then { s with strand := { s.strand with wbNow := some { o with left := o.left - 1, bad := bad } } }
    else
      let s := { s with strand := { s.strand with wbNow := none } }
      if bad then s.wbFlag o.kind o.cell
      else
        let cal := s.redund.image.cal.filter (fun p => p.1 ≠ o.cell)
        let s := if o.kind = 0 && !s.strand.wbCal.contains o.cell && cal ≠ s.redund.image.cal then
            ({ s with redund := { s.redund with image := { s.redund.image with cal := cal } } } : State).ckptTouch .cal
          else s
        s.wbBegin

/-- WRITE_BACK: the flagged objects are written in their order while the gate is open, and counted deferred while it
is closed, the first of them raising WRITE_DEFERRED (R285, R355, R408). -/
def State.writeBack (s : State) : State :=
  let s := s.wrB F.STRAND_WB_GATE s.writeGate
  if s.writeGate then
    ({ s with therm := { s.therm with idDefer := false }
              strand := { s.strand with wbDeferred := [] } } : State).wbBegin
  else s.wbDefer

/-! ### Answers (R279, R283) -/

/-- A command is answered with a status other than BUSY. -/
def State.mgmtDone (s : State) (c : MgmtCmd) (st data : Nat) : State :=
  match c.who with
  | .program =>
    let s := s.wr F.STRAND_ID_RESULT_STATUS (if st = 0 then 1 else if st = 2 then 3 else 2)
    if c.op = 1 && st = 0 then s.wr F.STRAND_ID_RESULT_DATA data else s
  | .writeBack => s.wbAnswer (st = 0)
  | .controller => s
  | .load => s

/-- Block 37 of a lane (R279): a response answers the command outstanding on its lane under its tag, BUSY sends it
again; a status reports the lane's replay. -/
def State.laneItem (s : State) (r : LaneRx) : State :=
  let w := (r.blocks.getD 36 0).toNat
  if w % 16 = 3 then { s with strand := { s.strand with replay := aset s.strand.replay r.lane (w / 16 % 2 ^ 28) } }
  else if w % 16 = 2 then
    match s.strand.outstanding.find? (fun p => p.lane = r.lane && p.tag = w / 16 % 16) with
    | none => s
    | some p =>
      let s := { s with strand := { s.strand with outstanding := s.strand.outstanding.erase p } }
      if w / 256 % 16 = 3 then
        let again := { p.cmd with begun := true, dest := if p.cmd.dest = .all then .lane r.lane else p.cmd.dest }
        { s with strand := { s.strand with mgmt := again :: s.strand.mgmt } }
      else s.mgmtDone p.cmd (w / 256 % 16) (w / 2 ^ 32)
  else s

/-- In ALIGNING, a lane whose header comes outside the window is sent an ALIGN of the blocks it lacks, one at a time
(R270, R278, R287; the advance is relative: DEDUCED, log entry 33). -/
def State.laneAlign (s : State) (r : LaneRx) : State :=
  let waits (c : MgmtCmd) : Bool := c.op = 5 && c.dest = .lane r.lane
  let s := s.wrB F.STRAND_LANE_ALIGNED (decide (r.blocks ≠ []) && rxInWindow r) r.lane
  if rxInWindow r || r.blocks.isEmpty || s.strand.mgmt.any waits || s.strand.outstanding.any (fun p => waits p.cmd) then s
  else
    let a := BitVec.ofInt 8 r.offset
    (s.mgmtPush { op := 5, waddr := 0, data := a.setWidth 32, dest := .lane r.lane, who := .controller }).wr
      F.STRAND_LANE_ADV (BitVec.ofNat 8 (s.rd F.STRAND_LANE_ADV r.lane) + a).toNat r.lane

/-- What the header of a valid inbound frame shows of the port (R269). -/
def State.lanePort (s : State) (count : Nat) (r : LaneRx) : State :=
  let own := r.header.getLsbD 15
  let s := if own && !s.bit F.STRAND_STATUS_OWNER then
      { s with strand := { s.strand with grantCount := count } }
    else s
  let s := (s.wrB F.STRAND_STATUS_OWNER own).wrB F.STRAND_STATUS_PORT (r.header.getLsbD 18)
  if s.bit F.REDUND_CTRL_EN then s.wrB F.REDUND_STATUS_PRIMARY (!r.header.getLsbD 18) else s

/-- One lane's inbound frame is counted (R273): an invalid one, and an OUT_ERR; an invalid frame ends a run of OUT_ERR. -/
def State.laneCount (s : State) (valid : Bool) (r : LaneRx) : State :=
  let n := r.lane
  if valid then
    let e := if r.header.getLsbD 19 then (alist s.strand.outErr n).getD 0 + 1 else 0
    { s with strand := { s.strand with bad := adel s.strand.bad n, outErr := aset s.strand.outErr n e } }
  else
    let s := s.inc F.STRAND_LANE_ERR 1 n
    { s with strand := { s.strand with bad := aset s.strand.bad n ((alist s.strand.bad n).getD 0 + 1)
                                       outErr := adel s.strand.outErr n } }

/-- The echoes held, with new ones taking the place of old. -/
def mergeEchoes (old new : List Echo) : List Echo :=
  let marks := new.foldl (fun (a : Array Bool) e => a.setIfInBounds e.chan true) (Array.replicate 45056 false)
  new ++ old.filter (fun e => !marks.getD e.chan false)

/-! ### Presets from the echo (R192, R215, R288) -/

/-- The latest echo of a channel. -/
def State.echoOf (s : State) (ch : Nat) : Option Echo := s.strand.echoes.find? (·.chan = ch)

/-- A cell in service is preset from the echo of its arms (R192, R215). -/
def State.echoPreset (s : State) (c : Nat) : State :=
  match s.echoOf (2 * c), s.echoOf (2 * c + 1) with
  | some a, some b =>
    let lv (e : Echo) : Int := if s.polOf e.chan then -e.level.toInt else e.level.toInt
    (s.leavePowerUp [2 * c, 2 * c + 1]).presetCell c (echoPhase (s.gainOf c false) (s.gainOf c true) (lv a) (lv b)) 0
  | _, _ => s

/-! ### Inbound frames received -/

/-- The cells that wait for the next echo of their arms take their presets as the echoes come (R192). -/
def State.echoWaits (s : State) (new : List Echo) : State :=
  if s.loop.echoWait.isEmpty then s
  else
    let seen := s.loop.echoSeen ++ (new.map (·.chan)).filter (fun ch => s.loop.echoWait.contains (ch / 2))
    let ready := s.loop.echoWait.filter (fun c => seen.contains (2 * c) && seen.contains (2 * c + 1))
    let s := { s with loop := { s.loop with echoSeen := seen.filter (fun ch => !ready.contains (ch / 2))
                                            echoWait := s.loop.echoWait.filter (fun c => !ready.contains c) } }
    forEach ready State.echoPreset s

/-- What spare lanes brought back of their PRBS31, in bits that differ (R369). -/
def InFlight.prbsErrors (e : InFlight) (valid : List LaneRx) : Nat :=
  (e.spares.map (fun p => match valid.find? (fun r => r.lane = p.1) with
    | some r => ((p.2.zip (r.blocks.take 32)).map (fun b => popcount (b.1 ^^^ b.2).toNat 64)).sum
    | none => 0)).sum

/-- A lane error stands at a STANDBY unit (R369, R370). -/
def State.laneError (s : State) : State :=
  if s.rd F.REDUND_STATUS_ROLE ≠ 2 then s
  else
    let s := s.wrB F.REDUND_HEALTH_LANE_ERR true
    ({ s with redund := { s.redund with prbsAt := s.time.cycle } } : State).raise 54 4

/-- In STANDBY, spare lanes are compared with what they carried (R369). -/
def State.prbsCheck (s : State) (n : Nat) : State :=
  if n = 0 || s.rd F.REDUND_STATUS_ROLE ≠ 2 then s else (s.inc F.REDUND_HEALTH_PRBS_ERR n).laneError

/-- The inbound frame that answers outbound frame `e`, complete 440 ns after its start (R269, R270, R273, R279): one
entry per physical lane that received one; from IDENTIFY on, a lane in use that received none counts an invalid frame. -/
def State.recvStrandFrame (s : State) (e : InFlight) (rxs : List LaneRx) : State :=
  let s := s.passTo (e.start + 440 * nsUnit)
  let use := e.lanes.filter (fun p => s.laneRole p.1 = 1 || s.laneRole p.1 = 2)
  let got := use.map (fun p => (rxs.find? (·.lane = p.1)).getD { lane := p.1, offset := 0, header := 0, blocks := [] })
  if s.rd F.STRAND_STATUS_STATE = 2 then forEach got State.laneAlign s
  else
    let judged := got.map (fun r => (e.valid r, r))
    let valid := (judged.filter (·.1)).map (·.2)
    let active := valid.filter (fun r => (alist e.lanes r.lane).getD 0x7F < 0x7F)
    let s := forEach judged (fun s p => s.laneCount p.1 p.2) s
    let s := s.prbsCheck (e.prbsErrors valid)
    let s := if s.strand.geomY512 && judged.any (fun p => !p.1) then s.laneError else s
    let s := match valid with
      | [] => s
      | r :: _ => s.lanePort e.count r
    let new := active.flatMap (fun r => s.laneEcho e r)
    let s := { s with strand := { s.strand with echoes := mergeEchoes s.strand.echoes new } }
    let s := (forEach valid State.laneItem s).echoWaits new
    let s := s.senseFrame e.count e.frame (s.senseBits e active)
    forEach ((use.map (·.1)).filter (fun n => decide (4 ≤ (alist s.strand.bad n).getD 0) || decide (4 ≤ (alist s.strand.outErr n).getD 0)))
      State.failLane s

/-- A unit of a pair granted the drive outside a transfer starts its stream (R352). -/
def State.takeInbound (s : State) (e : InFlight) (rxs : List LaneRx) : State :=
  let was := s.bit F.STRAND_STATUS_OWNER
  let s := s.recvStrandFrame e rxs
  if s.bit F.REDUND_CTRL_EN && s.rd F.REDUND_STATUS_ROLE = 3 && s.redund.kind = 0 && !was &&
      s.bit F.STRAND_STATUS_OWNER && s.bit F.STRAND_STATUS_DESC_OK then
    { s with strand := { s.strand with streamWait := true } }
  else s

/-- An inbound frame comes: the one for the older of two frames in flight is taken at once; one for the frame last sent
ends 120 ns after the next frame begins, and waits for it (R267, R270; log entry 2). -/
def State.inbound (s : State) (rxs : List LaneRx) : State :=
  match s.strand.flight with
  | e :: _ :: _ => ({ s with strand := { s.strand with flight := s.strand.flight.drop 1 } } : State).takeInbound e rxs
  | [_] => if s.strand.rxHeld.isSome then s else { s with strand := { s.strand with rxHeld := some rxs } }
  | [] => s

/-- An inbound frame that waited is taken once the next outbound frame has begun (R270). -/
def State.inboundHeld (s : State) : State :=
  match s.strand.rxHeld with
  | some rxs => ({ s with strand := { s.strand with rxHeld := none } } : State).inbound rxs
  | none => s

/-! ### The stream (R288) -/

/-- The cartridge lets a stream start: an accepted descriptor, and authentication where it is required (R42, R284). -/
def State.cartOk (s : State) : Bool :=
  s.bit F.STRAND_STATUS_DESC_OK && (!s.bit F.STRAND_CTRL_AUTH_REQ || s.bit F.STRAND_STATUS_AUTH_OK)

/-- An echo received after the grant is held for every present drive channel (R288). -/
def State.echoComplete (s : State) : Bool :=
  decide (driveCount s.strand.geomY512 ≤ (s.strand.echoes.filter (fun e => decide (s.strand.grantCount < e.count))).length)

/-- DRIVE_VALID = 1 from the next frame (R288). -/
def State.streamOn (s : State) : State :=
  let s := s.wr F.STRAND_STATUS_STATE 5
  let s := { s with strand := { s.strand with streamWait := false, driveValid := true } }
  let s := { s with drive := { s.drive with powerUp := false } }
  { s with lay := { s.lay with recover := s.lay.recover.map (fun (r : Recovery) =>
      if r.waitStream then { r with waitStream := false, at' := Nat.max r.at' s.strand.sentFrame } else r) } }

/-- DRIVE_VALID = 0 from the next frame (R288): the link falls back to READY, and a lay in progress is
interrupted (R175). -/
def State.streamOff (s : State) : State :=
  if s.rd F.STRAND_STATUS_STATE = 5 then
    let s := s.wr F.STRAND_STATUS_STATE 4
    let s := { s with strand := { s.strand with streamWait := false, driveValid := false } }
    s.interruptLay true false
  else { s with strand := { s.strand with streamWait := false, driveValid := false } }

/-! ### The state an image gives back (R363, R364, R476) -/

/-- The weave built from the landed set and the route table (R476). -/
def State.imageWeave (s : State) (im : CkptImage) : Weave :=
  let y := s.strand.geomY512
  let occ := im.routes.foldl (fun (o : Occ) r => o.place y r.input r.dir) Occ.empty
  let w := { Weave.empty with
    epoch := im.landedEpoch
    conns := im.landed.map (fun (c : Conn) => c.toRec false)
    routes := im.routes
    states := placedCodes y occ (retiredCells s.solve.dmap) []
    dmapGen := s.rdW F.SOLVE_HEALTH_DMAP_GEN, foldGen := s.rdW F.SOLVE_HEALTH_FOLD_GEN }
  ({ w with degrades := w.unrouted } : Weave).counted y

/-- The epochs an image does not show are unknown (R366): their ACCEPTED commands end LATE, detail NOT_OPEN, the solve
stops and every slot is free (R143; which status such commands take is the model's choice, log entry 26). -/
def State.dropEpochs (s : State) : State :=
  let s := forEach (s.ledger.epochs.filter (fun (x : Epoch) => !x.ended)) (fun s x =>
    s.abortOne x.num (St.late 2) (fun _ => St.late 2)) s
  let s := forEach (List.range 16) (fun s n => s.setSlot n 0 0) s
  { s with ledger := { s.ledger with epochs := [], opened := [], laid := none }
           net := { s.net with corrective := none, target := none, missedTo := none }
           solve := { s.solve with running := none, weaveBad := [] }
           loop := { s.loop with deferred := [] }
           lay := { s.lay with staged := [], lagging := [], cur := none, recover := none, interrupted := none, vfyClosed := [] } }

/-- The last opened epoch as HEADER gives it (R64, R366): none where none was opened.  Its seal instant is not in the
image, so that the recorded lay instant stands for it. -/
def State.lastOpenedOf (s : State) (im : CkptImage) : Option (W32 × Nat × Nat) :=
  let f := (s.frameNear im.layFrame).toNat
  if im.opened then some (im.lastOpened, f, f * frameUnits) else none

/-- The resident image is put in force (R362, R366, R476): truth copies, the LAID slot, cell states, live counts. -/
def State.imageInForce (s : State) (im : CkptImage) : State :=
  let s := s.dropEpochs
  let w := s.imageWeave im
  let slot : Fin 16 := 0
  let cp : LedgerCopy := { gen := s.ledger.cur.gen + 1, stableEpoch := im.stableEpoch, landedEpoch := im.landedEpoch
                           stable := im.stable, landed := im.landed, good := true }
  let s := s.putWeave slot.val 4 w
  let s := (s.wr F.SOLVE_SLOTS_STATE 4 0 0 slot.val).wr F.SOLVE_SLOT_EPOCH_EPOCH im.landedEpoch.toNat slot.val
  let x : Epoch := { num := im.landedEpoch, st := .landed, layFrame := im.layFrame.toNat, sealT := 0, margin := 0, timeout := 0
                     noblank := false, verify := false, base := none, slot := some slot, evaluated := true
                     planned := some im.landed, health := none, layBegun := true, passed := false, outcome := St.landed
                     codes := w.states, routes := w.routes, endT := s.ext0, net := none }
  let s := { s with
    ledger := { s.ledger with
      copyA := cp, copyB := cp, laid := some slot, stableCells := w.states, stableRoutes := w.routes
      stableNum := some im.stableEpoch, epochs := [x], noLays := false
      opened := [im.landedEpoch], lastOpened := s.lastOpenedOf im }
    redund := { s.redund with image := { im with dmap := s.solve.dmap } } }
  let s := (s.forceDmap s.solve.dmap).carryWear im.wear
  let s := forEach (presentCells s.strand.geomY512) (fun s c => s.setCCtrl c 0 2 (w.code c)) s
  let s := forEach w.litConns (fun s c => (s.setDCtrl (inShut c.1) 20 1 1).setDCtrl (outShut c.2) 20 1 1) s
  if s.bit F.STRAND_STATUS_DESC_OK then s.restIdle.restClosed else s

/-- The LAID weave that a marked change makes of the base weave (R364): states from the change list, connections from the
connection records, and the routes that the cells' codes then spell. -/
def State.rolledWeave (s : State) (im : CkptImage) (slot : Nat) (b : Weave) : Weave :=
  let y := s.strand.geomY512
  let gone (c : ConnRec) : Bool := im.markConns.any (fun m => m.input = c.input && m.output = c.output)
  let conns := sortBy (fun a c => decide (a.input ≤ c.input)) (b.conns.filter (fun c => !gone c) ++ im.markConns.filter (·.valid))
  let states := sortBy (fun a c => decide (a.1 ≤ c.1)) ((b.states.filter (fun p => !im.markCells.any (·.1 = p.1))) ++
    (im.markCells.map (fun m => (m.1, m.2.1))).filter (·.2 ≠ 2))
  let w := { b with
    epoch := im.markEpoch, full := false, baseSlot := slot, rearranged := false, conns := conns, states := states
    routes := tracedRoutes y (states.foldl (fun (a : Array Nat) (p : Nat × Nat) => a.setIfInBounds p.1 p.2) (Array.replicate 21504 2)) conns
    changes := im.markCells.map (fun (m : Nat × Nat × Bool) => (m.1, m.2.2))
    moves := im.markConns.filter (fun c => c.valid && c.moved) }
  ({ w with degrades := w.unrouted } : Weave).counted y

/-- A lay found STROBED is rolled forward (R364): its weave in a slot of its own, its changing cells preset from the echo and
their taps re-phased from the first applied frame, where its settle checks begin. -/
def State.rollForward (s : State) (im : CkptImage) : State :=
  match s.ledger.laid with
  | none => s
  | some n =>
    let w := s.rolledWeave im n.val (s.weave n.val)
    let free := ((List.range 16).find? (fun k => s.rd F.SOLVE_SLOTS_STATE 0 0 k = 0)).getD 1
    let slot : Fin 16 := Fin.ofNat 16 free
    let s := (s.putWeave slot.val 3 w).setSlot slot.val 3 im.markEpoch
    let cells := im.markCells.map (fun m => (m.1, m.2.1))
    let first := s.strand.sentFrame
    let s := forEach cells (fun s c =>
      let s := (s.setCCtrl c.1 0 2 c.2).noteStep c.1
      let s := forEach [0, 1, 2] (fun s k => s.rephase (3 * c.1 + k) first) s
      if c.2 < 2 then
        (((((s.setCCtrl c.1 14 2 0).setCellInj c.1 none).echoPreset c.1).setCStat c.1 5 1 1).setCStat c.1 4 1 1).setCStat c.1 16 8 0
      else (s.toRest (2 * c.1)).toRest (2 * c.1 + 1)) s
    let noblank := im.markOpts % 2 = 1
    let dm := s.solve.dmapForce
    let pair (c : ConnRec) : Nat × Nat := (c.input, c.output)
    let moved := im.markConns.map pair
    let blankable := moved.filter (fun c => !(closable dm c).isEmpty)
    let new := ((im.markConns.filter (·.valid)).map pair).filter (fun c => blankable.contains c)
    let l := newLay .rolled im.markEpoch slot (first - im.markS) im.markS (s.rd F.LAY_SETTLE_LEVEL) (s.rd F.LAY_SETTLE_COUNT)
      (s.rd F.LAY_TIMING_TIMEOUT) (s.rdW F.LOOP_BUDGET_BETA) cells moved (if noblank then [] else new)
    let landed := w.conns.map (fun (c : ConnRec) => ({ input := c.input, output := c.output, pinned := c.pinned, epoch := c.epoch } : Conn))
    let x : Epoch := { num := im.markEpoch, st := .staged, layFrame := first - im.markS, sealT := 0, margin := 0
                       timeout := s.rd F.LAY_TIMING_TIMEOUT, noblank := noblank, verify := im.markOpts / 2 % 2 = 1
                       base := none, slot := some slot, evaluated := true, planned := some landed, health := none
                       layBegun := true, passed := false, outcome := St.none, codes := [], routes := [], endT := 0, net := none }
    let l := { l with noblank := noblank, verify := im.markOpts / 2 % 2 = 1, strobed := true, handed := true
                      nBlanked := if noblank then 0 else blankable.length
                      nUnblankedMoves := if noblank then moved.length else moved.length - blankable.length }
    ({ s with
      ledger := { s.ledger with epochs := s.ledger.epochs ++ [x], opened := im.markEpoch :: s.ledger.opened } } : State).setLay l

/-- What the lay of LAYMARK comes to at the unit that takes over (R364, R367): withdrawn, rolled forward, or interrupted where its
records are not all held or no lay may be made. -/
def CkptImage.markEnd (im : CkptImage) (noLays : Bool) : Status :=
  if im.markState = 1 then St.aborted 0x201
  else if im.markComplete && !noLays then St.landed else St.aborted 0x206

/-- LAYMARK is completed (R364). -/
def State.completeMark (s : State) (im : CkptImage) : State :=
  if im.markState = 0 then s
  else
    let st := im.markEnd s.ledger.noLays
    if st = St.landed then s.rollForward im
    else
      let s := if im.markListed then
          ({ s with ledger := { s.ledger with
            opened := im.markEpoch :: s.ledger.opened
            outcomes := ((im.markEpoch, false, st) :: s.ledger.outcomes).take 256 } } : State).fireHook 8 im.markEpoch
        else s
      let s := if im.markState = 2 && !s.ledger.noLays then
          { s with lay := { s.lay with recover := s.restoreAll s.strand.sentFrame } }
        else s
      s.markState im.markEpoch 0

/-- The echo of a channel shows REST. -/
def State.restEchoes (s : State) : Array Bool :=
  s.strand.echoes.foldl (fun (a : Array Bool) e => if e.rest then a.setIfInBounds e.chan true else a) (Array.replicate 45056 false)

/-- The cells in service whose echoes both show REST. -/
def State.restedCells (s : State) : List Nat :=
  let rest := s.restEchoes
  s.serviceCells.filter (fun c => rest.getD (2 * c) false && rest.getD (2 * c + 1) false)

/-- The transfer is hitless (R363): the replay that every lane last reported lies within REPLAY_MS, and no cell in service has been
put to rest, as a safe reaction at the old active would. -/
def State.echoHitless (s : State) : Bool :=
  s.strand.replay.all (fun p => decide (p.2 < (s.strand.desc.map (·.replayMs)).getD 0)) && s.restedCells.isEmpty

/-- The restoring lay of a transfer that is not hitless (R363): the cells at rest, and the connections that pass them or whose
shutters are at rest otherwise than by the marked lay's F0. -/
def State.restLay (s : State) (im : CkptImage) : Option Recovery :=
  if s.echoHitless || s.ledger.noLays then none
  else
    match s.restoreAll s.strand.sentFrame, s.ledger.laid with
    | some r, some n =>
      let w := s.weave n.val
      let rest := s.restEchoes
      let rested := s.restedCells
      let marked (c : Nat × Nat) : Bool := decide (im.markState ≠ 0) && im.markConns.any (fun m => m.input = c.1 || m.output = c.2)
      let conns := r.conns.filter (fun c => ((rest.getD (inShut c.1) false || rest.getD (outShut c.2) false) && !marked c) ||
        (w.connCells s.strand.geomY512 c.1).any (fun k => rested.contains k))
      some { r with cells := r.cells.filter (fun c => rested.contains c.1), conns := conns, allOut := false
                    close := conns.flatMap (closable s.solve.dmapForce) }
    | _, _ => none

/-- The connections whose shutters are open in the first applied frame (R363, R364): those of the base weave that have a route, but
for those a restoring lay unblanks and, under a lay found STROBED, those its F0 closed; a NOBLANK lay has opened its added ones. -/
def State.firstLit (s : State) (im : CkptImage) (r : Option Recovery) : List (Nat × Nat) :=
  match s.ledger.laid with
  | none => []
  | some n =>
    let rolled := decide (im.markState = 2)
    let base := (s.weave n.val).litConns.filter (fun c =>
      !(rolled && im.markConns.any (fun m => (m.input = c.1 || m.output = c.2) && (im.markOpts % 2 = 0 || !m.valid))))
    let added := if rolled && im.markOpts % 2 = 1 then (im.markConns.filter (·.valid)).map (fun c => (c.input, c.output)) else []
    (base ++ added).filter (fun c => !r.any (fun r => r.conns.contains c))

/-- The stream starts from an image (R362 to R364, R375): presets from the echo, the shutters of the connections that are lit, a
restoring lay where the transfer is not hitless, and the marked lay completed. -/
def State.startFromImage (s : State) (im : CkptImage) : State :=
  let r := s.restLay im
  let lit := s.firstLit im r
  let s := forEach s.serviceCells State.echoPreset s
  let dark := s.openShutters.filter (fun ch =>
    !lit.any (fun c => inShut c.1 = ch || outShut c.2 = ch) && !dmapHas s.solve.dmapForce 3 ch)
  let s := forEach dark State.closeShutter s
  let s := forEach (lit.flatMap (fun c => [inShut c.1, outShut c.2])) State.openShutter s
  let s := s.streamOn
  let s := { s with lay := { s.lay with recover := r.orElse (fun _ => s.lay.recover) } }
  s.completeMark im

/-! ### Link start (R287) -/

/-- A running verification pass ends, and a new one for the same request starts with the first pilot frame (R242). -/
def State.restartPass (s : State) : State :=
  match s.sense.pass with
  | none => s
  | some v =>
    let s := s.endPass
    match v.byLay, v.recIdx with
    | true, some rec =>
      let p : LayPass := { epoch := v.epoch, record := rec, expects := v.expects, since := 0, again := true }
      { s with sense := { s.sense with layPass := some p } }
    | _, _ => { s with sense := { s.sense with redo := true } }

/-! ### Records at link start (R29, R198, R210, R224, R476) -/

/-- The default dither row of a cell (R29). -/
def ditherRow (c : Nat) : Nat := 1 + (c % 1024 + 23 * (c / 1024)) % 63

/-- A cell record as a link start leaves it: the parameters at their defaults (R198); at the first one after eclosion
the cell is PARK and the rest is zero (R476). -/
def startCell (first : Bool) (c : Nat) (r : List Host.Cell) : List Host.Cell :=
  let a := cellRec c
  let ctrl := if first then 2 else memNat r a 4 - memNat r a 4 / 256 % 64 * 256 - memNat r a 4 / 65536 % 4 * 65536
  let r := if first then [] else r
  let r := memPut r a 4 (ctrl + ditherRow c * 256 + 65536)
  memPut (memPut (memPut r (a + 0x20) 4 0) (a + 0x24) 4 0x451C4000) (a + 0x28) 12 0x3C23D70A

/-- A drive record as a link start leaves it: its power-up code, no debt, RATE's default (R210, R224, R226). -/
def State.startDrive (s : State) (first : Bool) (rate : Nat) (ch : Nat) (r : List Host.Cell) : List Host.Cell :=
  let a := driveRec ch
  let kind := if ch < 43008 then ch % 2 else if ch < 44032 then 2 else 3
  let r := if first then memPut [] a 4 (kind + boolNat (s.polBit ch) * 64 + s.puCode ch * 4096 + s.fltCode ch * 65536)
    else memPut r a 4 (memNat r a 4 - memNat r a 4 / 256 % 2 * 256)
  let r := memPut (memPut r (a + 8) 4 rate) (a + 0x16) 4 0
  memPut r (a + 0x1A) 2 (s.puCode ch)

/-- A sense record as a link start leaves it: its pairs begin anew (R232); its held values stay (R236). -/
def startSense (ch : Nat) (r : List Host.Cell) : List Host.Cell :=
  let a := senseRec ch
  memPut r a 4 (memNat r a 4 - memNat r a 4 / 1024 % 2 * 1024)

/-- The records at a link start: before the descriptor is read every object of a Y1024 (R473). -/
def State.startRecords (s : State) : State :=
  let first := !s.strand.begun
  let s := s.mapRecs (cellRec 0) 256 21504 (startCell first)
  let s := s.mapRecs (driveRec 0) 32 45056 (s.startDrive first (s.rd F.DRIVE_RATE_DEF_RATE))
  let s := s.mapRecs (senseRec 0) 32 66560 startSense
  { s with
    strand := { s.strand with begun := true, trainFrom := (s.redund.restore.map (·.coeffs)).getD [] }
    drive := { s.drive with powerUp := true, puLeft := [], fire := [], keep := [], sp := [] } }

/-- The management channel at a link start: a program's accesses stay queued, the object of a write-back under way is
flagged again, and the rest is dropped (R285; DEDUCED, log entry 33). -/
def State.mgmtRestart (s : State) : State :=
  let kept := ((s.strand.outstanding.map (·.cmd)) ++ s.strand.mgmt).filter (fun c => c.who = .program)
  let s := match s.strand.wbNow with
    | some o => s.wbFlag o.kind o.cell
    | none => s
  { s with strand := { s.strand with wbNow := none, mgmt := kept, outstanding := [], loadAt := 0, chalAt := none } }

/-- A write of START (R287, R268). -/
def State.startLink (s : State) : State :=
  let s := s.streamOff.mgmtRestart
  let s := s.initLanes
  let s := (((s.wr F.STRAND_STATUS_STATE 1).wrB F.STRAND_STATUS_DESC_OK false).wrB F.STRAND_STATUS_AUTH_OK false)
  let lanes := List.range 96
  let s := { s with strand := { s.strand with
    count := 0, sentFrame := 0, nonce := 0, authSig := none, authRec := [], echoes := [], grantCount := 0, streamWait := false
    driveValid := false, bad := [], outErr := [], failed := [], switches := [], remapAt := none, newFailed := [], testing := []
    replay := [], flight := [], rxHeld := none, tx := []
    scram := lanes.map (fun n => (Config.scramSeed (s.fresh + n)).toNat)
    prbs := lanes.map (fun n => (Config.prbsSeed (s.fresh + n)).toNat) }
                    fresh := s.fresh + 96
                    sense := { s.sense with light := [], freshT := [], freshF := [], freshP := [], notBefore := [], phaseFrom := []
                                            keep := [] }
                    loop := { s.loop with demod := 0, ranP := 0 } }
  s.startRecords.laneStatus.restartPass.wr F.LOOP_PERIOD_P 0 |>.wr F.LOOP_BUDGET_BETA F32.one.toNat

/-- A little-endian number of the descriptor. -/
def descAt (d : List Byte) (o n : Nat) : Nat := bytesAt d o n
/-- A signed 16-bit number of the descriptor. -/
def descI (d : List Byte) (o : Nat) : Int := (BitVec.ofNat 16 (bytesAt d o 2)).toInt

/-- One stage of the integer Walsh–Hadamard transform. -/
def whtStage (h : Nat) (x : Array Int) : Array Int :=
  Array.ofFn (fun i : Fin x.size =>
    if i.val / h % 2 = 0 then x.getD i.val 0 + x.getD (i.val + h) 0 else x.getD (i.val - h) 0 - x.getD i.val 0)

/-- Every identity code has a chip sum of ±32 (R27, R42). -/
def codesBalanced (cover : List Byte) : Bool :=
  let v : Array Int := ((List.range 1024).map (fun k => if coverNeg cover k then (-1 : Int) else 1)).toArray
  ((List.range 10).foldl (fun x j => whtStage (2 ^ j) x) v).all (fun x => x.natAbs = 32)

/-- The descriptor is accepted (R42). -/
def descOk (d : List Byte) : Bool :=
  let y1024 := descAt d 2 2 = 1 && descAt d 4 2 = 1024 && descAt d 6 1 = 21 && descAt d 8 2 = 1024 && descAt d 10 1 = 88
  let y512 := descAt d 2 2 = 2 && descAt d 4 2 = 512 && descAt d 6 1 = 19 && descAt d 8 2 = 512 && descAt d 10 1 = 48
  let stress := BitVec.ofNat 32 (descAt d 0x0C 4)
  d.length = 256 && (crc32 (d.take 252)).toNat = descAt d 0xFC 4 && descAt d 0 2 = 2 && descAt d 7 1 = 1 && (y1024 || y512) &&
    descAt d 0x0B 1 = 5 && F32.finite stress && F32.le 0 stress && F32.le stress 0x420C0000 &&
    decide (descAt d 0x1A 2 ≤ 1000) && decide (100 ≤ descAt d 0x1C 2) && codesBalanced ((d.drop 0x40).take 128)

/-- The descriptor's fields (R41). -/
def descOf (d : List Byte) : Desc :=
  { y512 := descAt d 2 2 = 2, armStress := BitVec.ofNat 32 (descAt d 0x0C 4), actBudget := BitVec.ofNat 32 (descAt d 0x10 4)
    wearRating := descAt d 0x14 4, wearWarnPct := descAt d 0x18 2, shutterNs := descAt d 0x1A 2, replayMs := descAt d 0x1C 2
    pilotDepth := descAt d 0x20 1, tecZones := descAt d 0x21 1, idTmin := descI d 0x2C, idTmax := descI d 0x2E
    calTmin := descI d 0x30, calTmax := descI d 0x32, shutterOpenV := BitVec.ofNat 32 (descAt d 0x34 4)
    cover := (d.drop 0x40).take 128 }

/-- The entry a word of R30 spells. -/
def DmapEntry.ofWord (w : BitVec 64) : DmapEntry :=
  let v := w.toNat
  { object := v % 2 ^ 17, kind := v / 2 ^ 17 % 8, cause := v / 2 ^ 20 % 16, pending := v.testBit 24
    hours := BitVec.ofNat 32 (v / 2 ^ 32) }

/-- The checks of R30: kind, cause, an object that fits its kind and is present. -/
def State.dmapValid (s : State) (e : DmapEntry) : Bool :=
  e.kind < 4 && e.cause < 6 &&
    (if e.kind = 0 then decide (e.object < 21504) && !s.cellAbsent e.object
     else if e.kind = 1 then decide (e.object < 66560) && !s.senseAbsent e.object
     else decide (43008 ≤ e.object) && decide (e.object < 45056) && !s.driveAbsent e.object)

/-- The order of the defect map (R141). -/
def dmapLe (a b : DmapEntry) : Bool := decide (a.kind < b.kind) || (a.kind = b.kind && decide (a.object ≤ b.object))

/-- Entries merged into a map in their order: each (KIND, OBJECT) once, at most 2,048 (R141). -/
def mergeDmap (dm new : List DmapEntry) : List DmapEntry :=
  new.foldl (fun (l : List DmapEntry) e => if dmapHas l e.kind e.object || 2048 ≤ l.length then l else l ++ [e]) dm

/-- The entries of a link start's defect map in the order they are taken (R141, R473): the factory entries, then those
carried. -/
def State.freshEntries (s : State) (factory : List (BitVec 64)) (carried : List DmapEntry) : List DmapEntry :=
  mergeDmap (mergeDmap [] ((factory.map (fun w => { DmapEntry.ofWord w with cause := 0, pending := false })).filter s.dmapValid))
    ((carried.filter (fun e => e.cause ≠ 0 && s.dmapValid e)).map (fun e => { e with pending := false }))

/-- The resident map follows the image of the unit in control (R141, R354): its entries, and the factory entries of the
cartridge as read here. -/
def State.followDmap (s : State) (dm : List DmapEntry) : State :=
  let l := mergeDmap dm (s.solve.dmap.filter (·.cause = 0))
  { s with solve := { s.solve with dmap := sortBy dmapLe l, dmapOrder := orderAdd s.solve.dmapOrder
                                     (l.filter (fun e => !s.solve.dmapOrder.contains (e.kind, e.object))) } }

/-- The 32 words of a CAL entry (R282) loaded into a cell's area: VALID from the finite temperatures, CAL_TIME and the
other bits of CAL_STATUS 0. -/
def loadCalArea (c : Nat) (r : List Host.Cell) (ws : List W32) : List Host.Cell :=
  let a := cellRec c
  let valid := (List.range 5).foldl (fun v n =>
    if 30 ≤ ws.length && F32.finite (ws.getD (6 * n) 0) then v + 2 ^ n else v) 0
  let r := (ws.take 31).zipIdx.foldl (fun r p => memPut r (a + 0x40 + 4 * p.2) 4 p.1.toNat) (Sparse.clear r (a + 0x40) (a + 0xC4))
  memPut r (a + 0xC0) 4 valid

/-- One cell's calibration area loaded. -/
def State.loadCal (s : State) (c : Nat) (ws : List W32) : State := { s with mem := loadCalArea c s.mem ws }

/-- SHUTTER_OPEN_V as the controller uses it (R213). -/
def State.shutterCode (s : State) (v : W32) : State :=
  if F32.finite v then s.wr F.DRIVE_SHUTTER_OPEN_CODE (BitVec.ofInt 16 (voltCode (F32.clamp 0 f35 v))).toNat
  else (s.wr F.DRIVE_SHUTTER_OPEN_CODE 0).raise 28 0

/-- The issuer signature and the challenge are judged; the signature must have been ready within 20 ms of the write of the
last CHALLENGE word (R284). -/
def State.judgeAuth (s : State) : State :=
  let a := s.strand.authRec
  let serial := s.strand.ident.take 16
  let nonce := (List.range 32).map (fun k => BitVec.ofNat 8 (s.strand.nonce.toNat / 256 ^ k))
  let issuer := ecdsaVerify s.boot.issuerKey (a.take 0x50 ++ serial) ((a.drop 0x50).take 64)
  let chal := match s.strand.authSig with
    | none => false
    | some sig => ecdsaVerify ((a.drop 0x10).take 64) ([0x59, 0x52, 0x4E, 0x44] ++ nonce ++ serial)
        ((List.range 64).map (fun k => BitVec.ofNat 8 (sig.toNat / 256 ^ (63 - k))))
  if issuer && chal then s.wrB F.STRAND_STATUS_AUTH_OK true
  else s.raise 41 (BitVec.ofNat 32 (boolNat (!issuer) + 2 * boolNat (!chal)))

/-- A list of values by index as an array of options. -/
def optArray {β : Type} (n : Nat) (l : List (Nat × β)) : Array (Option β) :=
  l.foldl (fun a p => a.setIfInBounds p.1 (some p.2)) (Array.replicate n none)

/-- The calibration areas and live counts of an accepted cartridge (R37, R38, R40, R263, R282): the areas only at the first
load since a wipe, an image's entry in place of one with a lower CAL_COUNT. A later load takes the larger of the live count
kept and the count read (DESIGN CHOICE, log entry 26). -/
def loadCell (fresh : Bool) (cal : Array (Option (List W32))) (imCal : Array (Option (List W32)))
    (wear : Array (Option W32)) (imWear : Array (Option Nat)) (c : Nat) (r : List Host.Cell) : List Host.Cell :=
  let a := cellRec c
  let r := if fresh then loadCalArea c r ((cal.getD c none).getD []) else r
  let r := match imCal.getD c none with
    | some ws => if fresh && decide (0 < sdiff32 (ws.getD 30 0) (BitVec.ofNat 32 (memNat r (a + 0xB8) 4))) then
        let r := loadCalArea c r ws
        memPut r (a + 0xC0) 4 ((ws.getD 31 0).toNat % 32)
      else r
    | none => r
  let read := ((wear.getD c none).map (·.toNat)).getD 0
  let n := if fresh then satAdd 0xFFFFFFFF read ((imWear.getD c none).getD 0) else Nat.max read (memNat r (a + 0xC8) 4)
  memPut r (a + 0xC8) 4 n

/-- A sense record's baseline offset and gain (R233). -/
def loadSense (base : Array (Option (W32 × W32))) (im : Array (Option (W32 × W32))) (ch : Nat) (r : List Host.Cell) :
    List Host.Cell :=
  let b := ((im.getD ch none).orElse (fun _ => base.getD ch none)).getD (0, 0)
  memPut (memPut r (senseRec ch + 4) 4 b.1.toNat) (senseRec ch + 8) 4 b.2.toNat

/-- Cells whose accepted calibration a restored image had no room for are due again (R355): the image names none
of them, so with CAL_OVF every cell without a CAL entry is marked, with SENSE_OVF every cell with a tap without a
SENSECAL entry (log entry 18). -/
def State.markOverflow (s : State) (im : CkptImage) : State :=
  let cal := im.cal.foldl (fun (a : Array Bool) p => a.setIfInBounds p.1 true) (Array.replicate 21504 false)
  let sen := im.senseCal.foldl (fun (a : Array Bool) p => a.setIfInBounds p.1 true) (Array.replicate 64512 false)
  let lost (c : Nat) : Bool := (im.calOvf && !cal.getD c false) ||
    (im.senseOvf && [0, 1, 2].any (fun t => !sen.getD (3 * c + t) false))
  forEach ((presentCells s.strand.geomY512).filter lost) (fun s c => s.setCCal c 6 1 1) s

/-- The loads of an accepted cartridge (R38, R39, R263, R282): calibration, wear, sense baselines and the
defect map; an image's entries replace or add to them where their rules let them. -/
def State.loadCartridge (s : State) (id : IdentityLoad) (im : CkptImage) : State :=
  let fresh := !s.strand.loaded
  let es := s.freshEntries id.defects im.dmap
  let dm := sortBy dmapLe es
  let s := { s with
    solve := { s.solve with dmap := dm, dmapForce := if fresh then dm else s.solve.dmapForce, dmapOrder := orderAdd [] es }
    strand := { s.strand with senseBase := id.senseCal, loaded := true
                              wearBase := if fresh then id.wear.map (fun (p : Nat × W32) => (p.1, p.2.toNat)) else s.strand.wearBase } }
  let s := s.mapRecs (senseRec 0) 32 66560 (loadSense (optArray 66560 id.senseCal) (optArray 66560 im.senseCal))
  let was := s.liveCounts
  let load := loadCell fresh (optArray 21504 id.cal) (optArray 21504 im.cal) (optArray 21504 id.wear) (optArray 21504 im.wear)
  let s := s.mapRecs (cellRec 0) 256 21504 (fun c r => if s.cellAbsent c then r else load c r)
  let now := s.liveCounts
  let before := optArray 21504 was
  let s := { s with strand := { s.strand with
    wearHour := if fresh then now
      else (now.filter (fun (p : Nat × Nat) => decide ((before.getD p.1 none).getD 0 < p.2))).foldl
        (fun (l : List (Nat × Nat)) (p : Nat × Nat) => aset l p.1 ((alist l p.1).getD 0 + (p.2 - (before.getD p.1 none).getD 0)))
        s.strand.wearHour } }
  let s := forEach ((s.solve.dmapForce.filter (fun e => e.kind = 1)).map (·.object)) State.markTap s
  let s := forEach (now.map (·.1)) State.wearCheck s
  let s := forEach ((List.range 21504).filter (fun c => !s.cellAbsent c)) State.calMissing s
  if fresh then s.setSnap now else s

/-- Identification (R287, R42, R152, R213, R248): the cartridge is authenticated, the descriptor checked and the loads
made. -/
def State.identify (s : State) (id : IdentityLoad) : State :=
  let dm := (s.redund.restore.getD s.redund.image).dmap
  let im := { s.redund.restore.getD CkptImage.reset with dmap := dm }
  let s := { s with strand := { s.strand with ident := id.ident, authRec := id.auth, hours := id.hours
                                              mgmt := s.strand.mgmt.filter (fun (c : MgmtCmd) => c.who ≠ MgmtWho.load) } }
  let s := s.judgeAuth.wr F.STRAND_STATUS_STATE 4
  if descOk id.desc then
    let d := descOf id.desc
    let s := { s with strand := { s.strand with desc := some d, geomY512 := d.y512 } }
    let s := s.wrB F.STRAND_STATUS_DESC_OK true
    let s := if d.y512 then
        let s := forEach ((List.range 96).filter (48 ≤ ·)) (fun s n => s.setLane n 0 0x7F) s
        let s := { s with strand := { s.strand with failed := s.strand.failed.filter (· < 48), switches := [] } }
        (s.wr F.STRAND_STATUS_LANES 48).laneStatus
      else s
    let s := s.wr F.LAY_TIMING_S (sOpen d.shutterNs)
    let s := (s.shutterCode d.shutterOpenV).wr F.LOOP_STRESS_V d.armStress.toNat
    let s := forEach (List.range 5) (fun s n => s.wr F.CAL_SLOT_T_T (calSlotT d n).toNat n) s
    let s := s.loadCartridge id im
    if s.redund.restore.isSome then s.markOverflow im else s
  else
    let s := { s with strand := { s.strand with desc := none, geomY512 := false } }
    s.raise 40 0

end Sys2Proof.Machine
end

