-- ==== Sys2Proof/Machine/RedundOps.lean ====
section
/-! DEFINITION. The redundant pair's shared operations (14): roles, fencing and surrender, losing the peer,
the checkpoint image's sections, records as they arrive, health. -/

namespace Sys2Proof.Machine

/-- The byte at an offset of a ledger copy's half of the connection ledger: R80 gives no layout. -/
opaque Config.ledgerByte : LedgerCopy → Nat → Byte

/-! ### Roles (R352, R353, R377) -/

/-- A hook PEER event (R377). -/
def State.peerHook (s : State) (code : Nat) : State := s.fireHook 27 (BitVec.ofNat 32 code)

/-- The state a target leads to: the role overrides it (R432). -/
def State.pwrWanted (s : State) : Nat :=
  let t := s.rd F.PWR_CTRL_TARGET
  let role := s.rd F.REDUND_STATUS_ROLE
  if !s.bit F.REDUND_CTRL_EN || role = 0 then t
  else if role = 2 then 2
  else if t < 2 then t else 1

/-- An access to a domain's blocks has an effect: the domain is enabled in the power state in force, and no transition in
progress closes it, which holds the access until its gate has closed and then answers it with an error (R428). -/
def State.domOpen (s : State) (d : Nat) : Bool :=
  s.domEnabled d && (!s.bit F.PWR_STATUS_CHANGING || s.classEnabled s.pwrWanted d)

/-- What a write to a register of a domain's block makes of the state: `t` where the access has an effect. -/
def State.ifOpen (s : State) (d : Nat) (t : State) : State := if s.domOpen d then t else s

/-- A transition towards that state begins where it is not the state in force; POWER_TRANSITION_DONE ends it (R433). -/
def State.pwrFollow (s : State) : State :=
  (s.wrB F.PWR_STATUS_CHANGING (decide (s.pwrWanted ≠ s.rd F.PWR_STATUS_STATE))).wrB F.PWR_STATUS_ROLE_HELD
    (decide (s.pwrWanted ≠ s.rd F.PWR_CTRL_TARGET))

/-- The redundancy role, which the power state follows (R432). -/
def State.setRole (s : State) (r : Nat) : State := (s.wr F.REDUND_STATUS_ROLE r).pwrFollow

/-- The unit enters STANDBY, where it receives the whole image (R356, R377). -/
def State.enterStandby (s : State) : State :=
  let s := (s.setRole 2).wrB F.REDUND_STATUS_CKPT_CURRENT false
  ({ s with redund := { s.redund with peerLost := false, takeback := false, resync := true, newHere := true
                                      held := [], early := [], gapAt := none } } : State).peerHook 5

/-- The unit fences itself (R361): DRIVE_VALID = 0 from the next frame and a PORT release, one frame later
under a safe reaction; role STANDBY, not healthy. -/
def State.fence (s : State) : State :=
  let s := { s with redund := { s.redund with silent := true } }
  (if s.safeOn then s else s.streamOff.portCmd false).enterStandby


/-- What the end of a frame brings to a unit that fenced itself under a safe reaction (R361). -/
def State.fenceAfterFrame (s : State) : State :=
  if s.redund.silent && s.rd F.REDUND_STATUS_ROLE = 2 && s.strand.driveValid then s.streamOff.portCmd false else s

/-- A heartbeat of an ACTIVE unit may be sent (R358). -/
def State.mayBeat (s : State) : Bool :=
  s.rd F.STRAND_STATUS_STATE = 5 && s.bit F.STRAND_STATUS_OWNER && !s.safeOn &&
    decide (s.time.cycle - s.redund.kickAt ≤ s.rd F.REDUND_CFG_WDOG_MS * msCycles)

/-- No fault of severity ERROR or CRITICAL is unacknowledged. -/
def State.noBadFault (s : State) : Bool :=
  (List.range 128).all (fun n => !(s.bit F.FAULT_SRC_STATUS_ACTIVE n && decide (2 ≤ s.rd F.FAULT_SRC_STATUS_EFF n)))

/-- HEALTHY of R370. -/
def State.healthy (s : State) : Bool :=
  s.bit F.REDUND_STATUS_CKPT_CURRENT && !s.bit F.REDUND_HEALTH_MARCH_FAIL && !s.bit F.REDUND_HEALTH_SHADOW_FAIL &&
    !s.bit F.REDUND_HEALTH_LANE_ERR && s.strand.failed.isEmpty && decide ((s.tb 0).lockLeft ≠ 0) && s.noBadFault

/-! ### Heartbeats sent (R358, R359) -/

/-- The health summary: `REDUND_HEALTH` as it stands. -/
def State.healthSummary (s : State) : BitVec 128 :=
  BitVec.ofNat 128 (s.rd F.REDUND_HEALTH_MARCH_PASSES + 2 ^ 16 * boolNat (s.bit F.REDUND_HEALTH_MARCH_FAIL) +
    2 ^ 17 * boolNat (s.bit F.REDUND_HEALTH_SHADOW_FAIL) + 2 ^ 18 * boolNat (s.bit F.REDUND_HEALTH_LANE_ERR) +
    2 ^ 32 * s.rd F.REDUND_HEALTH_SHADOW_CMP + 2 ^ 64 * s.rd F.REDUND_HEALTH_SHADOW_MISM +
    2 ^ 80 * s.rd F.REDUND_HEALTH_PRBS_ERR + 2 ^ 96 * s.rd F.REDUND_HEALTH_CHECKED_S)

/-- A heartbeat on both paths: the frame, and a pulse of 1 µs, or of 5 µs with a surrender. -/
def State.sendHeartbeat (s : State) (surrender : Bool) : State :=
  let n := s.redund.hbSeq + 1
  let role := s.rd F.REDUND_STATUS_ROLE
  let h : Heartbeat := { role := BitVec.ofNat 2 role, hbSeq := n, ackSeq := if role = 2 then s.rdW F.REDUND_CKPT_SEQ else 0
                         healthy := s.healthy, summary := s.healthSummary, surrender := surrender
                         resync := s.redund.resync, takeback := s.redund.takeback && decide (role = 2) }
  { s with redund := { s.redund with hbSeq := n, outbox := s.redund.outbox ++ [MgmtOut.heartbeat h] }
           pins := { s.pins with heartbeatPulses := s.pins.heartbeatPulses + boolNat s.pins.ready
                                 heartbeatNs := if surrender then 5000 else 1000 } }

/-- An ACTIVE unit surrenders (R359): a last heartbeat with SURRENDER, then silence and its own fence. -/
def State.surrender (s : State) : State :=
  if s.rd F.REDUND_STATUS_ROLE = 1 then (s.sendHeartbeat true).fence else s

/-! ### Losing the peer (R360, R362) -/

/-- The peer is declared lost: fault, hook, role TRANSFER, PORT request. -/
def State.declareLost (s : State) (bySurrender : Bool) : State :=
  let s := (s.wrB F.REDUND_STATUS_HB_NET false).wrB F.REDUND_STATUS_HB_PIN false
  let s := { s with redund := { s.redund with
    peerLost := true, declaredAt := s.time.cycle, takeback := false, handoverFrame := none
    silent := false, kind := if bySurrender then 2 else 1 } }
  let s := (s.levelEnd 51).raise 52 (s.rdW F.REDUND_STATUS_PEER_SEQ)
  ((s.setRole 3).peerHook 1).portCmd true

/-- `REDUND_LAST` and its monitor sample (R389). The duration of a restore, which neither a declaration nor H begins, runs from
the write of RESTORE (DESIGN CHOICE, log entry 18). -/
def State.recordTransfer (s : State) (kind : Nat) (im : CkptImage) (mark : Nat) (hitless lost : Bool) : State :=
  let ns := (s.time.cycle - s.redund.declaredAt) * 2 + (s.strand.sentFrame * frameUnits - s.ext0) / nsUnit
  let us := Nat.min 65535 (ns / 1000)
  let s := ((s.wr F.REDUND_LAST_KIND kind).wrB F.REDUND_LAST_HITLESS hitless).wr F.REDUND_LAST_LAYMARK mark
  let s := (s.wrB F.REDUND_LAST_LOST lost).wr F.REDUND_LAST_EPOCH (if mark = 0 then 0 else im.markEpoch.toNat)
  let s := (s.wr F.REDUND_LAST_FRAME s.strand.sentFrame).wr F.REDUND_LAST_DURATION_US us
  s.monOffer 9 0 (Int.ofNat us)

/-- MISSED for the network epoch recorded in LAYMARK, with the status its lay comes to here (R365; log entry 18). -/
def State.markMissed (s : State) (im : CkptImage) (st : Status) : State :=
  match im.markCoord with
  | some c => if im.markState = 0 || !im.markListed then s else s.sendCounted 0x14 6 c 0 im.markEpoch 0 (natBytes 4 st.word.toNat)
  | none => s

/-! ### The image's rolling sections (R355) -/

/-- One cell's LOOPS entry. -/
def State.loopsEntry (s : State) (c : Nat) : List W32 :=
  [BitVec.ofNat 32 (s.cCtrl c 8 10), s.cw c 0x20, s.cw c 0x24, s.cw c 0x28, s.cw c 0x2C, s.cw c 0x30, s.cw c 0x08, s.cw c 0x0C,
    s.cw c 0x10]

/-- A LOOPS entry put into its cell record: modes and parameters (R362). -/
def State.putLoops (s : State) (p : Nat × List W32) : State :=
  match p.2 with
  | [ctrl, kp, ki, ad, mo, tr, u, i, e] =>
    let s := s.setCCtrl p.1 8 10 ctrl.toNat
    let s := (((s.setCw p.1 0x20 kp).setCw p.1 0x24 ki).setCw p.1 0x28 ad).setCw p.1 0x2C mo
    (((s.setCw p.1 0x30 tr).setCw p.1 0x08 u).setCw p.1 0x0C i).setCw p.1 0x10 e
  | _ => s

/-- One auxiliary loop's AUX entry. -/
def State.auxEntry (s : State) (a : Nat) : List W32 :=
  (List.range 3).map (fun j => BitVec.ofNat 32 (s.rd F.LOOP_AUX_SRC_KIND a j + 256 * s.rd F.LOOP_AUX_SRC_INDEX a j)) ++
    [BitVec.ofNat 32 (s.rd F.LOOP_AUX_OUT_KIND a + 256 * s.rd F.LOOP_AUX_OUT_INDEX a),
      BitVec.ofNat 32 (s.rd F.LOOP_AUX_CFG_EN a + 2 * s.rd F.LOOP_AUX_CFG_TRIG a + 4 * s.rd F.LOOP_AUX_CFG_K a)] ++
    (List.range 16).map (fun m => s.auxP a m) ++ (List.range 5).map (fun j => s.auxS a j) ++
    [BitVec.ofNat 32 (s.rd F.LOOP_AUX_STATUS_MODE a + 4 * s.rd F.LOOP_AUX_STATUS_FAULTED a)]

/-- An AUX entry put into its auxiliary loop's registers (R354, R355). -/
def State.putAux (s : State) (p : Nat × List W32) : State :=
  let a := p.1
  let n (k : Nat) : Nat := (p.2.getD k 0).toNat
  let s := forEach [0, 1, 2] (fun s j => (s.wr F.LOOP_AUX_SRC_KIND (n j % 256) a j).wr F.LOOP_AUX_SRC_INDEX (n j / 256) a j) s
  let s := (s.wr F.LOOP_AUX_OUT_KIND (n 3 % 256) a).wr F.LOOP_AUX_OUT_INDEX (n 3 / 256) a
  let s := ((s.wr F.LOOP_AUX_CFG_EN (n 4 % 2) a).wr F.LOOP_AUX_CFG_TRIG (n 4 / 2 % 2) a).wr F.LOOP_AUX_CFG_K (n 4 / 4) a
  let s := forEach (List.range 16) (fun s m => s.wr F.LOOP_AUX_PAR_VALUE (n (5 + m)) a m) s
  let s := forEach (List.range 5) (fun s j => s.wr F.LOOP_AUX_STATE_VALUE (n (21 + j)) a j) s
  (s.wr F.LOOP_AUX_STATUS_MODE (n 26 % 4) a).wr F.LOOP_AUX_STATUS_FAULTED (n 26 / 4) a

/-- The loops of an image put into force: modes and parameters from LOOPS, the auxiliary loops from AUX
(R362, R375). -/
def State.putImageLoops (s : State) (im : CkptImage) : State :=
  forEach im.aux State.putAux (forEach im.loops State.putLoops s)

/-- LOOPS and AUX refreshed. -/
def State.rollLoops (s : State) : State :=
  let cells := presentCells s.strand.geomY512
  let im := { s.redund.image with loops := cells.map (fun c => (c, s.loopsEntry c))
                                  aux := (List.range 64).map (fun a => (a, s.auxEntry a)), wraps := (s.tb 0).wraps }
  (({ s with redund := { s.redund with image := im } } : State).ckptTouch .loops).ckptTouch .aux

/-- WEAR refreshed: the live-count delta of each cell since start-up. -/
def State.rollWear (s : State) : State :=
  let base := s.strand.wearBase.foldl (fun (a : Array Nat) p => a.setIfInBounds p.1 p.2) (Array.replicate 21504 0)
  let w := ((presentCells s.strand.geomY512).map (fun c => (c, s.liveWear c - base.getD c 0))).filter (·.2 ≠ 0)
  ({ s with redund := { s.redund with image := { s.redund.image with wear := w } } } : State).ckptTouch .wear

/-- The whole image is sent, LAYMARK's STATE after its list (R356). -/
def State.resendImage (s : State) : State :=
  [CkptSection.ledger, .laymark, .laymarkState, .defect, .wear, .loops, .aux, .senseCal, .cal, .header].foldl State.sectSend s

/-! ### Records at the standby (R356, R354, R369) -/

/-- The resident records follow the image (R354): ledger copies, defect map, calibration, loops. -/
def State.resident (s : State) (sect : CkptSection) : State :=
  let im := s.redund.image
  match sect with
  | .ledger => s.writeLedger (fun c => { c with stable := im.stable, landed := im.landed, stableEpoch := im.stableEpoch
                                                landedEpoch := im.landedEpoch })
  | .defect => s.followDmap im.dmap
  | .wear => s.carryWear im.wear
  | .loops => forEach im.loops State.putLoops s
  | .senseCal => forEach im.senseCal (fun s p => s.setCorr p.1 p.2.1 p.2.2) s
  | .cal => forEach im.cal (fun s p => (s.loadCal p.1 (p.2.take 31)).setCCal p.1 0 5 (p.2.getD 31 0).toNat) s
  | _ => s

/-- One cell of a SHADOW record (R369): its record at the start of a period, the period-wide values, whether its
sample was STALE at the active, and the iteration's U_OUT and I. -/
structure ShadowCell where
  cell : Nat
  period : Nat
  record : List W32
  beta : W32
  tCart : W32
  stress : W32
  headroom : W32
  stale : Bool
  uOut : W32
  integ : W32
  deriving DecidableEq, Repr

/-- The cells a SHADOW record's data describes, and the data for such cells: the record's layout is not stated (log entry 9). -/
opaque Config.shadowCells : List W32 → List ShadowCell
/-- See `Config.shadowCells`. -/
opaque Config.shadowWords : List ShadowCell → List W32

/-- One cell of the SHADOW record that the active sends: the record as the period at hand begins, the period-wide values of R180,
and what the period's iteration makes of U_OUT and I (R369). -/
def State.shadowOf (s : State) (c : Nat) : ShadowCell :=
  let pk := s.peaks
  let P := s.strand.count / 10
  let t := ((s.demodCell (P - 1) pk c).iterCell c (s.rdW F.LOOP_BUDGET_BETA) false).1
  { cell := c, period := P, record := (List.range 64).map (fun k => s.cw c (4 * k)), beta := s.rdW F.LOOP_BUDGET_BETA
    tCart := s.tLoop, stress := s.rdW F.LOOP_STRESS_V, headroom := s.rdW F.LOOP_BUDGET_CFG_HEADROOM
    stale := (s.loopSignal c (pk.getD c 0)).2, uOut := t.cw c 0x08, integ := t.cw c 0x0C }

/-- One cell's iteration repeated on the unit's own samples, and whether it differs; none where a sample is
STALE at either unit (R369). -/
def State.shadowDiffers (s : State) (x : ShadowCell) : Option Bool :=
  let pk := peakTaps s.strand.geomY512 s.redund.image.routes
  let t := forEach (List.range 64) (fun (t : State) k => t.setCw x.cell (4 * k) (x.record.getD k 0)) s
  let t := { t with loop := { t.loop with tCart := x.tCart } }
  let t := (t.wr F.LOOP_STRESS_V x.stress.toNat).wr F.LOOP_BUDGET_CFG_HEADROOM x.headroom.toNat
  if x.stale || (t.loopSignal x.cell (pk.getD x.cell 0)).2 then none
  else
    let t := ((t.demodCell (x.period - 1) pk x.cell).iterCell x.cell x.beta false).1
    some (decide (t.cw x.cell 0x08 ≠ x.uOut) || decide (t.cw x.cell 0x0C ≠ x.integ))

/-- A SHADOW record is compared (R369): three mismatches within 1 s are a failure. -/
def State.shadowCompare (s : State) (data : List W32) : State :=
  let rs := (Config.shadowCells data).filterMap s.shadowDiffers
  let bad := (rs.filter id).length
  let s := s.wr F.REDUND_HEALTH_SHADOW_CMP ((s.rd F.REDUND_HEALTH_SHADOW_CMP + rs.length) % 2 ^ 32)
  let now := s.time.cycle
  let recent := (s.redund.shadowMism.filter (fun t => decide (now ≤ t + 1000 * msCycles))) ++ List.replicate bad now
  let s := s.inc F.REDUND_HEALTH_SHADOW_MISM bad
  let s := { s with redund := { s.redund with shadowMism := recent, shadowAt := if bad = 0 then s.redund.shadowAt else now } }
  if 3 ≤ recent.length && !s.bit F.REDUND_HEALTH_SHADOW_FAIL then
    (s.wrB F.REDUND_HEALTH_SHADOW_FAIL true).raise 54 2
  else s

/-- One record is applied. -/
def State.applyRecord (s : State) (r : CkptRecord) : State :=
  match r.sect with
  | .shadow => s.shadowCompare r.data
  | .handover =>
    { s with redund := { s.redund with handoverFrame := some (s.frameNear (r.data.headD 0)).toNat } }
  | sect =>
    let im := s.redund.image.applied r
    let im := { im with markListed := match sect with
      | .laymark => true
      | .laymarkState => decide (im.markState ≠ 0)
      | _ => im.markListed }
    ({ s with redund := { s.redund with image := im } } : State).resident sect

/-- The SEQ of the last record held in order. -/
def State.seqHeld (s : State) : W32 := s.rdW F.REDUND_CKPT_SEQ

/-- A record held in its turn: applied, unless that was done ahead of it (R356). -/
def State.takeTurn (s : State) (r : CkptRecord) : State :=
  let was := s.redund.early.contains r.seqnum
  let s := { s with redund := { s.redund with held := s.redund.held.filter (fun h => h.seqnum ≠ r.seqnum)
                                              early := s.redund.early.filter (· ≠ r.seqnum) } }
  (if was then s else s.applyRecord r).wr F.REDUND_CKPT_SEQ r.seqnum.toNat

/-- The records held that now follow are applied in SEQ order. -/
def State.drainRecords : Nat → State → State
  | 0, s => s
  | n + 1, s =>
    match s.redund.held.find? (fun (r : CkptRecord) => r.seqnum = s.seqHeld + 1) with
    | none => s
    | some r => State.drainRecords n (s.takeTurn r)

/-- A record comes before another in SEQ order. -/
def CkptRecord.lt (a b : CkptRecord) : Bool := decide (sdiff32 a.seqnum b.seqnum < 0)

/-- A STATE record held has every earlier LAYMARK record of its lay held or applied: STATE 1 the change list that precedes it, and
another one its lay's STATE before it, itself so (R356, R364; log entry 18). -/
def State.markReady (s : State) : Nat → CkptRecord → Bool
  | 0, _ => false
  | n + 1, r =>
    let before := s.redund.held.filter (fun h => h.sect = .laymarkState && CkptRecord.lt h r && !s.redund.early.contains h.seqnum)
    let prev := before.find? (fun p => before.all (fun h => !CkptRecord.lt p h))
    let listed := s.redund.held.any (fun h => h.sect = .laymark && CkptRecord.lt h r && prev.all (fun p => CkptRecord.lt p h))
    if r.data.headD 0 = 1 then listed || (prev.isNone && s.redund.image.markListed)
    else match prev with
      | some p => decide ((p.data.headD 0).toNat ≠ 0) && s.markReady n p
      | none => decide (s.redund.image.markState ≠ 0)

/-- The STATE records held, in SEQ order, that wait for an earlier record of another section or of their lay. -/
def State.marksHeld (s : State) : List CkptRecord :=
  sortBy (fun a b => !CkptRecord.lt b a) (s.redund.held.filter (fun r => r.sect = .laymarkState && !s.redund.early.contains r.seqnum))

/-- STATE records that may be applied ahead of their SEQ are applied, each after the LAYMARK records held before it (R356). -/
def State.applyMarks (s : State) : State :=
  forEach (s.marksHeld.filter (s.markReady s.redund.held.length)) (fun s r =>
    let lists := sortBy (fun a b => !CkptRecord.lt b a) (s.redund.held.filter (fun h =>
      h.sect = .laymark && CkptRecord.lt h r && !s.redund.early.contains h.seqnum))
    forEach (lists ++ [r]) (fun s x =>
      let s := s.applyRecord x
      { s with redund := { s.redund with early := s.redund.early ++ [x.seqnum] } }) s) s

/-- A record arrives (R356, R376). The first one after the unit became STANDBY gives the SEQ that the others follow. -/
def State.recvRecord (s : State) (r : CkptRecord) : State :=
  let s := if s.redund.newHere then
      ({ s with redund := { s.redund with newHere := false } } : State).wr F.REDUND_CKPT_SEQ (r.seqnum - 1).toNat
    else s
  let d := sdiff32 r.seqnum (s.seqHeld + 1)
  if d < 0 then s
  else if d = 0 then
    let s := s.takeTurn r
    let s := (State.drainRecords s.redund.held.length s).applyMarks
    { s with redund := { s.redund with gapAt := if s.redund.held.isEmpty then none else some s.time.cycle } }
  else if s.redund.peerLost || s.redund.held.any (fun h => h.seqnum = r.seqnum) then s
  else
    ({ s with redund := { s.redund with held := s.redund.held ++ [r]
                                        gapAt := some (s.redund.gapAt.getD s.time.cycle) } } : State).applyMarks

/-- The resend of the whole image completes: every record held is applied in SEQ order (R356). -/
def State.resyncDone (s : State) : State :=
  let s := forEach (sortBy (fun a b => !CkptRecord.lt b a) s.redund.held) State.takeTurn s
  { s.wrB F.REDUND_STATUS_CKPT_CURRENT true with redund := { s.redund with resync := false, gapAt := none } }

/-! ### The resident image in force (R362, R367) -/

/-- The grant during a transfer: the image in force, or the state lost (R364, R367). A STATE record held without every earlier record
of its lay leaves the mark incomplete. -/
def State.takeImage (s : State) : State :=
  let im := s.redund.image
  let waits := !s.marksHeld.isEmpty
  let im := { im with markComplete := im.markComplete && !waits, markState := if waits then 2 else im.markState }
  let lost := !s.bit F.REDUND_STATUS_CKPT_CURRENT
  let s := s.imageInForce im
  let s := s.putImageLoops im
  if lost then
    { s.wrB F.SEQ_TRUTH_STATUS_LOST true with ledger := { s.ledger with noLays := true } }
  else ((s.wrB F.SEQ_TRUTH_STATUS_LOST false).levelEnd 6).levelEnd 7

end Sys2Proof.Machine
end

