-- ==== Sys2Proof/Machine/LedgerOps.lean ====
section
/-! DEFINITION. Sequencer threads and hooks, and the pipeline of the command ledger: seal, evaluation,
slots, solves, aborts on request and changes of the defect map (02, 04). -/

namespace Sys2Proof.Machine

/-! ### Sequencers (R47 to R54, R87, R88) -/

/-- A sequencer starts a thread at hook `h` with its argument (R51, R52). -/
def State.startThread (s : State) (q h : Nat) (arg : W32) : State :=
  let x := s.sq q
  let s := { (s.wrB F.SEQ_HOOK_PEND false h) with hookArgs := adel s.hookArgs h }
  s.setSq q { x with g := (x.g.set 1 (arg.setWidth 64)).set 2 (BitVec.ofNat 64 h), hook := h, nmi := decide (h = 0)
                     st := .run, wait := .none, pc := BitVec.ofNat 16 (s.rd F.SEQ_HOOK_ENTRY h) }

/-- The lowest pending hook whose target a sequencer is (R52). -/
def State.pendingHook (s : State) (q : Nat) : Option Nat :=
  (List.range 32).find? (fun h => s.bit F.SEQ_HOOK_PEND h && s.rd F.SEQ_HOOK_TARGET h = q)

/-- The state a sequencer without a thread is in (R49, R50). -/
def State.restState (s : State) (q : Nat) : SqState :=
  if (s.rd F.SEQ_CTRL_SQ_EN).testBit q then .idle else .halted

/-- A thread that ends leaves its sequencer enabled or not (R49). -/
def State.endThread (s : State) (q : Nat) (st : SqState) : State :=
  let s := { s with solve := { s.solve with trials := s.solve.trials.filter (fun t => t.val ≠ q) } }
  s.setSq q { s.sq q with st := st, nmi := false, wait := .none }

/-- Whether a sequencer has a thread that runs, waits or sleeps. -/
def Seq.threaded (x : Seq) : Bool := x.st = .run || x.st = .wait || x.st = .sleep

/-- SQ_STOP of a sequencer (R50): it ends a thread, so it does nothing to a sequencer that has none, IDLE or TRAPPED
(DESIGN CHOICE, log entry 27). -/
def State.sqStop (s : State) (q : Nat) : State :=
  if (s.sq q).threaded then s.endThread q .halted else s

/-- SQ_EN as written (R50).  A sequencer in HALTED whose bit is written 1 enters IDLE, one that SQ_STOP halted with its
bit still 1 too (DESIGN CHOICE, log entry 27); before eclosion every sequencer stays HALTED (R48). -/
def State.sqEnable (s : State) (mask : Nat) : State :=
  let s := s.wr F.SEQ_CTRL_SQ_EN mask
  if !s.pins.ready then s else
  forEach (List.range 8) (fun s q =>
    let x := s.sq q
    if mask.testBit q && x.st = .halted then s.setSq q { x with st := .idle }
    else if !mask.testBit q && x.st = .idle then s.setSq q { x with st := .halted } else s) s

/-- TRAP_CLR of a sequencer (R47): TRAP_CAUSE is NONE once it has left TRAPPED (R88).  It goes to IDLE; one whose SQ_EN
bit is 0 goes to HALTED, as a thread's end would leave it (DESIGN CHOICE, log entry 27). -/
def State.trapClear (s : State) (q : Nat) : State :=
  if (s.sq q).st = .trapped then s.setSq q { s.sq q with st := s.restState q, cause := 0 } else s

/-! ### The network's side of a seal (R304, R306) -/

/-- The digest of a set of network commands, and their number (R304). -/
def netDigest (l : List (Nat × Nat × Nat × Nat × Nat)) : W32 × Nat :=
  let le (a b : Nat × Nat × Nat × Nat × Nat) : Bool :=
    decide (a.1 < b.1) || (a.1 = b.1 && (decide (a.2.1 < b.2.1) || (a.2.1 = b.2.1 && decide (a.2.2.1 ≤ b.2.2.1))))
  let bytes := (sortBy le l).flatMap (fun c => natBytes 4 c.2.2.1 ++ natBytes 2 c.2.1 ++ natBytes 2 c.2.2.2.1 ++
    natBytes 2 c.2.2.2.2 ++ natBytes 1 c.1 ++ [0])
  (if l.isEmpty then 0 else crc32 bytes, l.length)

/-! ### Seal (R65, R68, R82, R32, R38) -/

/-- The health state captured at a seal (R82). -/
def State.healthNow (s : State) : Health :=
  { dmap := s.solve.dmap, wear := s.solve.wearSnap, policy := s.rd F.SOLVE_CTRL_POLICY, tCart := s.tCart
    cal := s.committedCal, dmapGen := s.rdW F.SOLVE_HEALTH_DMAP_GEN, foldGen := s.rdW F.SOLVE_HEALTH_FOLD_GEN }


/-- Changes of the defect map and a wear fold take effect (R32, R38). -/
def State.sealHealth (s : State) : State :=
  let s := match s.solve.foldPending with
    | some l => (({ s with solve := { s.solve with foldPending := none } } : State).setSnap l).wr F.SOLVE_HEALTH_FOLD_GEN
        (s.rd F.SOLVE_HEALTH_FOLD_GEN + 1)
    | none => s
  s.forceDmap s.solve.dmap

/-- The preceding epoch (R68): the latest earlier one that has not ended ABORTED. -/
def State.preceding (s : State) (x : Epoch) : Option Epoch :=
  ((s.ledger.epochs.filter (fun (y : Epoch) => decide (y.layFrame < x.layFrame) && y.st ≠ .aborted)).getLast?)

/-- The lowest FREE slot (R143). -/
def State.freeSlot (s : State) : Option (Fin 16) :=
  ((List.range 16).find? (fun n => s.rd F.SOLVE_SLOTS_STATE 0 0 n = 0)).map (Fin.ofNat 16)

/-- An epoch takes the lowest FREE slot, which enters SOLVING (R143, R145). -/
def State.takeSlot (s : State) (e : W32) : State :=
  match s.freeSlot with
  | some n => (s.modEpoch e (fun x => { x with slot := some n })).setSlot n.val 1 e
  | none => s

/-! ### Evaluation (R67, R68, R33, R311) -/

/-- The base set of an epoch (R68). -/
def State.baseSet (s : State) (x : Epoch) : List Conn :=
  match x.base with
  | some b => ((s.epoch? b).bind (·.planned)).getD s.landedSet
  | none => s.landedSet

/-- The slot of an epoch's base weave; none where no base weave exists (R133). -/
def State.baseSlotOf (s : State) (x : Epoch) : Option (Fin 16) :=
  match x.base with
  | some b => (s.epoch? b).bind (·.slot)
  | none => s.ledger.laid

/-- The key order of R56. -/
def keyLe (a b : Cmd) : Bool :=
  decide (a.op.num < b.op.num) || (a.op.num = b.op.num &&
    (decide (a.dev.toNat < b.dev.toNat) || (a.dev = b.dev && decide (a.seqnum.toNat ≤ b.seqnum.toNat))))

/-- What one command does to the set: the new set, or the final status it takes (R67). -/
def evalCmd (dm : List DmapEntry) (e : W32) (set : List Conn) (c : Cmd) : List Conn × Option Status :=
  let cIn := set.find? (·.input = c.input)
  let same := cIn.any (·.output = c.output)
  let pinned := cIn.any (·.pinned)
  let mark (p : Bool) : List Conn :=
    set.map (fun (x : Conn) => if x.input = c.input then { x with pinned := p, epoch := e } else x)
  match c.op with
  | .unpin => if !same || !pinned then (set, some (St.already 0)) else (mark false, none)
  | .disc =>
    if !same then (set, some (St.already 0))
    else if pinned then (set, some (St.blocked 0x12))
    else (set.filter (·.input ≠ c.input), none)
  | .conn =>
    if shutterClosed dm c.input c.output then (set, some (St.defect 0x21))
    else if same then (set, some (St.already 0))
    else if cIn.isSome then (set, some (St.blocked 0x10))
    else if set.any (·.output = c.output) then (set, some (St.blocked 0x11))
    else (insSorted (fun a b => decide (a.input ≤ b.input))
      ({ input := c.input, output := c.output, pinned := false, epoch := e } : Conn) set, none)
  | .pin =>
    if shutterClosed dm c.input c.output then (set, some (St.defect 0x21))
    else if !same then (set, some (St.blocked 0x18))
    else if pinned then (set, some (St.already 0)) else (mark true, none)

/-- The entry of a newly called cell that takes PENDING (R30, R33): its CELL entry, else the second accepted of its
TAP entries, which completed the condition of R31. -/
def completingEntry (dm : List DmapEntry) (order : List (Nat × Nat)) (c : Nat) : Option DmapEntry :=
  match dm.find? (fun e => e.kind = 0 && e.object = c) with
  | some e => some e
  | none => (order.filterMap (fun k => dm.find? (fun e => e.kind = 1 && k.1 = 1 && e.object = k.2 && e.cell? = some c)))[1]?

/-- PENDING set on an entry of a map. -/
def pendEntry (e : DmapEntry) (dm : List DmapEntry) : List DmapEntry :=
  dm.map (fun (x : DmapEntry) => if x.kind = e.kind && x.object = e.object then { x with pending := true } else x)

/-- The busy cells that an epoch's map calls for and its base weave does not hold RETIRED wait (R33). -/
def State.judgePending (s : State) (x : Epoch) : State :=
  match x.health, s.baseSlotOf x with
  | some h, some n =>
    let w := s.weave n.val
    let busy := w.busyCells s.strand.geomY512
    let new := (mapCells h.dmap).filter (fun c =>
      calledFor h.dmap c && !awaiting h.dmap c && w.code c ≠ 3 && busy.contains c)
    let es := new.filterMap (completingEntry h.dmap s.solve.dmapOrder)
    if es.isEmpty then s
    else
      let put (dm : List DmapEntry) : List DmapEntry := es.foldl (fun dm e => pendEntry e dm) dm
      let s := s.modEpoch x.num (fun x => { x with health := x.health.map (fun h => { h with dmap := put h.dmap }) })
      ({ s with solve := { s.solve with dmap := put s.solve.dmap, dmapForce := put s.solve.dmapForce } } : State).ckptDefect
  | _, _ => s

/-- The set of the target of a corrective epoch: landed here, or missed (R311). -/
def State.targetSet (s : State) (k : W32) : Option (List Conn) :=
  match s.epoch? k with
  | some y => if y.st = .landed then y.planned else (s.net.missed.find? (·.1 = k)).map (·.2)
  | none => (s.net.missed.find? (·.1 = k)).map (·.2)

/-- The evaluation of an epoch (R67, R68): final statuses, the set, the CONN entries that stand. -/
def State.evaluate (s : State) (e : W32) : State :=
  match s.epoch? e with
  | none => s
  | some x =>
    let s := s.judgePending x
    let dm := (x.health.map (·.dmap)).getD []
    let base := match x.net with
      | some n => if n.corrective then (s.targetSet n.target).getD (s.baseSet x) else s.baseSet x
      | none => s.baseSet x
    let cmds := sortBy (fun (a b : Nat × Entry) => keyLe a.2.cmd b.2.cmd) (s.acceptedOf e)
    let r := cmds.foldl (fun (acc : List Conn × List (Nat × Nat × Nat) × List (Nat × Status)) p =>
      match evalCmd dm e acc.1 p.2.cmd with
      | (_, some st) => (acc.1, acc.2.1, acc.2.2 ++ [(p.1, st)])
      | (set, none) => (set, if p.2.cmd.op = .conn then acc.2.1 ++ [(p.1, p.2.cmd.input, p.2.cmd.output)] else acc.2.1, acc.2.2))
      (base, [], [])
    let adds := match x.net with
      | some n =>
        if n.corrective then
          let b := s.baseSet x
          (base.filter (fun c => !b.any (fun d => d.input = c.input && d.output = c.output))).map
            (fun c => (2048, c.input, c.output))
        else r.2.1
      | none => r.2.1
    let s := forEach r.2.2 (fun s p => s.finalEntry p.1 p.2) s
    s.modEpoch e (fun x => { x with evaluated := true, evalSet := r.1, adds := adds })

/-! ### Solves (R143 to R149) -/

/-- The solve of an evaluated epoch. -/
def State.jobOf (s : State) (x : Epoch) (ns : Nat) : SolveJob :=
  let h := x.health.getD s.healthNow
  let b := s.baseSlotOf x
  { epoch := x.num, y512 := s.strand.geomY512, base := b.map (fun n => s.weave n.val)
    baseSlot := (b.map (·.val)).getD 0xFF, conns := x.evalSet, adds := x.adds, dmap := h.dmap, wearSnap := h.wear
    policy := h.policy, dmapGen := h.dmapGen, foldGen := h.foldGen, solveNs := BitVec.ofNat 32 (Nat.min 0xFFFFFFFF ns) }

/-- A sealed and evaluated epoch with a slot may be solved. -/
def Epoch.solvable (x : Epoch) : Bool := x.st = .sealed && x.evaluated && x.slot.isSome

/-- The bound of R147 on an epoch's solve in ns, every CONN and every seek counted as blocked (R148). -/
def State.solveBound (s : State) (x : Epoch) : Nat :=
  match s.baseSlotOf x with
  | none => 200 + (if s.strand.geomY512 then 1800 else 3500) + 4200 * x.adds.length
  | some b =>
    let y := s.strand.geomY512
    let w := s.weave b.val
    let pend := pendingCells ((x.health.map (·.dmap)).getD [])
    let kept := w.conns.filter (fun (c : ConnRec) => x.evalSet.any (fun e => e.input = c.input && e.output = c.output))
    let seeks := (kept.filter (fun c => (w.connCells y c.input).isEmpty)).length
    let moves := (kept.filter (fun c => (w.connCells y c.input).any pend.contains)).length
    200 + 600 * (x.adds.length + (w.conns.length - kept.length) + moves + seeks) + 4200 * (x.adds.length + seeks)

/-- A solve starts at the mode of R405, or at the undivided clock where the throttled solve could miss the
staging deadline (R148). -/
def State.solveClock (s : State) (x : Epoch) : State :=
  let m := s.solveModeWanted
  let k := s.rd F.THERM_THR_CTRL_SKIP
  let b := s.solveBound x
  let slow := match m with
    | 0 => b
    | 1 => 2 * b
    | 2 => 4 * b
    | _ => ceilDiv (16 * b) (16 - k)
  let full := m ≠ 0 && decide (x.deadline < Int.ofNat (s.ext0 + (slow + 1) * nsUnit))
  (s.wrB F.SOLVE_STATUS_FULLCLK full).wr F.THERM_STATUS_SOLVE_MODE (if full then 0 else m)

/-- The solver runs on an epoch from now. -/
def State.throttleStart (s : State) (e : W32) : State :=
  ({ s with solve := { s.solve with running := some e, startedAt := s.time.cycle } } : State).throttleSource

/-- The solver takes the next sealed epoch, in order of seal instants (R144). -/
def State.nextSolve (s : State) : State :=
  if s.solve.running.isSome || !s.domEnabled 3 then s
  else match s.ledger.epochs.find? (fun (x : Epoch) => x.st = .sealed) with
    | some x => if x.solvable then
        (s.solveClock x).throttleStart x.num
      else s
    | none => s

/-- The solver is free and the next sealed epoch can be solved. -/
def State.solveDue (s : State) : Bool :=
  s.domEnabled 3 && !s.solve.running.isSome && (s.ledger.epochs.find? (fun (x : Epoch) => x.st = .sealed)).any Epoch.solvable

/-- A solve ends (R143, R140, R147): the weave, the slot READY, refusals, the planned set; one whose CORE cycle of 1 ns
does not end by the staging deadline ends its epoch SOLVE_LATE (R145). -/
def State.finishSolve (s : State) (x : Epoch) (slot : Fin 16) : State :=
  let s := ({ s with solve := { s.solve with running := none } } : State).solveEnds
  if decide (x.deadline < Int.ofNat (s.ext0 + nsUnit)) then
    ((s.abortPlain x.num (St.aborted 0x121)).fireHook 5 x.num).nextSolve
  else
    let ns := 2 * (s.time.cycle - s.solve.startedAt)
    let r := (s.jobOf x ns).solve
    let s := (s.putWeave slot.val 2 r.weave).setSlot slot.val 2 x.num
    let s := forEach r.refused (fun s p => s.finalEntry p.1 p.2) s
    let s := s.modEpoch x.num (fun x => { x with st := .solved, planned := some r.planned })
    let last := Nat.min 65535 ns
    let s := (s.wr F.SOLVE_TIME_LAST last).wr F.SOLVE_TIME_MAX (Nat.max last (s.rd F.SOLVE_TIME_MAX))
    let s := if r.weave.degrades.isEmpty then s
      else ((s.wr F.SOLVE_DEGRADED_EPOCH x.num.toNat).wr F.SOLVE_DEGRADED_COUNT r.weave.degrades.length).raise 16 x.num
    (s.fireHook 5 x.num).nextSolve

/-- The evaluation may begin: no preceding epoch, or one that has been solved (R68). -/
def State.baseSolved (s : State) (x : Epoch) : Bool :=
  match x.base with
  | none => true
  | some b => match s.epoch? b with
    | some y => y.st = .solved || y.st = .staged || y.st = .landed
    | none => true

/-- The seal of an epoch (R65, R67, R68, R82, R143, R304, R306). -/
def State.sealEpoch (s : State) (x : Epoch) : State :=
  let s := (s.passTo x.sealT).sealHealth
  let h := s.healthNow
  let p := s.preceding x
  let base := p.bind (fun y => if y.st = .landed then none else some y.num)
  let s := s.modEpoch x.num (fun x => { x with
    st := .sealed, health := some h, base := base
    margin := s.rd F.LAY_TIMING_MARGIN, timeout := s.rd F.LAY_TIMING_TIMEOUT
    net := x.net.map (fun n =>
      let d := netDigest n.netCmds
      { n with digest := if n.corrective then 0 else d.1, count := if n.corrective then 0 else d.2 }) })
  let s := (s.takeSlot x.num).fireHook 4 x.num
  let bad : Option Status := match x.net with
    | none => none
    | some n =>
      if (s.tb 0).lockLeft = 0 then some (St.aborted 0x305)
      else if n.corrective && (s.targetSet n.target).isNone then some (St.aborted 0x309)
      else none
  match bad with
  | some st => s.abortPlain x.num st
  | none => match s.epoch? x.num with
    | some x => if s.baseSolved x then (s.evaluate x.num).nextSolve else s
    | none => s

/-! ### Aborts on request (R70, R104, R168, R310) -/

/-- A request to abort is resolved: the state and the abort's own status, which is not the epoch's (R70, R168:
"The abort reports ABORTED", with no detail named).  A network epoch that ended after its COMMIT was held answers
ALREADY_DONE with detail 0, as R70 gives an ended epoch, where R310 could be read to give COMMITTED (DESIGN CHOICE, log
entry 27). -/
def State.abortRequest (s : State) (e : W32) : State × Status :=
  let s := if (s.epoch? e).any (·.layBegun) then s.layDue else s
  match s.epoch? e with
  | none => (s, if s.everOpened e then St.already 0 else St.none)
  | some x =>
    if x.ended then (s, St.already 0)
    else if x.net.any (fun n => n.commitHeld || (n.coordinator && n.decided)) then (s, St.already 0x202)
    else if x.layBegun then
      match s.lay.cur with
      | some l =>
        if l.epoch = e && l.kind = LayKind.epoch && !l.strobed && l.s ≠ 0 then
          (s.withdrawLay l 1 0x201, St.aborted 0)
        else (s, St.already 0x202)
      | none => (s, St.already 0x202)
    else ((s.abortPlain e (St.aborted 0x30)).nextSolve, St.aborted 0)

/-! ### Filing by this device (R66, R102) -/

/-- A command issued at this device. -/
def State.ownCmd (s : State) (op : CmdOp) (input output : Nat) (e seqnum : W32) : Cmd :=
  { op := op, input := input, output := output, epoch := e, dev := s.ownId, seqnum := seqnum }

/-- A `SEQ_HCMD` submission that files (R59, R66): the result register. -/
def State.hostFile (s : State) (op : CmdOp) (h : HostCmd) : State :=
  let r := s.file (s.ownCmd op h.input.toNat h.output.toNat h.epoch h.seqnum) false
  let v : W32 × Status := match r.2 with
    | some x => (x.1, x.2.1)
    | none => (0, St.blocked 0x15)
  (r.1.wr F.SEQ_HCMD_RESULT_HANDLE v.1.toNat).wr F.SEQ_HCMD_RESULT_STATUS v.2.word.toNat

/-- A read of `SEQ_ENTRY[i]` (R60): its status word and tag; a final one of a local source is delivered. -/
def State.entryWord (s : State) (i : Nat) : BitVec 64 :=
  let st := match alist s.ledger.entries i with
    | some e => e.status
    | none => St.none
  BitVec.ofNat 64 (st.word.toNat + (s.tagOf i).toNat * 2 ^ 32)

/-- What that read does. -/
def State.entryRead (s : State) (i : Nat) : State :=
  match alist s.ledger.entries i with
  | some e => if e.status.code ≠ 1 && !e.remote then s.freeEntry i else s
  | none => s

/-! ### Re-solves (R79, R82, R149) -/

/-- The LAID weave rebuilt from the landed set and the cell codes (R149). -/
def State.tracedWeave (s : State) (w : Weave) : Weave :=
  let y := s.strand.geomY512
  let codes := s.cellCodes
  let conns := s.landedSet.map (fun c => c.toRec false)
  { w with
    conns := conns, routes := tracedRoutes y codes conns
    states := (presentCells y).filterMap (fun c => if codes.getD c 2 = 2 then none else some (c, codes.getD c 2)) }

/-- Whether a slot holds a failed byte. -/
def State.slotBad (s : State) (n : Nat) : Bool :=
  s.solve.weaveBad.any (fun a => slotBase n ≤ a && decide (a < slotBase (n + 1)))

/-- A slot's failed bytes are replaced. -/
def State.slotMended (s : State) (n : Nat) : State :=
  { s with solve := { s.solve with weaveBad := s.solve.weaveBad.filter (fun a => !(slotBase n ≤ a && decide (a < slotBase (n + 1)))) } }

/-- A weave lost to parity is made again in its slot, its base first where that failed too (R149). -/
def State.resolveSlot : Nat → State → Fin 16 → State
  | 0, s, _ => s
  | k + 1, s, slot =>
    let st := s.rd F.SOLVE_SLOTS_STATE 0 0 slot.val
    let w := s.weave slot.val
    if st = 4 then (s.putWeave slot.val 4 (s.tracedWeave w)).slotMended slot.val
    else match s.ledger.epochs.find? (fun (x : Epoch) => x.slot = some slot && (x.st = .solved || x.st = .staged)) with
      | none => s.slotMended slot.val
      | some x =>
        let s := match s.baseSlotOf x with
          | some b => if s.slotBad b.val then State.resolveSlot k s b else s
          | none => s
        (s.putWeave slot.val st (s.jobOf x w.solveNs.toNat).solve.weave).slotMended slot.val

/-! ### Bus responses (R9, R11) -/

/-- What a master's access answers. -/
def State.respond (s : State) (m : Nat) (ok : Bool) (data : BitVec 64) : State :=
  { s with bus := { s.bus with resp := aset s.bus.resp m { ok := ok, data := data } } }

/-! ### Changes of the defect map (R142) -/

/-- The first applicable row of R142 for an add: the code. -/
def State.dmapAddCode (s : State) (e : DmapEntry) : Nat :=
  let lc := s.boot.fuses.lc
  if lc = 0 || lc = 4 then 7
  else if !s.dmapValid e then 5
  else if e.cause = 0 then 7
  else if dmapHas s.solve.dmap e.kind e.object then 3
  else if 2048 ≤ s.solve.dmap.length then 6 else 1

/-- A changed map: the generation and the checkpoint (R142, R355). -/
def State.dmapChanged (s : State) (dm : List DmapEntry) : State :=
  (({ s with solve := { s.solve with dmap := dm } } : State).wr F.SOLVE_HEALTH_DMAP_GEN
    (s.rd F.SOLVE_HEALTH_DMAP_GEN + 1)).ckptDefect

/-- An add. -/
def State.dmapAdd (s : State) (w : W32) : State :=
  let e := { DmapEntry.ofWord (w.setWidth 64) with pending := false, hours := s.strand.hours }
  let code := s.dmapAddCode e
  let s := if code = 1 then ({ s with solve := { s.solve with dmapOrder := orderAdd s.solve.dmapOrder [e] } } : State).dmapChanged
      (insSorted dmapLe e s.solve.dmap) else s
  s.wr F.SOLVE_DMAP_RESULT_RESULT code

/-- The map without an entry: a pending retirement passes to what still calls for it, or goes (R142). -/
def dmapWithout (dm : List DmapEntry) (e : DmapEntry) : List DmapEntry :=
  let rest := dm.filter (fun (x : DmapEntry) => !(x.kind = e.kind && x.object = e.object))
  match e.cell? with
  | none => rest
  | some c =>
    if calledFor rest c then
      if e.pending then
        match rest.find? (fun x => x.cell? = some c && x.kind = 0) with
        | some y => pendEntry y rest
        | none => match rest.find? (fun x => x.cell? = some c) with
          | some y => pendEntry y rest
          | none => rest
      else rest
    else rest.map (fun (x : DmapEntry) => if x.cell? = some c then { x with pending := false } else x)

/-- A remove. -/
def State.dmapRemove (s : State) (w : W32) : State :=
  let e := DmapEntry.ofWord (w.setWidth 64)
  let old := s.solve.dmap.find? (fun x => x.kind = e.kind && x.object = e.object)
  let code := if s.boot.fuses.lc ≠ 3 then 7
    else match old with
      | none => 4
      | some x => if x.cause = 0 then 7 else 2
  let s := match old with
    | some x => if code = 2 then s.dmapChanged (dmapWithout s.solve.dmap x) else s
    | none => s
  s.wr F.SOLVE_DMAP_RESULT_RESULT code

end Sys2Proof.Machine
end

