-- ==== Sys2Proof/Machine/SwitchOps.lean ====
section
/-! DEFINITION. The braid switch's shared operations (12): frame fields, classes and lookup, link
aggregation, the buffer and its push-out, shapers, gates and the choice of the next frame. -/

namespace Sys2Proof.Machine

/-! ### Running ports (R421, R431) -/

/-- A braid port's hardware runs: BRAID is clocked and, in STANDBY, the port is PEER_PORT (R421, R431). -/
def State.braidRuns (s : State) (p : Nat) : Bool :=
  s.laneClock && s.domEnabled 9 && ((!s.coldStandby && s.rd F.REDUND_STATUS_ROLE ≠ 2) || s.rd F.REDUND_CFG_PEER_PORT = p)

/-! ### Frame fields (R291, R316, R319, R321) -/

/-- `n` bytes of a frame from an offset, as a number, first byte highest. -/
def beAt (b : List Byte) (o n : Nat) : Nat := ((b.drop o).take n).foldl (fun v x => v * 256 + x.toNat) 0
/-- The `n` bytes of a number, highest first. -/
def beBytes (n v : Nat) : List Byte := (natBytes n v).reverse
/-- A frame carries an 802.1Q tag. -/
def frameTagged (b : List Byte) : Bool := beAt b 12 2 = 0x8100
/-- The offset of the frame's payload. -/
def frameBody (b : List Byte) : Nat := if frameTagged b then 18 else 14
/-- The EtherType. -/
def frameType (b : List Byte) : Nat := beAt b (frameBody b - 2) 2
/-- A PTP frame (R319). -/
def isPtp (b : List Byte) : Bool := frameType b = 0x88F7
/-- A Triene frame. -/
def isTriene (b : List Byte) : Bool := frameType b = 0x88B5
/-- A byte of the frame's payload. -/
def bodyByte (b : List Byte) (o : Nat) : Nat := beAt b (frameBody b + o) 1
/-- Bytes of a frame replaced from an offset. -/
def patch (b : List Byte) (o : Nat) (x : List Byte) : List Byte := b.take o ++ x ++ b.drop (o + x.length)
/-- A received PAUSE frame (R316). -/
def isPause (b : List Byte) : Bool := frameType b = 0x8808 && beAt b (frameBody b) 2 = 1

/-- A frame's length on the wire without preamble and gap: the FCS included. -/
def SwFrame.len (f : SwFrame) : Nat := f.bytes.length + 4

/-- A Triene frame's bytes, padded to the minimum frame size (R291). -/
def trieneBytes (f : TFrame) (own : BitVec 16) (vid : Nat) : List Byte :=
  let da := (if f.flags.getLsbD 0 then [0x03, 0x4B, 0x52, 0x01] else [0x02, 0x4B, 0x52, 0x00]) ++ beBytes 2 f.dst.toNat
  let sa := [0x02, 0x4B, 0x52, 0x00] ++ beBytes 2 own.toNat
  let tag := beBytes 2 0x8100 ++ beBytes 2 (f.cls.toNat * 8192 + vid)
  let hdr := [1, f.typ, BitVec.ofNat 8 f.cls.toNat, f.hops] ++ natBytes 2 f.dst.toNat ++ natBytes 2 f.src.toNat ++
    natBytes 2 f.flags.toNat ++ natBytes 2 f.payload.length ++ natBytes 4 f.seqnum.toNat ++ natBytes 4 f.epoch.toNat ++
    natBytes 4 f.ref.toNat
  let b := da ++ sa ++ tag ++ beBytes 2 0x88B5 ++ hdr ++ f.payload
  b ++ List.replicate (60 - b.length) 0

/-- The Triene frame a frame's bytes spell, unless R291 discards it. -/
def trieneOf (b : List Byte) : Option TFrame :=
  let h := b.drop (frameBody b)
  let le (o n : Nat) : Nat := bytesAt h o n
  let typ := le 1 1
  let listed := (1 ≤ typ && typ ≤ 6) || (0x10 ≤ typ && typ ≤ 0x16)
  if isTriene b && 24 ≤ h.length && le 0 1 = 1 && listed && le 0x0A 2 ≤ h.length - 24 then
    some { typ := BitVec.ofNat 8 typ, cls := BitVec.ofNat 3 (le 2 1), hops := BitVec.ofNat 8 (le 3 1)
           dst := BitVec.ofNat 16 (le 4 2), src := BitVec.ofNat 16 (le 6 2), flags := BitVec.ofNat 16 (le 8 2)
           seqnum := BitVec.ofNat 32 (le 0x0C 4), epoch := BitVec.ofNat 32 (le 0x10 4), ref := BitVec.ofNat 32 (le 0x14 4)
           payload := (h.drop 24).take (le 0x0A 2) }
  else none

/-! ### Classes and lookup (R321, R322) -/

/-- The class of a frame at an input, and whether its claim was not honoured (R321). -/
def State.classOf (s : State) (inp : Nat) (b : List Byte) : Nat × Bool :=
  if isPtp b then (7, false)
  else if isTriene b then
    let c := bodyByte b 2 % 8
    let t := bodyByte b 1
    if c = 7 || (c = 6 && !(0x10 ≤ t && t ≤ 0x16)) || (c = 5 && !(2 ≤ t && t ≤ 4)) then (1, true) else (c, false)
  else if frameTagged b && s.bit F.SWITCH_PORT_CFG_TRUST_PCP inp then
    (s.rd F.SWITCH_PCP_MAP_CLASS 0 0 (beAt b 14 2 / 8192), false)
  else (s.rd F.SWITCH_PORT_CFG_DEF_CLASS inp, false)

/-- The members of a group, ascending. -/
def State.lagMembers (s : State) (g : Nat) : List Nat := maskBits (s.rd F.SWITCH_LAG_MEMBERS g) 16

/-- The bucket of a frame (R327). -/
def bucketOf (b : List Byte) : Nat :=
  let vid := if frameTagged b then beAt b 14 2 % 4096 else 0
  let tri := if isTriene b then (b.drop (frameBody b + 4)).take 4 ++ (b.drop (frameBody b + 2)).take 1 else []
  crc16 (b.take 12 ++ beBytes 2 vid ++ beBytes 2 (frameType b) ++ tri) % 16

/-- The output a table value names: a port, or the member of a group that the bucket names (R320, R327). -/
def State.outOf (s : State) (v : Nat) (b : List Byte) : Option Nat :=
  if v < 19 then some v
  else if 24 ≤ v && v ≤ 27 && s.bit F.SWITCH_LAG_EN (v - 24) then
    (s.lagMembers (v - 24))[s.rd F.SWITCH_LAG_BUCKETS (v - 24) / 4 ^ bucketOf b % 4]?
  else none

/-- The destinations of a frame (R322); none where no entry is found. Log entry 12: an entry that names a group
which is not enabled gives none; a multicast entry without ports is an entry, so its frame vanishes uncounted;
a frame's DIRECT port outside 0–15 and 18 is no destination. -/
def State.lookup (s : State) (inp : Nat) (b : List Byte) : Option (List Nat) :=
  let da := beAt b 0 6
  let id := da % 65536
  if inp < 16 && (isPtp b || frameType b = 0x8809) then some [16]
  else if da / 65536 = 0x024B5200 then
    if id = s.rd F.SEQ_NET_ID_ID then some [17]
    else
      match (List.range 4096).find? (fun i => s.bit F.SWITCH_ROUTE_VALID i && s.rd F.SWITCH_ROUTE_DEVICE i = id) with
      | some i => (s.outOf (s.rd F.SWITCH_ROUTE_PORT i) b).map (fun o => [o])
      | none => none
  else if da / 65536 = 0x034B5201 && id < 1024 then
    some ((maskBits (s.rd F.SWITCH_MCAST_PORTS id) 19).filter (· ≠ inp))
  else
    match (List.range 64).find? (fun i => s.bit F.SWITCH_MAC_VALID i && s.rd F.SWITCH_MAC_MAC i = da) with
    | some i => (s.outOf (s.rd F.SWITCH_MAC_PORT i) b).map (fun o => [o])
    | none => none

/-! ### Queues and the buffer (R329 to R331) -/

/-- A queue in its reset condition. -/
def OutQueue.empty (o c : Nat) : OutQueue :=
  { out := o, cls := c, copies := [], deficit := 0, credit := 0, creditAt := 0, held := none }
/-- A queue by output and class. -/
def State.outQ (s : State) (o c : Nat) : OutQueue :=
  (s.sw.queues.find? (fun (q : OutQueue) => q.out = o && q.cls = c)).getD (OutQueue.empty o c)
/-- A queue set. -/
def State.setOutQ (s : State) (q : OutQueue) : State :=
  let rest := s.sw.queues.filter (fun (x : OutQueue) => !(x.out = q.out && x.cls = q.cls))
  { s with sw := { s.sw with queues := if q = OutQueue.empty q.out q.cls then rest else q :: rest } }
/-- A frame of the buffer. -/
def State.swFrame (s : State) (id : Nat) : Option SwFrame := s.sw.frames.find? (fun (f : SwFrame) => f.id = id)
/-- The units of a copy's frame. -/
def State.copyUnits (s : State) (c : QCopy) : Nat := ((s.swFrame c.id).map (·.units)).getD 0
/-- A queue's depth in units. -/
def State.depth (s : State) (o c : Nat) : Nat := ((s.outQ o c).copies.map s.copyUnits).sum

/-- FREE changes, and MIN_FREE follows it. -/
def State.setFree (s : State) (n : Nat) : State :=
  let s := s.wr F.SWITCH_BUF_FREE n
  if n < s.rd F.SWITCH_BUF_MIN_FREE then s.wr F.SWITCH_BUF_MIN_FREE n else s

/-- The units a copy of a class may take (R329). -/
def State.freeFor (s : State) (c : Nat) : Nat :=
  let free := s.rd F.SWITCH_BUF_FREE
  if 5 ≤ c then free
  else
    let resv := s.rd F.SWITCH_BUF_RESV
    free - ((List.range 19).map (fun o => resv - (s.depth o 5 + s.depth o 6 + s.depth o 7))).sum

/-- One copy of a frame is gone: its units are free with the last one. -/
def State.releaseCopy (s : State) (id : Nat) : State :=
  match s.swFrame id with
  | none => s
  | some f =>
    let rest := s.sw.frames.filter (fun (x : SwFrame) => x.id ≠ id)
    if f.copies ≤ 1 then
      ({ s with sw := { s.sw with frames := rest } } : State).setFree (s.rd F.SWITCH_BUF_FREE + f.units)
    else { s with sw := { s.sw with frames := { f with copies := f.copies - 1 } :: rest } }

/-- A queue's copies set; the deficit clears when it empties (R333). -/
def State.setCopies (s : State) (o c : Nat) (l : List QCopy) : State :=
  let q := s.outQ o c
  s.setOutQ { q with copies := l, deficit := if l.isEmpty then 0 else q.deficit }

/-- The candidate queue whose tail is evicted next: the longest, the lower class on a tie (R330). -/
def State.evictQueue (s : State) (o c : Nat) : Option Nat :=
  ((List.range (Nat.min c 5)).filter (fun k => !(s.outQ o k).copies.isEmpty)).foldl (fun b k => match b with
    | none => some k
    | some j => if s.depth o j < s.depth o k then some k else some j) none

/-- Tail frames of an output are evicted until the units are available; none where they never are. -/
def State.evictFor (o c u : Nat) : Nat → State → Option State
  | 0, s => if u ≤ s.freeFor c then some s else none
  | n + 1, s =>
    if u ≤ s.freeFor c then some s
    else match s.evictQueue o c with
      | none => none
      | some k =>
        let cs := (s.outQ o k).copies
        match cs.getLast? with
        | none => none
        | some x => State.evictFor o c u n
            (((s.setCopies o k cs.dropLast).releaseCopy x.id).inc F.SWITCH_OUTDROP_EVICTED 1 o k)

/-- A copy is dropped at its output. -/
def State.dropCopy (s : State) (o c : Nat) : State := s.inc F.SWITCH_OUTDROP_DROPPED 1 o c

/-- An output takes copies: its switch port is enabled, on a braid port the port is up (R317), and LEDGER takes
none at a STANDBY unit (R353). -/
def State.outOk (s : State) (o : Nat) : Bool :=
  s.bit F.SWITCH_PORT_CFG_EN o && (o ≠ 17 || s.rd F.REDUND_STATUS_ROLE ≠ 2) && (16 ≤ o || (s.bit F.BRAID_STATUS_LINK o && s.bit F.BRAID_CTRL_EN o && s.braidRuns o))

/-- A queue's LIMIT: as a write found it until the next transmission decision (R329, R337). -/
def State.limitOf (s : State) (o c : Nat) : Nat := ((s.outQ o c).held.map (·.limit)).getD (s.rd F.SCHED_QCFG_LIMIT o c)

/-- A copy joins a queue: copies of one cycle stand in ascending order of input port (R326). -/
def State.enqueue (s : State) (o c inPort : Nat) (x : QCopy) : State :=
  let l := (s.outQ o c).copies
  let later (y : QCopy) : Bool := y.enq = x.enq && (s.swFrame y.id).any (fun f => decide (inPort < f.inPort))
  s.setCopies o c (l.filter (fun y => !later y) ++ x :: l.filter later)

/-- A frame's copies are admitted and queued, or dropped (R324, R329 to R331). -/
def State.enterBuffer (s : State) (f : SwFrame) (outs : List (Nat × Bool)) : State :=
  let c := f.cls
  let s := forEach (outs.filter (fun p => !s.outOk p.1)) (fun s p => s.dropCopy p.1 c) s
  let outs := outs.filter (fun p => s.outOk p.1)
  let fits (p : Nat × Bool) : Bool := decide (s.depth p.1 c + f.units ≤ s.limitOf p.1 c)
  let s := forEach (outs.filter (fun p => !fits p)) (fun s p => s.dropCopy p.1 c) s
  let outs := outs.filter fits
  if outs.isEmpty then s
  else
    let tryOut (p : Nat × Bool) : Option State :=
      State.evictFor p.1 c f.units (((List.range 5).map (fun k => (s.outQ p.1 k).copies.length)).sum) s
    match (if f.units ≤ s.freeFor c then some s else outs.findSome? tryOut) with
    | none => forEach outs (fun s p => s.dropCopy p.1 c) s
    | some s =>
      let s := s.setFree (s.rd F.SWITCH_BUF_FREE - f.units)
      let fs := { f with copies := outs.length } :: s.sw.frames
      let s := { s with sw := { s.sw with frames := fs, nextId := s.sw.nextId + 1, bufBytes := [] } }
      forEach outs (fun s p => s.enqueue p.1 c f.inPort { id := f.id, enq := s.time.cycle, hop := p.2 }) s

/-- A frame enters the switch at a port (R321 to R325): `host` gives the class and the DIRECT port of a host
frame. -/
def State.swEnter (s : State) (inp : Nat) (b : List Byte) (host : Option (Nat × Option Nat)) (ts : Option W64)
    (tsReq : Nat) : State :=
  if !s.bit F.SWITCH_CTRL_EN || !s.bit F.SWITCH_PORT_CFG_EN inp then s
  else
    let k := s.classOf inp b
    let cls := (host.map (·.1)).getD k.1
    let s := if host.isNone && k.2 then s.inc F.SWITCH_INDROP_DEMOTED 1 inp else s
    let dests : Option (List Nat) := match host.bind (·.2) with
      | some p => if p < 16 || p = 18 then some [p] else none
      | none => match s.lookup inp b with
        | some l => some l
        | none => if s.bit F.SWITCH_CTRL_UNK_HOST && inp ≠ 16 then some [16] else none
    match dests with
    | none => s.inc F.SWITCH_INDROP_UNKNOWN 1 inp
    | some l =>
      let tri := isTriene b && decide (inp < 16)
      let refused := if tri && bodyByte b 3 = 0 then l.filter (· < 16) else []
      let s := if refused.isEmpty then s else s.inc F.SWITCH_INDROP_HOPS refused.length inp
      let outs := (l.filter (fun o => !refused.contains o)).map (fun o => (o, tri && decide (o < 16)))
      s.enterBuffer { id := s.sw.nextId, bytes := b, inPort := inp, cls := cls, units := ceilDiv (b.length + 4) 256, copies := 0, ts := ts,
                       tsReq := tsReq } outs

/-- Every Triene frame the controller has made enters at LEDGER (R320). -/
def State.enterLedger (s : State) : State :=
  let l := s.net.txq
  forEach l (fun s f => s.swEnter 17 (trieneBytes f s.ownId (s.rd F.SEQ_NET_CFG_VID)) none none 0)
    { s with net := { s.net with txq := [] } }

/-- What a frame of the pair's own traffic carries: the layouts are not stated (log entry 9). -/
opaque Config.mgmtBody : MgmtOut → List Byte

/-- The frames of at most 512 bytes that carry it: a long record takes several (R356; log entry 9). -/
def MgmtOut.frames : MgmtOut → Nat
  | .heartbeat _ => 1
  | .record r => 1 + 4 * r.data.length / 490

/-- The k-th frame of the primary, or of the secondary, to the peer's unit address (R356, R358): a heartbeat and a STATE update of LAYMARK carry PCP 4, every
other record PCP 3. Heartbeats are given the records' EtherType (log entry 18). -/
def mgmtBytes (prim : Bool) (m : MgmtOut) (k : Nat) : List Byte :=
  let unit (p : Bool) : List Byte := [0x02, 0x4B, 0x52, 0xFE, 0x00, if p then 0 else 1]
  let pcp := match m with
    | .heartbeat _ => 4
    | .record r => if r.sect = .laymarkState then 4 else 3
  let b := unit (!prim) ++ unit prim ++ beBytes 2 0x8100 ++ beBytes 2 (pcp * 8192) ++ beBytes 2 0x88B6 ++
    ((Config.mgmtBody m).drop (490 * k)).take 490
  b ++ List.replicate (60 - b.length) 0

/-- The pair's frames enter at MGMT (R320, R356, R358). -/
def State.enterMgmt (s : State) : State :=
  forEach s.redund.outbox (fun s m => forEach (List.range m.frames) (fun s k => s.swEnter 18 (mgmtBytes (s.bit F.REDUND_STATUS_PRIMARY) m k) none none 0) s)
    { s with redund := { s.redund with outbox := [] } }

/-- The frames in which the peer sent a heartbeat or a record leave the inbox (R320). -/
def State.takeMgmt (s : State) (m : MgmtOut) : State :=
  let peer := (List.range m.frames).map (mgmtBytes (!s.bit F.REDUND_STATUS_PRIMARY) m)
  { s with redund := { s.redund with inbox := peer.foldl List.erase s.redund.inbox } }

/-! ### Link aggregation (R327) -/

/-- Every bucket of an enabled group whose member is down passes to the next member that is up. -/
def State.lagHeal (s : State) (g : Nat) : State :=
  if !s.bit F.SWITCH_LAG_EN g then s
  else
    let ms := s.lagMembers g
    let up (i : Nat) : Bool := (ms[i]?).any (fun p => s.bit F.BRAID_STATUS_LINK p)
    let b := s.rd F.SWITCH_LAG_BUCKETS g
    let next (i : Nat) : Nat :=
      if up i then i else (((List.range ms.length).map (fun k => (i + 1 + k) % ms.length)).find? up).getD i
    s.wr F.SWITCH_LAG_BUCKETS ((List.range 16).foldl (fun v k => v + next (b / 4 ^ k % 4) * 4 ^ k) 0) g

/-- The buckets of a group as enabling gives them: bucket b to member b mod n. -/
def State.lagDeal (s : State) (g : Nat) : State :=
  let n := (s.lagMembers g).length
  s.wr F.SWITCH_LAG_BUCKETS ((List.range 16).foldl (fun v k => v + k % n * 4 ^ k) 0) g

/-! ### Rates and shapers (R334, R337) -/

/-- The rate of an output in kb/s: the line's on a braid port, 25 Gb/s inside the device (log entry 12). -/
def State.portRate (s : State) (o : Nat) : Nat := if o < 16 && s.bit F.BRAID_CTRL_SPEED o then 10000000 else 25000000

/-- The wire time of a frame of L bytes in TIME cycles, rounded up. -/
def State.wireCycles (s : State) (o len : Nat) : Nat := ceilDiv ((len + 20) * 8 * 500000) (s.portRate o)

/-- A transmission is under way at an output. -/
def State.busyOut (s : State) (o : Nat) : Bool := s.sw.sending.any (fun (t : Transmit) => t.out = o)

/-- The settings a queue's registers give: RATE no higher than the port's rate (R334). -/
def State.shaperSet (s : State) (o c : Nat) : Shaper :=
  { on := s.bit F.SCHED_QCFG_SH_EN o c, rate := Nat.min (s.rd F.SCHED_SHAPE_RATE o c) (s.portRate o)
    burst := s.rd F.SCHED_SHAPE_BURST o c, limit := s.rd F.SCHED_QCFG_LIMIT o c }

/-- A queue's credit brought up to the present, in 2⁻³² byte (R334): with the shaper off it stands. -/
def State.creditNow (s : State) (o c : Nat) : Int :=
  let q := s.outQ o c
  let h := q.held.getD (s.shaperSet o c)
  let k := s.time.cycle - q.creditAt
  let burst : Int := Int.ofNat (h.burst * 2 ^ 32)
  if !h.on then q.credit
  else if s.sw.sending.any (fun (t : Transmit) => t.out = o && t.cls = c) then
    q.credit - Int.ofNat ((s.portRate o - h.rate) * k * 2 ^ 32 / 4000000)
  else if burst ≤ q.credit then q.credit
  else
    let v := q.credit + Int.ofNat (h.rate * k * 2 ^ 32 / 4000000)
    if v < burst then v else burst

/-- A queue's credit stored as it stands now. -/
def State.creditSync (s : State) (o c : Nat) : State :=
  let q := s.outQ o c
  s.setOutQ { q with credit := s.creditNow o c, creditAt := s.time.cycle }

/-- Before a queue's settings are written: during a transmission at its output the settings in force hold until
the next transmission decision (R337). -/
def State.holdShaper (s : State) (o c : Nat) : State :=
  let s := s.creditSync o c
  let q := s.outQ o c
  if s.busyOut o && q.held.isNone then s.setOutQ { q with held := some (s.shaperSet o c) } else s

/-- The transmission at an output is over: credits stand as they are now, and the settings written during it
apply from here (R334, R337). -/
def State.stopSending (s : State) (t : Transmit) : State :=
  let s := forEach ((List.range 8).filter (fun c => decide (c = t.cls) || (s.outQ t.out c).held.isSome)) (fun s c =>
    let s := s.creditSync t.out c
    s.setOutQ { s.outQ t.out c with held := none }) s
  { s with sw := { s.sw with sending := s.sw.sending.erase t } }

/-- The bytes a copy leaves with: HOPS one less on a hop between braid ports, a one-step stamp of its own (R325, R348). -/
def Transmit.content (t : Transmit) (f : SwFrame) : List Byte :=
  if t.hop then patch f.bytes (frameBody f.bytes + 3) [BitVec.ofNat 8 (bodyByte f.bytes 3 - 1)] else t.own.getD f.bytes

/-- A transmission is cut: what has gone out, after the preamble, ends with an invalid FCS (R317). -/
def State.cutSend (s : State) (t : Transmit) : State :=
  let n := (s.time.cycle - t.start) * s.portRate t.out / 4000000 - 8
  let b := ((s.swFrame t.id).map t.content).getD []
  let s := if t.out < 16 then { s with sw := { s.sw with sent := (t.out, b.take n, false) :: s.sw.sent } } else s
  s.stopSending t

/-- A braid port's link goes down. -/
def State.linkDown (s : State) (p : Nat) : State :=
  ((s.wrB F.BRAID_STATUS_LINK false p).wrB F.BRAID_STATUS_LOCK false p).wrB F.BRAID_STATUS_FEC_LOCK false p

/-- What follows from ports that are down or disabled: their copies are discarded, a transmission on a link
that is down is cut, and buckets pass on (R317, R327). -/
def State.flushPorts (s : State) : State :=
  let s := forEach ((List.range 16).filter (fun p => s.bit F.BRAID_STATUS_LINK p && !s.braidRuns p)) State.linkDown s
  let s := forEach (s.sw.queues.filter (fun (q : OutQueue) => !q.copies.isEmpty && !s.outOk q.out)) (fun s q =>
    forEach q.copies (fun s c => (s.releaseCopy c.id).dropCopy q.out q.cls) (s.setCopies q.out q.cls [])) s
  let cut := s.sw.sending.filter (fun (t : Transmit) => t.out < 16 && !s.bit F.BRAID_STATUS_LINK t.out)
  let s := forEach cut (fun s t =>
    (((s.cutSend t).releaseCopy t.id).dropCopy t.out t.cls).wr F.BRAID_CNT_VALUE (s.rd F.BRAID_CNT_VALUE t.out 7 + 1) t.out 7) s
  forEach (List.range 4) State.lagHeal s

/-- A bucket of an enabled group names a member that is down. -/
def State.lagDue (s : State) (g : Nat) : Bool :=
  s.bit F.SWITCH_LAG_EN g && (List.range 16).any (fun k =>
    !((s.lagMembers g)[s.rd F.SWITCH_LAG_BUCKETS g / 4 ^ k % 4]?).any (fun p => s.bit F.BRAID_STATUS_LINK p))

/-- `flushPorts` has something to do: a link that no longer runs, a queue or a transmission of an output that
is down, a bucket of a member that is down. -/
def State.portsDue (s : State) : Bool :=
  (List.range 16).any (fun p => s.bit F.BRAID_STATUS_LINK p && !s.braidRuns p) ||
    s.sw.queues.any (fun (q : OutQueue) => !q.copies.isEmpty && !s.outOk q.out) ||
    s.sw.sending.any (fun (t : Transmit) => t.out < 16 && !s.bit F.BRAID_STATUS_LINK t.out) ||
    (List.range 4).any s.lagDue

/-! ### Gates (R335, R336) -/

/-- The entries of a list over one cycle, in 2⁻¹⁶ ns: cut at the cycle's end, the last lasting to it (R335). -/
def GateList.segs (g : GateList) : List (Nat × Nat) :=
  let cyc := g.cycle * nsUnit
  let r := g.entries.foldl (fun (acc : List (Nat × Nat) × Nat) e =>
    let len := Nat.min (e.2 * nsUnit) (cyc - acc.2)
    (acc.1 ++ [(e.1, len)], acc.2 + len)) ([], 0)
  match r.1.getLast? with
  | none => [(0xFF, cyc)]
  | some l => r.1.dropLast ++ [(l.1, l.2 + (cyc - r.2))]

/-- Segments after a time into them. -/
def dropTime : Nat → List (Nat × Nat) → List (Nat × Nat)
  | _, [] => []
  | p, (m, d) :: l => if p < d then (m, d - p) :: l else dropTime (p - d) l

/-- How long class `c` stays open over segments; none where they never close it. -/
def openRun (c : Nat) : List (Nat × Nat) → Nat → Option Nat
  | [], _ => none
  | (m, d) :: l, acc =>
    if d = 0 then openRun c l acc else if m.testBit c then openRun c l (acc + d) else some acc

/-- The position of an instant in a list's cycle. -/
def GateList.pos (g : GateList) (now : Nat) : Nat :=
  ((Int.ofNat now - Int.ofNat g.base) % Int.ofNat (g.cycle * nsUnit)).toNat

/-- The extended time of the base that gates an output. -/
def State.gateNow (s : State) (p : Nat) : Nat := (s.tb (s.rd F.SCHED_GATE_CTRL_TB p)).ext

/-- The operational list of an output: a pending one from its start on (R336). -/
def State.gateList (s : State) (p : Nat) : Option GateList :=
  match alist s.sw.pendingGates p with
  | some g => if g.base ≤ s.gateNow p then some g else alist s.sw.gates p
  | none => alist s.sw.gates p

/-- The entry in force of an output's operational list. -/
def State.gateEntry (s : State) (p : Nat) : Nat :=
  match s.gateList p with
  | none => 0
  | some g => g.segs.length - (dropTime (g.pos (s.gateNow p)) g.segs).length

/-- The time until class `c` of an output next closes, in 2⁻¹⁶ ns: 0 where it is closed, none where it never
closes (R335). -/
def State.openTime (s : State) (o c : Nat) : Option Nat :=
  if 16 ≤ o || !s.bit F.SCHED_GATE_CTRL_EN o then none
  else
    let now := s.gateNow o
    let r := match s.gateList o with
      | none => none
      | some g => openRun c (dropTime (g.pos now) g.segs ++ g.segs) 0
    match alist s.sw.pendingGates o with
    | none => r
    | some g =>
      let d := g.base - now
      if d = 0 then r
      else if r.any (fun t => decide (t < d)) then r
      else (openRun c g.segs 0).map (d + ·)

/-- A head frame fits its gate window (R335). -/
def State.fitsGate (s : State) (o c len : Nat) : Bool :=
  match s.openTime o c with
  | none => true
  | some t =>
    0 < t && decide ((len + 20) * 8 * 1000000 * s.incOf (s.rd F.SCHED_GATE_CTRL_TB o) * 65536 ≤ t * s.portRate o * 2 ^ 33)

/-- The length of the head frame of a queue. -/
def State.headLen (s : State) (o c : Nat) : Option Nat :=
  ((s.outQ o c).copies.head?).bind (fun x => (s.swFrame x.id).map SwFrame.len)

/-- A queue is eligible (R332). -/
def State.eligible (s : State) (o c : Nat) : Bool :=
  match s.headLen o c with
  | none => false
  | some n => s.fitsGate o c n && (!s.bit F.SCHED_QCFG_SH_EN o c || decide (0 ≤ s.creditNow o c))

/-! ### The choice of the next frame (R332, R333) -/

/-- The round robin's visit at an output: the class, and whether its quantum has been added. -/
def State.setDrr (s : State) (o c : Nat) (added : Bool) : State :=
  { s with sw := { s.sw with drr := aset s.sw.drr o (c, added) } }

/-- The class the round robin visits after one: 4 to 1 (R332). -/
def drrNext (c : Nat) : Nat := if c ≤ 1 then 4 else c - 1

/-- The class that deficit round robin gives among classes 4–1 with WEIGHT > 0 (R332, R333). -/
def State.drrPick (o : Nat) : Nat → State → Option Nat × State
  | 0, s => (none, s)
  | n + 1, s =>
    let v := (alist s.sw.drr o).getD (4, false)
    let c := v.1
    let w := s.rd F.SCHED_QCFG_WEIGHT o c
    if 0 < w && s.eligible o c then
      let q := s.outQ o c
      let d := if v.2 then q.deficit else q.deficit + w * 512
      let need := (s.headLen o c).getD 0 + 20
      if need ≤ d then (some c, (s.setOutQ { q with deficit := d - need }).setDrr o c true)
      else State.drrPick o n ((s.setOutQ { q with deficit := d }).setDrr o (drrNext c) false)
    else State.drrPick o n (s.setDrr o (drrNext c) false)

/-- The class whose head frame a free output starts (R332).  No row names class 0 with a WEIGHT above 0: the last one serves it
(DESIGN CHOICE, log entry 12). -/
def State.pickClass (s : State) (o : Nat) : Option Nat × State :=
  match [7, 6, 5].find? (s.eligible o) with
  | some c => (some c, s)
  | none =>
    if [4, 3, 2, 1].any (fun c => s.eligible o c && decide (0 < s.rd F.SCHED_QCFG_WEIGHT o c)) then State.drrPick o 60 s
    else ([4, 3, 2, 1, 0].find? (s.eligible o), s)

/-! ### Time stamps (R319, R347, R348) -/

/-- A time stamp of a braid port: NOW of its base `back` bytes of wire time ago (ahead where negative),
with its latency correction, within ±2 ns. -/
def State.stamp (s : State) (p : Nat) (back : Int) (lat : Int) : W64 × State :=
  let t := s.rd F.TIME_PORT_CFG_TB p
  let d := back * Int.ofNat (8 * 1000000 * s.incOf t * 65536) / Int.ofNat (s.portRate p * 2 ^ 33)
  let j := s.jitter
  ((s.tb t).now + BitVec.ofInt 64 (lat + j.1 - d), j.2)

/-- A one-step Sync (R348): messageType 0 with twoStepFlag clear. -/
def isOneStep (b : List Byte) : Bool := bodyByte b 0 % 16 = 0 && bodyByte b 6 / 2 % 2 = 0

/-- originTimestamp and correctionField from an egress time stamp (R348). -/
def State.oneStep (s : State) (p : Nat) (ts : W64) (b : List Byte) : List Byte :=
  let t := s.rd F.TIME_PORT_CFG_TB p
  let x := (Int.ofNat (s.tb t).ext + (ts - (s.tb t).now).toInt).toNat
  let sec := (x / nsUnit / 1000000000 + s.rd F.TIME_EPOCH_S_EPOCH_S t) % 2 ^ 48
  let o := frameBody b
  let b := patch b (o + 34) (beBytes 6 sec ++ beBytes 4 (x / nsUnit % 1000000000))
  patch b (o + 8) (beBytes 8 ((beAt b (o + 8) 8 + x % nsUnit) % 2 ^ 64))

/-- The time stamp a host frame asked for is taken as its transmission starts (R319, R339, R347); a one-step Sync is stamped
in the copy that this output sends (R348). -/
def State.egressStamp (s : State) (o : Nat) (f : SwFrame) : State :=
  if 16 ≤ o || f.tsReq = 0 || !isPtp f.bytes || !s.bit F.BRAID_CTRL_TS_EN o then s
  else
    let r := s.stamp o (-8) (s.rdI F.TIME_PORT_EGR_EGR_LAT o)
    let s := r.2
    if f.tsReq = 2 && isOneStep f.bytes then
      { s with sw := { s.sw with sending := s.sw.sending.map (fun (t : Transmit) =>
        if t.out = o then ({ t with own := some (s.oneStep o r.1 f.bytes) } : Transmit) else t) } }
    else (s.wr F.SWITCH_HOST_TX_TS_TS r.1.toNat).wrB F.SWITCH_HOST_CFG_TS_VALID true

/-! ### Transmission (R317, R332) -/

/-- A free output starts the head frame of a class. -/
def State.startFrame (s : State) (o c : Nat) : State :=
  match (s.outQ o c).copies with
  | [] => s
  | x :: rest =>
    let s := (s.creditSync o c).setCopies o c rest
    let s := s.monOffer 7 (8 * o + c) (Int.ofNat (2 * (s.time.cycle - x.enq)))
    let s := { s with sw := { s.sw with
      sending := s.sw.sending ++ [({ out := o, cls := c, id := x.id, hop := x.hop, start := s.time.cycle } : Transmit)] } }
    match s.swFrame x.id with
    | some f => s.egressStamp o f
    | none => s

/-- A frame reaches the host's queue (R339). -/
def State.hostArrive (s : State) (f : SwFrame) : State :=
  if 64 ≤ s.sw.hostRx.length then s.dropCopy 16 f.cls
  else
    let was := s.sw.hostRx.isEmpty
    let s := { s with sw := { s.sw with
      hostRx := s.sw.hostRx ++ [{ bytes := f.bytes, inPort := f.inPort, cls := f.cls, ts := f.ts }] } }
    if was && s.bit F.SWITCH_HOST_CFG_IRQ_EN then s.sendMsix (s.rd F.SWITCH_HOST_CFG_VEC) else s

/-- A frame reaches LEDGER (R291). -/
def State.ledgerArrive (s : State) (f : SwFrame) : State :=
  match trieneOf f.bytes with
  | some t => { s with net := { s.net with inbox := s.net.inbox ++ [t] } }
  | none => s.inc F.SEQ_NET_ERR_BAD

/-- A frame leaves at an output: at MGMT for the pair's own traffic, where its row takes it (R320). -/
def State.leave (s : State) (t : Transmit) (f : SwFrame) : State :=
  if t.out = 16 then s.hostArrive f
  else if t.out = 17 then s.ledgerArrive f
  else if t.out = 18 then { s with redund := { s.redund with inbox := s.redund.inbox ++ [f.bytes] } }
  else
    let b := t.content f
    let s := s.wr F.BRAID_CNT_VALUE (s.rd F.BRAID_CNT_VALUE t.out 4 + 1) t.out 4
    let s := s.wr F.BRAID_CNT_VALUE (s.rd F.BRAID_CNT_VALUE t.out 6 + f.len) t.out 6
    { s with sw := { s.sw with sent := (t.out, b, true) :: s.sw.sent } }

/-- The transmission at an output ends. -/
def State.endFrame (s : State) (t : Transmit) : State :=
  match s.swFrame t.id with
  | none => s.stopSending t
  | some f =>
    let s := if t.out < 16 then s.passToCycle (t.start + s.wireCycles t.out f.len) else s
    ((s.stopSending t).leave t f).releaseCopy t.id

end Sys2Proof.Machine
end

