-- ==== Sys2Proof/Machine/ThermOps.lean ====
section
/-! DEFINITION. Temperature, housekeeping and PWM operations (16): the round, results, derived temperatures,
limits, the throttle, the write gates and the PWM modules. -/

namespace Sys2Proof.Machine

/-! ### Results (R397, R398) -/

/-- One LSB of the housekeeping converter in volts: 1.5 / 2^14. -/
def hkLsb : W32 := 0x38C00000
/-- The ideality scale of R397, 1.984214e-4 V/K. -/
def etaScale : W32 := 0x39500F57
/-- 273.15. -/
def kelvin : W32 := 0x43889333

/-- The voltage a mean code stands for. -/
def hkVolts (m : W32) : W32 := F32.mul m hkLsb

/-- The physical value of an input other than a supply current (R397): `m` the mean of its conversions. -/
def State.hkPhys (s : State) (i : Nat) (m : W32) : W32 :=
  if i < 8 then
    let dv := F32.div (hkVolts m) 0x41800000
    F32.sub (F32.div dv (F32.mul (s.rdW F.HKADC_DIODE_ETA i) etaScale)) kelvin
  else if i < 16 then
    let n := i - 8
    let r := F32.div (hkVolts m) (if s.bit F.HKADC_THERM_IEXC n then 0x38D1B717 else 0x3727C5AC)
    let l := F32.div (F32.ln (F32.div r (s.rdW F.HKADC_THERM_R0 n))) (s.rdW F.HKADC_THERM_BETA n)
    let t0 := F32.div F32.one (F32.add (s.rdW F.HKADC_THERM_T0 n) kelvin)
    F32.sub (F32.div F32.one (F32.add t0 l)) kelvin
  else if i < 28 then m
  else hkVolts m

/-- GAIN × x + OFFSET. -/
def State.hkScale (s : State) (i : Nat) (x : W32) : W32 :=
  F32.add (F32.mul (s.rdW F.HKADC_SCALE_GAIN i) x) (s.rdW F.HKADC_SCALE_OFFSET i)

/-- The conversions of one input, free where the round's data lacks them (log entry 13). -/
def State.hkConv (s : State) (convs : List HkConv) (i : Nat) : HkConv × State :=
  match convs.find? (fun (c : HkConv) => c.input = i) with
  | some c => (c, s)
  | none =>
    let d := s.draw
    ({ input := i, mean := d.1.setWidth 32, last := BitVec.ofNat 14 (d.1.toNat / 2 ^ 32), ovr := d.1.getLsbD 63 }, d.2)

/-- One result published (R397, R398): `v` its value, `ovr` its flag; HK_OVR is raised where the flag is new. -/
def State.hkResult (s : State) (i : Nat) (v : W32) (ovr : Bool) (last : BitVec 14) : State :=
  let new := ovr && !s.bit F.HKADC_RES_OVR i
  let s := (((s.wr F.HKADC_RES_VALUE v.toNat i).wrB F.HKADC_RES_OVR ovr i).wrB F.HKADC_RES_STALE false i).wr
    F.HKADC_RES_RAW last.toNat i
  if new then s.raise 67 (BitVec.ofNat 32 i) else s

/-- The result of input 36 comes first, since results 32 to 35 take it (R397). -/
def hkOrder (ins : List Nat) : List Nat := ins.filter (· = 36) ++ ins.filter (· ≠ 36)

/-- Every result of the round; the supply voltage of a round without input 36 is a free value. -/
def State.hkResults (s : State) (convs : List HkConv) (ins : List Nat) : State :=
  forEach (hkOrder ins) (fun s i =>
    let r := s.hkConv convs i
    let c := r.1
    let s := r.2
    let y := s.hkScale i (s.hkPhys i c.mean)
    let power := 32 ≤ i && i < 36
    let supply := if power && !ins.contains 36 then (s.draw.1.setWidth 32, s.draw.2) else (s.rdW F.HKADC_RES_VALUE 36, s)
    let s := supply.2
    let v := if power then F32.mul y supply.1 else y
    s.hkResult i v (c.ovr || (power && s.bit F.HKADC_RES_OVR 36)) c.last) s

/-- A result is neither STALE nor OVR. -/
def State.hkUsable (s : State) (i : Nat) : Bool := !s.bit F.HKADC_RES_STALE i && !s.bit F.HKADC_RES_OVR i

/-! ### Derived temperatures (R400) -/

/-- t_cart and T_die follow the usable results. -/
def State.deriveTemps (s : State) : State :=
  let cart := (maskBits (s.rd F.THERM_CART_SEL_SEL) 16).filter s.hkUsable
  let die := ((List.range 12).map (· + 16)).filter s.hkUsable
  let val (i : Nat) : W32 := s.rdW F.HKADC_RES_VALUE i
  let s1 := if cart.isEmpty then s
    else (s.wr F.THERM_T_T_CART (F32.div (cart.foldl (fun a i => F32.add a (val i)) 0) (F32.ofNat cart.length)).toNat).wrB
      F.THERM_STATUS_CART_VALID true
  match die.map val with
  | [] => s1.wrB F.THERM_STATUS_DIE_VALID false
  | v :: l => (s1.wr F.THERM_T_T_DIE (l.foldl F32.fmax v).toNat).wrB F.THERM_STATUS_DIE_VALID true

/-! ### Limits (R401 to R403) -/

/-- The past publications of an input, newest first. -/
def State.hkHist (s : State) (i : Nat) : List (Option (W32 × W64)) := (alist s.therm.history i).getD []

/-- This publication joins every input's history. -/
def State.hkRemember (s : State) : State :=
  let t := (s.tb 0).now
  { s with therm := { s.therm with history := (List.range 40).map (fun i =>
      (i, ((if s.hkUsable i then some (s.rdW F.HKADC_RES_VALUE i, t) else none) :: s.hkHist i).take 256)) } }

/-- Seconds between two TB0 instants. -/
def secondsF (d : W64) : W32 := F32.div (F32.packInt d.toInt (-16) 0) 0x4E6E6B28

/-- The rate of an input, where it is defined (R402). -/
def State.hkRate (s : State) (i : Nat) : Option W32 :=
  let w := s.rd F.THERM_LIM_CFG_WINDOW i
  let l := (s.hkHist i).take (w + 1)
  if l.length = w + 1 && l.all Option.isSome then
    match l.head?, l.getLast? with
    | some (some a), some (some b) => some (F32.div (F32.sub a.1 b.1) (secondsF (a.2 - b.2)))
    | _, _ => none
  else none

/-- One limit's state and count after one result (R401). -/
def limStep (state : Bool) (cnt : Nat) (en cond : Bool) (n : Nat) : Bool × Nat :=
  if !en then (false, 0)
  else
    let c := if cond then cnt + 1 else 0
    if n ≤ c then (!state, 0) else (state, c)

/-- One limit of one input evaluated. -/
def State.limOne (s : State) (st cn en : Fld) (i : Nat) (enter leave : Bool) : State :=
  let b := s.bit st i
  let r := limStep b (s.rd cn i) (s.bit en i) (if b then leave else enter) (s.rd F.THERM_LIM_CFG_N i)
  (s.wrB st r.1 i).wr cn r.2 i

/-- The limits of one input. -/
def State.limInput (s : State) (i : Nat) : State :=
  if !s.hkUsable i then s
  else
    let x := s.rdW F.HKADC_RES_VALUE i
    let hi := s.rdW F.THERM_LIM_HI_HI i
    let lo := s.rdW F.THERM_LIM_LO_LO i
    let h := s.rdW F.THERM_LIM_HYST_HYST i
    let s := s.limOne F.THERM_LIM_STATE_HIGH F.THERM_LIM_STATE_C_HI F.THERM_LIM_CFG_EN_HI i (F32.lt hi x)
      (F32.lt x (F32.sub hi h))
    let s := s.limOne F.THERM_LIM_STATE_LOW F.THERM_LIM_STATE_C_LO F.THERM_LIM_CFG_EN_LO i (F32.lt x lo)
      (F32.lt (F32.add lo h) x)
    match s.hkRate i with
    | none => s
    | some q =>
      let r := s.rdW F.THERM_LIM_RATE_RATE i
      s.limOne F.THERM_LIM_STATE_RISING F.THERM_LIM_STATE_C_RT F.THERM_LIM_CFG_EN_RATE i (F32.lt r q)
        (F32.lt q (F32.sub r (s.rdW F.THERM_LIM_RHYST_RATE_HYST i)))

/-- A THERM source follows the inputs in its state: `s0` is the state before this publication (R403). -/
def State.limSource (s0 s : State) (src : Nat) (st : Fld) : State :=
  let inState := (List.range 40).filter (fun i => s.bit st i)
  match inState.filter (fun i => !s0.bit st i), inState with
  | _, [] => s.levelEnd src
  | i :: _, _ => s.raise src (BitVec.ofNat 32 i)
  | [], _ => s

/-- Every limit at a publication. -/
def State.limits (s : State) : State :=
  let s1 := forEach (List.range 40) State.limInput s
  let s1 := State.limSource s s1 64 F.THERM_LIM_STATE_HIGH
  let s1 := State.limSource s s1 65 F.THERM_LIM_STATE_LOW
  State.limSource s s1 66 F.THERM_LIM_STATE_RISING

/-! ### Throttle (R404) -/

/-- The automatic level after a publication. -/
def State.throttle (s : State) : State :=
  if !s.bit F.THERM_STATUS_DIE_VALID then s
  else if !s.bit F.THERM_THR_CTRL_AUTO then { s with therm := { s.therm with autoLevel := 0, upCnt := 0, dnCnt := 0 } }
  else
    let t := s.rdW F.THERM_T_T_DIE
    let t1 := s.rdW F.THERM_THR_T_T1
    let t2 := s.rdW F.THERM_THR_T_T2
    let h := s.rdW F.THERM_THR_HYST_HYST
    let n := s.rd F.THERM_THR_CTRL_THR_N
    let l := s.therm.autoLevel
    let up := if l = 0 then F32.lt t1 t else l = 1 && F32.lt t2 t
    let dn := if l = 2 then F32.lt t (F32.sub t2 h) else l = 1 && F32.lt t (F32.sub t1 h)
    let u := if up then s.therm.upCnt + 1 else 0
    let d := if dn then s.therm.dnCnt + 1 else 0
    if n ≤ u then { s with therm := { s.therm with autoLevel := l + 1, upCnt := 0, dnCnt := 0 } }
    else if n ≤ d then { s with therm := { s.therm with autoLevel := l - 1, upCnt := 0, dnCnt := 0 } }
    else { s with therm := { s.therm with upCnt := u, dnCnt := d } }

/-! ### Write gates (R407, R408) -/

/-- The flash write gate's condition. -/
def State.flashOpen (s : State) : Bool :=
  let t := s.rdW F.THERM_T_T_DIE
  s.bit F.THERM_STATUS_DIE_VALID && F32.le 0 t && F32.le t 0x42BE0000

/-- Both gates at a publication; an open gate forgets what it deferred. -/
def State.writeGates (s : State) : State :=
  let f := s.flashOpen
  let s := (s.wrB F.THERM_STATUS_FLASH_GATE f).wrB F.STRAND_WB_GATE s.writeGate
  { s with therm := { s.therm with flashDefer := s.therm.flashDefer && !f, idDefer := s.therm.idDefer && !s.writeGate }
           strand := { s.strand with wbDeferred := if s.writeGate then [] else s.strand.wbDeferred } }

/-! ### The round (R395, R396, R399) -/

/-- The conversions of a round. -/
def State.hkConvs (s : State) (ins : List Nat) : Nat :=
  2 ^ s.rd F.HKADC_CTRL_AVG * (ins.map (fun i => if i < 8 then 2 else 1)).sum

/-- TIME cycles of a round: 2 µs and its conversions (R396); a quarter more on RCO (R422). -/
def State.hkDuration (s : State) (ins : List Nat) : Nat :=
  let us := s.hkConvs ins + 2
  if s.bit F.CLK_DOM_ACT_SRC 7 then us * 625 else us * 500

/-- A due round starts. -/
def State.hkStart (s : State) : State :=
  if !s.bit F.HKADC_CTRL_EN || s.therm.roundEnd.isSome then s
  else
    let s := s.passToCycle s.therm.roundDue
    let m := s.rd F.HKADC_EN_EN
    let now := s.time.cycle
    let dur := s.hkDuration (maskBits m 40)
    ({ s with therm := { s.therm with
        roundDue := now + s.rd F.HKADC_ROUND_US * 500, roundEnd := some (now + dur), roundMask := m
        roundConv := s.hkConvs (maskBits m 40) } } : State).wrB
      F.HKADC_STATUS_POWERED true

/-- New values for the auxiliary loops whose input 0 was published (R399). -/
def State.hkAux (s : State) (ins : List Nat) : State :=
  let new (a : Nat) : Bool := s.rd F.LOOP_AUX_SRC_KIND a 0 = 1 && ins.contains (s.rd F.LOOP_AUX_SRC_INDEX a 0) &&
    !s.bit F.LOOP_AUX_CFG_TRIG a
  { s with loop := { s.loop with auxNew := ((List.range 64).filter new).foldl sadd s.loop.auxNew } }

/-- The end of a round: publication and everything evaluated at it.  A round that fell due before it was late; one that falls
due as it ends starts without a gap (R395, R396). -/
def State.hkPublish (s : State) (convs : List HkConv) : State :=
  match s.therm.roundEnd with
  | none => s
  | some e =>
    let s := s.passToCycle e
    let ins := maskBits s.therm.roundMask 40
    let next := s.therm.roundDue ≤ s.time.cycle && s.bit F.HKADC_CTRL_EN
    let late := next && s.therm.roundDue ≠ s.time.cycle
    let s := s.hkResults convs ins
    let s := (s.wr F.HKADC_STATUS_CONV s.therm.roundConv).wr F.HKADC_STATUS_ROUNDS (s.rd F.HKADC_STATUS_ROUNDS + 1)
    let s := (s.wr F.HKADC_RES_TIME_TIME (s.tb 0).now.toNat).wrB F.HKADC_STATUS_POWERED next
    let s := if late then s.wrB F.HKADC_STATUS_ROUND_OVR true else s
    let s := { s with therm := { s.therm with roundEnd := none } }
    ((s.hkAux ins).deriveTemps.hkRemember.limits.throttle).writeGates

/-! ### PWM modules (R409 to R416) -/

/-- Bits of j reversed (R410). -/
def bitrev4 (j : Nat) : Nat := j % 2 * 8 + j / 2 % 2 * 4 + j / 4 % 2 * 2 + j / 8 % 2

/-- The reference's high time in the period in progress (R409, R410). -/
def State.pwmTon (s : State) (n : Nat) : Nat :=
  let m := s.pm n
  let d := Nat.min m.duty (16 * m.period)
  d / 16 + (if s.bit F.PWM_CTRL_DITHER_EN n && bitrev4 m.j < d % 16 then 1 else 0)

/-- A trip that is latched maps the module. -/
def State.tripped (s : State) (n : Nat) : Bool :=
  (maskBits (s.rd F.PWM_TRIP_STATUS_LATCHED) 4).any (fun k => (s.rd F.PWM_TRIP_MAP_MAP 0 0 k).testBit n)

/-- Steps for which H and L are high in the period in progress (R411, R414 to R416). -/
def State.pwmHigh (s : State) (n : Nat) : Nat × Nat :=
  let m := s.pm n
  let t := s.pwmTon n
  if !s.bit F.PWM_CTRL_EN n || m.offTrip || s.tripped n || s.safeOn then (0, 0)
  else if t = 0 then (0, m.period)
  else if t = m.period then (m.period, 0)
  else (t - m.dt, m.period - t - m.dt)

/-- The gate outputs H and L at present, low until READY (R411, R458). -/
def State.pwmGates (s : State) (n : Nat) : Bool × Bool :=
  let m := s.pm n
  let x := (s.now4 - m.startAt) / s.pwmStep
  let t := s.pwmTon n
  let w := s.pwmHigh n
  if !s.pins.ready then (false, false)
  else if w.1 = m.period then (true, false)
  else if w.2 = m.period then (false, true)
  else (decide (m.dt ≤ x) && decide (x < m.dt + w.1), decide (t + m.dt ≤ x) && decide (x < t + m.dt + w.2))

/-- A period starts: the shadows are copied unless LOCK is set, and outputs held by a trip or by safe resume
where nothing holds them (R413, R415, R416). -/
def State.pwmPeriod (s : State) (n at4 j : Nat) : State :=
  let m := s.pm n
  let lock := s.bit F.PWM_CTRL_LOCK n
  s.setPm n { period := if lock then m.period else s.rd F.PWM_PERIOD_PERIOD n
              duty := if lock then m.duty else s.rd F.PWM_DUTY_DUTY n
              dt := if lock then m.dt else s.rd F.PWM_DT_DT n
              j := j, startAt := at4, offTrip := s.tripped n || s.safeOn }

/-- The next period start of a running module, in quarters of a TIME cycle: its own wrap, or the step after
the pulse of the module before it where it follows the chain (R412). -/
def State.pwmNext (s : State) (n : Nat) : Nat :=
  let m := s.pm n
  let wrap := m.startAt + m.period * s.pwmStep
  let p := s.pm (n - 1)
  let pulse := p.startAt + (s.rd F.PWM_SYNC_PHASE (n - 1) + 1) * s.pwmStep
  if 0 < n && s.bit F.PWM_CTRL_SYNC_EN n && s.bit F.PWM_CTRL_EN (n - 1) && s.rd F.PWM_SYNC_PHASE (n - 1) < p.period &&
      m.startAt < pulse then Nat.min wrap pulse
  else wrap

/-- The pulse of module 7 in its present period, once it has risen (R412). -/
def State.pwmPulse7 (s : State) : Option Nat :=
  let at4 := (s.pm 7).startAt + s.rd F.PWM_SYNC_PHASE 7 * s.pwmStep
  if s.bit F.PWM_CTRL_EN 7 && s.rd F.PWM_SYNC_PHASE 7 < (s.pm 7).period && decide (at4 ≤ s.now4) then some at4 else none

/-- The period of module 7 ends: the pulse that it gave is kept, since PWM_SYNC_OUT may still be high (R412). -/
def State.pwmSyncOut (s : State) (n : Nat) : State :=
  if n = 7 && s.pwmPulse7.isSome then { s with pins := { s.pins with pwmSyncOut := s.pwmPulse7 } } else s

/-- The level at pin PWM_SYNC_OUT: high for 8 steps from a pulse of module 7, low until READY (R412, R458). -/
def State.pwmSyncOutHigh (s : State) : Bool :=
  let high (p : Option Nat) : Bool := p.any (fun at4 => decide (s.now4 < at4 + 8 * s.pwmStep))
  s.pins.ready && (high s.pwmPulse7 || high s.pins.pwmSyncOut)

/-- A period of a running module ends and the next begins. -/
def State.pwmReload (s : State) (n : Nat) : State :=
  if !s.bit F.PWM_CTRL_EN n then s
  else
    let t := s.pwmNext n
    let s := (s.passToCycle (ceilDiv t 4)).pwmSyncOut n
    s.pwmPeriod n (Nat.max t (s.pm n).startAt) (((s.pm n).j + 1) % 16)

/-- EN of a module written (R409). -/
def State.pwmEnable (s : State) (n : Nat) (en : Bool) : State :=
  if en && !s.bit F.PWM_CTRL_EN n then (s.wrB F.PWM_CTRL_EN true n).pwmPeriod n s.now4 0
  else s.wrB F.PWM_CTRL_EN en n

/-- Outputs that a latched trip maps, and every output while safe is in force, stay low until the next period
start (R414 to R416). -/
def State.pwmGuard (s : State) : State :=
  if s.safeOn || decide (s.rd F.PWM_TRIP_STATUS_LATCHED ≠ 0) then
    forEach (List.range 8) (fun s n => if s.safeOn || s.tripped n then s.setPm n { s.pm n with offTrip := true } else s) s
  else s

/-- Latched trips follow enabled pins that are active, and PWM_TRIP stands while one is latched (R414). -/
def State.tripLatch (s : State) : State :=
  let l := s.rd F.PWM_TRIP_STATUS_LATCHED ||| (s.rd F.PWM_TRIP_STATUS_PIN &&& s.rd F.PWM_TRIP_CTRL_EN)
  let s := s.wr F.PWM_TRIP_STATUS_LATCHED l
  if l = 0 then s.levelEnd 68 else s.raise 68 (BitVec.ofNat 32 l)

/-- A pin shown active may have left its active level since: the model has no input for that (log entry 14). -/
def State.tripPins (s : State) : State :=
  if s.rd F.PWM_TRIP_STATUS_PIN = 0 then s
  else
    let d := s.draw
    d.2.wr F.PWM_TRIP_STATUS_PIN (s.rd F.PWM_TRIP_STATUS_PIN &&& d.1.toNat % 16)

/-- Latches cleared where the pin is not active, refused elsewhere (R415). -/
def State.tripClr (s : State) (mask : Nat) : State :=
  let s := s.tripPins
  let pin := s.rd F.PWM_TRIP_STATUS_PIN
  let ref := mask &&& pin
  let s := s.wr F.PWM_TRIP_STATUS_CLR_REF (s.rd F.PWM_TRIP_STATUS_CLR_REF ||| ref)
  let l := s.rd F.PWM_TRIP_STATUS_LATCHED
  let l' := (List.range 4).foldl (fun v k => if l.testBit k && !(mask.testBit k && !pin.testBit k) then v + 2 ^ k else v) 0
  let s := s.wr F.PWM_TRIP_STATUS_LATCHED l'
  if l' = 0 then s.levelEnd 68 else s

end Sys2Proof.Machine
end

