-- ==== Sys2Proof/Machine/ClockOps.lean ====
section
/-! DEFINITION. Clocks, power states and bus errors (17): failures and fallback, the moves back, the power
states' refusals, what an error response brings. -/

namespace Sys2Proof.Machine

/-! ### Traps and bus errors (R88, R437) -/

/-- A precise trap (R88): the sequencer is TRAPPED at its present instruction. -/
def State.trap (s : State) (q cause : Nat) : State :=
  let x := s.sq q
  let s := { s with solve := { s.solve with trials := s.solve.trials.filter (fun t => t.val ≠ q) } }
  (s.setSq q { x with st := .trapped, wait := .none, nmi := false, cause := BitVec.ofNat 8 cause }).raise 8
    (BitVec.ofNat 32 (q + 256 * cause))

/-- The first error while VALID is clear (R437). -/
def State.errFirst (s : State) (m kind addr : Nat) : State :=
  if s.bit F.BUS_ERR_FIRST_VALID then s
  else (((s.wrB F.BUS_ERR_FIRST_VALID true).wr F.BUS_ERR_FIRST_MASTER m).wr F.BUS_ERR_FIRST_KIND kind).wr
    F.BUS_ERR_FIRST_ADDR addr

/-- An error response reaches a master: over PCIe one to a read is a completion with Completer Abort status,
and one to a write is dropped (R9). -/
def State.errResponse (s : State) (m : Nat) (write : Bool) : State :=
  if m = 0 && write then s
  else { s with bus := { s.bus with resp := aset s.bus.resp m { ok := false, data := 0, ca := decide (m = 0) } } }

/-- An error response of the matrix (R9, R437): counted, recorded, raised, answered. -/
def State.busError (s : State) (m kind addr : Nat) (write : Bool := false) : State :=
  (((s.errFirst m kind addr).inc F.BUS_MASTER_ERRORS 1 m).raise 3 (BitVec.ofNat 32 addr)).errResponse m write

/-! ### Moves between sources (R421 to R427) -/

/-- The strand link is not OFF (R343). -/
def State.linkOn (s : State) : Bool := decide (s.rd F.STRAND_STATUS_STATE ≠ 0)

/-- A base's extended time moved by a signed amount (R340, R342). -/
def TimeBase.move (b : TimeBase) (a : Int) : TimeBase := b.withExt ((Int.ofNat b.ext + a) % Int.ofNat (2 ^ 96)).toNat

/-- Epochs whose lay instant TB0 moved past (R155). -/
def State.markPassed (s : State) (x0 : Nat) : State :=
  let x1 := s.ext0
  { s with ledger := { s.ledger with epochs := s.ledger.epochs.map (fun (e : Epoch) =>
      if decide (x0 < e.layFrame * frameUnits) && decide (e.layFrame * frameUnits < x1) && !e.layBegun && !e.ended then
        { e with passed := true }
      else e) } }

/-- TB0's INC is clamped into ±50 ppm at START (R343). -/
def State.clampInc (s : State) : State :=
  let inc := s.rd F.TIME_INC_INC 0
  if inc < 8589505096 then (s.wr F.TIME_INC_INC 8589505096 0).wrB F.TIME_STATUS_INC_REJ true 0
  else if 8590364088 < inc then (s.wr F.TIME_INC_INC 8590364088 0).wrB F.TIME_STATUS_INC_REJ true 0
  else s

/-- TB0 instant of the frame grid as the lanes have kept it since the last frame sent (R267, R423). -/
def State.gridNow (s : State) : Nat :=
  (s.strand.sentFrame - 1) * frameUnits + (s.time.cycle - s.strand.sentCycle) * 2 * nsUnit

/-- Frame numbers jump by `q` and the stream goes on (R343): what is bound to a frame of the stream moves with them. -/
def State.jumpFrames (s : State) (q : Int) : State :=
  let f (n : Nat) : Nat := (Int.ofNat n + q).toNat
  if s.strand.sentFrame = 0 then s
  else
    { s with
      strand := { s.strand with sentFrame := f s.strand.sentFrame
                                flight := s.strand.flight.map (fun (e : InFlight) =>
                                  { e with start := (Int.ofNat e.start + q * 20971520).toNat }) }
      drive := { s.drive with fire := s.drive.fire.map (fun (x : Nat × BitVec 16) => (f x.1, x.2))
                              keep := s.drive.keep.map (fun (x : DriveKeep) => { x with frame := f x.frame }) }
      sense := { s.sense with phaseFrom := s.sense.phaseFrom.map (fun (x : Nat × Nat) => (x.1, f x.2))
                              keep := s.sense.keep.map (fun (x : SenseKeep) => { x with frame := f x.frame })
                              light := s.sense.light.map (fun (x : FrameLight) => { x with frame := f x.frame })
                              waiting := s.sense.waiting.map (fun (x : Nat) => (Int.ofNat x + q * 20971520).toNat)
                              layPass := s.sense.layPass.map (fun (x : LayPass) =>
                                { x with since := (Int.ofNat x.since + q * 20971520).toNat }) }
      lay := { s.lay with recover := s.lay.recover.map (fun (r : Recovery) => { r with at' := f r.at' }) } }

/-- An adjustment of TB0 while it is bound to the strand: whole frames at once, the rest by slewing (R343). -/
def State.adjustBound (s : State) (a : Int) : State :=
  let x0 := s.ext0
  let q := Int.fdiv (a + 10485759) 20971520
  let b := (s.tb 0).move (q * 20971520)
  ((s.setTb 0 { b with slew := b.slew + (a - q * 20971520) * 65536 }).jumpFrames q).markPassed x0

/-- The binding of R343 resumes (R424): TB0 stands on the frame grid again, and the difference to where it stood is applied as
an ADJ.  Beside what was written meanwhile the difference is how far RCO and the lanes ran apart, a free value within three
hundredths of the time (R418); INC is clamped as at START (DESIGN CHOICE, log entry 37). -/
def State.rebind (s : State) : State :=
  if !s.linkOn then s
  else if s.strand.sentFrame = 0 then s.clampInc
  else
    let d := s.draw
    let span := (s.time.cycle - s.clock.rcoAt) * 2 * nsUnit * 3 / 100
    let drift : Int := Int.ofNat (d.1.toNat % (2 * span + 1)) - Int.ofNat span
    let s := d.2
    let x := s.ext0
    let a := Int.ofNat x + drift - Int.ofNat s.gridNow
    let back := Int.ofNat s.gridNow - Int.ofNat x
    let s := { s.setTb 0 ((s.tb 0).move back) with
      strand := { s.strand with flight := s.strand.flight.map (fun (e : InFlight) => { e with start := (Int.ofNat e.start + back).toNat }) } }
    (s.adjustBound a).clampInc

/-- The binding's suspension follows the domains' sources (R423, R424): `s0` is the state before they moved. -/
def State.bindFollow (s0 s : State) : State :=
  if s.onRco = s0.onRco then s
  else if s.onRco then { s with clock := { s.clock with rcoAt := s.time.cycle } }
  else s.rebind

/-- The period of a domain's clock from one of its sources, in ps (R418, R425). -/
def clkPs (d : Nat) (fallback : Bool) : Nat :=
  if fallback then (if d = 0 then 4000000 else 25000)
  else match d with
    | 0 => 4000000
    | 3 => 833
    | 5 => 2000
    | 6 => 2500
    | 7 => 20000
    | _ => 1000

/-- A domain's source in force set, with SRC (R419, R421, R426): 3 cycles of the old clock and 4 of the new one are lost. -/
def State.domMove (s : State) (fallback : Bool) (d : Nat) : State :=
  if s.bit F.CLK_DOM_ACT_SRC d = fallback then s.wrB F.CLK_DOM_SRC fallback d
  else
    let lost := ceilDiv (3 * clkPs d (!fallback) + 4 * clkPs d fallback) 2000
    let s1 := { s with clock := { s.clock with moving := aset s.clock.moving d (s.time.cycle, s.time.cycle + lost) } }
    s.bindFollow ((s1.wrB F.CLK_DOM_SRC fallback d).wrB F.CLK_DOM_ACT_SRC fallback d)

/-- A switch of a domain is in progress: since when (R426). -/
def State.switchingSince (s : State) (d : Nat) : Option Nat :=
  (s.clock.moving.find? (fun m => m.1 = d && decide (s.time.cycle < m.2.2))).map (·.2.1)

/-- The old clock gives no edge: the switch is forced after 16 cycles of the new clock, and the domain runs after 4 more
(R427). -/
def State.switchForced (s : State) (d : Nat) : State :=
  match s.switchingSince d with
  | none => s
  | some c =>
    let cyc (n : Nat) : Nat := ceilDiv (n * clkPs d (s.bit F.CLK_DOM_ACT_SRC d)) 2000
    let s := { s with clock := { s.clock with moving := aset s.clock.moving d (c, c + cyc 20) } }
    (s.passToCycle (c + cyc 16)).raise 1 (BitVec.ofNat 32 d)

/-- The domains a failure code moves to their fallback (R421). -/
def codeDomains (code : Nat) : List Nat :=
  match code with
  | 0 | 1 | 9 => [1, 2, 4, 3, 5, 6, 7]
  | 3 => [0]
  | 5 => [1, 2, 4]
  | 6 => [3]
  | 7 => [5]
  | 8 => [6]
  | _ => []

/-- The domains of a PLL (R425). -/
def pllDomains (p : Nat) : List Nat := codeDomains (5 + p)

/-- Qualification of the crystal starts again from level 1 (R419). -/
def State.qualAgain (s : State) : State :=
  { s with clock := { s.clock with ampSince := s.time.cycle, qualWins := 0 } }

/-- What a failure does beside moving domains: the status bits, and the link and the lanes stopped by
REFCLK (R421, R424, R287). -/
def State.failEffects (s : State) (code : Nat) : State :=
  match code with
  | 0 => ((s.wrB F.CLK_STATUS_AMP_OK false).wrB F.CLK_STATUS_XTAL_QUAL false).qualAgain
  | 1 | 9 => (s.wrB F.CLK_STATUS_XTAL_QUAL false).qualAgain
  | 2 => s.wrB F.CLK_STATUS_RCO_OK false
  | 3 => s.wrB F.CLK_STATUS_LFO_OK false
  | 4 =>
    let s := ({ s with clock := { s.clock with refStop := true, refWins := 0 } } : State).wrB F.CLK_STATUS_REF_OK false
    if s.rd F.STRAND_STATUS_STATE = 0 then s else s.streamOff.wr F.STRAND_STATUS_STATE 6
  | _ => s.wr F.CLK_STATUS_LOCK (s.rd F.CLK_STATUS_LOCK - s.rd F.CLK_STATUS_LOCK / 2 ^ (code - 5) % 2 * 2 ^ (code - 5))

/-- A failure is declared (R421, R422), once until its source has passed again. -/
def State.declareClk (s : State) (code : Nat) : State :=
  if s.clock.declared.contains code then s
  else
    let ds := codeDomains code
    let s := forEach ds (fun s d => s.domMove true d) s
    let s := { s with clock := { s.clock with declared := code :: s.clock.declared, held := ds.foldl sadd s.clock.held } }
    let s := (s.failEffects code).wr F.CLK_STATUS_LAST_FAIL code
    let s := (s.wrB F.FAULT_SRC_STATUS_LEVEL true 0).record 0 (BitVec.ofNat 32 code) false false
    if ds.contains 5 then
      forEach (List.range 4) (fun s t => s.setTb t { s.tb t with lockLeft := 0 }) s
    else s

/-- A source has passed: its codes may be declared again, and CLKFAIL ends with the last of them. -/
def State.clkPass (s : State) (codes : List Nat) : State :=
  let l := s.clock.declared.filter (fun c => !codes.contains c)
  if l = s.clock.declared then s
  else
    let s := { s with clock := { s.clock with declared := l } }
    let s := if codes.contains 2 then s.wrB F.CLK_STATUS_RCO_OK true else s
    let s := if codes.contains 3 then s.wrB F.CLK_STATUS_LFO_OK true else s
    if l.isEmpty then s.levelEnd 0 else s

/-- A count lies within a tolerance of the expected one. -/
def near (count expected tol : Nat) : Bool := decide (count ≤ expected + tol) && decide (expected ≤ count + tol)

/-- The M_XR window's result decides codes 9, 2, 1 and 3 by the last windows of M_RL and M_XL (R421).  While the amplitude
fails, the first row of R421 applies, which its detector declares. -/
def State.xrResult (s : State) (pass : Bool) : State :=
  let s := { s with clock := { s.clock with xrPass := pass } }
  let rl := s.clock.rlPass
  let xl := s.clock.xlPass
  let amp := s.bit F.CLK_STATUS_AMP_OK
  if pass then
    let s := s.clkPass [1, 9]
    if rl then s.clkPass [2, 3] else s.declareClk 3
  else if !rl && !xl then (if amp then s.declareClk 9 else s)
  else if !rl then s.declareClk 2
  else if amp then s.declareClk 1 else s

/-- LANE and BRAID run again (R424). -/
def State.refRestored (s : State) : State :=
  (({ s with clock := { s.clock with refStop := false } } : State).wrB F.CLK_STATUS_REF_OK true).clkPass [4]

/-- A window of M_REF ends: four passing ones in a row restart LANE and BRAID (R420, R424). -/
def State.refResult (s : State) (pass : Bool) : State :=
  if pass then
    let s := ({ s with clock := { s.clock with refWins := s.clock.refWins + 1 } } : State).wrB F.CLK_STATUS_REF_OK true
    let s := s.clkPass [4]
    if s.clock.refStop && 4 ≤ s.clock.refWins then s.refRestored else s
  else ({ s with clock := { s.clock with refWins := 0 } } : State).wrB F.CLK_STATUS_REF_OK false |>.declareClk 4

/-- A domain returns to its normal source by itself unless a failure or a program holds it (R419, R424). -/
def State.domReturn (s : State) (d : Nat) : State := if s.clock.held.contains d then s else s.domMove false d

/-- The crystal is qualified (R419): its amplitude has stood and four windows have passed. -/
def State.xtalQualified (s : State) : State :=
  ((({ s with clock := { s.clock with qualWins := 4 } } : State).wrB F.CLK_STATUS_AMP_OK true).wrB
    F.CLK_STATUS_XTAL_QUAL true).clkPass [0, 1, 9] |>.domReturn 7

/-- A frequency window of a crystal that is not qualified: level 2 of its qualification, once the amplitude has stood for
1 ms; four passing windows in a row qualify it, and a failing one restarts level 1 (R419). -/
def State.qualWindow (s : State) (pass : Bool) : State :=
  if s.bit F.CLK_STATUS_XTAL_QUAL || !s.bit F.CLK_STATUS_AMP_OK || decide (s.time.cycle < s.clock.ampSince + msCycles) then s
  else if !pass then s.qualAgain
  else if 3 ≤ s.clock.qualWins then s.xtalQualified
  else { s with clock := { s.clock with qualWins := s.clock.qualWins + 1 } }

/-- CLOCK_MONITOR_WINDOW (R420). -/
def State.monWindow (s : State) (mon : ClockMon) (n : Nat) : State :=
  match mon with
  | .xr =>
    let pass := near n 5120 (s.rd F.CLK_QUAL_TOL)
    ((s.wr F.CLK_MON_CNT_XR n).xrResult pass).qualWindow pass
  | .rl =>
    let s := s.wr F.CLK_MON_CNT_RL n
    { s with clock := { s.clock with rlPass := near n 40960 4915 } }
  | .xl =>
    let pass := near n 51200 6144
    let s := s.wr F.CLK_MON_CNT_XL n
    let s := { s with clock := { s.clock with xlPass := pass } }
    if s.clock.declared.contains 2 then
      (if pass then s.clkPass [1] else if s.bit F.CLK_STATUS_AMP_OK then s.declareClk 1 else s)
    else s
  | .ref => (s.wr F.CLK_MON_CNT_REF n).refResult (near n 16000 (if s.bit F.CLK_STATUS_XTAL_QUAL then 8 else 480))

/-- Start-up leaves step 2 (R441); the lane PLLs have locked by then, and LANE and BRAID run (R418; DESIGN CHOICE, log entry
37). -/
def State.clocksReady (s : State) : State :=
  ({ s with clock := { s.clock with laneLock := true } } : State).wr F.BOOT_STATUS_PHASE 3

/-- The normal source of a domain is qualified and locked (R424). -/
def State.normalOk (s : State) (d : Nat) : Bool :=
  let lock (p : Nat) : Bool := s.bit F.CLK_STATUS_XTAL_QUAL && (s.rd F.CLK_STATUS_LOCK).testBit p
  match d with
  | 0 => s.bit F.CLK_STATUS_LFO_OK
  | 1 | 2 | 4 => lock 0
  | 3 => lock 1
  | 5 => lock 2
  | 6 => lock 3
  | _ => s.bit F.CLK_STATUS_XTAL_QUAL

/-- A write of SRC (R424, R426). -/
def State.domSrc (s : State) (d : Nat) (fallback : Bool) : State :=
  if 8 ≤ d then s
  else if fallback then
    ({ s with clock := { s.clock with held := sadd s.clock.held d } } : State).domMove true d
  else if s.normalOk d then
    ({ s with clock := { s.clock with held := s.clock.held.erase d } } : State).domMove false d
  else s.wrB F.CLK_DOM_SRC_REF true d

/-! ### Power states (R432) -/

/-- A request of a power state is refused (R432). -/
def State.pwrRefused (s : State) (t : Nat) : Bool :=
  let link := s.rd F.STRAND_STATUS_STATE
  let role := s.rd F.REDUND_STATUS_ROLE
  decide (2 ≤ t) && (link = 5 || s.ledger.epochs.any (fun (e : Epoch) => !e.ended) || !s.cal.runs.isEmpty ||
    (t = 3 && link ≠ 0) || (s.bit F.REDUND_CTRL_EN && (role = 1 || role = 3)))

/-- A write of TARGET. -/
def State.pwrRequest (s : State) (t : Nat) : State :=
  if s.pwrRefused t then s.wrB F.PWR_STATUS_REFUSED true
  else
    (s.wr F.PWR_CTRL_TARGET t).pwrFollow

/-- A transition completes (R433); into DEEP and out of it the strand link is OFF. -/
def State.pwrDone (s : State) : State :=
  if s.bit F.PWR_STATUS_CHANGING then
    let s := if s.pwrWanted = 3 || s.rd F.PWR_STATUS_STATE = 3 then s.streamOff.wr F.STRAND_STATUS_STATE 0 else s
    ((s.wrB F.PWR_STATUS_CHANGING false).wr F.PWR_STATUS_STATE s.pwrWanted).wr F.PWR_STATUS_CHANGES
      (s.rd F.PWR_STATUS_CHANGES + 1)
  else s

/-! ### Masters (R436, R439) -/

/-- An error response ends the access of a master; to a running sequencer it is a trap (R97). -/
def State.endAccess (s : State) (m : Nat) (write : Bool) : State :=
  let s := s.errResponse m write
  if 1 ≤ m && m ≤ 8 && (s.sq (m - 1)).st = .run then s.trap (m - 1) 4 else s

/-- CORE cycles pass, of 1 ns each. -/
def State.passCore (s : State) (n : Nat) : State := s.passCycles (ceilDiv n 2)

/-- A target gives no response to an access within BUS_TIMEOUT (R436); the row stands for the access and the whole wait, and
whether it was a write is a free value (R9, log entry 19). -/
def State.targetTimeout (s : State) (m addr : Nat) : State :=
  let d := (s.passCore (s.rd F.BUS_TIMEOUT_CYCLES)).draw
  let s := (((d.2.inc F.BUS_STATUS_TIMEOUTS).errFirst m 3 addr).inc F.BUS_MASTER_ERRORS 1 m).raise 3 (BitVec.ofNat 32 addr)
  s.endAccess m (d.1.getLsbD 0)

/-- A master is reset: its due response goes; its read latches and write holds stay (R13, R439). -/
def State.masterReset (s : State) (m : Nat) : State :=
  let s := { s with bus := { s.bus with resp := adel s.bus.resp m, inReset := sadd s.bus.inReset m } }
  s.wrB F.BUS_MASTER_RESETTING true m

/-- The reset master's identifiers have drained. -/
def State.masterDrained (s : State) (m : Nat) : State :=
  ({ s with bus := { s.bus with inReset := s.bus.inReset.erase m } } : State).wrB F.BUS_MASTER_RESETTING false m

/-- A gate is forced once CLK_GATE_TO has passed (R428); the row stands for the whole wait, and the access in flight that it
ends is some master's, a read or a write, at the block (log entry 15). -/
def State.gateForced (s : State) (block : W32) : State :=
  let d := (s.passCore (s.rd F.CLK_GATE_TO_CYCLES)).draw
  let m := d.1.toNat % 14
  let s := ((d.2.inc F.CLK_GATE_TO_FORCED).errFirst m 4 (block.toNat + d.1.toNat / 16 % 65536)).inc F.BUS_MASTER_ERRORS 1 m
  (s.raise 2 block).endAccess m (d.1.getLsbD 63)

end Sys2Proof.Machine
end

