-- ==== Sys2Proof/Machine/Finish.lean ====
section
/-! DEFINITION. What every command ends with: the reactions in force stop what they stop at once, staged
lays that ended release their arming, and the pins follow (R172, R225, R242, R261, R359, R382), and ports
that are down lose their frames (R317, R327). -/

namespace Sys2Proof.Machine

/-- A hold or safe reaction is in force. -/
def State.reacting (s : State) : Bool := s.holdOn || s.safeOn

/-- What a hold or safe reaction ends at once: the lay in progress, calibration runs, the
verification pass with its chip, and under AUTO_SURR the drive itself at a hold that has just begun (R172, R242, R261, R359). -/
def State.reactionStops (s0 s : State) : State :=
  if s.reacting then
    let s := s.interruptLay false false
    let s := s.calStop 12 true (fun _ => true)
    let s := s.passEnding
    let s := { s with loop := { s.loop with allStepped := true } }
    if s.holdOn && !s0.holdOn && s.bit F.REDUND_CTRL_AUTO_SURR then s.surrender else s
  else s

/-- Epochs staged before the command and gone after it without having begun their lay. -/
def unstaged (s0 s : State) : List StagedLay :=
  s0.lay.staged.filter (fun (y : StagedLay) =>
    !s.lay.staged.any (fun (z : StagedLay) => z.epoch = y.epoch) && !(s.epoch? y.epoch).any (·.layBegun))

/-- The arming of staged lays that ended is released, unless another lay holds the cell (R217), and
their mark goes (R364). -/
def State.releaseStaged (s : State) (gone : List StagedLay) : State :=
  forEach gone (fun s (y : StagedLay) =>
    let busy : List Nat := match s.lay.cur with
      | some l => if l.strobed then [] else l.changing.map (·.1)
      | none => []
    let cells := ((s.weave y.slot.val).changes.map (·.1)).filter (fun c => !busy.contains c)
    let s := s.disarmCells cells
    let s := forEach s.lay.staged (fun s (z : StagedLay) =>
      let wz := s.weave z.slot.val
      let hz := s.layHealth z.epoch .epoch
      s.armCells hz.1 hz.2 ((wz.changes.map (fun c => (c.1, wz.code c.1))).filter (fun c => cells.contains c.1))) s
    s.markState y.epoch 0) s

/-- FAULT_N follows READY and the safe reaction (R382, R450). -/
def State.settlePins (s : State) : State :=
  { s with fault := { s.fault with faultN := s.pins.ready && !s.safeOn } }

/-- A ledger copy that failed before this command is rewritten from the good one (R80, log entry 10). -/
def State.mendLedger (s0 s : State) : State :=
  if !s0.ledger.copyA.good && s.ledger.copyB.good then
    { s with ledger := { s.ledger with copyA := s.ledger.copyB } }
  else if !s0.ledger.copyB.good && s.ledger.copyA.good then
    { s with ledger := { s.ledger with copyB := s.ledger.copyA } }
  else s

/-- Something follows from the command beyond its own effect: a hold or safe reaction in force, a staged lay
that has gone, an epoch to solve, a port to flush, a latched trip, a ledger copy to mend. -/
def unsettled (s0 s : State) : Bool :=
  s.reacting || !(unstaged s0 s).isEmpty || s.solveDue || s.portsDue || decide (s.rd F.PWM_TRIP_STATUS_LATCHED ≠ 0) ||
    !s0.ledger.copyA.good || !s0.ledger.copyB.good

/-- The state a command leaves. -/
def settle (s0 s : State) : State :=
  if unsettled s0 s then
    let s := State.mendLedger s0 (State.reactionStops s0 s)
    (s.releaseStaged (unstaged s0 s)).nextSolve.flushPorts.pwmGuard.settlePins
  else s.settlePins

/-- A command's outcome: the settled state, the queue as it stood. -/
def done (s0 s : State) : Host.Outcome State Fault Refusal :=
  .next { settle s0 s with pending := s0.pending }

end Sys2Proof.Machine
end

