-- ==== Sys2Proof/Machine/Operands.lean ====
section
/-! DEFINITION. The operand forms of Wicker (03): the fields of a word, the registers they name, the legality
of R84 and R87, the immediates of R86, the guard of R85, and how an instruction issues, completes, traps
and blocks. -/

namespace Sys2Proof.Machine

/-! ### Words (R83) -/

/-- The opcode of an instruction word. -/
def opcOf (w : W64) : Nat := (w.extractLsb' 56 8).toNat
/-- The other fields of an instruction word. -/
def fieldsOf (w : W64) : Fields :=
  { dst := w.extractLsb' 51 5, src1 := w.extractLsb' 46 5, src2 := w.extractLsb' 41 5, gp := w.extractLsb' 38 3
    gs := w.extractLsb' 37 1, mod := w.extractLsb' 32 5, imm := w.extractLsb' 0 32 }
/-- The word an opcode and fields spell. -/
def wordOf (opc : BitVec 8) (f : Fields) : W64 :=
  opc ++ f.dst ++ f.src1 ++ f.src2 ++ f.gp ++ f.gs ++ f.mod ++ f.imm

/-! ### Legality (R84, R87) -/

/-- What a register field is used for: not at all, or for a register of one kind. -/
inductive Use where
  | none | g | f | p
  deriving DecidableEq, Repr

/-- A field of a use keeps R84. -/
def Use.ok (u : Use) (b : BitVec 5) : Bool :=
  match u with
  | .none => b = 0
  | .g => true
  | .f => decide (b.toNat < 16)
  | .p => decide (b.toNat < 8)

/-- The form of an instruction: its register fields, whether it uses IMM, how many MOD values it lists
(all below that number). -/
structure Form where
  dst : Use
  src1 : Use
  src2 : Use
  imm : Bool
  mods : Nat
  deriving DecidableEq, Repr

/-- The form with its optional operands for a MOD value: IMM of a ledger command (R101), fb of LPRESET
(R111), ga of READW.stable (R109). -/
def Form.at (f : Form) (opc : Nat) (mod : BitVec 5) : Form :=
  if 0x60 ≤ opc && opc ≤ 0x63 then { f with imm := !mod.getLsbD 0 }
  else if opc = 0x82 then { f with src2 := if mod.getLsbD 0 then .f else .none }
  else if opc = 0x6A && mod = 4 then { f with src1 := .none }
  else f

/-- Fields keep R84 and R87. -/
def Form.legal (f : Form) (opc : Nat) (w : Fields) : Bool :=
  let f := f.at opc w.mod
  f.dst.ok w.dst && f.src1.ok w.src1 && f.src2.ok w.src2 && (f.imm || decide (w.imm = 0)) && decide (w.mod.toNat < f.mods)

/-- The form of a listed opcode (R92, R94, R96, R99, R100, R111, R113, R116, R119, R120). -/
def formOf (opc : Nat) : Option Form :=
  let rrr : Form := ⟨.g, .g, .g, false, 1⟩
  let rri : Form := ⟨.g, .g, .none, true, 1⟩
  let ppp : Form := ⟨.p, .p, .p, false, 1⟩
  let fff : Form := ⟨.f, .f, .f, false, 1⟩
  let nothing : Form := ⟨.none, .none, .none, false, 1⟩
  let immOnly : Form := ⟨.none, .none, .none, true, 1⟩
  match opc with
  | 0x00 => some nothing
  | 0x01 | 0x02 | 0x03 | 0x04 | 0x05 | 0x06 | 0x07 | 0x08 | 0x09 | 0x0A | 0x0B | 0x0C => some rrr
  | 0x0D | 0x0E | 0x0F | 0x10 | 0x11 | 0x12 | 0x13 => some rri
  | 0x14 | 0x15 => some ⟨.g, .none, .none, true, 1⟩
  | 0x16 | 0x17 | 0x18 | 0x19 => some rrr
  | 0x1A | 0x1B => some ⟨.g, .g, .none, false, 1⟩
  | 0x1C | 0x1D => some rri
  | 0x20 => some ⟨.p, .g, .g, false, 6⟩
  | 0x21 => some ⟨.p, .g, .none, true, 6⟩
  | 0x22 | 0x23 | 0x24 => some ppp
  | 0x25 => some ⟨.p, .p, .none, false, 1⟩
  | 0x26 => some ⟨.g, .none, .none, false, 1⟩
  | 0x27 => some ⟨.none, .g, .none, false, 1⟩
  | 0x28 | 0x29 => some ⟨.g, .none, .none, false, 1⟩
  | 0x30 | 0x31 | 0x32 | 0x33 | 0x35 | 0x36 | 0x37 => some fff
  | 0x34 | 0x38 | 0x39 => some ⟨.f, .f, .none, false, 1⟩
  | 0x3A => some ⟨.p, .f, .f, false, 4⟩
  | 0x3B => some ⟨.f, .g, .none, false, 1⟩
  | 0x3C => some ⟨.g, .f, .none, false, 1⟩
  | 0x3D => some ⟨.f, .none, .none, true, 1⟩
  | 0x3E => some ⟨.g, .f, .none, false, 1⟩
  | 0x3F => some ⟨.f, .g, .none, false, 1⟩
  | 0x40 => some ⟨.g, .g, .none, true, 8⟩
  | 0x41 => some ⟨.none, .g, .g, true, 4⟩
  | 0x42 => some ⟨.f, .g, .none, true, 1⟩
  | 0x43 => some ⟨.none, .g, .f, true, 1⟩
  | 0x44 | 0x45 => some rrr
  | 0x46 => some ⟨.g, .g, .none, true, 4⟩
  | 0x47 => some ⟨.none, .g, .g, true, 4⟩
  | 0x48 => some nothing
  | 0x50 => some immOnly
  | 0x51 => some ⟨.none, .g, .none, false, 1⟩
  | 0x52 | 0x54 => some ⟨.g, .none, .none, true, 1⟩
  | 0x53 => some ⟨.g, .g, .none, false, 1⟩
  | 0x60 | 0x61 | 0x62 | 0x63 => some ⟨.g, .g, .g, true, 2⟩
  | 0x64 => some rrr
  | 0x65 => some ⟨.g, .g, .none, false, 1⟩
  | 0x66 => some ⟨.g, .g, .g, true, 1⟩
  | 0x67 => some rri
  | 0x68 => some ⟨.g, .g, .none, false, 1⟩
  | 0x69 => some ⟨.g, .none, .none, false, 1⟩
  | 0x6A => some ⟨.g, .g, .none, false, 5⟩
  | 0x80 => some ⟨.g, .g, .f, false, 32⟩
  | 0x81 => some rri
  | 0x82 => some ⟨.g, .g, .f, false, 2⟩
  | 0x83 => some rrr
  | 0x84 => some ⟨.g, .g, .g, true, 1⟩
  | 0x90 => some rrr
  | 0x91 => some ⟨.g, .g, .g, true, 2⟩
  | 0x92 => some ⟨.none, .g, .g, false, 1⟩
  | 0xA0 => some ⟨.none, .g, .none, false, 4⟩
  | 0xA1 => some immOnly
  | 0xA2 => some ⟨.g, .none, .none, false, 4⟩
  | 0xB0 | 0xB1 => some ⟨.none, .g, .g, false, 1⟩
  | 0xB2 => some ⟨.none, .g, .none, false, 1⟩
  | 0xF0 => some nothing
  | 0xF1 | 0xF3 => some immOnly
  | 0xF2 => some ⟨.none, .g, .none, true, 1⟩
  | _ => none

/-- Fields are legal for an opcode; an opcode that is not listed has no legal fields. -/
def legalFields (opc : Nat) (w : Fields) : Bool :=
  match formOf opc with
  | some f => f.legal opc w
  | none => false

/-! ### Registers (R43, R44, R84) -/

/-- A general register: g0 reads zero (R44). -/
def Seq.rg (x : Seq) (n : BitVec 5) : W64 := if n = 0 then 0 else x.g.get n.toFin
/-- A general register written: writes to g0 are discarded (R44). -/
def Seq.setG (x : Seq) (n : BitVec 5) (v : W64) : Seq := if n = 0 then x else { x with g := x.g.set n.toFin v }
/-- The float register of a field (R84). -/
def fIdx (n : BitVec 5) : Fin 16 := (n.setWidth 4).toFin
/-- A float register. -/
def Seq.rf (x : Seq) (n : BitVec 5) : W32 := x.f.get (fIdx n)
/-- A float register written. -/
def Seq.setF (x : Seq) (n : BitVec 5) (v : W32) : Seq := { x with f := x.f.set (fIdx n) v }
/-- A predicate: p0 reads 1 (R44). -/
def Seq.rp (x : Seq) (n : BitVec 3) : Bool := n = 0 || x.preds.getLsbD n.toNat
/-- A predicate written: writes to p0 are discarded (R44). -/
def Seq.setP (x : Seq) (n : BitVec 3) (b : Bool) : Seq :=
  if n = 0 then x
  else
    let m : BitVec 8 := 1#8 <<< n.toNat
    { x with preds := if b then x.preds ||| m else x.preds &&& ~~~m }
/-- The predicate of a register field (R84). -/
def pIdx (n : BitVec 5) : BitVec 3 := n.setWidth 3
/-- The program counter advanced by one (R87). -/
def Seq.advance (x : Seq) : Seq := { x with pc := x.pc + 1 }
/-- The program counter moved by a signed offset (R87, R99). -/
def Seq.jumpBy (x : Seq) (imm : W32) : Seq := { x with pc := x.pc + imm.setWidth 16 }

/-! ### Immediates (R86) -/

/-- Form s: sign-extended. -/
def immS (w : Fields) : W64 := w.imm.signExtend 64
/-- Form z: zero-extended. -/
def immZ (w : Fields) : W64 := w.imm.setWidth 64

end Sys2Proof.Machine
end

