-- ==== Sys2Proof/Decode.lean ====
section
/-! DEFINITION. Reading words: the table gives its rows no bits, so no word spells a command; the words a
sequencer fetches spell the Wicker rows (R83, R84, R87), and an encoder writes them. -/

namespace Sys2Proof

open Sys2Proof.Machine

/-- The command that a word of the table's bits spells: none, since no row of the table has bits. -/
def decodeTableWord (_nbits _w : Nat) : Option Instr := none

/-- READW by its MOD (R109). -/
def readwRow (q : Fin 8) (f : Fields) : Instr :=
  match f.mod.toNat with
  | 0 => .readwIn q f
  | 1 => .readwOut q f
  | 2 => .readwCell q f
  | 3 => .readwSt q f
  | _ => .readwStable q f

/-- A legal word by its opcode. -/
def legalRow (q : Fin 8) (w : W64) (f : Fields) : Instr :=
  match opcOf w with
  | 0x00 => .nop q f
  | 0x01 => .add q f
  | 0x02 => .sub q f
  | 0x03 => .mul q f
  | 0x04 => .mulhu q f
  | 0x05 => .divu q f
  | 0x06 => .remu q f
  | 0x07 => .and q f
  | 0x08 => .or q f
  | 0x09 => .xor q f
  | 0x0A => .shl q f
  | 0x0B => .shr q f
  | 0x0C => .sar q f
  | 0x0D => .addi q f
  | 0x0E => .andi q f
  | 0x0F => .ori q f
  | 0x10 => .xori q f
  | 0x11 => .shli q f
  | 0x12 => .shri q f
  | 0x13 => .sari q f
  | 0x14 => .movi q f
  | 0x15 => .movhi q f
  | 0x16 => .min q f
  | 0x17 => .max q f
  | 0x18 => .minu q f
  | 0x19 => .maxu q f
  | 0x1A => .popc q f
  | 0x1B => .clz q f
  | 0x1C => .bfx q f
  | 0x1D => .bfi q f
  | 0x20 => .cmp q f
  | 0x21 => .cmpi q f
  | 0x22 => .pand q f
  | 0x24 => .pxor q f
  | 0x23 => .por q f
  | 0x25 => .pnot q f
  | 0x26 => .pget q f
  | 0x27 => .pput q f
  | 0x28 => .sqid q f
  | 0x29 => .rdcyc q f
  | 0x30 => .fadd q f
  | 0x31 => .fsub q f
  | 0x32 => .fmul q f
  | 0x33 => .fdiv q f
  | 0x34 => .fsqrt q f
  | 0x35 => .fma q f
  | 0x36 => .fmin q f
  | 0x37 => .fmax q f
  | 0x38 => .fabs q f
  | 0x39 => .fneg q f
  | 0x3A => .fcmp q f
  | 0x3B => .fcvtSL q f
  | 0x3C => .fcvtLS q f
  | 0x3D => .fmovi q f
  | 0x3E => .fmvgf q f
  | 0x3F => .fmvfg q f
  | 0x40 => .ld q f
  | 0x41 => .st q f
  | 0x42 => .fld q f
  | 0x43 => .fst q f
  | 0x44 => .cas q f
  | 0x45 => .aadd q f
  | 0x46 => .rdx q f
  | 0x47 => .wrx q f
  | 0x48 => .fence q f
  | 0x50 => .br q f
  | 0x51 => .jmp q f
  | 0x52 => .call q f
  | 0x53 => .callr q f
  | 0x54 => .loop q f
  | 0x60 => .unpin q f
  | 0x61 => .disc q f
  | 0x62 => .conn q f
  | 0x63 => .pin q f
  | 0x64 => .epoch q f
  | 0x65 => .abort q f
  | 0x66 => .solve q f
  | 0x67 => .stage q f
  | 0x68 => .lay q f
  | 0x69 => .verify q f
  | 0x80 => .lset q f
  | 0x81 => .lmode q f
  | 0x82 => .lpreset q f
  | 0x83 => .linj q f
  | 0x84 => .lcap q f
  | 0x90 => .send q f
  | 0x92 => .ack q f
  | 0xA0 => .waitt q f
  | 0xA1 => .waite q f
  | 0xA2 => .tnow q f
  | 0xB0 => .hist q f
  | 0xB1 => .fraise q f
  | 0xB2 => .fack q f
  | 0xF0 => .halt q f
  | 0xF1 => .sleep q f
  | 0xF2 => .sync q f
  | 0xF3 => .trap q f
  | 0x6A => readwRow q f
  | 0x91 => if f.mod = 0 then .recv q f else .recvN q f
  | _ => .illegalOpcode q w

/-- The row that a word fetched by sequencer `q` is: a word that R84 or R87 makes illegal is ILLEGAL_OPCODE's. -/
def decodeWicker (q : Fin 8) (w : W64) : Instr :=
  if legalFields (opcOf w) (fieldsOf w) then legalRow q w (fieldsOf w) else .illegalOpcode q w

/-- The sequencer and the word of a row that is an instruction of Wicker; none for the other rows. -/
def Instr.word (i : Instr) : Option (Fin 8 × W64) :=
  match i with
  | .nop q w => some (q, wordOf 0x00 w)
  | .add q w => some (q, wordOf 0x01 w)
  | .sub q w => some (q, wordOf 0x02 w)
  | .mul q w => some (q, wordOf 0x03 w)
  | .mulhu q w => some (q, wordOf 0x04 w)
  | .divu q w => some (q, wordOf 0x05 w)
  | .remu q w => some (q, wordOf 0x06 w)
  | .and q w => some (q, wordOf 0x07 w)
  | .or q w => some (q, wordOf 0x08 w)
  | .xor q w => some (q, wordOf 0x09 w)
  | .shl q w => some (q, wordOf 0x0A w)
  | .shr q w => some (q, wordOf 0x0B w)
  | .sar q w => some (q, wordOf 0x0C w)
  | .addi q w => some (q, wordOf 0x0D w)
  | .andi q w => some (q, wordOf 0x0E w)
  | .ori q w => some (q, wordOf 0x0F w)
  | .xori q w => some (q, wordOf 0x10 w)
  | .shli q w => some (q, wordOf 0x11 w)
  | .shri q w => some (q, wordOf 0x12 w)
  | .sari q w => some (q, wordOf 0x13 w)
  | .movi q w => some (q, wordOf 0x14 w)
  | .movhi q w => some (q, wordOf 0x15 w)
  | .min q w => some (q, wordOf 0x16 w)
  | .max q w => some (q, wordOf 0x17 w)
  | .minu q w => some (q, wordOf 0x18 w)
  | .maxu q w => some (q, wordOf 0x19 w)
  | .popc q w => some (q, wordOf 0x1A w)
  | .clz q w => some (q, wordOf 0x1B w)
  | .bfx q w => some (q, wordOf 0x1C w)
  | .bfi q w => some (q, wordOf 0x1D w)
  | .cmp q w => some (q, wordOf 0x20 w)
  | .cmpi q w => some (q, wordOf 0x21 w)
  | .pand q w => some (q, wordOf 0x22 w)
  | .pxor q w => some (q, wordOf 0x24 w)
  | .por q w => some (q, wordOf 0x23 w)
  | .pnot q w => some (q, wordOf 0x25 w)
  | .pget q w => some (q, wordOf 0x26 w)
  | .pput q w => some (q, wordOf 0x27 w)
  | .sqid q w => some (q, wordOf 0x28 w)
  | .rdcyc q w => some (q, wordOf 0x29 w)
  | .fadd q w => some (q, wordOf 0x30 w)
  | .fsub q w => some (q, wordOf 0x31 w)
  | .fmul q w => some (q, wordOf 0x32 w)
  | .fdiv q w => some (q, wordOf 0x33 w)
  | .fsqrt q w => some (q, wordOf 0x34 w)
  | .fma q w => some (q, wordOf 0x35 w)
  | .fmin q w => some (q, wordOf 0x36 w)
  | .fmax q w => some (q, wordOf 0x37 w)
  | .fabs q w => some (q, wordOf 0x38 w)
  | .fneg q w => some (q, wordOf 0x39 w)
  | .fcmp q w => some (q, wordOf 0x3A w)
  | .fcvtSL q w => some (q, wordOf 0x3B w)
  | .fcvtLS q w => some (q, wordOf 0x3C w)
  | .fmovi q w => some (q, wordOf 0x3D w)
  | .fmvgf q w => some (q, wordOf 0x3E w)
  | .fmvfg q w => some (q, wordOf 0x3F w)
  | .ld q w => some (q, wordOf 0x40 w)
  | .st q w => some (q, wordOf 0x41 w)
  | .fld q w => some (q, wordOf 0x42 w)
  | .fst q w => some (q, wordOf 0x43 w)
  | .cas q w => some (q, wordOf 0x44 w)
  | .aadd q w => some (q, wordOf 0x45 w)
  | .rdx q w => some (q, wordOf 0x46 w)
  | .wrx q w => some (q, wordOf 0x47 w)
  | .fence q w => some (q, wordOf 0x48 w)
  | .br q w => some (q, wordOf 0x50 w)
  | .jmp q w => some (q, wordOf 0x51 w)
  | .call q w => some (q, wordOf 0x52 w)
  | .callr q w => some (q, wordOf 0x53 w)
  | .loop q w => some (q, wordOf 0x54 w)
  | .unpin q w => some (q, wordOf 0x60 w)
  | .disc q w => some (q, wordOf 0x61 w)
  | .conn q w => some (q, wordOf 0x62 w)
  | .pin q w => some (q, wordOf 0x63 w)
  | .epoch q w => some (q, wordOf 0x64 w)
  | .abort q w => some (q, wordOf 0x65 w)
  | .solve q w => some (q, wordOf 0x66 w)
  | .stage q w => some (q, wordOf 0x67 w)
  | .lay q w => some (q, wordOf 0x68 w)
  | .verify q w => some (q, wordOf 0x69 w)
  | .readwIn q w => some (q, wordOf 0x6A w)
  | .readwOut q w => some (q, wordOf 0x6A w)
  | .readwCell q w => some (q, wordOf 0x6A w)
  | .readwSt q w => some (q, wordOf 0x6A w)
  | .readwStable q w => some (q, wordOf 0x6A w)
  | .lset q w => some (q, wordOf 0x80 w)
  | .lmode q w => some (q, wordOf 0x81 w)
  | .lpreset q w => some (q, wordOf 0x82 w)
  | .linj q w => some (q, wordOf 0x83 w)
  | .lcap q w => some (q, wordOf 0x84 w)
  | .send q w => some (q, wordOf 0x90 w)
  | .recv q w => some (q, wordOf 0x91 w)
  | .recvN q w => some (q, wordOf 0x91 w)
  | .ack q w => some (q, wordOf 0x92 w)
  | .waitt q w => some (q, wordOf 0xA0 w)
  | .waite q w => some (q, wordOf 0xA1 w)
  | .tnow q w => some (q, wordOf 0xA2 w)
  | .hist q w => some (q, wordOf 0xB0 w)
  | .fraise q w => some (q, wordOf 0xB1 w)
  | .fack q w => some (q, wordOf 0xB2 w)
  | .halt q w => some (q, wordOf 0xF0 w)
  | .sleep q w => some (q, wordOf 0xF1 w)
  | .sync q w => some (q, wordOf 0xF2 w)
  | .trap q w => some (q, wordOf 0xF3 w)
  | .illegalOpcode q w => some (q, w)
  | .registerWrite _ => none
  | .memoryWrite _ => none
  | .defaultTargetAccess _ _ _ => none
  | .powerOnReset => none
  | .resetNReset => none
  | .softReset => none
  | .debugReset => none
  | .pcieFlr _ => none
  | .lcNonce => none
  | .lcGo _ => none
  | .flashRead _ => none
  | .flashProgram _ => none
  | .flashErase4k _ => none
  | .flashErase64k _ => none
  | .flashCmdDone _ => none
  | .flashQueueIssue => none
  | .fenceDone _ => none
  | .ledgerStallResume _ => none
  | .abortResolved _ => none
  | .trialSolveDone _ => none
  | .layEpochEnd _ => none
  | .readwStFinal _ => none
  | .sendQueueRoom _ => none
  | .recvFrameReady _ => none
  | .waittResume _ => none
  | .waiteResume _ => none
  | .sleepWake _ => none
  | .hookStart _ => none
  | .sqStop _ => none
  | .sqEn _ => none
  | .trapClr _ => none
  | .seqDoorbell _ => none
  | .hcmdUnpin _ => none
  | .hcmdDisc _ => none
  | .hcmdConn _ => none
  | .hcmdPin _ => none
  | .hcmdOpenEpoch _ _ => none
  | .hcmdAbortEpoch _ => none
  | .seqEntryRead _ _ => none
  | .entryDeliveryTimeout _ => none
  | .sealEpoch _ => none
  | .epochEvaluateDeferred _ => none
  | .slotFreedSolve _ => none
  | .solveDone => none
  | .weaveResolve _ => none
  | .stageWeave _ => none
  | .stagingDeadline _ => none
  | .layInstant _ => none
  | .layStrobe => none
  | .layHandBack => none
  | .settleCheck => none
  | .unblank => none
  | .layComplete => none
  | .laggingCheck => none
  | .layReopen _ => none
  | .layEnable _ => none
  | .layFlush => none
  | .restoringLayStart => none
  | .outboundFrame => none
  | .driveStrobeFire _ => none
  | .driveRecordRebuild _ => none
  | .inboundFrame _ => none
  | .loopPeriod => none
  | .gradientBlock => none
  | .knownAnswerTest _ => none
  | .loopCoreRetire _ => none
  | .loopEnable _ => none
  | .loopCapStop _ => none
  | .captureDone _ => none
  | .injectionEnd _ => none
  | .auxLoopEnable _ => none
  | .calReq _ _ => none
  | .calRunStart => none
  | .calDwell _ => none
  | .calRunEnd _ => none
  | .senseCalStep _ => none
  | .senseCalRunEnd _ => none
  | .blendStart => none
  | .passiveObservation => none
  | .passiveExpire _ => none
  | .calEnable _ => none
  | .calAbort => none
  | .calAreaReload _ _ => none
  | .strandStart => none
  | .linkTrained _ => none
  | .linkAligned _ => none
  | .cartAuthResponse _ => none
  | .linkIdentified _ => none
  | .strandStream => none
  | .streamEchoReady => none
  | .strandStop => none
  | .portReq => none
  | .portRel => none
  | .laneFailure _ => none
  | .spareSwitch => none
  | .strandLaneTest _ => none
  | .laneTestEnd _ _ => none
  | .idRead _ => none
  | .idWrite _ _ => none
  | .writeBack => none
  | .poweredHour => none
  | .wearFold => none
  | .dmapAdd _ => none
  | .dmapRemove _ => none
  | .memParity _ _ => none
  | .instrParityReload _ => none
  | .commandFrame _ => none
  | .statusFrame _ => none
  | .dataFrame _ => none
  | .ackFrame _ => none
  | .query _ => none
  | .reply _ => none
  | .commandRetransmit _ _ _ => none
  | .seqNetOpen _ => none
  | .prepare _ => none
  | .ready _ => none
  | .readyDeadline _ => none
  | .commit _ => none
  | .abortFrame _ => none
  | .missed _ => none
  | .landed _ => none
  | .stable _ => none
  | .braidFrameRx _ _ => none
  | .transmitStart _ => none
  | .transmitEnd _ => none
  | .braidLinkDown _ => none
  | .braidLinkUp _ => none
  | .lagRejoin _ => none
  | .lagRejoinDone _ => none
  | .gateCommit _ => none
  | .gateListStart _ => none
  | .gateEntryChange _ => none
  | .queueSample => none
  | .switchHostTx _ => none
  | .hostFrameEnter => none
  | .hostRxPop => none
  | .timeInc _ _ => none
  | .timeAdj _ _ => none
  | .slewEnd => none
  | .lockAssert _ => none
  | .lockClear _ => none
  | .lockExpire _ => none
  | .cmpArm _ _ => none
  | .cmpDisarm _ => none
  | .cmpFire _ => none
  | .ppsOutPulse => none
  | .ppsInEdge => none
  | .laySyncOutPulse => none
  | .laySyncInEdge => none
  | .heartbeatSend => none
  | .heartbeatFrameRx _ => none
  | .heartbeatPulseIn _ => none
  | .redundSurrender => none
  | .peerLost => none
  | .hbPath => none
  | .failoverGrant => none
  | .failoverEchoReady => none
  | .failoverGrantTimeout => none
  | .redundWdog => none
  | .watchdogExpire => none
  | .ckptRecordRx _ => none
  | .ckptGapTimeout => none
  | .ckptResyncDone => none
  | .shadowSend => none
  | .marchPassEnd _ => none
  | .takebackHoldoff => none
  | .redundTakeback => none
  | .takebackQuiesced => none
  | .handoverFrame => none
  | .takebackTimeout => none
  | .redundRestore => none
  | .faultRaise _ _ => none
  | .faultForce _ => none
  | .faultAckWrite _ => none
  | .releaseFreeze => none
  | .releaseHold => none
  | .releaseSafe => none
  | .safeNAssert => none
  | .safeNDeassert => none
  | .monSnap _ _ => none
  | .monHopIn _ _ => none
  | .histConfigWrite _ _ _ => none
  | .trackerConfigWrite _ _ => none
  | .monitorSample => none
  | .hkRoundStart => none
  | .hkPublish _ => none
  | .pwmReload _ => none
  | .pwmSyncInEdge => none
  | .pwmEnable _ _ => none
  | .tripAssert _ => none
  | .tripClr _ => none
  | .clockMonitorWindow _ _ => none
  | .clockDetectorFail _ => none
  | .xtalQualified => none
  | .xtalQualTimeout _ => none
  | .pllLock _ => none
  | .clkDomSrc _ _ => none
  | .clockSwitchTimeout _ => none
  | .refclkRestored => none
  | .gateForceTimeout _ => none
  | .pwrCtrl _ => none
  | .powerTransitionDone => none
  | .busTargetTimeout _ _ => none
  | .busMasterReset _ => none
  | .masterResetDone _ => none
  | .resetRelease => none
  | .startupStepDone => none
  | .pcieLinkUp => none
  | .senseVfyReq => none
  | .verifyPassDone => none
  | .synceSquelchEnd _ => none
  | .healthFlagClear _ => none
  | .ckptRollingUpdate _ => none

end Sys2Proof
end

