-- ==== Sys2Proof/Machine/Flags.lean ====
section
/-! DEFINITION. The conditions and predicates of Wicker (R85, R93 to R95), the corner results of its
arithmetic, and how an instruction issues: legality, guard, effect, trap (R84 to R88). -/

namespace Sys2Proof.Machine

/-! ### Conditions (R93, R94, R95) -/

/-- The condition of CMP and CMPI by MOD (R93). -/
def condOf (mod : BitVec 5) (a b : W64) : Bool :=
  match mod.toNat with
  | 0 => a = b
  | 1 => a ≠ b
  | 2 => a.slt b
  | 3 => !a.slt b
  | 4 => a.ult b
  | _ => !a.ult b

/-- The condition of FCMP by MOD (R94, R95). -/
def fcondOf (mod : BitVec 5) (a b : W32) : Bool :=
  match mod.toNat with
  | 0 => F32.eq a b
  | 1 => F32.lt a b
  | 2 => F32.le a b
  | _ => F32.isNan a || F32.isNan b

/-- Predicates p7 to p0 as a number (R92). -/
def Seq.preds8 (x : Seq) : BitVec 8 := x.preds ||| 1

/-- The guard holds (R85). -/
def Seq.guard (x : Seq) (w : Fields) : Bool := x.rp w.gp != decide (w.gs = 1)

/-! ### Float corners (R45, R94, R95) -/

/-- Subnormals flushed to zero of the same sign (R45). -/
def flush (a : W32) : W32 := if F32.isZero a then F32.zeroOf (F32.neg? a) else a

/-- a is less than b with −0 below +0 (R95); neither is a NaN. -/
def fless (a b : W32) : Bool := F32.lt a b || (F32.eq a b && F32.neg? a && !F32.neg? b)

/-- FMIN (R95). -/
def fminW (a b : W32) : W32 :=
  if F32.isNan a && F32.isNan b then F32.nan
  else if F32.isNan a then flush b
  else if F32.isNan b then flush a
  else if fless b a then flush b else flush a

/-- FMAX (R95). -/
def fmaxW (a b : W32) : W32 :=
  if F32.isNan a && F32.isNan b then F32.nan
  else if F32.isNan a then flush b
  else if F32.isNan b then flush a
  else if fless a b then flush b else flush a

/-- FABS (R45, R95): a NaN is copied unchanged. -/
def fabsW (a : W32) : W32 := if F32.isNan a then a else F32.abs (flush a)
/-- FNEG (R45, R95): a NaN is copied unchanged. -/
def fnegW (a : W32) : W32 := if F32.isNan a then a else F32.negate (flush a)

/-- binary32 to a signed 64-bit integer, toward zero, saturated; a NaN gives 0 (R94). -/
def toLong (a : W32) : W64 :=
  if F32.isNan a then 0
  else if F32.isInf a then (if F32.neg? a then 0x8000000000000000 else 0x7FFFFFFFFFFFFFFF)
  else
    let v := F32.trunc a
    if v < -(2 ^ 63 : Int) then 0x8000000000000000
    else if (2 ^ 63 : Int) ≤ v then 0x7FFFFFFFFFFFFFFF
    else BitVec.ofInt 64 v

/-! ### Integer corners (R92) -/

/-- Unsigned quotient; all ones for a zero divisor. -/
def divu (a b : W64) : W64 := if b = 0 then BitVec.allOnes 64 else a / b
/-- Unsigned remainder; the dividend for a zero divisor. -/
def remu (a b : W64) : W64 := if b = 0 then a else a % b
/-- The high 64 bits of the unsigned product. -/
def mulhu (a b : W64) : W64 := BitVec.ofNat 64 (a.toNat * b.toNat / 2 ^ 64)
/-- The number of 1 bits. -/
def popc (a : W64) : W64 := BitVec.ofNat 64 (popcount a.toNat 64)
/-- The number of leading zeros, 0 to 64. -/
def clz (a : W64) : W64 := if a = 0 then 64 else BitVec.ofNat 64 (63 - Nat.log2 a.toNat)
/-- l of BFX and BFI. -/
def bfL (imm : W32) : Nat := imm.toNat % 64
/-- w of BFX and BFI. -/
def bfW (imm : W32) : Nat := imm.toNat / 256 % 128
/-- A bit-field operand that R92 accepts. -/
def bfOk (imm : W32) : Bool :=
  decide (imm.toNat / 64 % 4 = 0) && decide (imm.toNat / 32768 = 0) && decide (1 ≤ bfW imm) && decide (bfL imm + bfW imm ≤ 64)
/-- A mask of w ones. -/
def ones (w : Nat) : W64 := BitVec.ofNat 64 (2 ^ w - 1)
/-- BFX. -/
def bfx (a : W64) (l w : Nat) : W64 := (a >>> l) &&& ones w
/-- BFI. -/
def bfi (d a : W64) (l w : Nat) : W64 := (d &&& ~~~(ones w <<< l)) ||| ((a &&& ones w) <<< l)

/-! ### Issue (R84 to R88) -/

/-- An instruction on the sequencer's own registers: `f` gives the sequencer after it, or a trap cause. -/
def execLocal (opc : Nat) (q : Fin 8) (w : Fields) (f : Seq → Except Nat Seq) (s : State) :
    Host.Outcome State Fault Refusal :=
  let x := s.sq q.val
  if x.st ≠ .run || !s.domEnabled 4 then .next s
  else if !legalFields opc w then done s (s.trap q.val 1)
  else if !x.guard w then .next (s.setSq q.val x.advance)
  else match f x with
    | .ok y => .next (s.setSq q.val y)
    | .error c => done s (s.trap q.val c)

/-- An instruction on the sequencer's registers and memory. -/
def execMem (opc : Nat) (q : Fin 8) (w : Fields)
    (f : Seq → List Host.Cell → Except Nat (Seq × List Host.Cell)) (s : State) : Host.Outcome State Fault Refusal :=
  let x := s.sq q.val
  if x.st ≠ .run || !s.domEnabled 4 then .next s
  else if !legalFields opc w then done s (s.trap q.val 1)
  else if !x.guard w then .next (s.setSq q.val x.advance)
  else match f x s.mem with
    | .ok y => .next (({ s with mem := y.2 } : State).setSq q.val y.1)
    | .error c => done s (s.trap q.val c)

/-- An instruction that reaches an engine of the controller: `f` gives the state after it. -/
def execEngine (opc : Nat) (q : Fin 8) (w : Fields) (f : State → Seq → Except Nat State) (s : State) :
    Host.Outcome State Fault Refusal :=
  let x := s.sq q.val
  if x.st ≠ .run || !s.domEnabled 4 then .next s
  else if !legalFields opc w then done s (s.trap q.val 1)
  else if !x.guard w then .next (s.setSq q.val x.advance)
  else match f s x with
    | .ok t => done s t
    | .error c => done s (s.trap q.val c)

/-- gd written and the program counter advanced. -/
def Seq.retG (x : Seq) (n : BitVec 5) (v : W64) : Seq := (x.setG n v).advance
/-- fd written and the program counter advanced. -/
def Seq.retF (x : Seq) (n : BitVec 5) (v : W32) : Seq := (x.setF n v).advance
/-- pd written and the program counter advanced. -/
def Seq.retP (x : Seq) (n : BitVec 5) (b : Bool) : Seq := (x.setP (pIdx n) b).advance

/-- The thread's next instruction (R87): a completed instruction without a result. -/
def State.sqNext (s : State) (q : Fin 8) : State := s.setSq q.val { (s.sq q.val).advance with st := .run, wait := .none }
/-- A completed instruction with result gd. -/
def State.sqRet (s : State) (q : Fin 8) (n : BitVec 5) (v : W64) : State :=
  s.setSq q.val { (s.sq q.val).retG n v with st := .run, wait := .none }
/-- The sequencer blocks (R47). -/
def State.sqBlock (s : State) (q : Fin 8) (w : Wait) : State :=
  s.setSq q.val { s.sq q.val with st := .wait, wait := w }

end Sys2Proof.Machine
end

