-- ==== Sys2Proof/Machine/DataMem.lean ====
section
/-! DEFINITION. The data-memory and control-flow instructions (R96 to R99). -/

namespace Sys2Proof.Machine

/-! ### Data memory (R96, R97) -/

/-- The first byte of sequencer data memory (R7). -/
def dmemLo : Nat := 0x00100000
/-- The byte after the last one. -/
def dmemHi : Nat := 0x00200000

/-- The address ga + imm (R97). -/
def Seq.addr (x : Seq) (w : Fields) : W64 := x.rg w.src1 + (immS w)

/-- An address that R97 accepts for an access of `n` bytes: outside data memory BAD_ADDR, else not a
multiple of the size MISALIGN. -/
def addrTrap (a : W64) (n : Nat) : Option Nat :=
  if a.toNat < dmemLo || dmemHi ≤ a.toNat then some 2
  else if a.toNat % n ≠ 0 then some 3 else none

/-- The access size that MOD[1:0] encodes (R96). -/
def sizeOf' (mod : BitVec 5) : Nat := 2 ^ (mod.toNat % 4)

/-- A loaded value of `n` bytes extended to 64 bits. -/
def extend (n v : Nat) (signed : Bool) : W64 :=
  if signed && decide (2 ^ (8 * n - 1) ≤ v) then BitVec.ofInt 64 (Int.ofNat v - 2 ^ (8 * n)) else BitVec.ofNat 64 v

/-- LD. -/
def execLd (q : Fin 8) (w : Fields) (s : State) : Host.Outcome State Fault Refusal :=
  execMem 0x40 q w (fun x m =>
    let a := x.addr w
    let n := sizeOf' w.mod
    match addrTrap a n with
    | some c => .error c
    | none => .ok (x.retG w.dst (extend n (memNat m a.toNat n) (w.mod.getLsbD 2)), m)) s

/-- ST. -/
def execSt (q : Fin 8) (w : Fields) (s : State) : Host.Outcome State Fault Refusal :=
  execMem 0x41 q w (fun x m =>
    let a := x.addr w
    let n := sizeOf' w.mod
    match addrTrap a n with
    | some c => .error c
    | none => .ok (x.advance, memPut m a.toNat n (x.rg w.src2).toNat)) s

/-- FLD: subnormals are flushed. -/
def execFld (q : Fin 8) (w : Fields) (s : State) : Host.Outcome State Fault Refusal :=
  execMem 0x42 q w (fun x m =>
    let a := x.addr w
    match addrTrap a 4 with
    | some c => .error c
    | none => .ok (x.retF w.dst (flush (BitVec.ofNat 32 (memNat m a.toNat 4))), m)) s

/-- FST. -/
def execFst (q : Fin 8) (w : Fields) (s : State) : Host.Outcome State Fault Refusal :=
  execMem 0x43 q w (fun x m =>
    let a := x.addr w
    match addrTrap a 4 with
    | some c => .error c
    | none => .ok (x.advance, memPut m a.toNat 4 (x.rf w.src2).toNat)) s

/-- CAS. -/
def execCas (q : Fin 8) (w : Fields) (s : State) : Host.Outcome State Fault Refusal :=
  execMem 0x44 q w (fun x m =>
    let a := x.rg w.src1
    match addrTrap a 8 with
    | some c => .error c
    | none =>
      let old : W64 := BitVec.ofNat 64 (memNat m a.toNat 8)
      .ok (x.retG w.dst old, if old = x.rg w.dst then memPut m a.toNat 8 (x.rg w.src2).toNat else m)) s

/-- AADD. -/
def execAadd (q : Fin 8) (w : Fields) (s : State) : Host.Outcome State Fault Refusal :=
  execMem 0x45 q w (fun x m =>
    let a := x.rg w.src1
    match addrTrap a 8 with
    | some c => .error c
    | none =>
      let old : W64 := BitVec.ofNat 64 (memNat m a.toNat 8)
      .ok (x.retG w.dst old, memPut m a.toNat 8 (old + x.rg w.src2).toNat)) s

/-- FENCE: the thread waits for its earlier accesses. -/
def execFence (q : Fin 8) (w : Fields) (s : State) : Host.Outcome State Fault Refusal :=
  execLocal 0x48 q w (fun x => .ok { x with st := .wait, wait := .fence }) s

/-- FENCE_DONE: the earlier accesses have completed. -/
def execFenceDone (q : Fin 8) (s : State) : Host.Outcome State Fault Refusal :=
  .next (match (s.sq q.val).wait with
    | .fence => s.sqNext q
    | _ => s)

/-! ### Control flow (R99) -/

/-- BR. -/
def execBr (q : Fin 8) (w : Fields) (s : State) : Host.Outcome State Fault Refusal :=
  execLocal 0x50 q w (fun x => .ok (x.jumpBy w.imm)) s
/-- JMP. -/
def execJmp (q : Fin 8) (w : Fields) (s : State) : Host.Outcome State Fault Refusal :=
  execLocal 0x51 q w (fun x => .ok { x with pc := (x.rg w.src1).setWidth 16 }) s
/-- CALL. -/
def execCall (q : Fin 8) (w : Fields) (s : State) : Host.Outcome State Fault Refusal :=
  execLocal 0x52 q w (fun x => .ok ((x.setG w.dst ((x.pc + 1).setWidth 64)).jumpBy w.imm)) s
/-- CALLR: the target is read before gd is written. -/
def execCallr (q : Fin 8) (w : Fields) (s : State) : Host.Outcome State Fault Refusal :=
  execLocal 0x53 q w (fun x =>
    .ok { x.setG w.dst ((x.pc + 1).setWidth 64) with pc := (x.rg w.src1).setWidth 16 }) s
/-- LOOP: gd is read again after its write, so a count held in g0 never branches (R44; log entry 20). -/
def execLoop (q : Fin 8) (w : Fields) (s : State) : Host.Outcome State Fault Refusal :=
  execLocal 0x54 q w (fun x =>
    let y := x.setG w.dst (x.rg w.dst - 1)
    .ok (if y.rg w.dst ≠ 0 then y.jumpBy w.imm else y.advance)) s

/-- ILLEGAL_OPCODE: a word that R84 or R87 makes illegal traps; a legal word is not this row. -/
def execIllegalOpcode (q : Fin 8) (word : BitVec 64) (s : State) : Host.Outcome State Fault Refusal :=
  if (s.sq q.val).st = .run && !legalFields (opcOf word) (fieldsOf word) then done s (s.trap q.val 1) else .next s

end Sys2Proof.Machine
end

