-- ==== Sys2Proof/Machine/BootOps.lean ====
section
/-! DEFINITION. Start-up, flash and life cycle (18): the device reset, the image's checks, flash commands
and life-cycle changes. -/

namespace Sys2Proof.Machine

/-! ### Resets (R440, R448) -/

/-- A device reset: every register at its reset value, the memories empty; fuses, flash and the causes seen
stay (R440, R448, `SYS_RESET_CAUSE`). -/
def State.deviceReset (s : State) (cause : Nat) : State :=
  let r := State.reset
  let seen := if cause = 0 then 1 else s.rd F.SYS_RESET_CAUSE_CAUSE ||| 2 ^ cause
  ({ r with fresh := s.fresh, pending := s.pending
            pins := { r.pins with resetN := decide (cause ≠ 1) }
            boot := { r.boot with fuses := s.boot.fuses, flash := s.boot.flash, density := s.boot.density
                                  sfdp := s.boot.sfdp, flashMode := s.boot.flashMode } } : State).wr
    F.SYS_RESET_CAUSE_CAUSE seen

/-- Start-up begins with fuse load (R441). -/
def State.bootBegin (s : State) : State :=
  ({ s with boot := { s.boot with bootFrom := s.time.cycle }, pins := { s.pins with resetN := true } } : State).wr
    F.BOOT_STATUS_PHASE 1

/-- A reset that needs no release: start-up begins at once. -/
def State.warmReset (s : State) (cause : Nat) : State := (s.deviceReset cause).bootBegin

/-! ### Fuse load (R179, R441, R453) -/

/-- SERVICE entries that remain. -/
def Fuses.serviceLeft (f : Fuses) : Nat := (64 - f.serviceCount) / 2

/-- The 16 lowest-numbered good looper cores (R179). -/
def Fuses.activeCores (f : Fuses) : Nat :=
  (((List.range 18).filter (fun c => !f.coresFailed.getLsbD c)).take 16).foldl (fun v c => v + 2 ^ c) 0

/-- Step 1 ends: the fuses show in their registers. -/
def State.fuseLoad (s : State) : State :=
  let f := s.boot.fuses
  let s := (((s.wr F.SYS_ID_VENDOR f.vendor).wr F.SYS_ID_DEVICE f.device).wr F.SYS_ID_REV f.rev).wrB F.SYS_ID_GRADE_I f.gradeI
  let s := ((s.wr F.SYS_UID_UID f.uid.toNat).wr F.SYS_STATUS_LC f.lc).wr F.SYS_STATUS_SERVICE_LEFT f.serviceLeft
  let s := (s.wr F.LOOP_CORE_ACTIVE f.activeCores).wr F.LOOP_CORE_FAILED f.coresFailed.toNat
  (s.wr F.LOOP_STATUS_CORES (popcount f.activeCores 18)).wr F.BOOT_STATUS_PHASE 2

/-! ### The image (R443 to R447) -/

/-- Flash address of an image copy. -/
def copyBase (copy : Nat) : Nat := if copy = 0 then 0 else 0x400000

/-- One byte of flash. -/
def State.flashB (s : State) (a : Nat) : Byte := Sparse.get 0xFF s.boot.flash a
/-- Bytes of flash. -/
def State.flashBytes (s : State) (a n : Nat) : List Byte := (List.range n).map (fun i => s.flashB (a + i))
/-- A number of flash, little-endian. -/
def State.flashNat (s : State) (a n : Nat) : Nat := bytesNat (s.flashBytes a n)

/-- A section of the table: type, destination, offset, length, and its zero field. -/
structure SectEntry where
  typ : Nat
  zero : Nat
  dest : Nat
  off : Nat
  len : Nat
  deriving DecidableEq, Repr

/-- Entry i of an image's section table (R444). -/
def State.sectEntry (s : State) (base i : Nat) : SectEntry :=
  let a := base + 0x100 + 16 * i
  { typ := s.flashNat a 2, zero := s.flashNat (a + 2) 2, dest := s.flashNat (a + 4) 4, off := s.flashNat (a + 8) 4
    len := s.flashNat (a + 12) 4 }

/-- A range lies inside another. -/
def inside (a n lo hi : Nat) : Bool := decide (lo ≤ a) && decide (a + n ≤ hi)
/-- Two ranges overlap. -/
def overlap (a n b m : Nat) : Bool := decide (a < b + m) && decide (b < a + n) && decide (0 < n) && decide (0 < m)

/-- A section obeys R444 and R445 by itself. -/
def SectEntry.ok (x : SectEntry) (len : Nat) : Bool :=
  inside x.off x.len 0x500 len && x.zero = 0 &&
  (match x.typ with
   | 1 => x.dest % 8 = 0 && x.len % 8 = 0 && inside x.dest x.len 0 0x80000
   | 2 => x.dest % 8 = 0 && x.len % 8 = 0 && inside x.dest x.len 0x100000 0x200000
   | 3 => x.dest = 0 && x.len % 16 = 0
   | 4 => x.dest = 0 && 4 ≤ x.len && x.len ≤ 16384 && x.len % 4 = 0
   | 5 | 6 => x.dest = 0 && x.len = 64
   | _ => false)

/-- No two sections clash (R444, R445). -/
def sectsClash : List SectEntry → Bool
  | [] => false
  | x :: l =>
    l.any (fun y => overlap x.off x.len y.off y.len || (x.typ ≤ 2 && y.typ ≤ 2 && overlap x.dest x.len y.dest y.len) ||
      (3 ≤ x.typ && x.typ = y.typ)) || sectsClash l

/-- The flash has the copy (R443). -/
def State.hasCopy (s : State) (copy : Nat) : Bool :=
  if copy = 0 then decide (0 < s.boot.density) else s.boot.sfdp && decide (23 ≤ s.boot.density)

/-- The checks of R446 up to BAD_SECTION: the failing code, or the image.  An IMAGE_LEN that cannot hold a section, each
of which lies at or after 0x500 (R444), is out of rule (DEDUCED, log entry 16). -/
def State.checkImage (s : State) (copy : Nat) : Nat ⊕ BootImage :=
  let b := copyBase copy
  let len := s.flashNat (b + 8) 4
  let n := s.flashNat (b + 6) 2
  let flags := s.flashNat (b + 0xE) 2
  let sects := (List.range n).map (fun i => s.sectEntry b i)
  if !s.hasCopy copy || s.flashNat b 4 ≠ 0x494D584F then .inl 1
  else if s.flashNat (b + 4) 2 ≠ 1 || n = 0 || 64 < n || len % 8 ≠ 0 || 0x200000 - 64 < len || 2 ≤ flags ||
      (s.flashBytes (b + 0x10) 236).any (· ≠ 0) || len < 0x500 then .inl 2
  else
    let crc := s.flashNat (b + 0xFC) 4
    let bytes := s.flashBytes b 0xFC ++ [0, 0, 0, 0] ++ s.flashBytes (b + 0x100) (len - 0x100)
    if (crc32 bytes).toNat ≠ crc then .inl 3
    else if sects.any (fun x => !x.ok len) || sectsClash sects then .inl 4
    else .inr { copy := copy, len := len, crc := BitVec.ofNat 32 crc, entry := BitVec.ofNat 16 (s.flashNat (b + 0xC) 2)
                signed := decide (flags % 2 = 1)
                sections := sects.map (fun x => (x.typ, x.dest, s.flashBytes (b + x.off) x.len)) }

/-- The bytes of an image's section of a type that occurs once. -/
def BootImage.only (im : BootImage) (typ : Nat) : Option (List Byte) :=
  (im.sections.find? (fun x => x.1 = typ)).map (·.2.2)

/-- A signature is required (R447, R452). -/
def Fuses.sigRequired (f : Fuses) : Bool := f.lc = 2 || f.lc = 3 || (f.lc = 1 && f.imgKeyHash.isSome)

/-- The signature of an image verifies (R447). -/
def State.sigGood (s : State) (im : BootImage) : Bool :=
  match im.only 6 with
  | none => false
  | some q =>
    s.boot.fuses.imgKeyHash = some (sha256 q) &&
      ecdsaVerify q (s.flashBytes (copyBase im.copy) im.len) (s.flashBytes (copyBase im.copy + im.len) 64)

/-- The entries of a REGS section: address, size, value (R445). -/
def regsEntries (l : List Byte) : List (Nat × Nat × Nat) :=
  (List.range (l.length / 16)).map (fun i => (bytesAt l (16 * i) 4, bytesAt l (16 * i + 4) 4, bytesAt l (16 * i + 8) 8))

/-- The register blocks of R8. -/
def inRegBlocks (a : Nat) : Bool := decide (0x01000000 ≤ a) && decide (a < 0x011A0000)

/-- Codes 5 and 6 of R446. -/
def State.checkImage2 (s : State) (im : BootImage) : Nat :=
  if (if im.signed then !s.sigGood im else s.boot.fuses.sigRequired) then 5
  else if (regsEntries ((im.only 3).getD [])).any (fun e => !inRegBlocks e.1 || (e.2.1 ≠ 4 && e.2.1 ≠ 8)) then 6
  else 0

/-- Copy `copy` is rejected with a code: the other is tried, or start-up fails after the wipe (R446). -/
def State.rejectCopy (s : State) (copy code : Nat) : State :=
  let s := { s with boot := { s.boot with cand := none } }
  if copy = 0 then
    let s := s.wr F.BOOT_STATUS_ERR0 code
    if s.hasCopy 1 then (s.wr F.BOOT_STATUS_COPY 1).wr F.BOOT_STATUS_PHASE 4 else s.wr F.BOOT_STATUS_PHASE 6
  else (s.wr F.BOOT_STATUS_ERR1 code).wr F.BOOT_STATUS_PHASE 6

/-- Step 3 ends (R443); a RETIRED part loads no image (R452). -/
def State.bootDiscover (s : State) : State :=
  let s := (s.wr F.FLASH_STATUS_MODE (if s.boot.sfdp then s.boot.flashMode else 0)).wr F.FLASH_STATUS_DENSITY
    (if s.boot.sfdp then s.boot.density else 0)
  if s.boot.fuses.lc = 4 then s.wr F.BOOT_STATUS_PHASE 6 else s.wr F.BOOT_STATUS_PHASE 4

/-- The copy stands in checkpoint staging: as many of its bytes as IMAGE_LEN says and staging holds (R441). -/
def State.stageCopy (s : State) (copy : Nat) : State :=
  let b := copyBase copy
  let n := if s.hasCopy copy then Nat.min (s.flashNat (b + 8) 4) 0x200000 else 0
  { s with redund := { s.redund with staged := (s.flashBytes b n).zipIdx.map (fun p => (p.2, p.1)) } }

/-- Step 4 ends: the copy is in staging and checked. -/
def State.bootLoad (s : State) : State :=
  let copy := s.rd F.BOOT_STATUS_COPY
  let s := s.stageCopy copy
  match s.checkImage copy with
  | .inl code => s.rejectCopy copy code
  | .inr im => ({ s with boot := { s.boot with cand := some im } } : State).wr F.BOOT_STATUS_PHASE 5

/-- Step 5 ends: the signature is checked, and the REGS entries. -/
def State.bootVerify (s : State) : State :=
  match s.boot.cand with
  | none => s
  | some im =>
    match s.checkImage2 im with
    | 0 =>
      let s := { s with boot := { s.boot with cand := none, img := some im } }
      ((s.wrB F.BOOT_STATUS_SIGNED im.signed).wr F.BOOT_IMAGE_LEN im.len).wr F.BOOT_IMAGE_CRC im.crc.toNat
        |>.wr F.BOOT_STATUS_PHASE 6
    | code => s.rejectCopy im.copy code

/-- Step 6 ends: every memory is zero but the image's bytes in staging (R448); without an image start-up has failed
(R446, R452). -/
def State.bootWipe (s : State) : State :=
  let kept := (s.boot.img.map (fun im => im.len)).getD 0
  let s := ((s.stZero 0 0x01000000).stZero 0x02000000 0x06000000).wrB F.BOOT_STATUS_WIPED true
  let s := { s with redund := { s.redund with staged := s.redund.staged.filter (fun p => decide (p.1 < kept)) } }
  match s.boot.img with
  | some _ => s.wr F.BOOT_STATUS_PHASE 7
  | none => (s.wrB F.SYS_STATUS_BOOT_FAIL true).wr F.BOOT_STATUS_PHASE 10

/-- The compatibility table applied to `DRIVE_PUFLT` (R226). -/
def State.applyCompat (s : State) (l : List Byte) : State :=
  let n := l.length / 4
  let s := (s.wrB F.DRIVE_CTRL_COMPAT true).wr F.DRIVE_COMPAT_STATUS_ENTRIES 0
  forEach (List.range n) (fun s i =>
    let w := bytesAt l (4 * i) 4
    let ch := w % 65536
    let run := w / 2 ^ 24
    if 45055 < ch + run then s.wrB F.DRIVE_COMPAT_STATUS_ERR true
    else
      let s := s.wr F.DRIVE_COMPAT_STATUS_ENTRIES (s.rd F.DRIVE_COMPAT_STATUS_ENTRIES + 1)
      forEach (List.range (run + 1)) (fun s k =>
        let c := ch + k
        (s.wr F.DRIVE_PUFLT_PU (w / 2 ^ 16) (c / 4) 0 (c % 4)).wr F.DRIVE_PUFLT_FLT (w / 2 ^ 20) (c / 4) 0 (c % 4)) s) s

/-- Step 8 ends: eclosion (R48, R450). -/
def State.eclosion (s : State) (im : BootImage) : State :=
  let en := s.rd F.SEQ_CTRL_SQ_EN
  let s := { s with
    seqs := Vector.ofFn (fun q =>
      let x : Seq := { s.seqs.get q with cyc := 0 }
      if q.val = 0 then { x with st := .run, pc := im.entry } else if en.testBit q.val then { x with st := .idle } else x)
    pins := { s.pins with ready := true } }
  let s := (s.wrB F.SYS_STATUS_READY true).wr F.BOOT_STATUS_PHASE 9
  s.wr F.BOOT_STATUS_READY_US ((s.time.cycle - s.boot.bootFrom) / 500)

/-! ### Flash commands (R408, R456) -/

/-- The bytes a program or erase command touches: a 256-byte page, 4 KiB or 64 KiB, at its own boundary. -/
def flashRange (op addr : Nat) : Nat × Nat :=
  let n := if op = 2 then 256 else if op = 3 then 4096 else 65536
  (addr / n * n, n)

/-- The range lies in the copy loaded at the last start-up. -/
def State.flashProtected (s : State) (op addr : Nat) : Bool :=
  match s.boot.img with
  | none => false
  | some im =>
    let r := flashRange op addr
    overlap r.1 r.2 (copyBase im.copy) (im.len + (if im.signed then 64 else 0))

/-- The flash address that a command's address gives: three bytes of it where no SFDP header was found (R443). -/
def State.flashAddr (s : State) (addr : Nat) : Nat := if s.boot.sfdp then addr else addr % 2 ^ 24

/-- A flash command begins. -/
def State.flashBegin (s : State) (op addr : Nat) (data : List Byte) : State :=
  ({ s with boot := { s.boot with flashOp := some (op, addr, data) } } : State).wrB F.FLASH_STATUS_BUSY true

/-- The page buffer's bytes. -/
def State.flashBuf (s : State) : List Byte := (List.range 64).flatMap (fun k => natBytes 4 (s.rd F.FLASH_BUF_DATA 0 0 k))

/-- The next queued command is issued once the gate is open. -/
def State.flashIssue (s : State) : State :=
  match s.therm.flashQ with
  | [] => s
  | (op, addr, data) :: rest =>
    if s.bit F.THERM_STATUS_FLASH_GATE && !s.bit F.FLASH_STATUS_BUSY then
      let s := { s with therm := { s.therm with flashQ := rest } }
      ((s.wr F.THERM_FLASH_Q_DEPTH rest.length).wrB F.FLASH_STATUS_QUEUED (!rest.isEmpty)).flashBegin op addr data
    else s

/-- A command is submitted: 1 read, 2 program, 3 and 4 erase.  A queued command whose gate is open is issued before it
(R408). -/
def State.flashSubmit (s : State) (op address : Nat) : State :=
  let addr := s.flashAddr address
  let s := if op = 0 || 4 < op then s else s.flashIssue
  if op = 0 || 4 < op then s
  else if s.bit F.FLASH_STATUS_BUSY then s.wr F.FLASH_STATUS_RESULT 3
  else if op = 1 then s.flashBegin op addr []
  else if s.flashProtected op addr then s.wr F.FLASH_STATUS_RESULT 2
  else
    let data := if op = 2 then s.flashBuf else []
    if s.bit F.THERM_STATUS_FLASH_GATE then s.flashBegin op addr data
    else if 64 ≤ s.therm.flashQ.length then (s.wr F.FLASH_STATUS_RESULT 4).inc F.THERM_FLASH_Q_REFUSED
    else
      let first := !s.therm.flashDefer
      let s := { s with therm := { s.therm with flashQ := s.therm.flashQ ++ [(op, addr, data)], flashDefer := true } }
      let s := (s.wr F.THERM_FLASH_Q_DEPTH s.therm.flashQ.length).wrB F.FLASH_STATUS_QUEUED true
      if first then s.raise 70 1 else s

/-- Flash bytes set. -/
def State.flashPut (s : State) (a : Nat) (l : List Byte) : State :=
  { s with boot := { s.boot with flash := (l.foldl (fun (p : List Host.Cell × Nat) b =>
      (Sparse.put 0xFF p.1 p.2 b, p.2 + 1)) (s.boot.flash, a)).1 } }

/-- A command that fails leaves the bytes it touched open (log entry 16). -/
def State.flashSpoil (s : State) (a n : Nat) : State :=
  let f := s.fresh
  ({ s with fresh := f + n } : State).flashPut a ((List.range n).map (fun i => (Config.freeValue (f + i)).setWidth 8))

/-- A flash command ends: programming clears bits, erasing sets them (PRESUMED: log entry 16). -/
def State.flashEnd (s : State) (ok : Bool) : State :=
  match s.boot.flashOp with
  | none => s
  | some (op, addr, data) =>
    let s := { s with boot := { s.boot with flashOp := none } }
    let s := (s.wrB F.FLASH_STATUS_BUSY false).wr F.FLASH_STATUS_RESULT (if ok then 1 else 5)
    let r := flashRange op addr
    if op = 1 then
      if ok then
        let l := s.flashBytes addr 256
        forEach (List.range 64) (fun s k => s.wr F.FLASH_BUF_DATA (bytesAt l (4 * k) 4) 0 0 k) s
      else s
    else if !ok then s.flashSpoil r.1 r.2
    else if op = 2 then s.flashPut r.1 (List.zipWith (fun (a b : Byte) => a &&& b) (s.flashBytes r.1 r.2) data)
    else s.flashPut r.1 (List.replicate r.2 0xFF)

/-! ### Life cycle (R452 to R455) -/

/-- A nonce is drawn. -/
def State.lcNonce (s : State) : State :=
  let f := s.fresh
  let s := { s with fresh := f + 8, boot := { s.boot with nonceHeld := true } }
  forEach (List.range 8) (fun s k => s.wr F.BOOT_LC_NONCE_NONCE (Config.entropy (f + k)).toNat 0 0 k) s

/-- The transition is one of R453's. -/
def Fuses.lcAllowed (f : Fuses) (t : Nat) : Bool :=
  match f.lc, t with
  | 0, 1 | 0, 4 | 1, 4 | 2, 4 | 3, 4 | 3, 2 => true
  | 1, 2 => f.imgKeyHash.isSome && f.lcKeyHash.isSome
  | 2, 3 => decide (f.serviceCount + 2 ≤ 64)
  | _, _ => false

/-- The transition needs authentication. -/
def Fuses.lcAuth (f : Fuses) : Bool := f.lc = 2 || f.lc = 3

/-- Bytes of `BOOT_LC_CMD` and of the nonce. -/
def State.lcBytes (s : State) (f : Fld) (n : Nat) : List Byte := (List.range n).flatMap (fun k => natBytes 4 (s.rd f 0 0 k))

/-- The authentication of R454. -/
def State.lcAuthGood (s : State) (t : Nat) : Bool :=
  let cmd := s.lcBytes F.BOOT_LC_CMD_KEY_SIG 32
  let msg : List Byte := [0x4F, 0x58, 0x4C, 0x43] ++ natBytes 8 s.boot.fuses.uid.toNat ++ [BitVec.ofNat 8 t] ++
    s.lcBytes F.BOOT_LC_NONCE_NONCE 8
  s.boot.fuses.lcKeyHash = some (sha256 (cmd.take 64)) && ecdsaVerify (cmd.take 64) msg (cmd.drop 64)

/-- The first refusal of R455; 0 for none. -/
def State.lcRefusal (s : State) (t : Nat) : Nat :=
  let f := s.boot.fuses
  if !f.lcAllowed t then 1
  else if s.rd F.STRAND_STATUS_STATE = 5 then 2
  else if f.lcAuth && !s.boot.nonceHeld then 3
  else if f.lcAuth && !s.lcAuthGood t then 4
  else 0

/-- A submitted change (R455): whether a burnt fuse verifies is a free value (log entry 17). -/
def State.lcGo (s : State) (t : Nat) : State :=
  let code := s.lcRefusal t
  let s := { s with boot := { s.boot with nonceHeld := false } }
  if code ≠ 0 then s.wr F.BOOT_LC_CTRL_RESULT code
  else
    let d := s.draw
    let s := d.2
    if d.1.getLsbD 0 then s.wr F.BOOT_LC_CTRL_RESULT 5
    else
      let f := s.boot.fuses
      let burn := if f.lc = 3 || t = 3 then 1 else 0
      ({ s with boot := { s.boot with fuses := { f with lc := t, serviceCount := f.serviceCount + burn } } } : State).warmReset 3

end Sys2Proof.Machine
end

