-- ==== Sys2Proof/Machine/Guard.lean ====
section
/-! DEFINITION. Parity failures and what each memory does about them (R78 to R82, R149, R227, R264). -/

namespace Sys2Proof.Machine

/-! ### Places -/

/-- The memories of R7. -/
inductive MemKind where
  | instr | data | cell | drive | sense | weave | ledger | frames | hist | staging
  deriving DecidableEq, Repr

/-- The memory an internal address lies in (R7). -/
def memKind (a : Nat) : Option MemKind :=
  if a < 0x00080000 then some .instr
  else if a < 0x00100000 then none
  else if a < 0x00200000 then some .data
  else if a < 0x02000000 then none
  else if a < 0x02540000 then some .cell
  else if a < 0x03000000 then none
  else if a < 0x03160000 then some .drive
  else if a < 0x03200000 then none
  else if a < 0x03408000 then some .sense
  else if a < 0x04000000 then none
  else if a < 0x04200000 then some .weave
  else if a < 0x04800000 then none
  else if a < 0x04880000 then some .ledger
  else if a < 0x05000000 then none
  else if a < 0x05400000 then some .frames
  else if a < 0x06000000 then none
  else if a < 0x06100000 then some .hist
  else if a < 0x07000000 then none
  else if a < 0x07200000 then some .staging
  else none

/-! ### The connection ledger (R80, R81) -/

/-- Neither copy is good: LEDGER_LOST, epochs from SEALED to STAGED end PARITY, the latest first so that none ends by
its base, and no new lays begin (R81).  A lay between F0 and FS is withdrawn; one past FS, and a network lay, which is never
withdrawn (R310), complete without an epoch to land (DESIGN CHOICE, log entry 27). -/
def State.ledgerLost (s : State) (gen : W32) : State :=
  let s := s.layDue
  let s := (s.wrB F.SEQ_TRUTH_STATUS_LOST true).raise 6 gen
  let s := { s with ledger := { s.ledger with noLays := true } }
  let s := forEach (s.ledger.epochs.filter (fun (x : Epoch) => x.st = .sealed || x.st = .solved || (x.st = .staged && !x.layBegun))).reverse
    (fun s x => s.abortPlain x.num (St.aborted 0x32)) s
  match s.lay.cur with
  | some l => if l.kind = LayKind.epoch && !l.strobed && (s.epoch? l.epoch).all (·.net.isNone) then s.withdrawLay l 1 0x32 else s.abortPlain l.epoch (St.aborted 0x32)
  | none => s

/-- Copy A, or copy B, fails its check. -/
def State.copyFails (s : State) (b : Bool) : State :=
  let l := s.ledger
  let gen := l.cur.gen
  let l := if b then { l with copyB := { l.copyB with good := false } } else { l with copyA := { l.copyA with good := false } }
  let s := { s with ledger := l }
  if l.copyA.good || l.copyB.good || s.bit F.SEQ_TRUTH_STATUS_LOST then s else s.ledgerLost gen

/-! ### Cell memory (R79, R192, R264) -/

/-- A failed state code: rebuilt from the landed weave, lost where the LAID slot failed for the cell too (R149). -/
def State.codeFails (s : State) (c : Nat) : State :=
  let slot := s.ledger.laid
  let bad := slot.any (fun n => s.solve.weaveBad.contains (slotBase n.val + 0x100 + c / 4))
  if bad then { s.raise 7 (BitVec.ofNat 32 c) with ledger := { s.ledger with noLays := true } }
  else match slot with
    | some n => s.setCCtrl c 0 2 ((s.weave n.val).code c)
    | none => s

/-- A failed loop state: preset from the drive command, or from the next echo where that record failed too. -/
def State.loopStateFails (s : State) (c : Nat) : State :=
  if !s.inService c then s
  else if s.drive.bad.contains (2 * c) then { s with loop := { s.loop with
    echoWait := sadd s.loop.echoWait c, echoSeen := s.loop.echoSeen.filter (fun ch => decide (ch / 2 ≠ c)) } }
  else s.presetCell c (s.dw (2 * c) 4) 0

/-- The live count of a cell: the cartridge's at start-up and the delta of the checkpoint. -/
def State.wearFails (s : State) (c : Nat) : State :=
  s.setCw c 0xC8 (BitVec.ofNat 32 ((alist s.strand.wearBase c).getD 0 + (alist s.redund.image.wear c).getD 0))

/-- A failed byte of a cell record. -/
def State.cellFails (s : State) (c off : Nat) : State :=
  if off = 0 then s.codeFails c
  else if off = 1 then (s.setCCtrl c 8 6 (1 + (c % 1024 + 23 * (c / 1024)) % 63)).setCCtrl c 14 2 0
  else if off = 2 then
    ((s.setCCtrl c 16 1 1).setCCtrl c 17 1 0).setCCtrl c 18 2
      (if s.tapDead c 0 then 1 else if s.tapDead c 1 then 2 else if s.tapDead c 2 then 3 else 0)
  else if 0x40 ≤ off && off < 0xC8 then { s with cal := { s.cal with reload := sadd s.cal.reload c } }
  else if 0xC8 ≤ off && off < 0xCC then s.wearFails c
  else s.loopStateFails c

/-! ### The other memories -/

/-- A failed sense record: its outputs are STALE and its calibration is asked for at the head of the queue
(R79, R236, R260). -/
def State.senseFails (s : State) (ch : Nat) : State :=
  if s.senseAbsent ch then s
  else
    let s := s.setSCtrl ch 4 1 1
    let out (l : List Nat) : List Nat := l.filter (· ≠ ch)
    let rest := s.cal.queue.filter (fun (r : CalReq) => !(r.sense && r.object = ch))
    { s with
      sense := { s.sense with freshT := out s.sense.freshT, freshF := out s.sense.freshF, freshP := out s.sense.freshP
                              failed := sadd s.sense.failed ch }
      cal := { s.cal with queue := CalReq.mk ch true 0 none true false :: rest } }

/-- A failed word of the frame buffer: some buffered frame is discarded and counted at its input (R79, R331); a copy of it in
transmission is cut (DESIGN CHOICE, log entry 12). -/
def State.frameFails (s : State) : State :=
  let d := s.draw
  match s.sw.frames[d.1.toNat % s.sw.frames.length]? with
  | none => s
  | some f =>
    let s := d.2
    let s := forEach s.sw.queues (fun s (q : OutQueue) =>
      if q.copies.any (fun (c : QCopy) => c.id = f.id) then
        s.setCopies q.out q.cls (q.copies.filter (fun (c : QCopy) => c.id ≠ f.id))
      else s) s
    let s := forEach (s.sw.sending.filter (fun (t : Transmit) => t.id = f.id)) State.cutSend s
    let s := ({ s with sw := { s.sw with frames := s.sw.frames.filter (fun (x : SwFrame) => x.id ≠ f.id) } } : State).setFree
      (s.rd F.SWITCH_BUF_FREE + f.units)
    s.inc F.SWITCH_INDROP_PARITY 1 f.inPort

/-- An instruction word failed, whoever read it: it waits for its reload, and so does a sequencer that fetched it. -/
def State.fetchFails (s : State) (m a : Nat) : State :=
  let s := { s with boot := { s.boot with badWords := sadd s.boot.badWords (a / 8) } }
  if 1 ≤ m && m ≤ 8 && (s.sq (m - 1)).st = .run then
    s.setSq (m - 1) { s.sq (m - 1) with st := .wait, wait := .reload (BitVec.ofNat 16 (a / 8)) }
  else s

/-- MEM_PARITY: the failure at an address, found by a master's read or by the background reader (R78, R79). -/
def State.parityFails (s : State) (m a : Nat) : State :=
  match memKind a with
  | none => s
  | some k =>
    let s := s.raise 5 (BitVec.ofNat 32 a)
    match k with
    | .instr => s.fetchFails m a
    | .data => if 1 ≤ m && m ≤ 8 && (s.sq (m - 1)).st = .run then s.trap (m - 1) 5 else s
    | .cell => s.cellFails ((a - 0x02000000) / 256) (a % 256)
    | .drive => { s with drive := { s.drive with bad := sadd s.drive.bad ((a - 0x03000000) / 32) } }
    | .sense => s.senseFails ((a - 0x03200000) / 32)
    | .weave => { s with solve := { s.solve with weaveBad := sadd s.solve.weaveBad a } }
    | .ledger => s.copyFails (decide (0x04840000 ≤ a))
    | .frames => s.frameFails
    | .hist => ({ s with mon := { s.mon with invalid := sadd s.mon.invalid (a / 4 * 4) } } : State).stZero (a / 4 * 4) 4
    | .staging => s

/-- The word of instruction memory that the image gives (R450): zero where no INSTR section covers it. -/
def BootImage.instrWord (im : BootImage) (idx : Nat) : Nat :=
  ((im.sections.find? (fun x => x.1 = 1 && x.2.1 ≤ 8 * idx && decide (8 * idx < x.2.1 + x.2.2.length))).map
    (fun x => bytesAt x.2.2 (8 * idx - x.2.1) 8)).getD 0

/-- An instruction word is reloaded, and every sequencer that waits for it fetches it. -/
def State.reloadInstr (s : State) (idx : BitVec 16) : State :=
  match s.boot.img with
  | none => s
  | some im =>
    let s := s.st (8 * idx.toNat) 8 (im.instrWord idx.toNat)
    { s with
      boot := { s.boot with badWords := s.boot.badWords.filter (· ≠ idx.toNat) }
      seqs := s.seqs.map (fun (x : Seq) => if x.wait = .reload idx then { x with st := .run, wait := .none } else x) }

/-- MEM_PARITY. -/
def execMemParity (addr : BitVec 32) (byMaster : Master) (s : State) : Host.Outcome State Fault Refusal :=
  done s (s.parityFails byMaster.val addr.toNat)

/-- INSTR_PARITY_RELOAD (R79, R450), for a word that has failed. -/
def execInstrParityReload (index : BitVec 16) (s : State) : Host.Outcome State Fault Refusal :=
  done s (if s.boot.badWords.contains index.toNat then s.reloadInstr index else s)

end Sys2Proof.Machine
end

