-- ==== Sys2Proof/Machine/Redund.lean ====
section
/-! DEFINITION. The commands of the redundant pair (14). -/

namespace Sys2Proof.Machine

/-- HEARTBEAT_SEND: every 50 µs a unit of a pair sends a heartbeat frame and pulse (R358); an ACTIVE unit
that may not fences itself (R361), and one that has surrendered or fenced itself is silent until its peer is ACTIVE (R359, R361;
DESIGN CHOICE, log entry 18). -/
def execHeartbeatSend (s : State) : Host.Outcome State Fault Refusal :=
  done s (
    if !s.bit F.REDUND_CTRL_EN || s.redund.silent then s
    else if s.rd F.REDUND_STATUS_ROLE = 1 && !s.mayBeat then s.fence
    else s.sendHeartbeat false)

/-- What a heartbeat of the peer tells of roles (R352, R362, R368, R371 to R373, R376): a primary whose peer has begun takeback
sets TAKEBACK in its own heartbeats, and an outgoing unit whose peer took the drive before H was named or passed abandons it. -/
def State.peerRoleSeen (s : State) (hb : Heartbeat) : State :=
  let role := s.rd F.REDUND_STATUS_ROLE
  let peer := hb.role.toNat
  if hb.surrender && role = 2 then s.declareLost true
  else if peer = 1 && role = 1 && !s.bit F.STRAND_STATUS_OWNER then
    let s := s.fence
    { s with redund := { s.redund with silent := false } }
  else if peer = 1 && role = 2 && s.redund.silent then { s with redund := { s.redund with silent := false } }
  else if peer = 1 && role = 3 && s.redund.takeback && s.redund.kind = 0 then
    let given := s.redund.handoverFrame.any (fun h => decide (h ≤ s.frame))
    let s := { s with redund := { s.redund with handoverFrame := none, silent := false } }
    let s := if s.strand.driveValid then s.streamOff.portCmd false else s
    (if given then s.peerHook 4 else s).enterStandby
  else if peer = 1 && (role = 0 || role = 3) && !s.bit F.STRAND_STATUS_OWNER && !s.redund.peerLost && s.redund.kind = 0 then
    (s.portCmd false).enterStandby
  else if peer = 3 && role = 2 && s.bit F.REDUND_STATUS_PRIMARY then { s with redund := { s.redund with takeback := true } }
  else if hb.takeback && role = 1 && !s.bit F.REDUND_STATUS_PRIMARY && s.bit F.REDUND_CTRL_REVERT then
    let s := { s with redund := { s.redund with takeback := true, handoverFrame := none, kind := 0 } }
    (s.setRole 3).peerHook 3
  else s

/-- HEARTBEAT_FRAME_RX: a heartbeat frame of the peer (R358, R360, R370, R371). -/
def execHeartbeatFrameRx (hb : Heartbeat) (s : State) : Host.Outcome State Fault Refusal :=
  done s (
    let s := s.takeMgmt (.heartbeat hb)
    if !s.bit F.REDUND_CTRL_EN then s
    else
      let was := s.bit F.REDUND_STATUS_PEER_HEALTHY
      let s := ((s.wrB F.REDUND_STATUS_HB_NET true).wrB F.REDUND_STATUS_PEER_HEALTHY hb.healthy).wr F.REDUND_STATUS_PEER_SEQ
        hb.hbSeq.toNat
      let s := { s with redund := { s.redund with
        hbNetAt := s.time.cycle
        sentRecs := s.redund.sentRecs.filter (fun r => decide (0 < sdiff32 r.seqnum hb.ackSeq))
        sentAt := s.redund.sentAt.filter (fun r => decide (0 < sdiff32 r.1 hb.ackSeq)) } }
      let s := if s.bit F.REDUND_STATUS_HB_PIN then s.levelEnd 51 else s
      let s := if was = hb.healthy then s else s.peerHook 7
      let s := if hb.resync && s.rd F.REDUND_STATUS_ROLE = 1 then s.resendImage else s
      let hold := s.rd F.REDUND_STATUS_ROLE = 1 && s.bit F.REDUND_CTRL_REVERT && !s.bit F.REDUND_STATUS_PRIMARY &&
        hb.role = 2 && hb.healthy
      let s := if hold && !s.redund.holdoffRun then
          ({ s with redund := { s.redund with holdoffRun := true, holdoffAt := s.time.cycle } } : State).wr
            F.REDUND_STATUS_HOLDOFF_REM (s.rd F.REDUND_CFG_HOLDOFF_S)
        else if !hold && s.redund.holdoffRun then
          ({ s with redund := { s.redund with holdoffRun := false } } : State).wr F.REDUND_STATUS_HOLDOFF_REM 0
        else s
      s.peerRoleSeen hb)

/-- HEARTBEAT_PULSE_IN: a pulse on PEER_HB_IN of 200 ns or more is a heartbeat, of 4 µs or more a surrender (R469). -/
def execHeartbeatPulseIn (ns : BitVec 16) (s : State) : Host.Outcome State Fault Refusal :=
  done s (
    if !s.bit F.REDUND_CTRL_EN then s
    else if 4000 ≤ ns.toNat then
      if s.rd F.REDUND_STATUS_ROLE = 2 then s.declareLost true else s
    else if 200 ≤ ns.toNat then
      let s := { s.wrB F.REDUND_STATUS_HB_PIN true with redund := { s.redund with hbPinAt := s.time.cycle } }
      if s.bit F.REDUND_STATUS_HB_NET then s.levelEnd 51 else s
    else s)

/-- REDUND_SURRENDER: a write of SURRENDER (R359). -/
def execRedundSurrender (s : State) : Host.Outcome State Fault Refusal := done s s.surrender

/-- PEER_LOST: no heartbeat on either path for 150 µs (R360, R362). -/
def execPeerLost (s : State) : Host.Outcome State Fault Refusal :=
  done s (
    if s.bit F.REDUND_CTRL_EN && s.rd F.REDUND_STATUS_ROLE = 2 then
      (s.passToCycle (Nat.max s.redund.hbNetAt s.redund.hbPinAt + 150 * usCycles)).declareLost false
    else s)

/-- HB_PATH: one path silent for 150 µs while the other delivers (R360). -/
def execHbPath (s : State) : Host.Outcome State Fault Refusal :=
  done s (
    if s.bit F.REDUND_CTRL_EN && s.redund.hbNetAt ≠ s.redund.hbPinAt then
      let net := decide (s.redund.hbNetAt < s.redund.hbPinAt)
      let s := s.passToCycle (Nat.min s.redund.hbNetAt s.redund.hbPinAt + 150 * usCycles)
      if net then (s.wrB F.REDUND_STATUS_HB_NET false).raise 51 1 else (s.wrB F.REDUND_STATUS_HB_PIN false).raise 51 2
    else s)

/-- FAILOVER_GRANT: the drive is granted in a transfer and the resident image is put in force (R362). -/
def execFailoverGrant (s : State) : Host.Outcome State Fault Refusal :=
  done s (
    if s.rd F.REDUND_STATUS_ROLE = 3 && s.redund.kind ≠ 0 then
      let s := s.wrB F.STRAND_STATUS_OWNER true
      let s := { s with strand := { s.strand with grantCount := s.strand.count - 1, streamWait := true } }
      if s.redund.kind = 4 then s else s.takeImage
    else s)

/-- FAILOVER_ECHO_READY: echoes are held for every channel; presets, LAYMARK, the stream, role ACTIVE
(R362 to R365, R372). -/
def execFailoverEchoReady (s : State) : Host.Outcome State Fault Refusal :=
  done s (
    if s.rd F.REDUND_STATUS_ROLE = 3 && s.redund.kind ≠ 0 && s.bit F.STRAND_STATUS_OWNER && s.cartOk && s.echoComplete then
      let im := s.redund.image
      let hitless := s.echoHitless
      let lost := !s.bit F.REDUND_STATUS_CKPT_CURRENT && s.redund.kind ≠ 4
      let kind := s.redund.kind
      let s := s.startFromImage (if kind = 4 then { im with markState := 0 } else im)
      let s := if kind = 4 then s else s.markMissed im (im.markEnd lost)
      let s := s.recordTransfer kind im im.markState hitless lost
      let s := { s with redund := { s.redund with peerLost := false, kind := 0, takeback := false, handoverFrame := none
                                                  silent := false, kickAt := s.time.cycle, held := [], early := [] } }
      (s.setRole 1).peerHook (if kind = 3 then 4 else 2)
    else s)

/-- FAILOVER_GRANT_TIMEOUT: no grant 1 ms after the PORT request (R368). -/
def execFailoverGrantTimeout (s : State) : Host.Outcome State Fault Refusal :=
  done s (
    if s.rd F.REDUND_STATUS_ROLE = 3 && s.redund.kind ≠ 0 && !s.bit F.STRAND_STATUS_OWNER then
      let s := s.passToCycle (s.redund.declaredAt + msCycles)
      let s := (s.portCmd false).raise 53 0
      let s := { s with redund := { s.redund with kind := 0 } }
      (s.peerHook 8).enterStandby
    else s)

/-- REDUND_WDOG: any write restarts the watchdog (R358). -/
def State.doRedundWdog (s : State) : State :=
  { s with redund := { s.redund with kickAt := s.time.cycle } }

/-- The row of `doRedundWdog`. -/
def execRedundWdog (s : State) : Host.Outcome State Fault Refusal :=
  done s (s.doRedundWdog)

/-- WATCHDOG_EXPIRE: the watchdog expires at an ACTIVE unit, which fences itself (R358, R361). -/
def execWatchdogExpire (s : State) : Host.Outcome State Fault Refusal :=
  done s (
    if s.bit F.REDUND_CTRL_EN && s.rd F.REDUND_STATUS_ROLE = 1 then
      (s.passToCycle (s.redund.kickAt + s.rd F.REDUND_CFG_WDOG_MS * msCycles)).fence
    else s)

/-- CKPT_RECORD_RX: a checkpoint record at the standby (R356, R376). -/
def execCkptRecordRx (r : CkptRecord) (s : State) : Host.Outcome State Fault Refusal :=
  done s (
    let s := s.takeMgmt (.record r)
    if s.rd F.REDUND_STATUS_ROLE = 2 || (s.rd F.REDUND_STATUS_ROLE = 3 && s.redund.kind ≠ 4) then s.recvRecord r else s)

/-- CKPT_GAP_TIMEOUT: a SEQ missing for 100 µs (R356). -/
def execCkptGapTimeout (s : State) : Host.Outcome State Fault Refusal :=
  done s (
    match s.redund.gapAt with
    | none => s
    | some t =>
      let s := s.passToCycle (t + 100 * usCycles)
      let s := (s.wrB F.REDUND_STATUS_CKPT_CURRENT false).inc F.REDUND_CKPT_GAPS
      let s := { s with redund := { s.redund with gapAt := none, resync := true } }
      (s.raise 50 (s.rdW F.REDUND_CKPT_SEQ + 1)).peerHook 6)

/-- CKPT_RESYNC_DONE: the resend of the whole image completes (R356). -/
def execCkptResyncDone (s : State) : Host.Outcome State Fault Refusal :=
  done s (
    if s.rd F.REDUND_STATUS_ROLE = 2 && s.redund.resync then s.resyncDone else s)

/-- SHADOW_SEND: every 10 ms the active sends a SHADOW record for 64 cells in rotation (R369). -/
def execShadowSend (s : State) : Host.Outcome State Fault Refusal :=
  done s (
    if s.rd F.REDUND_STATUS_ROLE = 1 then
      let l := presentCells s.strand.geomY512
      let cells := (List.range 64).map (fun k => l.getD ((s.redund.shadowNext + k) % l.length) 0)
      let s := s.ckptSend .shadow 0 (Config.shadowWords (cells.map s.shadowOf))
      { s with redund := { s.redund with shadowNext := (s.redund.shadowNext + 64) % l.length } }
    else s)

/-- MARCH_PASS_END: a full march pass completes (R369, R370). -/
def execMarchPassEnd (mismatch : Bool) (s : State) : Host.Outcome State Fault Refusal :=
  done s (
    if s.rd F.REDUND_STATUS_ROLE = 2 then
      let s := s.wr F.REDUND_HEALTH_MARCH_PASSES (s.rd F.REDUND_HEALTH_MARCH_PASSES + 1)
      let s := s.wr F.REDUND_HEALTH_CHECKED_S s.tb0Sec.toNat
      let s := s.wrB F.REDUND_HEALTH_MARCH_FAIL mismatch
      if mismatch then s.raise 54 1 else s
    else s)

/-- The outgoing unit begins takeback (R371, R372 step 1). -/
def State.beginTakeback (s : State) : State :=
  let s := { s with redund := { s.redund with takeback := true, handoverFrame := none, kind := 0, holdoffRun := false } }
  (s.setRole 3).peerHook 3

/-- TAKEBACK_HOLDOFF: the primary has been a healthy STANDBY for HOLDOFF_S (R371). -/
def execTakebackHoldoff (s : State) : Host.Outcome State Fault Refusal :=
  done s (
    if s.redund.holdoffRun && s.rd F.REDUND_STATUS_ROLE = 1 then
      let s := s.passToCycle (s.redund.holdoffAt + s.rd F.REDUND_CFG_HOLDOFF_S * 1000 * msCycles)
      (s.wr F.REDUND_STATUS_HOLDOFF_REM 0).beginTakeback
    else s)

/-- REDUND_TAKEBACK: a write of TAKEBACK at a healthy primary (R371): it sets TAKEBACK in its heartbeats. REVERT is
the secondary's condition. -/
def State.doRedundTakeback (s : State) : State :=
  if s.bit F.REDUND_CTRL_EN && s.bit F.REDUND_STATUS_PRIMARY &&
      s.rd F.REDUND_STATUS_ROLE = 2 && s.healthy then
    { s with redund := { s.redund with takeback := true } }
  else s

/-- The row of `doRedundTakeback`. -/
def execRedundTakeback (s : State) : Host.Outcome State Fault Refusal :=
  done s (s.doRedundTakeback)

/-- TAKEBACK_QUIESCED: no epoch lies between OPEN and LANDED; the image is made current and H is named, 16
frames ahead (R372 step 2). -/
def execTakebackQuiesced (s : State) : Host.Outcome State Fault Refusal :=
  done s (
    if s.rd F.REDUND_STATUS_ROLE = 3 && s.redund.takeback && s.redund.kind = 0 && s.ledger.epochs.all Epoch.ended then
      let s := s.rollLoops.rollWear
      let h := s.frame + 16
      ({ s with redund := { s.redund with handoverFrame := some h } } : State).ckptSend .handover 0 [BitVec.ofNat 32 h]
    else s)

/-- HANDOVER_FRAME: at frame H the outgoing unit releases the drive and the incoming unit requests it
(R372 steps 3 and 4). -/
def execHandoverFrame (s : State) : Host.Outcome State Fault Refusal :=
  done s (
    match s.redund.handoverFrame with
    | none => s
    | some h =>
      let s := s.passTo (h * frameUnits)
      if s.rd F.REDUND_STATUS_ROLE = 3 && s.redund.takeback && s.redund.kind = 0 then s.streamOff.portCmd false
      else if s.rd F.REDUND_STATUS_ROLE = 2 then
        let s := { s with redund := { s.redund with kind := 3, declaredAt := s.time.cycle } }
        (s.setRole 3).portCmd true
      else s)

/-- TAKEBACK_TIMEOUT: 5 ms after H without an ACTIVE heartbeat the outgoing unit fails back (R373). -/
def execTakebackTimeout (s : State) : Host.Outcome State Fault Refusal :=
  done s (
    match s.redund.handoverFrame with
    | none => s
    | some h =>
      if s.rd F.REDUND_STATUS_ROLE = 3 && s.redund.takeback && s.redund.kind = 0 then
        let s := s.passTo (h * frameUnits + 5000000 * nsUnit)
        let s := s.raise 55 (BitVec.ofNat 32 h)
        let s := { s with redund := { s.redund with takeback := false, kind := 4, handoverFrame := none
                                                    declaredAt := s.time.cycle } }
        s.portCmd true
      else s)

/-- REDUND_RESTORE: the staged image is checked section by section and loaded, or refused (R375). -/
def State.doRedundRestore (s : State) : State :=
  if !s.pins.ready then s
  else
    match s.stagedImage with
    | none => s.wrB F.REDUND_STATUS_RESTORE_ERR true
    | some im =>
      { s.wrB F.REDUND_STATUS_RESTORE_ERR false with redund := { s.redund with restore := some im, declaredAt := s.time.cycle } }

/-- The row of `doRedundRestore`. -/
def execRedundRestore (s : State) : Host.Outcome State Fault Refusal :=
  done s (s.doRedundRestore)

/-- HEALTH_FLAG_CLEAR: SHADOW_FAIL clears after 1 s without a mismatch, LANE_ERR after 10 s without a PRBS
error (R370). -/
def execHealthFlagClear (lane : Bool) (s : State) : Host.Outcome State Fault Refusal :=
  done s (
    if lane then
      if s.bit F.REDUND_HEALTH_LANE_ERR then
        (s.passToCycle (s.redund.prbsAt + 10000 * msCycles)).wrB F.REDUND_HEALTH_LANE_ERR false
      else s
    else if s.bit F.REDUND_HEALTH_SHADOW_FAIL then
      let s := (s.passToCycle (s.redund.shadowAt + 1000 * msCycles)).wrB F.REDUND_HEALTH_SHADOW_FAIL false
      { s with redund := { s.redund with shadowMism := [] } }
    else s)

/-- CKPT_ROLLING_UPDATE: LOOPS and AUX every 10 ms, WEAR each whole second (R355). -/
def execCkptRollingUpdate (wear : Bool) (s : State) : Host.Outcome State Fault Refusal :=
  done s (
    if s.rd F.REDUND_STATUS_ROLE = 1 || s.rd F.REDUND_STATUS_ROLE = 0 then (if wear then s.rollWear else s.rollLoops) else s)

end Sys2Proof.Machine
end

