-- ==== Sys2Proof/Machine/NetOps.lean ====
section
/-! DEFINITION. The network side of the ledger (11): frames taken from the inbox, commands of other devices,
retransmission, stable views, opening, READY, COMMIT, ABORT and the stable epoch. -/

namespace Sys2Proof.Machine

/-- A delivered frame leaves the inbox. -/
def State.takeInbox (s : State) (f : TFrame) : State := { s with net := { s.net with inbox := s.net.inbox.erase f } }

/-! ### Stable views (R73, R109) -/

/-- The `SEQ_CONN` entry of an input. -/
def State.viewIn (s : State) (i : Nat) : BitVec 64 :=
  match s.stableSet.find? (·.input = i) with
  | some c => BitVec.ofNat 64 (c.output + 2 ^ 15 + boolNat c.pinned * 2 ^ 16 + c.epoch.toNat * 2 ^ 32)
  | none => 0
/-- As `viewIn` for an output, with the connected input. -/
def State.viewOut (s : State) (o : Nat) : BitVec 64 :=
  match s.stableSet.find? (·.output = o) with
  | some c => BitVec.ofNat 64 (c.input + 2 ^ 15 + boolNat c.pinned * 2 ^ 16 + c.epoch.toNat * 2 ^ 32)
  | none => 0
/-- A cell's state code in the stable epoch; [8] where it is absent. -/
def State.viewCell (s : State) (c : Nat) : BitVec 64 :=
  if s.cellAbsent c then 0x102 else BitVec.ofNat 64 ((alist s.ledger.stableCells c).getD 2)
/-- The stable epoch, zero-extended. -/
def State.viewStable (s : State) : BitVec 64 := s.stableEpoch.setWidth 64

/-! ### Commands (R296 to R299) -/

/-- The command record of a payload; none where it is malformed (R296, R297). -/
def cmdRecord (p : List Byte) : Option (CmdOp × W32 × W32 × Nat × Nat) :=
  if p.length = 16 && bytesAt p 12 1 ≤ 3 && bytesAt p 13 3 = 0 then
    some (CmdOp.ofNum (bytesAt p 12 1), BitVec.ofNat 32 (bytesAt p 0 4), BitVec.ofNat 32 (bytesAt p 4 4), bytesAt p 8 2, bytesAt p 10 2)
  else none

/-- The STATUS frame that answers a COMMAND frame (R298). -/
def State.cmdStatus (s : State) (f : TFrame) (handle : W32) (st : Status) : State :=
  s.sendFrame (s.mkFrame 4 5 f.src (if st.code = 1 then 0 else 16) f.seqnum f.epoch handle (natBytes 4 st.word.toNat))

/-- A network command joins the set its epoch's digest covers (R304). -/
def State.noteNetCmd (s : State) (f : TFrame) (c : Cmd) (st : Status) : State :=
  if f.flags.getLsbD 2 && st.code ≠ 2 then
    let x := (c.op.num, c.dev.toNat, c.seqnum.toNat, c.input, c.output)
    let open' : Bool := match s.epoch? c.epoch with
      | some y => y.st = .opened && decide (s.ext0 < y.sealT)
      | none => false
    if open' then
      s.modNet c.epoch (fun n => if n.netCmds.contains x then n else { n with netCmds := n.netCmds ++ [x] })
    else s
  else s

/-- A COMMAND frame at the ledger (R297). -/
def State.commandFrame (s : State) (f : TFrame) : State :=
  match cmdRecord f.payload with
  | none => s.cmdStatus f 0 (St.blocked 0x301)
  | some (op, e, n, i, o) =>
    let c : Cmd := { op := op, input := i, output := o, epoch := e, dev := f.src, seqnum := n }
    let r := s.file c true
    let v : W32 × Status × Bool := r.2.getD (0, St.blocked 0x15, false)
    let s := (r.1.noteNetCmd f c v.2.1).cmdStatus f v.1 v.2.1
    if v.2.2 then s.fireHook 2 v.1 else s

/-- A STATUS frame: retransmission to its sender ends for its key (R298, R299). -/
def State.statusFrame (s : State) (f : TFrame) : State :=
  let mine (r : Retrans) : Bool := !r.frame.flags.getLsbD 0 && r.frame.dst = f.src && r.frame.epoch = f.epoch && r.frame.seqnum = f.seqnum
  ({ s with net := { s.net with retrans := s.net.retrans.filter (fun r => !mine r) } } : State).rxEnter 0 f

/-- A retry interval of a sent COMMAND passes (R299): another copy, or the end of its copies. -/
def State.retransmit (s : State) (r : Retrans) : State :=
  let s := s.passToCycle (r.sentAt + s.rd F.SEQ_NET_RETRY_US * usCycles)
  let group := r.frame.flags.getLsbD 0
  let others := s.net.retrans.erase r
  if r.sent ≤ s.rd F.SEQ_NET_RETRY_COUNT then
    let n := { r with sent := r.sent + 1, sentAt := s.time.cycle }
    let keep := if group && s.rd F.SEQ_NET_RETRY_COUNT < n.sent then others else others ++ [n]
    ({ s with net := { s.net with retrans := keep } } : State).sendFrame r.frame
  else
    let s := { s with net := { s.net with retrans := others } }
    if group then s
    else
      let st : Status := ⟨0, 0x300⟩
      let f := { s.mkFrame 4 5 s.ownId 16 r.frame.seqnum r.frame.epoch 0 (natBytes 4 st.word.toNat) with src := r.frame.dst }
      (s.inc F.SEQ_NET_ERR_CMD_LOST).rxEnter 0 f

/-! ### Queries (R313) -/

/-- The fields of a QUERY: selector, first, count; none where they are invalid. -/
def queryFields (p : List Byte) : Option (Nat × Nat × Nat) :=
  let sel := bytesAt p 0 1
  let first := bytesAt p 2 2
  let n := bytesAt p 4 2
  let top := if sel = 2 then 21504 else 1024
  if p.length = 8 && bytesAt p 1 1 = 0 && bytesAt p 6 2 = 0 && 1 ≤ n && n ≤ 180 &&
      (sel = 0 || sel = 1 || sel = 2 || sel = 4) && (if sel = 4 then n = 1 else first + n ≤ top) then
    some (sel, first, n)
  else none

/-- The payload of the REPLY. -/
def State.replyPayload (s : State) (p : List Byte) : List Byte :=
  let head (n : Nat) : List Byte := natBytes 4 s.stableEpoch.toNat ++ natBytes 2 n ++ natBytes 2 0
  match queryFields p with
  | none => head 0
  | some (sel, first, n) =>
    head n ++ (List.range n).flatMap (fun k =>
      let v := if sel = 0 then s.viewIn (first + k) else if sel = 1 then s.viewOut (first + k)
        else if sel = 2 then s.viewCell (first + k) else s.viewStable
      natBytes 8 v.toNat)

/-! ### Messages (R305) -/

/-- A message of the exchange, the first of its TYPE, EPOCH and SRC; a repeat is counted. -/
def State.hear (s : State) (typ : BitVec 8) (f : TFrame) : State × Bool :=
  if s.net.heard.contains (typ, f.epoch, f.src) then (s.inc F.SEQ_NET_ERR_DUP, false)
  else ({ s with net := { s.net with heard := (typ, f.epoch, f.src) :: s.net.heard } }, true)

/-- The status a payload carries at an offset. -/
def statusAt (p : List Byte) (o : Nat) : Status := Status.ofWord (BitVec.ofNat 32 (bytesAt p o 4))

/-! ### Opening (R300 to R303, R306, R372) -/

/-- S_NET below the shutter offset of this device ends an epoch just opened (R306). -/
def State.checkSNet (s : State) (e : W32) (sNet : Nat) : State :=
  if sNet < s.rd F.LAY_TIMING_S then s.abortPlain e (St.aborted 0x306) else s

/-- A write of `SEQ_NET_OPEN` (R300). -/
def State.netOpen (s : State) (o : NetOpen) : State :=
  let t := o.tree.toNat
  let sl := s.rd F.SEQ_SEAL_LEAD_FRAMES
  let win := o.win.toNat
  let lf := s.frameNear o.layFrame
  let answer (s : State) (st : Status) : State :=
    (s.wr F.SEQ_NET_OPEN_RESULT_EPOCH o.epoch.toNat).wr F.SEQ_NET_OPEN_RESULT_STATUS st.word.toNat
  if !s.bit F.SEQ_NET_TREE_EN t || s.rd F.SEQ_NET_TREE_PARENT t ≠ 0 then answer s (St.blocked 0x30A)
  else if 4 < o.sNet.toNat then answer s (St.blocked 0)
  else if s.handingOver then answer s (St.blocked 0x400)
  else match s.openRefusal o.epoch lf (sl + win) (netLead sl win) with
  | some st => answer s st
  | none => answer ((s.openNetRoot o.epoch lf.toNat sl t win o.sNet.toNat false 0).checkSNet o.epoch o.sNet.toNat) St.accepted

/-- A PREPARE at a participant (R301, R306). -/
def State.prepare (s : State) (f : TFrame) : State :=
  let p := f.payload
  let sl := bytesAt p 4 1
  let win := bytesAt p 5 1
  let sNet := bytesAt p 6 1
  let t := bytesAt p 7 1
  let lf := s.frameNear (BitVec.ofNat 32 (bytesAt p 0 4))
  let h := s.hear 0x10 f
  let s := h.1
  if f.src = s.ownId then s
  else
    if !h.2 || p.length < 12 || 4 ≤ t || !s.bit F.SEQ_NET_TREE_EN t then s
    else
      let parent := BitVec.ofNat 16 (s.rd F.SEQ_NET_TREE_PARENT t)
      if s.handingOver then s.failReady f.epoch parent (St.blocked 0x400)
      else match s.openRefusal f.epoch lf (sl + win) (netLead sl win) with
      | some st => s.failReady f.epoch parent st
      | none =>
        let n := s.newNet t win sNet false (f.flags.getLsbD 3) (BitVec.ofNat 32 (bytesAt p 8 4)) f.src
        (s.openEpoch f.epoch lf.toNat (sl + win) (some n)).checkSNet f.epoch sNet

/-! ### READY, COMMIT, ABORT (R306 to R310) -/

/-- An epoch ends on the network's word: the outcome of each command by R308. -/
def State.abortByNet (s : State) (x : Epoch) (n : NetEpoch) (origin : BitVec 16) (st : Status) : State :=
  if st.detail = 0x302 then
    s.abortEpoch x.num (St.aborted 0x302) (fun e => if n.isNetCmd e.cmd then St.late 0x302 else St.aborted 0x302) true
  else if origin = s.ownId then s.abortEpoch x.num st (fun _ => st) true
  else s.abortEpoch x.num (St.aborted 0x304) (fun _ => St.aborted 0x304) true

/-- The ready deadline (R307), in units of 2⁻¹⁶ ns. -/
def Epoch.readyDeadline (x : Epoch) (n : NetEpoch) : Int :=
  (Int.ofNat x.layFrame - Int.ofNat (x.margin + (n.win + 1) / 2)) * Int.ofNat frameUnits

/-- COMMIT is decided (R307). -/
def State.sendCommit (s : State) (x : Epoch) (n : NetEpoch) : State :=
  let s := s.modNet x.num (fun n => { n with decided := true, commitHeld := true })
  let s := s.wr F.SEQ_NET_STATUS_COMMITTED x.num.toNat
  let sl := (x.layFrame * frameUnits - x.sealT) / frameUnits - n.win
  let s := { s with net := { s.net with lastCommit := aset s.net.lastCommit n.tree (x.num, n.win, sl, n.sNet) } }
  s.sendGroup 0x12 n 0 x.num (natBytes 2 n.count ++ natBytes 2 n.nodes ++ natBytes 4 n.digest.toNat)

/-- The coordinator's ABORT with a failure (R307). -/
def State.decideAbort (s : State) (x : Epoch) (n : NetEpoch) (origin : BitVec 16) (st : Status) : State :=
  let s := (s.sendAbort x.num n origin st).modNet x.num (fun n => { n with decided := true })
  s.abortByNet x n origin st

/-- A child's failure READY goes on to the parent as it is, its SRC the device that first reported, so that ORIGIN can name
that device (R306, R307; DEDUCED, log entry 35). -/
def State.forwardReady (s : State) (n : NetEpoch) (f : TFrame) : State :=
  (s.sendFrame { s.mkFrame 0x11 6 n.parent 0 s.net.txCount f.epoch 0 f.payload with src := f.src }).countFrame

/-- A failure of a child goes up, and the epoch ends here (R306, R308). -/
def State.forwardUp (s : State) (x : Epoch) (n : NetEpoch) (f : TFrame) (st : Status) : State :=
  let s := (s.forwardReady n f).modNet x.num (fun n => { n with readySent := true, readyFailed := true })
  s.abortByNet x n f.src st

/-- A failure READY to the parent and the end of the epoch here (R306, R308). -/
def State.failUp (s : State) (x : Epoch) (n : NetEpoch) (st : Status) : State :=
  let s := (s.sendReady x.num n st).modNet x.num (fun n => { n with readySent := true, readyFailed := true })
  s.abortByNet x n 0 st

/-- READY or COMMIT follows once the weave is staged and every child has answered (R306, R307). -/
def State.tryReady (s : State) (e : W32) : State :=
  match s.epoch? e with
  | none => s
  | some x => match x.net with
    | none => s
    | some n =>
      if x.st ≠ .staged || n.readys.length < n.children || n.readySent || n.decided then s
      else
        let same := n.readys.all (fun r => r.2.2.1 = n.count && r.2.2.2.2 = n.digest)
        let mismatch := St.late 0x302
        if n.coordinator then
          if Int.ofNat s.ext0 < x.readyDeadline n then
            if same then s.sendCommit x n else s.decideAbort x n s.ownId mismatch
          else s
        else if same then
          (s.sendReady e n St.accepted).modNet e (fun n => { n with readySent := true })
        else s.failUp x n mismatch

/-- A READY of a child (R306, R307). -/
def State.ready (s : State) (f : TFrame) : State :=
  let h := s.hear 0x11 f
  let s := h.1
  if !h.2 then s
  else
    let st := statusAt f.payload 0
    let s := s.modNet f.epoch (fun n => { n with
      readys := n.readys ++ [(f.src, st, bytesAt f.payload 4 2, bytesAt f.payload 6 2, BitVec.ofNat 32 (bytesAt f.payload 8 4))] })
    match s.epoch? f.epoch with
    | none => s
    | some x => match x.net with
      | none => s
      | some n =>
        if x.ended then s
        else if st.code = 1 then s.tryReady f.epoch
        else if n.coordinator then (if n.decided then s else s.decideAbort x n f.src st)
        else if n.readySent then s else s.forwardUp x n f st

/-- The coordinator's ready deadline passes (R307). -/
def State.readyDeadline (s : State) (x : Epoch) (n : NetEpoch) : State :=
  let s := s.passTo (x.readyDeadline n).toNat
  let st := St.aborted 0x303
  let s := (s.sendAbort x.num n s.ownId st).modNet x.num (fun n => { n with decided := true })
  s.abortEpoch x.num st (fun _ => st) true

/-- A COMMIT at a participant; an epoch that ended here after READY, without its report, is reported now (R309, R310). -/
def State.commit (s : State) (f : TFrame) : State :=
  let h := s.hear 0x12 f
  let s := h.1
  if !h.2 then s
  else match s.epoch? f.epoch with
  | none => s
  | some x => match x.net with
    | none => s
    | some n =>
      if x.ended then
        if x.st = .aborted && n.readySent && !n.readyFailed && !n.reported && !n.coordinator then
          (s.reportMissed x n x.outcome).reportLost f.epoch
        else s
      else
        if n.coordinator then s
        else if x.st ≠ .opened && bytesAt f.payload 0 2 = n.count && BitVec.ofNat 32 (bytesAt f.payload 4 4) = n.digest &&
            decide (Int.ofNat s.ext0 < x.deadline) then
          s.modNet f.epoch (fun n => { n with commitHeld := true })
        else s

/-- An ABORT at a participant (R308). -/
def State.abortFrame (s : State) (f : TFrame) : State :=
  let h := s.hear 0x13 f
  let s := h.1
  if !h.2 then s
  else match s.epoch? f.epoch with
  | none => s
  | some x => match x.net with
    | none => s
    | some n =>
      if x.ended || n.commitHeld || n.coordinator then s
      else s.abortByNet x n (BitVec.ofNat 16 (bytesAt f.payload 0 2)) (statusAt f.payload 4)

/-! ### LANDED and STABLE (R312) -/

/-- The routes of the LAID weave. -/
def State.laidRoutes (s : State) : List Route :=
  match s.ledger.laid with
  | some n => (s.weave n.val).routes
  | none => []

/-- A LANDED of a child (R312). -/
def State.landed (s : State) (f : TFrame) : State :=
  let h := s.hear 0x15 f
  let s := h.1
  if !h.2 then s
  else match s.epoch? f.epoch with
  | none => s
  | some x =>
    if x.st = .aborted || x.net.isNone then s
      else
        let s := s.modNet f.epoch (fun n => { n with landeds := n.landeds ++ [(f.src, bytesAt f.payload 0 2)] })
        (s.netLanded f.epoch).advanceStable s.laidRoutes

/-- A STABLE (R312). -/
def State.stable (s : State) (f : TFrame) : State :=
  let h := s.hear 0x16 f
  if h.2 then (h.1.confirmStable f.epoch).advanceStable h.1.laidRoutes else h.1

end Sys2Proof.Machine
end

