-- ==== Sys2Proof/Machine/Regs.lean ====
section
/-! DEFINITION. Registers as the bus sees them (R10, R13, R14): finding a register by address, its words, and
the generic part of reads and writes. -/

namespace Sys2Proof.Machine

/-- A register found at an address: its descriptor, its two array indexes and the word addressed. -/
structure RegHit where
  d : RegDesc
  i : Nat
  j : Nat
  w : Nat
  deriving DecidableEq, Repr

/-- The word of a register (array) that an address names, if any. -/
def RegDesc.hit (d : RegDesc) (a : Nat) : Option RegHit :=
  if a < d.base then none
  else
    let o := a - d.base
    let i := if d.n1 ≤ 1 then 0 else o / d.s1
    let o := o - i * d.s1
    let j := if d.n2 ≤ 1 then 0 else o / d.s2
    let o := o - j * d.s2
    if i < d.n1 && j < d.n2 && o < 4 * d.words then some { d := d, i := i, j := j, w := o / 4 } else none

/-- The register at an address; none at an offset that R10 leaves unassigned. -/
def regAt (a : Nat) : Option RegHit := (blockRegs (a / 65536)).findSome? (fun d => d.hit a)

/-- The address of a register's lowest word: the name of its latches and holds. -/
def RegHit.addr (h : RegHit) : Nat := h.d.base + h.i * h.d.s1 + h.j * h.d.s2
/-- The number of its last word. -/
def RegHit.last (h : RegHit) : Nat := h.d.words - 1
/-- The value a written register gives a field. -/
def Fld.of (f : Fld) (v : Nat) (k : Nat := 0) : Nat := v / 2 ^ (f.lsb + k * f.bs) % 2 ^ f.width
/-- A one-bit field of a written register. -/
def Fld.on (f : Fld) (v : Nat) : Bool := decide (f.of v ≠ 0)

/-- A register's value by a reading of its fields. -/
def RegDesc.sum (d : RegDesc) (rd : Fld → Nat → Nat) : Nat :=
  (d.flds.map (fun f => ((List.range f.bn).map (fun k => rd f k % 2 ^ f.width * 2 ^ (f.lsb + k * f.bs))).sum)).sum

/-- A register as stored: write-only fields read zero (R14). -/
def State.regStored (s : State) (h : RegHit) : Nat :=
  h.d.sum (fun f k => if f.acc = .wo || f.acc = .rz then 0 else s.rd f h.i h.j k)

/-- The fields of registers wider than a word whose reset is "image" and that lie below the highest word (R13, R15). -/
def imageFields : List Fld :=
  [F.SEQ_HOOK_EN, F.SEQ_HOOK_TARGET, F.SEQ_HOOK_ENTRY, F.SEQ_NET_TREE_PARENT, F.SEQ_NET_TREE_CHILDREN, F.SEQ_NET_TREE_EN,
    F.SWITCH_LAG_MEMBERS, F.SWITCH_LAG_EN, F.SWITCH_MCAST_PORTS, F.SWITCH_ROUTE_DEVICE, F.SWITCH_ROUTE_PORT,
    F.SWITCH_ROUTE_VALID, F.HKADC_EN_EN]

/-- A register's reset value (R15): a field whose reset is "image" counts with what the image loaded (R449). -/
def State.resetVal (s : State) (h : RegHit) : Nat :=
  h.d.sum (fun f k =>
    if imageFields.contains f then ({ s with regs := s.boot.imageRegs } : State).rd f h.i h.j k else f.reset h.i h.j)

/-- Word `w` of a register's value. -/
def wordN (v w : Nat) : W32 := BitVec.ofNat 32 (v / 2 ^ (32 * w))

/-- The generic write of R14: RW fields take their new value, W1C bits written 1 clear, others are unchanged;
`skip` lists the fields whose written value is ignored or acted on elsewhere. -/
def State.wrFields (s : State) (h : RegHit) (v : Nat) (skip : List Fld) : State :=
  forEach h.d.flds (fun s f =>
    if skip.contains f then s
    else match f.acc with
      | .rw => forEach (List.range f.bn) (fun s k => s.wr f (f.of v k) h.i h.j k) s
      | .w1c => if f.on v then s.wr f 0 h.i h.j else s
      | _ => s) s

/-- `skip` for a field that a condition on the written value makes ignored. -/
def skipIf (c : Bool) (f : Fld) : List Fld := if c then [f] else []

/-- A value outside a range. -/
def outside (lo hi v : Nat) : Bool := decide (v < lo) || decide (hi < v)

/-- A step taken where a condition holds. -/
def State.thenIf (s : State) (c : Bool) (f : State → State) : State := if c then f s else s

/-! ### Latches and holds (R13) -/

/-- The captured word of a register, if a master's latch of it is valid. -/
def BusState.latch (b : BusState) (m reg w : Nat) : Option W32 :=
  (b.latches.find? (fun (h : HeldWord) => h.master = m && h.reg = reg && h.word = w)).map (·.value)
/-- A captured word read, or captured afresh: it is no longer valid. -/
def BusState.unlatch (b : BusState) (m reg : Nat) (w : Option Nat) : BusState :=
  { b with latches := b.latches.filter (fun (h : HeldWord) => !(h.master = m && h.reg = reg && (w = none || w = some h.word))) }
/-- The word a master's write hold gives for a register. -/
def BusState.hold (b : BusState) (m reg w : Nat) : Option W32 :=
  (b.holds.find? (fun (h : HeldWord) => h.master = m && h.reg = reg && h.word = w)).map (·.value)
/-- A word placed in a write hold. -/
def BusState.place (b : BusState) (m reg w : Nat) (v : W32) : BusState :=
  { b with holds := HeldWord.mk m reg w v :: b.holds.filter (fun (h : HeldWord) => !(h.master = m && h.reg = reg && h.word = w)) }

/-- The whole value a write of the highest word writes: held words, or the reset value for words never
written. -/
def State.heldValue (s : State) (m : Nat) (h : RegHit) (top : W32) : Nat :=
  (List.range h.last).foldl (fun v w =>
    v + ((s.bus.hold m h.addr w).getD (wordN (s.resetVal h) w)).toNat * 2 ^ (32 * w)) (top.toNat * 2 ^ (32 * h.last))

end Sys2Proof.Machine
end

