-- ==== Sys2Proof/Machine/Switch.lean ====
section
/-! DEFINITION. The commands of the braid ports, the switch and the traffic scheduler (12). -/

namespace Sys2Proof.Machine

/-- A port counter counts; it wraps. -/
def State.braidCount (s : State) (p c n : Nat) : State := s.wr F.BRAID_CNT_VALUE (s.rd F.BRAID_CNT_VALUE p c + n) p c

/-- The ingress time stamp of a received PTP frame (R319, R347): taken at the frame's start. -/
def State.ingressStamp (s : State) (p : Nat) (b : List Byte) : Option W64 × State :=
  if isPtp b && s.bit F.BRAID_CTRL_TS_EN p then
    let r := s.stamp p (Int.ofNat b.length) (s.rdI F.TIME_PORT_ING_ING_LAT p)
    (some r.1, r.2)
  else (none, s)

/-- A frame as received, FCS included: the checks of R316 and R317, then its lookup. Log entry 12: counters 0
and 5 count the frames that pass both checks and are no PAUSE; a frame that fails both checks counts in each. -/
def State.braidReceive (s : State) (p : Nat) (frame : List Byte) : State :=
  if !s.bit F.BRAID_STATUS_LINK p || !s.bit F.BRAID_CTRL_EN p || !s.braidRuns p then s
  else
    let n := frame.length
    let b := frame.take (n - 4)
    let badFcs := bytesAt frame (n - 4) 4 ≠ (crc32 b).toNat
    let badLen := n < 64 || 1522 < n || (1518 < n && !frameTagged b)
    let s := if badFcs then s.braidCount p 1 1 else s
    let s := if badLen then s.braidCount p 2 1 else s
    if badFcs || badLen then s
    else if isPause b then s.braidCount p 3 1
    else
      let s := (s.braidCount p 0 1).braidCount p 5 n
      let r := s.ingressStamp p frame
      r.2.swEnter p b none r.1 0

/-- BRAID_FRAME_RX (R317, R322). -/
def execBraidFrameRx (port : Fin 16) (frame : List Byte) (s : State) : Host.Outcome State Fault Refusal :=
  done s (s.braidReceive port.val frame)

/-- A transmission opportunity at an output (R332). -/
def State.transmitStart (s : State) (o : Nat) : State :=
  let s := s.enterLedger.enterMgmt
  if s.sw.sending.any (fun (t : Transmit) => t.out = o) || !s.outOk o then s
  else
    let r := s.pickClass o
    match r.1 with
    | some c => r.2.startFrame o c
    | none => r.2

/-- TRANSMIT_START. -/
def execTransmitStart (port : Fin 19) (s : State) : Host.Outcome State Fault Refusal := done s (s.transmitStart port.val)

/-- TRANSMIT_END. -/
def execTransmitEnd (port : Fin 19) (s : State) : Host.Outcome State Fault Refusal :=
  done s (
    match s.sw.sending.find? (fun (t : Transmit) => t.out = port.val) with
    | some t => s.endFrame t
    | none => s)

/-- BRAID_LINK_DOWN (R317, R327). -/
def execBraidLinkDown (port : Fin 16) (s : State) : Host.Outcome State Fault Refusal := done s (s.linkDown port.val)

/-- BRAID_LINK_UP (R316, R318): FEC lock where a FEC is in use. -/
def execBraidLinkUp (port : Fin 16) (s : State) : Host.Outcome State Fault Refusal :=
  let p := port.val
  done s (
    if s.bit F.BRAID_CTRL_EN p && s.braidRuns p then
      let f := s.rd F.BRAID_CTRL_FEC p
      let fec := f = 1 || (f = 2 && !s.bit F.BRAID_CTRL_SPEED p)
      let s := ((s.wrB F.BRAID_STATUS_LINK true p).wrB F.BRAID_STATUS_LOCK true p).wrB F.BRAID_STATUS_FEC_LOCK fec p
      { s with sw := { s.sw with upAt := aset s.sw.upAt p s.time.cycle } }
    else s)

/-- LAG_REJOIN (R327). -/
def State.doLagRejoin (s : State) (g : Fin 4) : State :=
  if s.bit F.SWITCH_LAG_EN g.val then s.wrB F.SWITCH_LAG_REJOIN_PEND true g.val else s

/-- The row of `doLagRejoin`. -/
def execLagRejoin (g : Fin 4) (s : State) : Host.Outcome State Fault Refusal :=
  done s (s.ifOpen 9 (s.doLagRejoin g))

/-- LAG_REJOIN_DONE (R327): the buckets return at an instant at which every member's class 5 and class 6
queues are empty. -/
def execLagRejoinDone (g : Fin 4) (s : State) : Host.Outcome State Fault Refusal :=
  done s (
    let idle (p : Nat) : Bool := (s.outQ p 5).copies.isEmpty && (s.outQ p 6).copies.isEmpty
    if s.bit F.SWITCH_LAG_REJOIN_PEND g.val && (s.lagMembers g.val).all idle then
      ((s.lagDeal g.val).lagHeal g.val).wrB F.SWITCH_LAG_REJOIN_PEND false g.val
    else s)

/-! ### Gate lists (R335, R336) -/

/-- The admin list of an output is valid (R336). -/
def State.gateValid (s : State) (p : Nat) : Bool :=
  let n := s.rd F.SCHED_GATE_LEN_LEN p
  let c := s.rd F.SCHED_GATE_CYCLE_CYCLE p
  1 ≤ n && n ≤ 256 && (List.range n).all (fun i => decide (1 ≤ s.rd F.SCHED_GATE_ADMIN_INTERVAL p i)) &&
    1000 ≤ c && c ≤ 1000000000

/-- A commit (R336): the list starts at the first BASE + n × CYCLE at least 1 µs ahead. -/
def State.gateCommit (s : State) (p : Nat) : State :=
  if !s.gateValid p then s.wrB F.SCHED_GATE_CTRL_ERR true p
  else
    let b := s.tb (s.rd F.SCHED_GATE_CTRL_TB p)
    let base := Int.ofNat b.ext + (BitVec.ofNat 64 (s.rd F.SCHED_GATE_BASE_BASE p) - b.now).toInt
    let c := s.rd F.SCHED_GATE_CYCLE_CYCLE p
    let ahead := Int.ofNat (b.ext + 1000 * nsUnit) - base
    let n := if ahead ≤ 0 then 0 else ceilDiv ahead.toNat (c * nsUnit)
    let es := (List.range (s.rd F.SCHED_GATE_LEN_LEN p)).map (fun i =>
      (s.rd F.SCHED_GATE_ADMIN_GATES p i, s.rd F.SCHED_GATE_ADMIN_INTERVAL p i))
    let g : GateList := { base := (base + Int.ofNat (n * c * nsUnit)).toNat, cycle := c, entries := es }
    let s := if 0 < n then s.wrB F.SCHED_GATE_CTRL_BASE_PAST true p else s
    let s := s.wrB F.SCHED_GATE_CTRL_PENDING true p
    { s with sw := { s.sw with pendingGates := aset s.sw.pendingGates p g } }

/-- GATE_COMMIT. -/
def execGateCommit (port : Fin 16) (s : State) : Host.Outcome State Fault Refusal := done s (s.ifOpen 9 (s.gateCommit port.val))

/-- The pending list of an output becomes operational (R336). -/
def State.gateStart (s : State) (p : Nat) (g : GateList) : State :=
  let t := s.rd F.SCHED_GATE_CTRL_TB p
  let s := s.passCycles (s.cyclesToGain t (g.base - (s.tb t).ext))
  let s := { s with sw := { s.sw with gates := aset s.sw.gates p g, pendingGates := adel s.sw.pendingGates p } }
  let s := ((s.wr F.SCHED_GATE_OPER_BASE_BASE g.base p).wr F.SCHED_GATE_OPER_CYCLE_CYCLE g.cycle p).wr
    F.SCHED_GATE_OPER_CYCLE_LEN g.entries.length p
  let s := forEach (List.range g.entries.length) (fun s i =>
    let e := (g.entries[i]?).getD (0xFF, 0)
    (s.wr F.SCHED_GATE_OPER_GATES e.1 p i).wr F.SCHED_GATE_OPER_INTERVAL e.2 p i) s
  (s.wrB F.SCHED_GATE_CTRL_PENDING false p).wr F.SCHED_GATE_CTRL_ENTRY (s.gateEntry p) p

/-- GATE_LIST_START. -/
def execGateListStart (port : Fin 16) (s : State) : Host.Outcome State Fault Refusal :=
  done s (
    match alist s.sw.pendingGates port.val with
    | some g => s.gateStart port.val g
    | none => s)

/-- GATE_ENTRY_CHANGE (R335): the interval of the entry in force ends. -/
def execGateEntryChange (port : Fin 16) (s : State) : Host.Outcome State Fault Refusal :=
  let p := port.val
  done s (
    match s.gateList p with
    | none => s
    | some g =>
      let t := s.rd F.SCHED_GATE_CTRL_TB p
      let left := (((dropTime (g.pos (s.gateNow p)) g.segs).head?).map (·.2)).getD 0
      let s := s.passCycles (s.cyclesToGain t left)
      s.wr F.SCHED_GATE_CTRL_ENTRY (s.gateEntry p) p)

/-! ### Samples (R338) -/

/-- One queue sampled. -/
def State.sampleQueue (s : State) (o c : Nat) : State :=
  let u := s.depth o c
  let n := (s.outQ o c).copies.length
  let age := Nat.min (2 ^ 32 - 1) ((((s.outQ o c).copies.head?).map (fun x => 2 * (s.time.cycle - x.enq))).getD 0)
  let s := ((s.wr F.SCHED_OBS_UNITS u o c).wr F.SCHED_OBS_FRAMES n o c).wr F.SCHED_OBS_AGE age o c
  let s := s.wr F.SCHED_OBS_MAX_UNITS (Nat.max u (s.rd F.SCHED_OBS_MAX_UNITS o c)) o c
  s.wr F.SCHED_OBS_MAX_AGE (Nat.max age (s.rd F.SCHED_OBS_MAX_AGE o c)) o c

/-- The queues sampled together, INTERVAL µs after the last sample. -/
def State.sampleQueues (s : State) : State :=
  let s := s.passToCycle (s.sw.sampledAt + s.rd F.SCHED_OBS_CFG_INTERVAL * usCycles)
  let s := { s with sw := { s.sw with sampledAt := s.time.cycle } }
  forEach (List.range 152) (fun s i => s.sampleQueue (i / 8) (i % 8)) s

/-- QUEUE_SAMPLE. -/
def execQueueSample (s : State) : Host.Outcome State Fault Refusal := done s s.sampleQueues

/-! ### The host (R339) -/

/-- First byte of the host's transmit window. -/
def txBufBase : Nat := 0x01146000

/-- A submission of the host. -/
def State.hostSubmit (s : State) (v : Nat) : State :=
  let len := v % 2048
  if len < 12 || 1518 < len then s
  else if s.bit F.SWITCH_HOST_CFG_BUSY then s.inc F.SWITCH_HOST_CFG_TX_LOST
  else
    let b : List Byte := (List.range len).map (fun i => Sparse.get 0 s.sw.txBuf (txBufBase + i))
    let c := v / 2048 % 8
    let direct := decide (v / 16384 % 2 = 1)
    let cls := if c ≤ 4 || (c = 7 && direct && isPtp b) then c else 2
    let ts := v / 1048576 % 4
    let s := s.wrB F.SWITCH_HOST_CFG_BUSY true
    { s with sw := { s.sw with hostTx := some (b, cls, direct, v / 32768 % 32, if ts = 3 then 0 else ts) } }

/-- SWITCH_HOST_TX. -/
def execSwitchHostTx (value : BitVec 32) (s : State) : Host.Outcome State Fault Refusal :=
  done s (s.ifOpen 9 (s.hostSubmit value.toNat))

/-- HOST_FRAME_ENTER: padded to the minimum frame, at HOST. -/
def execHostFrameEnter (s : State) : Host.Outcome State Fault Refusal :=
  done s (
    match s.sw.hostTx with
    | none => s
    | some (b, cls, direct, port, ts) =>
      let b := b ++ List.replicate (60 - b.length) 0
      let s := ({ s with sw := { s.sw with hostTx := none } } : State).wrB F.SWITCH_HOST_CFG_BUSY false
      s.swEnter 16 b (some (cls, if direct then some port else none)) none ts)

/-- HOST_RX_POP. -/
def State.doHostRxPop (s : State) : State :=
  { s with sw := { s.sw with hostRx := s.sw.hostRx.drop 1 } }

/-- The row of `doHostRxPop`. -/
def execHostRxPop (s : State) : Host.Outcome State Fault Refusal :=
  done s (s.ifOpen 9 (s.doHostRxPop))

/-! ### Recovered clocks (R318) -/

/-- Ten milliseconds in TIME cycles. -/
def squelchCycles : Nat := 5000000

/-- A recovered-clock output is held low. -/
def State.squelched (s : State) (k : Nat) : Bool :=
  let p := s.rd F.BRAID_SYNCE_PORT k
  !s.bit F.BRAID_SYNCE_EN k || !s.bit F.BRAID_STATUS_LOCK p || !s.bit F.BRAID_STATUS_LINK p ||
    decide (s.time.cycle < (alist s.sw.upAt p).getD 0 + squelchCycles)

/-- The frequency at pin RCLK_OUTk in Hz, as a fraction (R318): the line rate over 66 and the divider; 0 where
the output is held low, as it is until READY (R458). -/
def State.rclkHz (s : State) (k : Nat) : Nat × Nat :=
  let line := if s.bit F.BRAID_CTRL_SPEED (s.rd F.BRAID_SYNCE_PORT k) then 10312500000 else 25781250000
  (if s.squelched k || !s.pins.ready then 0 else line, 66 * (s.rd F.BRAID_SYNCE_DIV k + 1))

/-- SYNCE_SQUELCH_END: the port's link has been up for 10 ms. -/
def execSynceSquelchEnd (k : Fin 2) (s : State) : Host.Outcome State Fault Refusal :=
  let p := s.rd F.BRAID_SYNCE_PORT k.val
  done s (
    if s.bit F.BRAID_SYNCE_EN k.val && s.bit F.BRAID_STATUS_LOCK p && s.bit F.BRAID_STATUS_LINK p then
      let s := s.passToCycle ((alist s.sw.upAt p).getD 0 + squelchCycles)
      s.wrB F.BRAID_SYNCE_SQUELCHED (s.squelched k.val) k.val
    else s)

end Sys2Proof.Machine
end

