-- ==== Sys2Proof/Machine/RegRead.lean ====
section
/-! DEFINITION. What a register read answers: fields the controller computes from its state, block by block,
and the effects of reads (R13, R14, R60, R385). -/

namespace Sys2Proof.Machine

/-- Truth values as numbers, counted. -/
def countNat (n : Nat) (p : Nat → Bool) : Nat := ((List.range n).filter p).length

/-! ### Computed fields -/

/-- A domain gated by need: the power state allows it and its engine is idle (R428, R429).  A read of the register needs
CORE, so that one is not. -/
def State.idleGated (s : State) (d : Nat) : Bool :=
  s.rd F.PWR_STATUS_STATE ≠ 0 &&
  match d with
  | 2 => s.serviceCells.isEmpty && (List.range 64).all (fun a => !s.bit F.LOOP_AUX_CFG_EN a)
  | 3 => s.solve.running.isNone && s.solve.trials.isEmpty
  | 4 => s.seqs.toList.all (fun (q : Seq) => q.st = .idle || q.st = .sleep)
  | 9 => (List.range 16).all (fun p => !s.bit F.BRAID_CTRL_EN p)
  | _ => false

/-- CLK, PWR, BUS: domains on their fallback, stopped clocks (a domain that is disabled, LANE and BRAID
without REFCLK, SOLVE gated by need), the transaction that reads (R421, R428, R429, R435). -/
def State.viewClk (s : State) (m : Nat) (h : RegHit) : State :=
  if h.d.base = D.CLK_STATUS.base then
    s.wr F.CLK_STATUS_FALLBACK ((List.range 8).foldl (fun v d => v + s.rd F.CLK_DOM_ACT_SRC d * 2 ^ d) 0)
  else if h.d.base = D.CLK_DOM.base then
    let d := h.i
    let s1 := s.wrB F.CLK_DOM_GATED (!s.domEnabled d || (8 ≤ d && !s.laneClock) || s.idleGated d) d
    let s1 := s1.wrB F.CLK_DOM_SWITCHING (s.switchingSince d).isSome d
    if 8 ≤ d then (s1.wrB F.CLK_DOM_SRC false d).wrB F.CLK_DOM_ACT_SRC false d else s1
  else if h.d.base = D.BUS_STATUS.base then s.wr F.BUS_STATUS_IDS_USED 1
  else if h.d.base = D.BUS_MASTER.base then s.wr F.BUS_MASTER_OUTSTANDING (boolNat (h.i = m)) h.i
  else s

/-- FAULT: counts of active sources, freeze-lay, the two reaction bits that read 1 (R378, R382). -/
def State.viewFault (s : State) (h : RegHit) : State :=
  let act (n : Nat) : Bool := s.bit F.FAULT_SRC_STATUS_ACTIVE n
  if h.d.base = D.FAULT_STATUS.base then
    ((s.wrB F.FAULT_STATUS_FREEZE s.frozen).wr F.FAULT_STATUS_ACTIVE (countNat 128 act)).wr F.FAULT_STATUS_CRIT
      (countNat 128 (fun n => act n && s.rd F.FAULT_SRC_STATUS_EFF n = 3))
  else if h.d.base = D.FAULT_ACTIVE.base then
    forEach (List.range 4) (fun s k => s.wr F.FAULT_ACTIVE_ACTIVE
      ((List.range 32).foldl (fun v b => v + boolNat (act (32 * k + b)) * 2 ^ b) 0) 0 0 k) s
  else if h.d.base = D.FAULT_SRC_CFG.base then
    if !faultAssigned h.i then forEach h.d.flds (fun s f => s.wr f 0 h.i) s
    else if h.i = 0 then s.wr F.FAULT_SRC_CFG_REACT (s.rd F.FAULT_SRC_CFG_REACT 0 ||| 2) 0
    else if h.i = 4 then s.wr F.FAULT_SRC_CFG_REACT (s.rd F.FAULT_SRC_CFG_REACT 4 ||| 16) 4 else s
  else s

/-- THERM and PWM. -/
def State.viewPwm (s : State) (h : RegHit) : State :=
  if h.d.base = D.THERM_STATUS.base then s.wr F.THERM_STATUS_LEVEL s.thrLevel
  else if h.d.base = D.PWM_STATUS.base then
    let n := h.i
    let s1 := ((s.wrB F.PWM_STATUS_RUNNING (s.bit F.PWM_CTRL_EN n) n).wrB F.PWM_STATUS_TRIPPED (s.tripped n) n).wrB
      F.PWM_STATUS_SAFE s.safeOn n
    (s1.wr F.PWM_STATUS_DITHER (s.pm n).j n).wr F.PWM_STATUS_ACT_DUTY (s.pm n).duty n
  else s

/-- TIME: counters, wraps, lock and slew (R340, R343, R344). -/
def State.viewTime (s : State) (h : RegHit) : State :=
  let b := s.tb h.i
  if h.d.base = D.TIME_NOW.base then s.wr F.TIME_NOW_NOW b.now.toNat h.i
  else if h.d.base = D.TIME_STATUS.base then
    ((s.wrB F.TIME_STATUS_LOCKED (decide (b.lockLeft ≠ 0)) h.i).wrB F.TIME_STATUS_SLEWING (decide (b.slew ≠ 0)) h.i).wr
      F.TIME_STATUS_WRAPS b.wraps.toNat h.i
  else if h.d.base = D.TIME_SLEW_REM.base then s.wrI F.TIME_SLEW_REM_REM (Int.tdiv b.slew 65536) h.i
  else s

/-- The state codes of R47. -/
def SqState.code : SqState → Nat
  | .halted => 0 | .idle => 1 | .run => 2 | .wait => 3 | .sleep => 4 | .trapped => 5

/-- SEQ and the ledger (R47, R60, R73, R80). -/
def State.viewSeq (s : State) (h : RegHit) : State :=
  let c := s.ledger.cur
  if h.d.base = D.SEQ_EPOCH_STATUS.base then
    (s.wr F.SEQ_EPOCH_STATUS_STABLE c.stableEpoch.toNat).wr F.SEQ_EPOCH_STATUS_LANDED c.landedEpoch.toNat
  else if h.d.base = D.SEQ_LDG_STATUS.base then
    let n := s.ledger.entries.length
    (s.wr F.SEQ_LDG_STATUS_USED n).wr F.SEQ_LDG_STATUS_PEAK (Nat.max n (s.rd F.SEQ_LDG_STATUS_PEAK))
  else if h.d.base = D.SEQ_TRUTH_STATUS.base then
    (((s.wrB F.SEQ_TRUTH_STATUS_A_GOOD s.ledger.copyA.good).wrB F.SEQ_TRUTH_STATUS_B_GOOD s.ledger.copyB.good).wrB
      F.SEQ_TRUTH_STATUS_READ_FROM s.ledger.readB).wr F.SEQ_TRUTH_STATUS_GEN c.gen.toNat
  else if h.d.base = D.SEQ_SQ_STATUS.base then
    let x := s.sq h.i
    let s1 := ((s.wr F.SEQ_SQ_STATUS_STATE x.st.code h.i).wr F.SEQ_SQ_STATUS_HOOK x.hook h.i).wr
      F.SEQ_SQ_STATUS_TRAP_CAUSE x.cause.toNat h.i
    (s1.wr F.SEQ_SQ_STATUS_PC x.pc.toNat h.i).wr F.SEQ_SQ_STATUS_NMI_PC x.nmiPc.toNat h.i
  else if h.d.base = D.SEQ_HOOK.base && h.i = 0 then s.wrB F.SEQ_HOOK_EN true 0
  else if h.d.base = D.SEQ_NET_STATUS.base then
    s.wr F.SEQ_NET_STATUS_INFLIGHT ((s.ledger.epochs.filter (fun (e : Epoch) => e.net.isSome && !e.ended)).length)
  else if h.d.base = D.SEQ_NET_RXQ.base then
    s.wr F.SEQ_NET_RXQ_DEPTH ((s.net.rxq.get (Fin.ofNat 8 h.i)).length) h.i
  else if h.d.base = D.SEQ_ENTRY.base then
    let w := (s.entryWord h.i).toNat
    (s.wr F.SEQ_ENTRY_STATUS w h.i).wr F.SEQ_ENTRY_TAG (w / 2 ^ 32) h.i
  else if h.d.base = D.SEQ_CONN.base then
    let w := (s.viewIn h.i).toNat
    (((s.wr F.SEQ_CONN_OUTPUT w h.i).wr F.SEQ_CONN_CONNECTED (w / 2 ^ 15) h.i).wr F.SEQ_CONN_PINNED (w / 2 ^ 16) h.i).wr
      F.SEQ_CONN_EPOCH (w / 2 ^ 32) h.i
  else s

/-- SOLVE and LAY (R30, R141, R144, R156, R165). -/
def State.viewSolve (s : State) (h : RegHit) : State :=
  if h.d.base = D.SOLVE_STATUS.base then
    let run := s.solve.running
    let slot := ((run.bind s.epoch?).bind (fun (x : Epoch) => x.slot)).map (·.val)
    let wait := (s.ledger.epochs.filter (fun (x : Epoch) => x.st = .sealed && run ≠ some x.num)).length
    let s1 := (s.wrB F.SOLVE_STATUS_BUSY (run.isSome || !s.solve.trials.isEmpty)).wr F.SOLVE_STATUS_THROTTLE
      (s.rd F.THERM_STATUS_SOLVE_MODE)
    ((s1.wr F.SOLVE_STATUS_SLOT (slot.getD 0)).wr F.SOLVE_STATUS_QUEUE wait).wr F.SOLVE_STATUS_EPOCH (run.getD 0).toNat
  else if h.d.base = D.SOLVE_DMAP_COUNT.base then
    ((s.wr F.SOLVE_DMAP_COUNT_ENTRIES s.solve.dmap.length).wr F.SOLVE_DMAP_COUNT_PENDING
      ((s.solve.dmap.filter (fun (e : DmapEntry) => e.pending)).length)).wr F.SOLVE_DMAP_COUNT_RETIRED
      (retiredCells s.solve.dmap).length
  else if h.d.base = D.SOLVE_DMAP.base then
    s.wr F.SOLVE_DMAP_ENTRY ((s.solve.dmap[h.i]?).elim 0 DmapEntry.word) h.i
  else if h.d.base = D.LAY_STATUS.base then
    let phase := match s.lay.cur with
      | none => 0
      | some c =>
        if c.kind = .reverting then 4 else if !c.strobed then 1
        else if 0 < c.m && (c.blanked.isEmpty || c.timeout ≤ c.m) then 3 else 2
    ((s.wr F.LAY_STATUS_PHASE phase).wrB F.LAY_STATUS_IDLE (s.lay.staged.isEmpty && s.lay.cur.isNone)).wr
      F.LAY_STATUS_STAGED s.lay.staged.length
      |>.wr F.LAY_STATUS_LAGGING (Nat.min 255 s.laggingFree.length)
  else s

/-- LOOP, DRIVE, SENSE and CAL; loops are counted once a cartridge is identified. -/
def State.viewLoop (s : State) (h : RegHit) : State :=
  if h.d.base = D.LOOP_STATUS.base then
    let cells := if s.strand.desc.isSome then s.serviceCells else []
    let full := (cells.filter (fun c => decide (s.cStat c 4 1 = 1))).length
    let bad := (cells.filter s.cellFaulted).length + countNat 64 (fun a => s.bit F.LOOP_AUX_STATUS_FAULTED a)
    ((s.wr F.LOOP_STATUS_FULL full).wr F.LOOP_STATUS_HOLD (cells.length - full)).wr F.LOOP_STATUS_FAULTED bad
  else if h.d.base = D.DRIVE_STATUS.base then
    (s.wrB F.DRIVE_STATUS_SAFE (s.safeOn || s.drive.faultHeld)).wrB F.DRIVE_STATUS_HOLD s.holdOn
  else if h.d.base = D.SENSE_STATUS.base then
    s.wr F.SENSE_STATUS_STALE
      (if s.strand.begun then countNat 66560 (fun c => !s.senseAbsent c && s.sCtrl c 2 1 = 0 && s.staleOf c) else 0)
  else if h.d.base = D.CAL_STATUS.base then
    ((s.wr F.CAL_STATUS_QUEUED s.cal.queue.length).wr F.CAL_STATUS_RUNNING s.cal.runs.length).wr F.CAL_STATUS_BLENDING
      ((s.cal.blends.filter (fun (b : Blend) => b.running)).length)
  else s

/-- STRAND (R279, R285). -/
def State.viewStrand (s : State) (h : RegHit) : State :=
  if h.d.base = D.STRAND_ECHO_VAL.base then
    match s.echoOf (s.rd F.STRAND_ECHO_SEL_CHANNEL) with
    | none => (((s.wr F.STRAND_ECHO_VAL_LEVEL 0).wrB F.STRAND_ECHO_VAL_REST false).wrB F.STRAND_ECHO_VAL_REPLAY false).wrB
        F.STRAND_ECHO_VAL_VALID false
    | some e => (((s.wr F.STRAND_ECHO_VAL_LEVEL e.level.toNat).wrB F.STRAND_ECHO_VAL_REST e.rest).wrB
        F.STRAND_ECHO_VAL_REPLAY e.replay).wrB F.STRAND_ECHO_VAL_VALID true
  else if h.d.base = D.STRAND_WB.base then
    (s.wrB F.STRAND_WB_GATE s.writeGate).wr F.STRAND_WB_PENDING (Nat.min 65535 s.wbCount)
  else s

/-- BRAID, SWITCH and SCHED (R318, R327, R334, R335, R339). -/
def State.viewSwitch (s : State) (h : RegHit) : State :=
  if h.d.base = D.BRAID_STATUS.base then
    let g := (List.range 4).find? (fun g => s.bit F.SWITCH_LAG_EN g && (s.rd F.SWITCH_LAG_MEMBERS g).testBit h.i)
    (s.wr F.BRAID_STATUS_LAG (g.getD 0) h.i).wrB F.BRAID_STATUS_LAG_MEMBER g.isSome h.i
  else if h.d.base = D.BRAID_SYNCE.base then s.wrB F.BRAID_SYNCE_SQUELCHED (s.squelched h.i) h.i
  else if h.d.base = D.SWITCH_HOST_RX.base then
    match s.sw.hostRx with
    | [] => s
    | r :: _ =>
      let s1 := ((s.wr F.SWITCH_HOST_RX_LEN r.bytes.length).wrB F.SWITCH_HOST_RX_VALID true).wr F.SWITCH_HOST_RX_INPORT r.inPort
      (s1.wr F.SWITCH_HOST_RX_CLASS r.cls).wrB F.SWITCH_HOST_RX_TS_VALID r.ts.isSome
  else if h.d.base = D.SWITCH_HOST_RX_TS.base then
    s.wr F.SWITCH_HOST_RX_TS_TS (((s.sw.hostRx.head?).bind (fun (r : HostRx) => r.ts)).getD 0).toNat
  else if h.d.base = D.SWITCH_HOST_CFG.base then s.wr F.SWITCH_HOST_CFG_RXDEPTH s.sw.hostRx.length
  else if h.d.base = D.SCHED_CREDIT.base then
    s.wrI F.SCHED_CREDIT_CREDIT (Int.fdiv (s.creditNow h.i h.j) (2 ^ 32)) h.i h.j
  else if h.d.base = D.SCHED_GATE_CTRL.base then s.wr F.SCHED_GATE_CTRL_ENTRY (s.gateEntry h.i) h.i
  else s

/-- REDUND (R356, R370, R371). -/
def State.viewRedund (s : State) (h : RegHit) : State :=
  let r := s.redund
  if h.d.base = D.REDUND_STATUS.base then
    let ran := (s.time.cycle - r.holdoffAt) / (1000 * msCycles)
    (s.wrB F.REDUND_STATUS_HEALTHY s.healthy).wr F.REDUND_STATUS_HOLDOFF_REM
      (if r.holdoffRun then s.rd F.REDUND_CFG_HOLDOFF_S - ran else 0)
  else if h.d.base = D.REDUND_CKPT.base then
    s.wr F.REDUND_CKPT_LAG_US (Nat.min 65535 ((r.sentAt.head?).elim 0 (fun p => (s.time.cycle - p.2) / usCycles)))
  else s

/-- The state with every computed field of the register as it reads now: used for the value alone. -/
def State.viewed (s : State) (m : Nat) (h : RegHit) : State :=
  match h.d.base / 65536 with
  | 0x102 | 0x104 => s.viewClk m h
  | 0x105 => s.viewFault h
  | 0x107 | 0x109 => s.viewPwm h
  | 0x10A => s.viewTime h
  | 0x10B => s.viewSeq h
  | 0x10C | 0x10D => s.viewSolve h
  | 0x10E | 0x10F | 0x110 | 0x111 => s.viewLoop h
  | 0x112 => s.viewStrand h
  | 0x113 | 0x114 | 0x115 => s.viewSwitch h
  | 0x116 => s.viewRedund h
  | _ => s

/-- A register's value as it reads now. -/
def State.regVal (s : State) (m : Nat) (h : RegHit) : Nat := (s.viewed m h).regStored h

/-! ### Effects of reads -/

/-- The RC fields of words `lo … hi` clear (R13, R14): the smallest FREE begins again at FREE. -/
def State.rcClear (s : State) (h : RegHit) (lo hi : Nat) : State :=
  forEach h.d.flds (fun s f =>
    if f.acc = .rc && lo ≤ f.lsb / 32 && f.lsb / 32 ≤ hi then
      s.wr f (if f = F.SWITCH_BUF_MIN_FREE then s.rd F.SWITCH_BUF_FREE else 0) h.i h.j
    else s) s

/-- What must be settled before a read: the levels at the TRIP pins. -/
def State.readSetup (s : State) (h : RegHit) : State :=
  if h.d.base = D.PWM_TRIP_STATUS.base then s.tripPins else s

/-- What reading a register's lowest word does besides: a ledger entry's final status is delivered (R60), the
log's entries count as read (R385). -/
def State.readAct (s : State) (h : RegHit) : State :=
  if h.d.base = D.SEQ_ENTRY.base then s.entryRead h.i
  else if h.d.base = D.FAULT_LOG_HEAD.base then { s with fault := { s.fault with unread := [] } }
  else s

/-- The captured words of a register: every higher one (R13). -/
def captured (m : Nat) (h : RegHit) (v : Nat) : List HeldWord :=
  (List.range h.last).map (fun k => HeldWord.mk m h.addr (k + 1) (wordN v (k + 1)))

/-- A 32-bit read of a register word by a master (R13). -/
def State.readWord (s : State) (m : Nat) (h : RegHit) : W32 × State :=
  let s := s.readSetup h
  let v := s.regVal m h
  if h.w = 0 then
    let b := s.bus.unlatch m h.addr none
    let s := { s with bus := { b with latches := b.latches ++ captured m h v } }
    (wordN v 0, (s.rcClear h 0 h.last).readAct h)
  else match s.bus.latch m h.addr h.w with
    | some x => (x, { s with bus := s.bus.unlatch m h.addr (some h.w) })
    | none => (wordN v h.w, s.rcClear h h.w h.w)

end Sys2Proof.Machine
end

