-- ==== Sys2Proof/Machine/Calib.lean ====
section
/-! DEFINITION. The commands of path verification and of the calibration engine (08, 09). -/

namespace Sys2Proof.Machine

/-! ### Verification (08) -/

/-- SENSE_VFY_REQ: GO written 1 requests a pass; a refusal sets REQ_REF (R241). -/
def State.doSenseVfyReq (s : State) : State :=
  let r := s.requestPass
  if r.2 then r.1 else s.wrB F.SENSE_VFY_STATUS_REQ_REF true

/-- The row of `doSenseVfyReq`. -/
def execSenseVfyReq (s : State) : Host.Outcome State Fault Refusal :=
  done s (s.doSenseVfyReq)

/-- VERIFY_PASS_DONE: a pass that has taken its 1,024 chips posts its result, and the next pass takes its
place (R242). -/
def execVerifyPassDone (s : State) : Host.Outcome State Fault Refusal :=
  done s (
    match s.sense.pass, s.strand.desc with
    | some v, some d => if 1024 ≤ v.chips then s.postPass v d else s
    | _, _ => s)

/-! ### Calibration (09) -/

/-- CAL_REQ (R260, R261). -/
def execCalReq (object : BitVec 17) (sense : Bool) (s : State) : Host.Outcome State Fault Refusal :=
  done s (s.calSubmit object.toNat sense)

/-- CAL_RUN_START: the request at the head of the queue (R252, R260). -/
def execCalRunStart (s : State) : Host.Outcome State Fault Refusal := done s s.calStart

/-- CAL_DWELL: the next dwell boundary of a cell run (R253). -/
def execCalDwell (object : BitVec 17) (s : State) : Host.Outcome State Fault Refusal := done s (s.calDwell object.toNat)

/-- CAL_RUN_END: a cell run that has taken its dwells ends (R254 to R256). -/
def execCalRunEnd (object : BitVec 17) (s : State) : Host.Outcome State Fault Refusal := done s (s.calRunEnd object.toNat)

/-- SENSE_CAL_STEP: the end of ZERO or of FULL (R259). -/
def execSenseCalStep (object : BitVec 17) (s : State) : Host.Outcome State Fault Refusal := done s (s.senseStep object.toNat)

/-- SENSE_CAL_RUN_END: a sense-channel run ends (R259). -/
def execSenseCalRunEnd (object : BitVec 17) (s : State) : Host.Outcome State Fault Refusal :=
  done s (s.senseRunEnd object.toNat)

/-- BLEND_START: a waiting acceptance takes a free blend slot (R258). -/
def execBlendStart (s : State) : Host.Outcome State Fault Refusal := done s s.blendStart

/-- PASSIVE_OBSERVATION: the 64 ms examination (R257). -/
def execPassiveObservation (s : State) : Host.Outcome State Fault Refusal := done s s.passiveAll

/-- PASSIVE_EXPIRE: 60 s after its first observation a passive point lapses (R257). -/
def execPassiveExpire (cell : Fin 21504) (s : State) : Host.Outcome State Fault Refusal :=
  done s (
    if s.cCal cell.val 12 1 = 1 then
      let first := s.tb0Sec.toNat - s.passiveAge cell.val
      (s.passTo ((first + 60) * 1000000000 * nsUnit)).passiveClear cell.val
    else s)

/-- CAL_ENABLE (R261). -/
def execCalEnable (en : Bool) (s : State) : Host.Outcome State Fault Refusal := done s (s.wrB F.CAL_CTRL_EN en)

/-- CAL_ABORT (R261). -/
def execCalAbort (s : State) : Host.Outcome State Fault Refusal := done s s.calAbortAll

/-- CAL_AREA_RELOAD: the calibration area of a cell is reloaded from the cartridge, and RECAL_DUE is set
(R264). -/
def execCalAreaReload (cell : Fin 21504) (entry : List (BitVec 32)) (s : State) : Host.Outcome State Fault Refusal :=
  done s (
    if s.cal.reload.contains cell.val then
      let s := (s.loadCal cell.val entry).setCCal cell.val 6 1 1
      { s with cal := { s.cal with reload := s.cal.reload.filter (· ≠ cell.val) } }
    else s)

end Sys2Proof.Machine
end

