-- ==== Sys2Proof/Machine/Faults.lean ====
section
/-! DEFINITION. The commands of the fault unit and the monitors (15). -/

namespace Sys2Proof.Machine

/-- FAULT_RAISE: a source's event (R379 to R386). -/
def execFaultRaise (src : Fin 128) (detail : BitVec 32) (s : State) : Host.Outcome State Fault Refusal :=
  done s (s.raise src.val detail)

/-- FAULT_FORCE: a write of FORCE, an injected raise with detail 0 (R380). -/
def execFaultForce (src : Fin 128) (s : State) : Host.Outcome State Fault Refusal := done s (s.inject src.val 0)

/-- FAULT_ACK_WRITE: a write of 1 to ACTIVE (R381). -/
def execFaultAckWrite (src : Fin 128) (s : State) : Host.Outcome State Fault Refusal := done s (s.ackFault src.val)

/-! ### Release (R387, R388) -/

/-- A source that is ACTIVE has the reaction in the set of its last raise. -/
def State.heldBySource (s : State) (bit : Nat) : Bool :=
  (List.range 128).any (fun n =>
    s.bit F.FAULT_SRC_STATUS_ACTIVE n && ((alist s.fault.lastReact n).getD 0).testBit bit)

/-- A refused release. -/
def State.relRef (s : State) : State := s.wrB F.FAULT_STATUS_REL_REF true

/-- HOLD is no longer in force: frames that begin less than 40 ns later still carry it (R388). -/
def State.holdGone (s : State) : State :=
  { s.wrB F.FAULT_STATUS_HOLD false with fault := { s.fault with holdTill := s.ext0 + 40 * nsUnit } }

/-- The hold reaction ends: loops are preset, an interrupted lay is reverted (R388, R192, R172). -/
def State.endHold (s : State) : State :=
  let s := s.holdGone
  let first := (s.ext0 + 40 * nsUnit + frameUnits - 1) / frameUnits
  let s := forEach s.serviceCells (fun s c => s.presetCell c (s.cw c 0x08) (s.cw c 0x10)) s
  let s := { s with cal := { s.cal with ramps := [] } }
  { s with lay := { s.lay with recover := s.lay.recover.map (fun (r : Recovery) =>
      if r.kind = .reverting then { r with at' := Nat.max r.at' first } else { r with at' := Nat.max r.at' (ceilDiv s.ext0 frameUnits + 2) }) } }

/-- The safe reaction ends: a restoring lay of every cell in service and every open shutter of the landed
weave is scheduled (R388). -/
def State.endSafe (s : State) : State :=
  let s := s.wrB F.FAULT_STATUS_SAFE false
  let start := ceilDiv s.ext0 frameUnits + 2
  let r := s.restoreAll start
  let s := { s with lay := { s.lay with recover := r, lagging := [], echoAfter := r.isSome }
                    drive := { s.drive with faultHeld := r.isSome } }
  if r.isSome then s else s.restIdle.restClosed

/-- RELEASE_FREEZE. -/
def State.doReleaseFreeze (s : State) : State :=
  if s.heldBySource 2 || s.holdOn || s.safeOn then s.relRef
  else { s with fault := { s.fault with heldFreeze := false } }

/-- The row of `doReleaseFreeze`. -/
def execReleaseFreeze (s : State) : Host.Outcome State Fault Refusal :=
  done s (s.doReleaseFreeze)

/-- RELEASE_HOLD. -/
def State.doReleaseHold (s : State) : State :=
  if s.heldBySource 3 || s.safeOn then s.relRef
  else if s.holdOn then s.endHold else s

/-- The row of `doReleaseHold`. -/
def execReleaseHold (s : State) : Host.Outcome State Fault Refusal :=
  done s (s.doReleaseHold)

/-- RELEASE_SAFE: with HOLD in force beside SAFE, a release of both (R387). -/
def State.doReleaseSafe (s : State) : State :=
  if s.heldBySource 4 || s.bit F.FAULT_STATUS_SAFE_N_LOW || (s.safeOn && s.holdOn && s.heldBySource 3) then s.relRef
  else if s.safeOn then
    let s := if s.holdOn then s.holdGone else s
    s.endSafe
  else s

/-- The row of `doReleaseSafe`. -/
def execReleaseSafe (s : State) : Host.Outcome State Fault Refusal :=
  done s (s.doReleaseSafe)

/-- SAFE_N_ASSERT: SAFE_N low raises SAFE_PIN and forces the safe reaction (R382, R384). -/
def execSafeNAssert (s : State) : Host.Outcome State Fault Refusal :=
  done s ((s.wrB F.FAULT_STATUS_SAFE_N_LOW true).raise 4 0)

/-- SAFE_N_DEASSERT: the SAFE_PIN condition ends (R379). -/
def execSafeNDeassert (s : State) : Host.Outcome State Fault Refusal :=
  done s ((s.wrB F.FAULT_STATUS_SAFE_N_LOW false).levelEnd 4)

/-! ### Monitors (R390 to R393) -/

/-- The address of a live bin, and of a snapshot bin. -/
def binAddr (e b : Nat) : Nat := 0x060D0000 + 0x100 * e + 4 * b
/-- See `binAddr`. -/
def snapAddr (e b : Nat) : Nat := 0x060D2000 + 0x100 * e + 4 * b

/-- The bin of a sample (R391). -/
def binOf (log2 : Bool) (width : Nat) (v : Int) : Nat :=
  if log2 then (if v < 1 then 0 else Nat.min (Nat.log2 v.toNat + 1) 63)
  else if v < 0 then 0
  else
    let k := v.toNat / width
    if k ≤ 62 then 1 + k else 63

/-- v = x − LO in signed 64-bit arithmetic. -/
def sub64 (x lo : Int) : Int := (BitVec.ofInt 64 (x - lo)).toInt

/-- An engine takes one sample. -/
def State.histTake (s : State) (e : Nat) (x : Int) : State :=
  let b := binOf (s.bit F.MON_HIST_CFG_LOG2 e) (s.rd F.MON_HIST_WIDTH_WIDTH e) (sub64 x (s.rdI F.MON_HIST_LO_LO e))
  let s := s.stW (binAddr e b) (BitVec.ofNat 32 (satAdd 0xFFFFFFFF (s.ldW (binAddr e b)).toNat 1))
  s.inc F.MON_HIST_STAT_SAMPLES 1 e

/-- A tracker takes one sample (R392). -/
def State.trkTake (s : State) (k : Nat) (x : Int) : State :=
  let now := (s.tb 0).now.toNat
  let first := s.rd F.MON_TRK_N_N k = 0
  let s := if first || x < s.rdI F.MON_TRK_MIN_MIN k then (s.wrI F.MON_TRK_MIN_MIN x k).wr F.MON_TRK_MIN_T_TIME now k else s
  let s := if first || s.rdI F.MON_TRK_MAX_MAX k < x then (s.wrI F.MON_TRK_MAX_MAX x k).wr F.MON_TRK_MAX_T_TIME now k else s
  s.inc F.MON_TRK_N_N 1 k

/-- MONITOR_SAMPLE: in one CORE cycle every unit with a queued sample takes its oldest one (R390). -/
def execMonitorSample (s : State) : Host.Outcome State Fault Refusal :=
  done s (
    let q := s.mon.queues
    let s := { s with mon := { s.mon with queues := (q.map (fun p => (p.1, p.2.drop 1))).filter (fun p => !p.2.isEmpty) } }
    forEach (sortBy (fun a b => decide (a.1 ≤ b.1)) q) (fun s (p : Nat × List Int) =>
      match p.2 with
      | [] => s
      | x :: _ => if p.1 < 32 then s.histTake p.1 x else s.trkTake (p.1 - 32) x) s)

/-- An engine's bins, SAMPLES and DROPPED cleared; bins marked invalid (R79) no longer are. -/
def State.histClear (s : State) (e : Nat) : State :=
  let a := binAddr e 0
  let s := { s with mon := { s.mon with invalid := s.mon.invalid.filter (fun x => x < a || a + 256 ≤ x) } }
  ((s.stZero (binAddr e 0) 256).wr F.MON_HIST_STAT_SAMPLES 0 e).wr F.MON_HIST_STAT_DROPPED 0 e

/-- A tracker cleared (R392, R393): its extremes, their times and N. -/
def State.trkClear (s : State) (k : Nat) : State :=
  ((((s.rst F.MON_TRK_MIN_MIN k).rst F.MON_TRK_MIN_T_TIME k).rst F.MON_TRK_MAX_MAX k).rst F.MON_TRK_MAX_T_TIME k).rst
    F.MON_TRK_N_N k

/-- An engine's state copied to its snapshot and cleared (R393). -/
def State.histSnap (s : State) (e : Nat) : State :=
  let s := forEach (List.range 64) (fun s b => s.stW (snapAddr e b) (s.ldW (binAddr e b))) s
  let s := (s.wr F.MON_HIST_SNAP_STAT_SAMPLES (s.rd F.MON_HIST_STAT_SAMPLES e) e).wr F.MON_HIST_SNAP_STAT_DROPPED
    (s.rd F.MON_HIST_STAT_DROPPED e) e
  s.histClear e

/-- A tracker's state copied to its snapshot and cleared (R393). -/
def State.trkSnap (s : State) (k : Nat) : State :=
  let s := (s.wr F.MON_TRK_SNAP_MIN_MIN (s.rd F.MON_TRK_MIN_MIN k) k).wr F.MON_TRK_SNAP_MIN_T_TIME (s.rd F.MON_TRK_MIN_T_TIME k) k
  let s := (s.wr F.MON_TRK_SNAP_MAX_MAX (s.rd F.MON_TRK_MAX_MAX k) k).wr F.MON_TRK_SNAP_MAX_T_TIME (s.rd F.MON_TRK_MAX_T_TIME k) k
  let s := (s.wr F.MON_TRK_SNAP_N_N (s.rd F.MON_TRK_N_N k) k).wr F.MON_TRK_SNAP_DROP_DROPPED (s.rd F.MON_TRK_DROP_DROPPED k) k
  s.trkClear k

/-- MON_SNAP (R393). -/
def State.doMonSnap (s : State) (hists : BitVec 32) (trks : BitVec 16) : State :=
  let s := forEach (maskBits hists.toNat 32) State.histSnap s
  let s := forEach (maskBits trks.toNat 16) State.trkSnap s
  s.wr F.MON_SNAP_TIME_TIME (s.tb 0).now.toNat

/-- The row of `doMonSnap`. -/
def execMonSnap (hists : BitVec 32) (trks : BitVec 16) (s : State) : Host.Outcome State Fault Refusal :=
  done s (s.doMonSnap hists trks)

/-- MON_HOP_IN: a hop-latency sample of a braid port (R389). -/
def execMonHopIn (p : Fin 16) (ns : BitVec 32) (s : State) : Host.Outcome State Fault Refusal :=
  done s (s.monOffer 8 p.val (Int.ofNat ns.toNat))

/-- A unit's input queue emptied. -/
def State.monFlush (s : State) (u : Nat) : State := { s with mon := { s.mon with queues := adel s.mon.queues u } }

/-- A write to an engine's configuration clears it and its queue (R391). -/
def State.histAnew (s : State) (e : Nat) : State := (s.histClear e).monFlush e

/-- A write of LO whole. -/
def State.doHistLo (s : State) (e v : Nat) : State := (s.wr F.MON_HIST_LO_LO v e).histAnew e

/-- HIST_CONFIG_WRITE: the host's write to a word of an engine's configuration, which clears the engine (R391); a write of
0 to WIDTH is ignored altogether, and the low word of LO waits in the write hold for the high one (R13). -/
def State.doHistConfigWrite (s : State) (e : Fin 32) (word : Fin 4) (value : BitVec 32) : State :=
  let v := value.toNat
  let e := e.val
  let reg := D.MON_HIST_LO.base + e * D.MON_HIST_LO.s1
  match word.val with
  | 0 => ((((s.wr F.MON_HIST_CFG_SRC v e).wr F.MON_HIST_CFG_LOG2 (v / 16) e).wr F.MON_HIST_CFG_EN (v / 32) e).wr
      F.MON_HIST_CFG_SEL (v / 2 ^ 15) e).histAnew e
  | 1 => if v = 0 then s else (s.wr F.MON_HIST_WIDTH_WIDTH v e).histAnew e
  | 2 => { s with bus := s.bus.place 0 reg 0 value }
  | _ => s.doHistLo e (((s.bus.hold 0 reg 0).getD 0).toNat + v * 2 ^ 32)

/-- The row of `doHistConfigWrite`. -/
def execHistConfigWrite (e : Fin 32) (word : Fin 4) (value : BitVec 32) (s : State) : Host.Outcome State Fault Refusal :=
  done s (s.doHistConfigWrite e word value)

/-- TRACKER_CONFIG_WRITE: a write to MON_TRK_CFG, which clears the tracker (R392); that DROPPED and the input queue
go with it, as an engine's do, is the model's choice (log entry 36). -/
def State.doTrackerConfigWrite (s : State) (k : Fin 16) (value : BitVec 32) : State :=
  let v := value.toNat
  let k := k.val
  let s := ((s.wr F.MON_TRK_CFG_SRC v k).wr F.MON_TRK_CFG_EN (v / 16) k).wr F.MON_TRK_CFG_SEL (v / 2 ^ 15) k
  ((s.trkClear k).rst F.MON_TRK_DROP_DROPPED k).monFlush (32 + k)

/-- The row of `doTrackerConfigWrite`. -/
def execTrackerConfigWrite (k : Fin 16) (value : BitVec 32) (s : State) : Host.Outcome State Fault Refusal :=
  done s (s.doTrackerConfigWrite k value)

end Sys2Proof.Machine
end

