-- ==== Sys2Proof/Machine/Lay.lean ====
section
/-! DEFINITION. The commands of the lay engine (05): staging, the steps of a lay, its checks and its end. -/

namespace Sys2Proof.Machine

/-- A READY weave may be staged (R153, R170, R81, R82); a write of EN = 0 in the same cycle comes after the staging. -/
def State.mayStage (s : State) (x : Epoch) (slot : Fin 16) : Bool :=
  x.st = .solved && s.rd F.SOLVE_SLOTS_STATE 0 0 slot.val = 2 && !s.slotBad slot.val && s.baseStaged x &&
    (s.bit F.LAY_CTRL_EN || s.lay.enOffAt = some s.time.cycle) && !s.ledger.noLays && !s.coldStandby

/-- STAGE_WEAVE: a READY weave is handed to the lay engine (R153). -/
def execStageWeave (e : BitVec 32) (s : State) : Host.Outcome State Fault Refusal :=
  done s (
    match s.epoch? e with
    | none => s
    | some x => match x.slot with
      | none => s
      | some slot => if s.mayStage x slot then (s.stage x slot).tryReady e else s)

/-- An epoch reaches its staging deadline, which is a participant's commit deadline (R145, R153, R170, R82,
R309). An epoch still sealed ends with R145's detail also
while LAY_CTRL.EN is 0; no rule orders R145 before R170 (DESIGN CHOICE, log entry 28). -/
def State.atDeadline (s : State) (x : Epoch) : State :=
  match x.st with
  | .sealed => (s.abortPlain x.num (St.aborted (if x.slot.isSome then 0x121 else 0x120))).fireHook 5 x.num
  | .solved =>
    if !s.bit F.LAY_CTRL_EN then s.layRefuse x (St.aborted 0x204) 3 0x204
    else if s.ledger.noLays || x.slot.any (fun n => s.slotBad n.val) then s.abortPlain x.num (St.aborted 0x32)
    else s.layRefuse x (St.late 0x200) 3 0x200
  | .staged =>
    match x.net with
    | none => s
    | some n =>
      if x.layBegun || n.commitHeld then s
      else if n.coordinator && !n.decided then s.readyDeadline x n
      else s.abortPlain x.num St.missed
  | _ => s

/-- STAGING_DEADLINE (R153). -/
def execStagingDeadline (e : BitVec 32) (s : State) : Host.Outcome State Fault Refusal :=
  done s (
    match s.epoch? e with
    | none => s
    | some x => (s.passTo x.deadline.toNat).atDeadline x)

/-- A staged epoch at its lay instant (R155, R477, R71, R174, R175, R277, R309, R423): the first cause that
prevents F0, or F0. -/
def State.atLayInstant (s : State) (x : Epoch) (st : StagedLay) : State :=
  if s.frozen then s.abortPlain x.num (St.aborted 0x34)
  else if s.lay.cur.isSome || s.lay.recover.any (fun r => !r.waitStream && !r.waitLane) then
    s.layRefuse x (St.aborted 0x207) 3 0x207
  else if s.rd F.STRAND_STATUS_STATE ≠ 5 || !s.bit F.STRAND_STATUS_OWNER then s.layRefuse x (St.aborted 0x208) 3 0x208
  else if !s.strand.failed.isEmpty || s.onRco || x.passed || x.layFrame < s.strand.sentFrame || x.layFrame < s.frame then
    s.layRefuse x (St.late 0x200) 3 0x200
  else if x.net.any (fun n => !n.commitHeld) then s.abortPlain x.num St.missed
  else if s.slotBad st.slot.val || s.ledger.noLays then s.abortPlain x.num (St.aborted 0x32)
  else s.beginLay x st

/-- LAY_INSTANT: the lay instant of a staged epoch; a lay of an earlier epoch still under way leaves it
staged (R151). -/
def execLayInstant (e : BitVec 32) (s : State) : Host.Outcome State Fault Refusal :=
  done s (
    match s.epoch? e, s.lay.staged.find? (fun (y : StagedLay) => y.epoch = e) with
    | some x, some st =>
      if s.lay.cur.any (fun l => l.kind = LayKind.epoch) then s
      else (s.passTo (frameAt x.layFrame)).atLayInstant x st
    | _, _ => s)

/-- LAY_STROBE: frame FS carries the new codes (R156 step 2). -/
def execLayStrobe (s : State) : Host.Outcome State Fault Refusal :=
  done s (
    match s.lay.cur with
    | some l => if l.strobed then s else (s.passTo (frameAt (l.frame + l.s))).strobe l
    | none => s)

/-- LAY_HAND_BACK: from FS + 1 the changing cells' loops run (R156 step 3). -/
def execLayHandBack (s : State) : Host.Outcome State Fault Refusal :=
  done s (
    match s.lay.cur with
    | some l => if l.strobed && !l.handed then (s.passTo (frameAt (l.frame + l.s + 1))).handBack l else s
    | none => s)

/-- SETTLE_CHECK: the next check m, at T + 320 S + 640 m ns (R156 step 4, R163, R164). -/
def execSettleCheck (s : State) : Host.Outcome State Fault Refusal :=
  done s (
    match s.lay.cur with
    | some l =>
      if l.strobed && l.m < l.timeout then (s.passTo (frameAt (l.frame + l.s + 2 * (l.m + 1)))).settleCheck l else s
    | none => s)

/-- UNBLANK: frame F(S + 2m + 1) opens the connections settled (R156 step 5). -/
def execUnblank (s : State) : Host.Outcome State Fault Refusal :=
  done s (
    match s.lay.cur with
    | some l => if 0 < l.m then (s.passTo (frameAt (l.frame + l.s + 2 * l.m + 1))).unblank l else s
    | none => s)

/-- LAY_COMPLETE (R157). -/
def execLayComplete (s : State) : Host.Outcome State Fault Refusal :=
  done s (
    match s.lay.cur with
    | some l => if l.mayComplete then s.finishLay l else s
    | none => s)

/-- LAGGING_CHECK: the connections left blanked are checked every 640 ns (R165). -/
def execLaggingCheck (s : State) : Host.Outcome State Fault Refusal :=
  done s (
    match s.lagNext with
    | none => s
    | some f => (s.passTo (frameAt f)).laggingCheck f)

/-- A staged or running lay moves or removes the connection at an output (R167). -/
def State.layHolds (s : State) (o : Nat) : Bool := s.layHeld.any (fun c => c.2 = o)

/-- LAY_REOPEN: a shutter that verification closed opens again (R167), but for one still blanked under R165. -/
def State.doLayReopen (s : State) (output : BitVec 10) : State :=
  let o := output.toNat
  if s.lay.vfyClosed.contains o && !s.layHolds o then
    let s := { s with lay := { s.lay with vfyClosed := s.lay.vfyClosed.filter (· ≠ o) } }
    if s.lay.lagging.any (fun g => g.output = o) then s else s.openShutter (outShut o)
  else s

/-- The row of `doLayReopen`. -/
def execLayReopen (output : BitVec 10) (s : State) : Host.Outcome State Fault Refusal :=
  done s (s.doLayReopen output)

/-- LAY_ENABLE (R170). -/
def execLayEnable (en : Bool) (s : State) : Host.Outcome State Fault Refusal := 
  done s ((s.wrB F.LAY_CTRL_EN en).noteLayEn (s.bit F.LAY_CTRL_EN))

/-- LAY_FLUSH (R171). -/
def execLayFlush (s : State) : Host.Outcome State Fault Refusal := done s s.flushLays

/-- RESTORING_LAY_START: a restoring lay of the landed weave begins (R174, R363, R388). -/
def execRestoringLayStart (s : State) : Host.Outcome State Fault Refusal :=
  done s (
    match s.lay.recover with
    | some r =>
      if r.kind = LayKind.restoring && s.mayRecover r then
        (s.passTo (frameAt r.at')).beginRecovery r
      else s
    | none => s)

end Sys2Proof.Machine
end

