-- ==== Sys2Proof/Machine/Ledger.lean ====
section
/-! DEFINITION. The commands of hooks, sequencer control, host submissions, epochs, seals, solves and the
defect map (02, 04). -/

namespace Sys2Proof.Machine

/-- HOOK_START: an IDLE sequencer starts its lowest pending hook (R52). -/
def execHookStart (q : Fin 8) (s : State) : Host.Outcome State Fault Refusal :=
  done s (
    if (s.sq q.val).st = .idle then
      match s.pendingHook q.val with
      | some h => s.startThread q.val h ((alist s.hookArgs h).getD 0)
      | none => s
    else s)

/-- SQ_STOP: the named sequencers' threads end and the sequencers halt (R50). -/
def execSqStop (mask : BitVec 8) (s : State) : Host.Outcome State Fault Refusal :=
  done s (forEach (maskBits mask.toNat 8) State.sqStop s)

/-- SQ_EN: sequencers are enabled for hooks or not (R50). -/
def execSqEn (mask : BitVec 8) (s : State) : Host.Outcome State Fault Refusal := done s (s.sqEnable mask.toNat)

/-- TRAP_CLR: the named TRAPPED sequencers return to IDLE (R47). -/
def execTrapClr (mask : BitVec 8) (s : State) : Host.Outcome State Fault Refusal :=
  done s (forEach (maskBits mask.toNat 8) State.trapClear s)

/-- SEQ_DOORBELL: hook HOST with the value written (R51). -/
def execSeqDoorbell (value : BitVec 32) (s : State) : Host.Outcome State Fault Refusal := done s (s.fireHook 26 value)

/-- HCMD_UNPIN (R66). -/
def execHcmdUnpin (h : HostCmd) (s : State) : Host.Outcome State Fault Refusal := done s (s.hostFile .unpin h)
/-- HCMD_DISC (R66). -/
def execHcmdDisc (h : HostCmd) (s : State) : Host.Outcome State Fault Refusal := done s (s.hostFile .disc h)
/-- HCMD_CONN (R66). -/
def execHcmdConn (h : HostCmd) (s : State) : Host.Outcome State Fault Refusal := done s (s.hostFile .conn h)
/-- HCMD_PIN (R66). -/
def execHcmdPin (h : HostCmd) (s : State) : Host.Outcome State Fault Refusal := done s (s.hostFile .pin h)

/-- HCMD_OPEN_EPOCH: the host opens an epoch (R64). -/
def State.doHcmdOpenEpoch (s : State) (e frame : BitVec 32) : State :=
  let r := s.openLocal e frame
  (r.1.wr F.SEQ_HCMD_RESULT_HANDLE 0).wr F.SEQ_HCMD_RESULT_STATUS r.2.word.toNat

/-- The row of `doHcmdOpenEpoch`. -/
def execHcmdOpenEpoch (e frame : BitVec 32) (s : State) : Host.Outcome State Fault Refusal :=
  done s (s.doHcmdOpenEpoch e frame)

/-- HCMD_ABORT_EPOCH: the host requests an abort (R70). -/
def State.doHcmdAbortEpoch (s : State) (e : BitVec 32) : State :=
  let r := s.abortRequest e
  (r.1.wr F.SEQ_HCMD_RESULT_HANDLE 0).wr F.SEQ_HCMD_RESULT_STATUS r.2.word.toNat

/-- The row of `doHcmdAbortEpoch`. -/
def execHcmdAbortEpoch (e : BitVec 32) (s : State) : Host.Outcome State Fault Refusal :=
  done s (s.doHcmdAbortEpoch e)

/-- SEQ_ENTRY_READ: a read of an entry; a final status is delivered and the entry freed (R60). -/
def execSeqEntryRead (m : Master) (i : Fin 2048) (s : State) : Host.Outcome State Fault Refusal :=
  done s ((s.respond m.val true (s.entryWord i.val)).entryRead i.val)

/-- ENTRY_DELIVERY_TIMEOUT: 100 ms after its epoch ended an entry is freed (R60). -/
def execEntryDeliveryTimeout (i : Fin 2048) (s : State) : Host.Outcome State Fault Refusal :=
  done s (
    match alist s.ledger.entries i.val with
    | none => s
    | some e => match s.epoch? e.cmd.epoch with
      | none => s
      | some x => if x.ended then (s.passTo (x.endT + 100000000 * nsUnit)).freeEntry i.val else s)

/-- SEAL: an OPEN epoch's seal instant (R65); an epoch that an earlier OPEN one precedes does not seal (R64). -/
def execSeal (e : BitVec 32) (s : State) : Host.Outcome State Fault Refusal :=
  done s (
    match s.ledger.epochs.find? (fun (x : Epoch) => x.st = .opened) with
    | some x => if x.num = e then s.sealEpoch x else s
    | none => s)

/-- EPOCH_EVALUATE_DEFERRED: a sealed epoch whose predecessor has become SOLVED (R68). -/
def execEpochEvaluateDeferred (e : BitVec 32) (s : State) : Host.Outcome State Fault Refusal :=
  done s (
    match s.epoch? e with
    | some x => if x.st = .sealed && !x.evaluated && s.baseSolved x then (s.evaluate e).nextSolve else s
    | none => s)

/-- SLOT_FREED_SOLVE: the first sealed epoch without a slot takes a FREE one (R145). -/
def execSlotFreedSolve (e : BitVec 32) (s : State) : Host.Outcome State Fault Refusal :=
  done s (
    match s.ledger.epochs.find? (fun (x : Epoch) => x.st = .sealed && x.slot.isNone) with
    | some x => if x.num = e then (s.takeSlot e).nextSolve else s
    | none => s)

/-- SOLVE_DONE: the running solve ends (R143). -/
def execSolveDone (s : State) : Host.Outcome State Fault Refusal :=
  done s (
    match s.solve.running.bind s.epoch? with
    | some x => match x.slot with
      | some n => s.finishSolve x n
      | none => s
    | none => s)

/-- WEAVE_RESOLVE: a weave lost to parity is made again in its slot (R149). -/
def execWeaveResolve (slot : Fin 16) (s : State) : Host.Outcome State Fault Refusal := done s (State.resolveSlot 16 s slot)

/-- WEAR_FOLD: the live counts are copied for the next seal (R38). -/
def State.doWearFold (s : State) : State :=
  { s with solve := { s.solve with foldPending := some s.liveCounts } }

/-- The row of `doWearFold`. -/
def execWearFold (s : State) : Host.Outcome State Fault Refusal :=
  done s (s.ifOpen 3 (s.doWearFold))

/-- DMAP_ADD (R142). -/
def execDmapAdd (entry : BitVec 32) (s : State) : Host.Outcome State Fault Refusal := done s (s.ifOpen 3 (s.dmapAdd entry))

/-- DMAP_REMOVE (R142). -/
def execDmapRemove (entry : BitVec 32) (s : State) : Host.Outcome State Fault Refusal := done s (s.ifOpen 3 (s.dmapRemove entry))

end Sys2Proof.Machine
end

