-- ==== Sys2Proof/Machine/LoopInstr.lean ====
section
/-! DEFINITION. The loop instructions (R111, R112, R189 to R205). -/

namespace Sys2Proof.Machine

/-- The answer to a loop instruction: ACCEPTED, or REFUSED_DEFECT where the loop's cell is RETIRED or absent
(R112). -/
def State.loopRefused (s : State) (l : Nat) : Bool := decide (l < 21504) && (s.cellAbsent l || s.cellState l = 3)

/-- A cell is in transition under a lay that has not handed it back (R112). -/
def State.underLay (s : State) (c : Nat) : Bool :=
  s.lay.cur.any (fun (l : Lay) => !l.handed && l.changing.any (·.1 = c))

/-- A loop instruction: BAD_OPERAND for a loop number R111 does not list, the checks of `pre`, then the
refusal of R112 or the effect, with the status in gd. -/
def loopInstr (opc : Nat) (q : Fin 8) (w : Fields) (pre : State → Seq → Nat → Option Nat)
    (eff : State → Seq → Nat → State) (s : State) : Host.Outcome State Fault Refusal :=
  execEngine opc q w (fun s x =>
    let l := (x.rg w.src1).toNat % 65536
    if 21568 ≤ l then .error 6
    else match pre s x l with
      | some c => .error c
      | none =>
        if s.loopRefused l then .ok (s.sqRet q w.dst ((St.defect 0).word.setWidth 64))
        else .ok ((eff s x l).sqRet q w.dst (St.accepted.word.setWidth 64))) s

/-! ### LSET (R198) -/

/-- The float parameters of a cell: record offset and range. -/
def cellParam (m : Nat) : Option (Nat × Option (W32 × W32)) :=
  match m with
  | 0 => some (0x20, some (0, 0x40800000))
  | 1 => some (0x24, some (0, 0x46189680))
  | 2 => some (0x28, some (0, 0x3DCCCCCD))
  | 3 => some (0x2C, none)
  | 7 => some (0x30, some (0xBF000000, 0x3F000000))
  | _ => none

/-- The loop faults at stage PARAM at its next iteration. -/
def State.paramFault (s : State) (c : Nat) : State := { s with loop := { s.loop with paramBad := sadd s.loop.paramBad c } }

/-- DITHER_ROW written: a change takes effect at the next block boundary, and the block in progress is
discarded (R182).  Row 0, which is no row (R29), is ignored (DESIGN CHOICE, log entry 26). -/
def State.setRow (s : State) (c row : Nat) : State :=
  let old := s.cCtrl c 8 6
  if old = row || row = 0 then s
  else
    let keep := if (alist s.loop.rowInUse c).isSome then s.loop.rowInUse else (c, old) :: s.loop.rowInUse
    (({ s with loop := { s.loop with rowInUse := keep } } : State).stBits (cellRec c + 0xDC) 4 0 1 0).setCCtrl c 8 6 row

/-- A cell parameter written. -/
def State.lsetCell (s : State) (c m : Nat) (v : W32) : State :=
  match cellParam m with
  | some (off, none) => s.setCw c off v
  | some (off, some (lo, hi)) => s.setCw c off (if F32.finite v then F32.clamp lo hi v else v)
  | none =>
    if !F32.finite v then s.paramFault c
    else if m = 4 then
      let r := F32.roundEven v
      s.setRow c (if r < 1 then 1 else if 63 < r then 63 else r.toNat)
    else s.setCCtrl c (if m = 5 then 16 else 17) 1 (boolNat (!F32.isZero v))

/-- An auxiliary parameter written: MAN_OUT, SP and the gains without bound, limits at least 0.0, OUT_MAX
at most 1.0 for a TEC zone or a PWM module. -/
def State.lsetAux (s : State) (a m : Nat) (v : W32) : State :=
  let low := if F32.lt v 0 then (0 : W32) else v
  let k := s.rd F.LOOP_AUX_OUT_KIND a
  let r := if !F32.finite v then v
    else if m = 15 then (if (k = 1 || k = 3) && F32.lt F32.one low then F32.one else low)
    else if 9 ≤ m then low else v
  s.wr F.LOOP_AUX_PAR_VALUE r.toNat a m

/-- The parameters R198 lists for a kind of loop. -/
def paramListed (l m : Nat) : Bool := if l < 21504 then decide (m ≤ 7) else [0, 1, 3, 8, 9, 10, 11, 12, 13, 14, 15].contains m

/-- LSET. -/
def execLset (q : Fin 8) (w : Fields) (s : State) : Host.Outcome State Fault Refusal :=
  loopInstr 0x80 q w (fun _ _ l => if paramListed l w.mod.toNat then none else some 6)
    (fun s x l =>
      if l < 21504 then s.lsetCell l w.mod.toNat (x.rf w.src2) else s.lsetAux (l - 21504) w.mod.toNat (x.rf w.src2)) s

/-! ### LMODE, LPRESET, LINJ (R112, R189 to R194, R202) -/

/-- An instruction on a cell: deferred under a lay, without effect in PARK, else applied (R112, R194). -/
def State.cellInstr (s : State) (d : DeferredInstr) : State :=
  if s.underLay d.cell then { s with loop := { s.loop with deferred := s.loop.deferred ++ [d] } }
  else if s.inService d.cell then s.applyDeferred d else s

/-- The mode of an auxiliary loop set; leaving FROZEN presets with its output (R189). -/
def State.setAuxMode (s : State) (a m : Nat) : State :=
  let old := s.rd F.LOOP_AUX_STATUS_MODE a
  if old = m then s
  else
    let was := s.bit F.LOOP_AUX_STATUS_FAULTED a
    let s := s.wr F.LOOP_AUX_STATUS_MODE m a
    if old = 2 then
      let s := s.presetAux a (s.auxS a 1)
      if was then s.wrB F.LOOP_AUX_STATUS_FAULTED true a else s
    else s

/-- LPRESET of an auxiliary loop (R191, R192). -/
def State.presetAuxInstr (s : State) (a : Nat) (fb : Option W32) : State :=
  match fb with
  | none => s.presetAux a (s.auxS a 1)
  | some v =>
    let s := if s.rd F.LOOP_AUX_STATUS_MODE a = 1 then s.wr F.LOOP_AUX_PAR_VALUE v.toNat a 3 else s
    s.presetAux a v

/-- LMODE: an IMM above 2 traps. -/
def execLmode (q : Fin 8) (w : Fields) (s : State) : Host.Outcome State Fault Refusal :=
  loopInstr 0x81 q w (fun _ _ _ => if 2 < w.imm.toNat then some 6 else none)
    (fun s _ l =>
      if l < 21504 then s.cellInstr (.mode l w.imm.toNat) else s.setAuxMode (l - 21504) w.imm.toNat) s

/-- LPRESET. -/
def execLpreset (q : Fin 8) (w : Fields) (s : State) : Host.Outcome State Fault Refusal :=
  loopInstr 0x82 q w (fun _ _ _ => none)
    (fun s x l =>
      let fb := if w.mod.getLsbD 0 then some (x.rf w.src2) else none
      if l < 21504 then s.cellInstr (.preset l fb) else s.presetAuxInstr (l - 21504) fb) s

/-- The six words of a descriptor in data memory (R202). -/
def State.injWords (s : State) (a : Nat) : List W32 := (List.range 6).map (fun k => s.ldW (a + 4 * k))

/-- The checks of R202 on a descriptor of a cell loop or of an auxiliary one. -/
def injOk (cell : Bool) (ws : List W32) : Bool :=
  match ws with
  | [cfg, ampl, period, _, _, seed] =>
    let typ := cfg.toNat % 4
    typ ≠ 0 && decide (cfg.toNat < 16) && decide (seed.toNat < 32768) && F32.finite ampl &&
      (!cell || F32.le (F32.abs ampl) 0x3F000000) && (typ ≠ 2 || decide (4 ≤ period.toNat)) &&
      (typ ≠ 3 || (decide (1 ≤ period.toNat) && decide (seed ≠ 0)))
  | _ => false

/-- The trap of an LINJ whose gb is not 0: BAD_ADDR, or BAD_OPERAND (R111, R202).  A descriptor that starts in data memory
and runs past its end traps BAD_ADDR (DESIGN CHOICE, log entry 20). -/
def State.injTrap (s : State) (cell : Bool) (a : Nat) : Option Nat :=
  if a < dmemLo || dmemHi < a + 24 then some 2
  else if a % 4 ≠ 0 || !injOk cell (s.injWords a) then some 6 else none

/-- LINJ: gb = 0 stops injection. -/
def execLinj (q : Fin 8) (w : Fields) (s : State) : Host.Outcome State Fault Refusal :=
  loopInstr 0x83 q w
    (fun s x l =>
      let gb := (x.rg w.src2).toNat
      if gb = 0 then none else s.injTrap (decide (l < 21504)) gb)
    (fun s x l =>
      let gb := (x.rg w.src2).toNat
      let ws := if gb = 0 then [] else s.injWords gb
      if l < 21504 then s.cellInstr (.inj l ws) else s.setInj l (injOfWords ws)) s

/-! ### LCAP (R204, R205) -/

/-- A capture starts on a channel; an active one there ends first. -/
def State.startCapture (s : State) (l ch : Nat) (ctl : Nat) : State :=
  let s := if s.bit F.LOOP_CAP_STATUS_ACTIVE ch then s.capEnd ch else s
  let c : Capture :=
    { loopNo := l, qty := ctl % 16, decim := ctl / 16 % 16, trig := ctl.testBit 8, forceFull := ctl.testBit 9
      started := false, seen := 0, last := none }
  let s := { s with loop := { s.loop with caps := aset s.loop.caps ch c } }
  ((((s.wrB F.LOOP_CAP_STATUS_ACTIVE true ch).wrB F.LOOP_CAP_STATUS_DONE false ch).wr F.LOOP_CAP_STATUS_COUNT 0 ch).wr
    F.LOOP_CAP_STATUS_LOOP l ch).wr F.LOOP_CAP_STATUS_START_P 0 ch

/-- LCAP. -/
def execLcap (q : Fin 8) (w : Fields) (s : State) : Host.Outcome State Fault Refusal :=
  loopInstr 0x84 q w
    (fun _ x _ => if 47 < (x.rg w.src2).toNat || 1024 ≤ w.imm.toNat then some 6 else none)
    (fun s x l => s.startCapture l (x.rg w.src2).toNat w.imm.toNat) s

end Sys2Proof.Machine
end

