-- ==== Sys2Proof/Machine/Looper.lean ====
section
/-! DEFINITION. The commands of the drive chain and the looper (06, 07). -/

namespace Sys2Proof.Machine

/-! ### Drive chain (07) -/

/-- OUTBOUND_FRAME: the next strand frame is sent while the link carries headers (R267, R268); after a
fence it carries what the fence left (R361). -/
def execOutboundFrame (s : State) : Host.Outcome State Fault Refusal :=
  done s (
    if 2 ≤ s.rd F.STRAND_STATUS_STATE && s.rd F.STRAND_STATUS_STATE ≤ 5 && s.lanesRun then s.sendStrandFrame.inboundHeld.fenceAfterFrame else s)

/-- DRIVE_STROBE_FIRE: the named program groups, 2 to 15, fire in the first frame that begins at least 40 ns later
(R216). -/
def State.doDriveStrobeFire (s : State) (mask : BitVec 16) : State :=
  { s with drive := { s.drive with fire := s.drive.fire ++ [(s.frame40, mask &&& 0xFFFC)] } }

/-- The row of `doDriveStrobeFire`. -/
def execDriveStrobeFire (mask : BitVec 16) (s : State) : Host.Outcome State Fault Refusal :=
  done s (s.doDriveStrobeFire mask)

/-- DRIVE_RECORD_REBUILD: a drive record that failed parity is rebuilt, but not before the echo preset where the
cell's loop state failed too (R227). -/
def execDriveRecordRebuild (ch : Fin 45056) (s : State) : Host.Outcome State Fault Refusal :=
  done s (if s.drive.bad.contains ch.val && !s.loop.echoWait.contains (ch.val / 2) then s.driveRebuild ch.val else s)

/-! ### Looper (06) -/

/-- LOOP_PERIOD: the period whose boundary frame was last sent runs (R177, R178). -/
def execLoopPeriod (s : State) : Host.Outcome State Fault Refusal := done s s.loopPeriod

/-- GRADIENT_BLOCK: the period that completes a gradient block is demodulated (R183). -/
def execGradientBlock (s : State) : Host.Outcome State Fault Refusal :=
  done s (
    if s.rd F.LOOP_PERIOD_P % 64 = 0 && 0 < s.strand.count then s.demodulate (s.rd F.LOOP_PERIOD_P) else s)

/-- A core is to retire at the next period boundary (R179). -/
def State.markRetire (s : State) (n : Nat) : State :=
  if n ≤ 17 then { s with loop := { s.loop with retire := sadd s.loop.retire n } } else s

/-- KNOWN_ANSWER_TEST: the active cores that fail raise LOOPER_CORE and retire (R179). -/
def execKnownAnswerTest (failed : BitVec 18) (s : State) : Host.Outcome State Fault Refusal :=
  done s (forEach (maskBits (failed.toNat &&& s.rd F.LOOP_CORE_ACTIVE) 18)
    (fun s n => (s.raise 24 (BitVec.ofNat 32 n)).markRetire n) s)

/-- LOOP_CORE_RETIRE (R179); other values have no action. -/
def execLoopCoreRetire (core : BitVec 5) (s : State) : Host.Outcome State Fault Refusal :=
  done s (s.ifOpen 2 (s.markRetire core.toNat))

/-- LOOP_ENABLE: `LOOP_CTRL.EN` written; set to 1, every loop in service and every enabled auxiliary loop is preset
from its output and error (R192, R193). -/
def State.doLoopEnable (s : State) (en : Bool) : State :=
  let was := s.bit F.LOOP_CTRL_EN
  let s := s.wrB F.LOOP_CTRL_EN en
  if en && !was then
    let s := forEach s.serviceCells (fun s c => s.presetCell c (s.cw c 0x08) (s.cw c 0x10)) s
    forEach ((List.range 64).filter (fun a => s.bit F.LOOP_AUX_CFG_EN a)) (fun s a => s.presetAux a (s.auxS a 1)) s
  else s

/-- The row of `doLoopEnable`. -/
def execLoopEnable (en : Bool) (s : State) : Host.Outcome State Fault Refusal :=
  done s (s.ifOpen 2 (s.doLoopEnable en))

/-- LOOP_CAP_STOP: the named captures end with DONE (R205). -/
def State.doLoopCapStop (s : State) (mask : BitVec 48) : State :=
  forEach ((maskBits mask.toNat 48).filter (fun ch => s.bit F.LOOP_CAP_STATUS_ACTIVE ch)) State.capEnd s

/-- The row of `doLoopCapStop`. -/
def execLoopCapStop (mask : BitVec 48) (s : State) : Host.Outcome State Fault Refusal :=
  done s (s.ifOpen 2 (s.doLoopCapStop mask))

/-- CAPTURE_DONE: a capture with 4,096 samples ends (R205). -/
def execCaptureDone (ch : Fin 48) (s : State) : Host.Outcome State Fault Refusal :=
  done s (
    if s.bit F.LOOP_CAP_STATUS_ACTIVE ch.val && 4096 ≤ s.rd F.LOOP_CAP_STATUS_COUNT ch.val then s.capEnd ch.val else s)

/-- INJECTION_END: an injection that has reached its DURATION ends (R203). -/
def execInjectionEnd (loopNo : Fin 21568) (s : State) : Host.Outcome State Fault Refusal :=
  done s (
    match s.injOf loopNo.val with
    | some i => if i.value.2.2 then s.setInj loopNo.val none else s
    | none => s)

/-- AUX_LOOP_ENABLE: EN set presets an auxiliary loop with output 0.0 (R191, R199). -/
def State.doAuxLoopEnable (s : State) (a : Fin 64) : State :=
  if s.bit F.LOOP_AUX_CFG_EN a.val then s else (s.wrB F.LOOP_AUX_CFG_EN true a.val).presetAux a.val 0

/-- The row of `doAuxLoopEnable`. -/
def execAuxLoopEnable (a : Fin 64) (s : State) : Host.Outcome State Fault Refusal :=
  done s (s.ifOpen 2 (s.doAuxLoopEnable a))

end Sys2Proof.Machine
end

