-- ==== Sys2Proof/Machine/Net.lean ====
section
/-! DEFINITION. The commands of the device network (11): one per received frame type, the retry interval,
the opening and the ready deadline. -/

namespace Sys2Proof.Machine

/-- COMMAND_FRAME (R297). -/
def execCommandFrame (f : TFrame) (s : State) : Host.Outcome State Fault Refusal := done s ((s.takeInbox f).commandFrame f)

/-- STATUS_FRAME (R298). -/
def execStatusFrame (f : TFrame) (s : State) : Host.Outcome State Fault Refusal := done s ((s.takeInbox f).statusFrame f)

/-- DATA_FRAME (R293). -/
def execDataFrame (f : TFrame) (s : State) : Host.Outcome State Fault Refusal :=
  done s ((s.takeInbox f).rxEnter (3 + f.cls.toNat) f)

/-- ACK_FRAME (R293). -/
def execAckFrame (f : TFrame) (s : State) : Host.Outcome State Fault Refusal := done s ((s.takeInbox f).rxEnter 1 f)

/-- QUERY (R313): the REPLY carries a stable view; its REF names the query (log entry 11). -/
def execQuery (f : TFrame) (s : State) : Host.Outcome State Fault Refusal :=
  let s1 := s.takeInbox f
  done s (s1.sendCounted 6 4 f.src 0 0 f.seqnum (s1.replyPayload f.payload))

/-- REPLY (R293). -/
def execReply (f : TFrame) (s : State) : Host.Outcome State Fault Refusal := done s ((s.takeInbox f).rxEnter 2 f)

/-- COMMAND_RETRANSMIT (R299): the COMMAND of an epoch, operation and sequence number. -/
def execCommandRetransmit (e : BitVec 32) (op : BitVec 8) (seqnum : BitVec 32) (s : State) :
    Host.Outcome State Fault Refusal :=
  done s (
    match s.net.retrans.find? (fun (r : Retrans) => r.frame.epoch = e && r.frame.seqnum = seqnum &&
        bytesAt r.frame.payload 12 1 = op.toNat) with
    | some r => s.retransmit r
    | none => s)

/-- SEQ_NET_OPEN (R300). -/
def execSeqNetOpen (o : NetOpen) (s : State) : Host.Outcome State Fault Refusal := done s (s.netOpen o)

/-- PREPARE (R301). -/
def execPrepare (f : TFrame) (s : State) : Host.Outcome State Fault Refusal := done s ((s.takeInbox f).prepare f)

/-- READY (R306, R307). -/
def execReady (f : TFrame) (s : State) : Host.Outcome State Fault Refusal := done s ((s.takeInbox f).ready f)

/-- READY_DEADLINE (R307): an undecided coordinator sends ABORT. -/
def execReadyDeadline (e : BitVec 32) (s : State) : Host.Outcome State Fault Refusal :=
  done s (
    match s.epoch? e with
    | none => s
    | some x => match x.net with
      | none => s
      | some n => if n.coordinator && !n.decided && !x.ended then s.readyDeadline x n else s)

/-- COMMIT (R309). -/
def execCommit (f : TFrame) (s : State) : Host.Outcome State Fault Refusal := done s ((s.takeInbox f).commit f)

/-- ABORT_FRAME (R308). -/
def execAbortFrame (f : TFrame) (s : State) : Host.Outcome State Fault Refusal := done s ((s.takeInbox f).abortFrame f)

/-- MISSED (R311): a copy enters receive queue 2. -/
def execMissed (f : TFrame) (s : State) : Host.Outcome State Fault Refusal :=
  let h := (s.takeInbox f).hear 0x14 f
  done s (if h.2 then (h.1.rxEnter 2 f).missedReport f.epoch f.src else h.1)

/-- LANDED (R312). -/
def execLanded (f : TFrame) (s : State) : Host.Outcome State Fault Refusal := done s ((s.takeInbox f).landed f)

/-- STABLE (R312). -/
def execStable (f : TFrame) (s : State) : Host.Outcome State Fault Refusal := done s ((s.takeInbox f).stable f)

end Sys2Proof.Machine
end

