-- ==== Sys2Proof/Machine/Strand.lean ====
section
/-! DEFINITION. The commands of the strand link (10) and the powered hour (R40). -/

namespace Sys2Proof.Machine

/-! ### Frames and lanes -/

/-- INBOUND_FRAME: an inbound frame is received (R269, R273, R279); the one for the frame last sent is taken when the next
outbound frame has begun (R270). -/
def execInboundFrame (lanes : List LaneRx) (s : State) : Host.Outcome State Fault Refusal :=
  done s (if s.rd F.STRAND_STATUS_STATE < 2 || 5 < s.rd F.STRAND_STATUS_STATE || !s.lanesRun then s else s.inbound lanes)

/-- LANE_FAILURE: a locked lane loses block lock (R273). -/
def execLaneFailure (lane : Fin 96) (s : State) : Host.Outcome State Fault Refusal :=
  done s (
    if s.bit F.STRAND_LANE_LOCK lane.val then
      ((s.wrB F.STRAND_LANE_LOCK false lane.val).wrB F.STRAND_LANE_ALIGNED false lane.val).failLane lane.val
    else s)

/-- SPARE_SWITCH: the switches due in the next frame take effect (R274, R275). -/
def execSpareSwitch (s : State) : Host.Outcome State Fault Refusal :=
  done s (s.applySwitches s.strand.count (Nat.max s.strand.sentFrame s.frame))

/-- STRAND_LANE_TEST: a failed lane is tested; other lanes have no action (R274). -/
def State.doStrandLaneTest (s : State) (lane : BitVec 7) : State :=
  if lane.toNat < 96 && s.laneRole lane.toNat = 3 then
    ({ s with strand := { s.strand with testing := aset s.strand.testing lane.toNat s.time.cycle } } : State).setLane
      lane.toNat 4 0x7F
  else s

/-- The row of `doStrandLaneTest`. -/
def execStrandLaneTest (lane : BitVec 7) (s : State) : Host.Outcome State Fault Refusal :=
  done s (s.ifOpen 8 (s.doStrandLaneTest lane))

/-- LANE_TEST_END: 10 ms after its test began the lane stays failed, becomes a spare, or on a Y512 rejoins the map
(R274). -/
def execLaneTestEnd (lane : Fin 96) (pass : Bool) (s : State) : Host.Outcome State Fault Refusal :=
  done s (match alist s.strand.testing lane.val with
    | some t =>
      let s := s.passToCycle (t + 10 * msCycles)
      let s := { s with strand := { s.strand with testing := adel s.strand.testing lane.val } }
      let role := if !pass then 3 else if s.strand.geomY512 then 1 else 2
      let s := s.setLane lane.val role 0x7F
      let s := if pass then (s.wrB F.STRAND_LANE_LOCK true lane.val).wrB F.STRAND_LANE_ALIGNED true lane.val else s
      s.laneStatus
    | none => s)

/-! ### Link start (R287) -/

/-- A start of the link may act: not after a failed start-up, in which the link stays OFF (R446), not in DEEP (R433), and not
while LANE has no clock (R424). -/
def State.mayStart (s : State) : Bool :=
  !s.bit F.SYS_STATUS_BOOT_FAIL && decide (s.rd F.PWR_STATUS_STATE ≠ 3) && s.laneClock

/-- A write of START (R287, R343); where a start may not act the link stays as it is (DESIGN CHOICE, log entry 37). -/
def State.doStrandStart (s : State) : State := if s.mayStart then s.startLink.clampInc else s

/-- STRAND_START. -/
def execStrandStart (s : State) : Host.Outcome State Fault Refusal := done s (s.ifOpen 8 s.doStrandStart)

/-- The transmitter coefficients that Clause 72 training settled on, which the spec leaves open, go to HEADER (R265, R355). -/
def State.laneCoeffs (s : State) : State :=
  let cs := (List.range 96).map (fun k => (Config.freeValue (s.fresh + k)).setWidth 32)
  ({ s with fresh := s.fresh + 96, redund := { s.redund with image := { s.redund.image with coeffs := cs } } } : State).ckptHeader

/-- LINK_TRAINED: training and block lock complete; lanes in use without lock fail, and no lock at all fails
the link (R273, R287). -/
def execLinkTrained (locked : BitVec 96) (s : State) : Host.Outcome State Fault Refusal :=
  done s (
    if s.rd F.STRAND_STATUS_STATE ≠ 1 || !s.lanesRun then s
    else if locked = 0 then s.wr F.STRAND_STATUS_STATE 6
    else
      let s := s.wr F.STRAND_STATUS_STATE 2
      let s := forEach (List.range 96) (fun s n => s.wrB F.STRAND_LANE_LOCK (locked.getLsbD n) n) s
      let s := s.laneCoeffs
      (forEach ((List.range 96).filter (fun n => !locked.getLsbD n)) State.failLane s).laneStatus)

/-- The 32-byte nonce of R284 from the entropy source, its CHALLENGE writes, and the reads of RESPONSE, repeated while they
are answered BUSY; one requester keeps them in order. -/
def State.challenge (s : State) : State :=
  let n := s.fresh
  let ws := (List.range 8).map (fun k => Config.entropy (n + k))
  let nonce := ws.reverse.foldl (fun (a : Nat) w => a * 2 ^ 32 + w.toNat) 0
  let s := { s with fresh := n + 8, strand := { s.strand with nonce := BitVec.ofNat 256 nonce } }
  let s := forEach ws.zipIdx (fun s p =>
    s.mgmtPush { op := 2, waddr := 0xFFFC0 + p.2, data := p.1, dest := .first, who := .controller }) s
  forEach (List.range 16) (fun s k =>
    s.mgmtPush { op := 1, waddr := 0xFFFD0 + k, data := 0, dest := .first, who := .controller }) s

/-- A lane came into the window with an advance: what the ALIGN commands of its frames have not yet given it is sent
(R270, R278). -/
def State.alignTo (s : State) (n : Nat) (adv : BitVec 8) : State :=
  let d := adv - BitVec.ofNat 8 (s.rd F.STRAND_LANE_ADV n)
  if d = 0 then s
  else (s.mgmtPush { op := 5, waddr := 0, data := d.setWidth 32, dest := .lane n, who := .controller }).wr F.STRAND_LANE_ADV adv.toNat n

/-- LINK_ALIGNED: every lane is in the window; the link enters IDENTIFY and challenges the cartridge (R284,
R287). -/
def execLinkAligned (adv : List (Nat × BitVec 8)) (s : State) : Host.Outcome State Fault Refusal :=
  done s (
    if s.rd F.STRAND_STATUS_STATE ≠ 2 then s
    else
      let s := forEach ((List.range 96).filter (fun n => s.bit F.STRAND_LANE_LOCK n)) (fun s n =>
        s.wrB F.STRAND_LANE_ALIGNED true n) s
      let s := forEach (adv.filter (fun p => decide (p.1 < 96))) (fun s p => s.alignTo p.1 p.2) s
      (s.wr F.STRAND_STATUS_STATE 3).challenge)

/-- CART_AUTH_RESPONSE: the cartridge's signature becomes readable and is held for the judgement that ends the exchange;
one that is readable more than 20 ms after the last CHALLENGE word is too late (R284). -/
def execCartAuthResponse (sig : BitVec 512) (s : State) : Host.Outcome State Fault Refusal :=
  done s (
    if s.rd F.STRAND_STATUS_STATE ≠ 3 || s.strand.authSig.isSome then s
    else if s.strand.chalAt.any (fun t => decide (t + 20 * msCycles < s.time.cycle)) then s
    else { s with strand := { s.strand with authSig := some sig } })

/-- LINK_IDENTIFIED: the loads finish, the authentication is judged, and the link enters READY, where a unit of a pair
requests the drive (R42, R284, R287, R352). -/
def execLinkIdentified (id : IdentityLoad) (s : State) : Host.Outcome State Fault Refusal :=
  done s (
    if s.rd F.STRAND_STATUS_STATE ≠ 3 then s
    else
      let s := s.identify id
      if s.bit F.REDUND_CTRL_EN then (s.setRole 3).portCmd true else s)

/-! ### The stream (R288, R363, R375) -/

/-- The stream may start: READY, owner, a cartridge that lets it, and a STRAND domain on its normal source (R42, R284,
R288, R423). -/
def State.mayStream (s : State) : Bool :=
  s.rd F.STRAND_STATUS_STATE = 4 && s.bit F.STRAND_STATUS_OWNER && s.cartOk && !s.onRco

/-- A unit of a pair whose stream has started is ACTIVE (R352). -/
def State.nowActive (s : State) : State :=
  if s.bit F.REDUND_CTRL_EN then
    let s := s.setRole 1
    { s with redund := { s.redund with kickAt := s.time.cycle, silent := false } }
  else s

/-- The channels that still carry their power-up value as a stream starts (R224): those of cells in service, until a
preset from the echo, and of open shutters, until a lay or a restore gives them a state. -/
def State.powerUpLeft (s : State) : List Nat :=
  if s.drive.powerUp then s.serviceCells.flatMap (fun c => [2 * c, 2 * c + 1]) ++ s.openShutters else s.drive.puLeft

/-- The stream starts: from a restore image where one is loaded (R375), else from the echo (R192, R288). -/
def State.startStream (s : State) (presets : Bool) : State :=
  match s.redund.restore with
  | some im =>
    let s := (s.imageInForce im).putImageLoops im
    let hitless := s.echoHitless
    let s := (s.startFromImage im).recordTransfer 5 im im.markState hitless false
    let s := (s.wrB F.SEQ_TRUTH_STATUS_LOST false).wrB F.SEQ_NET_STATUS_DIVERGED false
    let s := ((s.levelEnd 6).levelEnd 7).levelEnd 49
    let s := { s with redund := { s.redund with restore := none, staged := [] } }
    (s.peerHook 9).nowActive
  | none =>
    let s := { s with drive := { s.drive with puLeft := s.powerUpLeft } }
    let s := if presets then forEach s.serviceCells State.echoPreset s else s
    s.streamOn.nowActive

/-- STRAND_STREAM (R288). -/
def State.doStrandStream (s : State) : State :=
  if !s.mayStream then s
  else if s.bit F.STRAND_CTRL_ECHO_PRESET then { s with strand := { s.strand with streamWait := true } }
  else s.startStream false

/-- The row of `doStrandStream`. -/
def execStrandStream (s : State) : Host.Outcome State Fault Refusal :=
  done s (s.ifOpen 8 (s.doStrandStream))

/-- STREAM_ECHO_READY: echoes are held for every channel and the stream starts (R288). -/
def execStreamEchoReady (s : State) : Host.Outcome State Fault Refusal :=
  done s (if s.strand.streamWait && s.mayStream && s.echoComplete then s.startStream true else s)

/-- STRAND_STOP (R288). -/
def execStrandStop (s : State) : Host.Outcome State Fault Refusal := done s (s.ifOpen 8 s.streamOff)

/-- PORT_REQ (R288). -/
def execPortReq (s : State) : Host.Outcome State Fault Refusal := done s (s.ifOpen 8 (s.portCmd true))

/-- PORT_REL (R288). -/
def execPortRel (s : State) : Host.Outcome State Fault Refusal := done s (s.ifOpen 8 (s.portCmd false))

/-! ### Identity memory (R282, R283, R285) -/

/-- A program's access to the identity memory (R283). -/
def idAccess (write : Bool) (waddr : Nat) (data : W32) : MgmtCmd :=
  { op := if write then 2 else 1, waddr := waddr, data := data, dest := .any, who := .program }

/-- A program's access is queued for the management channel, a write outside the gate as DEFERRED. -/
def State.idSubmit (s : State) (c : MgmtCmd) : State :=
  (s.mgmtPush c).wr F.STRAND_ID_RESULT_STATUS (if c.gated && !s.writeGate then 4 else 5)

/-- ID_READ (R283). -/
def execIdRead (waddr : BitVec 22) (s : State) : Host.Outcome State Fault Refusal :=
  done s (s.ifOpen 8 (s.idSubmit (idAccess false waddr.toNat 0)))

/-- ID_WRITE (R283, R285). -/
def execIdWrite (waddr : BitVec 22) (data : BitVec 32) (s : State) : Host.Outcome State Fault Refusal :=
  done s (s.ifOpen 8 (s.idSubmit (idAccess true waddr.toNat data)))

/-- WRITE_BACK (R285). -/
def execWriteBack (s : State) : Host.Outcome State Fault Refusal := done s s.writeBack

/-! ### The powered hour (R40) -/

/-- ⌊d / x⌋ of a count and a positive binary32 number, exactly, at most 0xFFFFFFFF. -/
def floorLife (d : Nat) (x : W32) : Nat :=
  let m := F32.mag x
  Nat.min 0xFFFFFFFF (if m.2 < 0 then d * 2 ^ m.2.natAbs / m.1 else d / (m.1 * 2 ^ m.2.natAbs))

/-- The life remaining of a cell (R40); a rate that is no number, which only a program's write of the record gives,
counts as 0.0. -/
def lifeOf (rating live : Nat) (r : W32) : Nat :=
  if rating ≤ live then 0
  else if F32.isZero r || !F32.finite r then 0xFFFFFFFF
  else floorLife (rating - live) r

/-- One cell at a powered hour: rate, life, and its write-back flag where its count changed (R40, R285). -/
def State.hourCell (s : State) (rating c : Nat) : State :=
  let live := s.liveWear c
  let was := (alist s.strand.wearHour c).getD 0
  let r := s.cw c 0xD0
  let r' := F32.add r (F32.div (F32.sub (F32.ofNat (live - was)) r) 0x43280000)
  let s := (s.setCw c 0xD0 r').setCw c 0xD4 (BitVec.ofNat 32 (lifeOf rating live r'))
  if live = was then s
  else { s with strand := { s.strand with wbWear := sadd s.strand.wbWear c, wearHour := aset s.strand.wearHour c live } }

/-- The cartridge's life remaining: the (k + 1)-th smallest life among cells not RETIRED (R40). -/
def State.cartridgeLife (s : State) : W32 :=
  let cells := presentCells s.strand.geomY512
  let retired := (cells.filter (fun c => s.cellState c = 3)).length
  let limit := if s.strand.geomY512 then 145 else 322
  if limit < retired then 0
  else
    let ls := ((cells.filter (fun c => s.cellState c ≠ 3)).map (fun c => (s.cw c 0xD4).toNat)).mergeSort (fun a b => decide (a ≤ b))
    BitVec.ofNat 32 (ls.getD (limit - retired) 0xFFFFFFFF)

/-- The THERMAL record at a powered hour: a bin of 2 °C from −40 °C, the lowest and highest t_cart (R282). -/
def State.thermalHour (s : State) : State :=
  let t := s.tCart
  let th := s.strand.thermal
  let half := F32.mag (F32.div (F32.add t 0x42200000) 0x40000000)
  let bin := if half.2 < 0 then half.1 / 2 ^ half.2.natAbs else half.1 * 2 ^ half.2.natAbs
  let th := if F32.le 0xC2200000 t && bin < 96 then aset th bin (((alist th bin).getD 0) + 1) else th
  let th := if (alist th 96).any (fun x => !F32.lt t x) then th else aset th 96 t
  let th := if (alist th 97).any (fun x => !F32.lt x t) then th else aset th 97 t
  { s with strand := { s.strand with thermal := th, wbThermal := true } }

/-- POWERED_HOUR (R40, R282, R285): with an accepted cartridge. -/
def execPoweredHour (s : State) : Host.Outcome State Fault Refusal :=
  done s (
    match s.strand.desc with
    | none => s
    | some d =>
      let s := { s with strand := { s.strand with hours := s.strand.hours + 1 } }
      let s := forEach (presentCells d.y512) (fun s c => s.hourCell d.wearRating c) s
      let s := { s with strand := { s.strand with cartLife := s.cartridgeLife } }
      s.thermalHour)

end Sys2Proof.Machine
end

