-- ==== Sys2Proof/Machine/Time.lean ====
section
/-! DEFINITION. The commands of the time bases (13). -/

namespace Sys2Proof.Machine

/-- TB0 is bound to the strand: the link is not OFF, and the clocks run from their normal sources (R343, R423). -/
def State.bound (s : State) : Bool := s.linkOn && !s.onRco

/-- The increments a base accepts (R341, R343). -/
def State.incOk (s : State) (t inc : Nat) : Bool :=
  decide (8581344658 ≤ inc) && decide (inc ≤ 8598524526) &&
    (t ≠ 0 || !s.bound || (decide (8589505096 ≤ inc) && decide (inc ≤ 8590364088)))

/-- A write of INC: taken, or ignored with INC_REJ (R341, R343). -/
def State.setInc (s : State) (t inc : Nat) : State :=
  if s.incOk t inc then s.wr F.TIME_INC_INC inc t else s.wrB F.TIME_STATUS_INC_REJ true t

/-- TIME_INC. -/
def execTimeInc (t : Fin 4) (inc : BitVec 64) (s : State) : Host.Outcome State Fault Refusal :=
  done s (s.ifOpen 5 (s.setInc t.val (inc.toNat % 2 ^ 40)))

/-- An adjustment (R342), of TB0 as its binding to the strand has it (R343).  While the binding is suspended the frame grid
does not follow TB0, and the inbound frames to come keep their instants (R423, R424). -/
def State.adjust (s : State) (t : Nat) (a : Int) : State :=
  let x0 := s.ext0
  if t = 0 && s.bound then s.adjustBound a
  else
    let s := s.setTb t ((s.tb t).move a)
    if t = 0 then
      ({ s with strand := { s.strand with flight := s.strand.flight.map (fun (e : InFlight) =>
          { e with start := (Int.ofNat e.start + a).toNat }) } } : State).markPassed x0
    else s

/-- TIME_ADJ. -/
def execTimeAdj (t : Fin 4) (adj : BitVec 64) (s : State) : Host.Outcome State Fault Refusal :=
  done s (s.ifOpen 5 (s.adjust t.val adj.toInt))

/-- SLEW_END: the slew remainder of TB0 is absorbed (R343). -/
def execSlewEnd (s : State) : Host.Outcome State Fault Refusal :=
  done s (s.passCycles (s.cyclesForEdges (ceilDiv (s.tb 0).slew.natAbs (slewStep (s.edgeInc 0)))))

/-- LOCKED set or restarted for a number of TIME cycles; 0 clears it. -/
def State.setLock (s : State) (t cycles : Nat) : State := s.setTb t { s.tb t with lockLeft := cycles }

/-- LOCK_ASSERT (R344). -/
def execLockAssert (t : Fin 4) (s : State) : Host.Outcome State Fault Refusal :=
  done s (s.ifOpen 5 (s.setLock t.val (s.rd F.TIME_CTRL_LOCK_MS * msCycles)))

/-- LOCK_CLEAR (R344). -/
def execLockClear (t : Fin 4) (s : State) : Host.Outcome State Fault Refusal := done s (s.ifOpen 5 (s.setLock t.val 0))

/-- LOCK_EXPIRE: LOCK_MS passes without a renewed assertion (R344). -/
def execLockExpire (t : Fin 4) (s : State) : Host.Outcome State Fault Refusal :=
  done s (s.passCycles (s.tb t.val).lockLeft)

/-- CMP_ARM: a write of TARGET's highest word arms while EN = 1; setting EN arms (R345). -/
def State.doCmpArm (s : State) (n : Fin 16) (target : Option (BitVec 64)) : State :=
  match target with
  | some v =>
    let s := s.wr F.TIME_CMP_TARGET_TARGET v.toNat n.val
    if s.bit F.TIME_CMP_CTRL_EN n.val then s.wrB F.TIME_CMP_CTRL_ARMED true n.val else s
  | none => (s.wrB F.TIME_CMP_CTRL_EN true n.val).wrB F.TIME_CMP_CTRL_ARMED true n.val

/-- The row of `doCmpArm`. -/
def execCmpArm (n : Fin 16) (target : Option (BitVec 64)) (s : State) : Host.Outcome State Fault Refusal :=
  done s (s.ifOpen 5 (s.doCmpArm n target))

/-- CMP_DISARM (R346): FIRED is unchanged. -/
def State.doCmpDisarm (s : State) (n : Fin 16) : State :=
  (s.wrB F.TIME_CMP_CTRL_EN false n.val).wrB F.TIME_CMP_CTRL_ARMED false n.val

/-- The row of `doCmpDisarm`. -/
def execCmpDisarm (n : Fin 16) (s : State) : Host.Outcome State Fault Refusal :=
  done s (s.ifOpen 5 (s.doCmpDisarm n))

/-- One firing (R345): d ≥ 0 the signed difference NOW − TARGET. -/
def State.cmpFire (s : State) (n : Nat) (d : Nat) : State :=
  let s := (s.wrB F.TIME_CMP_CTRL_FIRED true n).fireHook (10 + n) (BitVec.ofNat 32 n)
  let p := s.rd F.TIME_CMP_PERIOD_PERIOD n
  if p = 0 then s.wrB F.TIME_CMP_CTRL_ARMED false n
  else
    let k := d / p + 1
    let s := s.wr F.TIME_CMP_TARGET_TARGET ((s.rd F.TIME_CMP_TARGET_TARGET n + k * p) % 2 ^ 64) n
    s.inc F.TIME_CMP_CTRL_SKIPPED (k - 1) n

/-- CMP_FIRE: the base reaches TARGET of an armed comparator (R345, R346). -/
def execCmpFire (n : Fin 16) (s : State) : Host.Outcome State Fault Refusal :=
  done s (
    if s.bit F.TIME_CMP_CTRL_ARMED n.val then
      let t := s.rd F.TIME_CMP_CTRL_TB n.val
      let target := BitVec.ofNat 64 (s.rd F.TIME_CMP_TARGET_TARGET n.val)
      let s := s.passBaseTo t target
      let d := ((s.tb t).now - target).toInt
      if 0 ≤ d then s.cmpFire n.val d.toNat else s
    else s)

/-- One second in units of 2⁻¹⁶ ns. -/
def secUnits : Nat := 1000000000 * nsUnit

/-- PPS_OUT_PULSE: PPS_OUT rises at the next whole second of its base (R350); until READY it is low (R458). -/
def execPpsOutPulse (s : State) : Host.Outcome State Fault Refusal :=
  done s (
    if s.bit F.TIME_CTRL_PPS_OUT_EN && s.pins.ready then
      let t := s.rd F.TIME_CTRL_PPS_OUT_TB
      let x := (s.tb t).ext
      let past := x % secUnits
      let risen := decide (0 < s.pins.ppsOut) && s.pins.ppsOutAt = s.time.cycle
      let s := if past = 0 && !risen then s else s.passCycles (s.cyclesToGain t (secUnits - past))
      { s with pins := { s.pins with ppsOut := s.pins.ppsOut + 1, ppsOutAt := s.time.cycle } }
    else s)

/-- The level of PPS_OUT: high for 1 ms from each rise (R350). -/
def State.ppsOutHigh (s : State) : Bool := decide (0 < s.pins.ppsOut) && decide (s.time.cycle - s.pins.ppsOutAt < msCycles)

/-- The level of LAY_SYNC_OUT: high for 40 ns from each rise (R351). -/
def State.laySyncOutHigh (s : State) : Bool :=
  decide (0 < s.pins.laySyncOut) && decide (2 * (s.time.cycle - s.pins.laySyncOutAt) < 40)

/-- PPS_IN_EDGE: NOW is captured within ±2 ns, an unread capture overwritten counts OVR (R350). -/
def execPpsInEdge (s : State) : Host.Outcome State Fault Refusal :=
  done s (
    if s.bit F.TIME_CTRL_PPS_IN_EN then
      let s := if s.bit F.TIME_CAP_STATUS_PPS_NEW then s.inc F.TIME_CAP_STATUS_OVR else s
      let j := s.jitter
      let ts := (s.tb (s.rd F.TIME_CTRL_PPS_IN_TB)).now + BitVec.ofInt 64 j.1
      (j.2.wr F.TIME_PPS_IN_TS_TS ts.toNat).wrB F.TIME_CAP_STATUS_PPS_NEW true
    else s)

/-- LAY_SYNC_OUT rises at a TIME cycle, once. -/
def State.laySyncRise (s : State) (c : Nat) : State :=
  if decide (0 < s.pins.laySyncOut) && s.pins.laySyncOutAt = c then s
  else { s with pins := { s.pins with laySyncOut := s.pins.laySyncOut + 1, laySyncOutAt := c } }

/-- LAY_SYNC_OUT_PULSE: at the lay instant of the epoch whose lay is in progress, or at the next grid boundary (R351). -/
def execLaySyncOutPulse (s : State) : Host.Outcome State Fault Refusal :=
  done s (
    if !s.pins.ready then s
    else if s.rd F.TIME_CTRL_LSO_MODE = 1 then
      match s.lay.cur with
      | some l =>
        if l.kind = LayKind.epoch then s.laySyncRise (s.time.cycle - (s.ext0 - l.frame * frameUnits) / (2 * nsUnit)) else s
      | none => s
    else if s.rd F.TIME_CTRL_LSO_MODE = 2 then
      let g := 2 ^ s.rd F.TIME_CTRL_LSO_K * frameUnits
      let risen := decide (0 < s.pins.laySyncOut) && s.pins.laySyncOutAt = s.time.cycle
      let s := if s.ext0 % g = 0 && !risen then s else s.passTo ((s.ext0 / g + 1) * g)
      s.laySyncRise s.time.cycle
    else s)

/-- The signed difference of an instant to the nearest instant of a grid (R351). -/
def gridPhase (x g : Nat) : Int :=
  let m := x % g
  if g < 2 * m then Int.ofNat m - Int.ofNat g else Int.ofNat m

/-- LAY_SYNC_IN_EDGE: TB0 and its phase to the grid are captured (R351). -/
def execLaySyncInEdge (s : State) : Host.Outcome State Fault Refusal :=
  done s (
    if s.bit F.TIME_CTRL_LSI_EN then
      let s := if s.bit F.TIME_CAP_STATUS_LSI_NEW then s.inc F.TIME_CAP_STATUS_OVR else s
      let s := s.wr F.TIME_LSI_TS_TS (s.tb 0).now.toNat
      let s := s.wrI F.TIME_LSI_PHASE_PHASE (gridPhase s.ext0 (2 ^ s.rd F.TIME_CTRL_LSO_K * frameUnits))
      s.wrB F.TIME_CAP_STATUS_LSI_NEW true
    else s)

/-- No command waits: the TIME domain runs one cycle (log entry 1). -/
def idleStep (s : State) : Host.Outcome State Fault Refusal := done s (s.passCycles 1)

end Sys2Proof.Machine
end

