-- ==== Sys2Proof/Machine/RegWrite.lean ====
section
/-! DEFINITION. What a register write does, block by block: the values a field ignores, and the actions of
write-only fields (the register maps of 02 to 18, and the rules they name). -/

namespace Sys2Proof.Machine

/-! ### SYS, BOOT, FLASH (18) -/

/-- `SYS_RESET`, `BOOT_LC_CTRL`, `BOOT_LC_CMD` and `FLASH_CMD`. -/
def State.wrBoot (s : State) (h : RegHit) (v : Nat) : State :=
  if h.d.base = D.SYS_RESET.base then (if v = 0x00525354 then s.warmReset 2 else s)
  else if h.d.base = D.BOOT_LC_CTRL.base then
    (s.thenIf (F.BOOT_LC_CTRL_NONCE.on v) State.lcNonce).thenIf (F.BOOT_LC_CTRL_GO.on v) (fun s =>
      s.lcGo (F.BOOT_LC_CTRL_TARGET.of v))
  else if h.d.base = D.BOOT_LC_CMD.base then
    forEach (List.range 32) (fun s k => s.wr F.BOOT_LC_CMD_KEY_SIG (F.BOOT_LC_CMD_KEY_SIG.of v k) 0 0 k) s
  else if h.d.base = D.FLASH_CMD.base then s.flashSubmit (F.FLASH_CMD_OP.of v) (F.FLASH_CMD_ADDR.of v)
  else s.wrFields h v []

/-! ### CLK, PWR, BUS (17) -/

/-- A window that R438 accepts. -/
def winOk (k base target : Nat) : Bool :=
  12 ≤ k && k ≤ 27 && base % 2 ^ k = 0 && target % 2 ^ k = 0 && decide (base + 2 ^ k ≤ 0x10000000) &&
    decide (target + 2 ^ k ≤ 0x08000000)

/-- Enables that R431 fixes. -/
def domFixed (d : Nat) : Bool := d = 0 || d = 1 || d = 6 || d = 7

/-- Blocks CLK, PWR and BUS. -/
def State.wrClk (s : State) (h : RegHit) (v : Nat) : State :=
  if h.d.base = D.CLK_QUAL.base then s.wrFields h v (skipIf (outside 16 512 (F.CLK_QUAL_TOL.of v)) F.CLK_QUAL_TOL)
  else if h.d.base = D.CLK_GATE_TO.base then
    s.wrFields h v (skipIf (decide (F.CLK_GATE_TO_CYCLES.of v < 64)) F.CLK_GATE_TO_CYCLES)
  else if h.d.base = D.CLK_DOM.base then
    let fixed := if domFixed h.i then [F.CLK_DOM_EN_RUN, F.CLK_DOM_EN_SLEEP, F.CLK_DOM_EN_DEEP] else []
    (s.wrFields h v (F.CLK_DOM_SRC :: fixed)).domSrc h.i (F.CLK_DOM_SRC.on v)
  else if h.d.base = D.PWR_CTRL.base then s.pwrRequest (F.PWR_CTRL_TARGET.of v)
  else if h.d.base = D.BUS_TIMEOUT.base then
    s.wrFields h v (skipIf (decide (F.BUS_TIMEOUT_CYCLES.of v < 256)) F.BUS_TIMEOUT_CYCLES)
  else if h.d.base = D.BUS_MASTER.base then s.thenIf (F.BUS_MASTER_RESET.on v) (fun s => s.masterReset h.i)
  else if h.d.base = D.BUS_WIN.base then
    if winOk (F.BUS_WIN_SIZE.of v) (F.BUS_WIN_BASE.of v * 4096) (F.BUS_WIN_TARGET.of v * 4096) then s.wrFields h v []
    else s.wrB F.BUS_STATUS_WIN_ERR true
  else s.wrFields h v []

/-! ### FAULT and MON (15) -/

/-- Blocks FAULT and MON: of the releases SAFE is tried first, then HOLD, then FREEZE. -/
def State.wrFault (s : State) (h : RegHit) (v : Nat) : State :=
  if h.d.base = D.FAULT_CTRL.base then s.wrFields h v (skipIf (F.FAULT_CTRL_VEC.of v = 0) F.FAULT_CTRL_VEC)
  else if h.d.base = D.FAULT_RELEASE.base then
    ((s.thenIf (F.FAULT_RELEASE_SAFE.on v) State.doReleaseSafe).thenIf (F.FAULT_RELEASE_HOLD.on v) State.doReleaseHold).thenIf
      (F.FAULT_RELEASE_FREEZE.on v) State.doReleaseFreeze
  else if h.d.base = D.FAULT_SRC_CFG.base then
    if !faultAssigned h.i then s else (s.wrFields h v []).thenIf (F.FAULT_SRC_CFG_FORCE.on v) (fun s => s.inject h.i 0)
  else if h.d.base = D.FAULT_SRC_STATUS.base then s.thenIf (F.FAULT_SRC_STATUS_ACTIVE.on v) (fun s => s.ackFault h.i)
  else if h.d.base = D.MON_SNAP.base then
    s.doMonSnap (BitVec.ofNat 32 (F.MON_SNAP_HIST.of v)) (BitVec.ofNat 16 (F.MON_SNAP_TRK.of v))
  else if h.d.base = D.MON_HOP_IN.base then s.monOffer 8 h.i (Int.ofNat (F.MON_HOP_IN_NS.of v))
  else if h.d.base = D.MON_HIST_CFG.base then s.doHistConfigWrite (Fin.ofNat 32 h.i) 0 (BitVec.ofNat 32 v)
  else if h.d.base = D.MON_HIST_WIDTH.base then s.doHistConfigWrite (Fin.ofNat 32 h.i) 1 (BitVec.ofNat 32 v)
  else if h.d.base = D.MON_HIST_LO.base then
    s.doHistLo h.i v
  else if h.d.base = D.MON_TRK_CFG.base then s.doTrackerConfigWrite (Fin.ofNat 16 h.i) (BitVec.ofNat 32 v)
  else s.wrFields h v []

/-! ### THERM, HKADC, PWM (16) -/

/-- A binary32 field of a written register. -/
def Fld.flt (f : Fld) (v : Nat) : W32 := BitVec.ofNat 32 (f.of v)

/-- Inputs disabled by a write become STALE (R398). -/
def State.hkDisable (s : State) (old new : Nat) : State :=
  let gone := (maskBits old 40).filter (fun i => !new.testBit i)
  let s := forEach gone (fun s i => s.wrB F.HKADC_RES_STALE true i) s
  { s with therm := { s.therm with
      roundMask := (maskBits s.therm.roundMask 40).foldl (fun v i => if gone.contains i then v else v + 2 ^ i) 0 } }

/-- Polarities changed: an unchanged pin level reads the other way (R414). -/
def State.tripPol (s : State) (old new : Nat) : State :=
  if old = new then s
  else
    let s := s.tripPins
    s.wr F.PWM_TRIP_STATUS_PIN (s.rd F.PWM_TRIP_STATUS_PIN ^^^ old ^^^ new)

/-- Blocks THERM, HKADC and PWM. -/
def State.wrTherm (s : State) (h : RegHit) (v : Nat) : State :=
  if h.d.base = D.THERM_THR_T.base then
    s.wrFields h v (skipIf (F32.lt (F.THERM_THR_T_T2.flt v) (F.THERM_THR_T_T1.flt v)) F.THERM_THR_T_T2)
  else if h.d.base = D.THERM_THR_CTRL.base then
    s.wrFields h v (skipIf (F.THERM_THR_CTRL_SKIP.of v = 0) F.THERM_THR_CTRL_SKIP ++
      skipIf (F.THERM_THR_CTRL_FORCE.of v = 3) F.THERM_THR_CTRL_FORCE ++
      skipIf (F.THERM_THR_CTRL_THR_N.of v = 0) F.THERM_THR_CTRL_THR_N)
  else if h.d.base = D.THERM_LIM_HYST.base then
    s.wrFields h v (skipIf (F32.lt (F.THERM_LIM_HYST_HYST.flt v) 0) F.THERM_LIM_HYST_HYST)
  else if h.d.base = D.THERM_LIM_CFG.base then
    s.wrFields h v (skipIf (F.THERM_LIM_CFG_WINDOW.of v = 0) F.THERM_LIM_CFG_WINDOW ++
      skipIf (F.THERM_LIM_CFG_N.of v = 0) F.THERM_LIM_CFG_N)
  else if h.d.base = D.HKADC_CTRL.base then
    let was := s.bit F.HKADC_CTRL_EN
    let s := s.wrFields h v (skipIf (F.HKADC_CTRL_AVG.of v = 7) F.HKADC_CTRL_AVG)
    if s.bit F.HKADC_CTRL_EN && !was then { s with therm := { s.therm with roundDue := s.time.cycle } } else s
  else if h.d.base = D.HKADC_ROUND.base then
    s.wrFields h v (skipIf (decide (F.HKADC_ROUND_US.of v < 100)) F.HKADC_ROUND_US)
  else if h.d.base = D.HKADC_EN.base then
    (s.wrFields h v []).hkDisable (s.rd F.HKADC_EN_EN) (F.HKADC_EN_EN.of v)
  else if h.d.base = D.PWM_CTRL.base then (s.wrFields h v [F.PWM_CTRL_EN]).pwmEnable h.i (F.PWM_CTRL_EN.on v)
  else if h.d.base = D.PWM_PERIOD.base then
    let bad := outside 400 400000 (F.PWM_PERIOD_PERIOD.of v)
    if bad then s else (s.wrFields h v []).lateWrite h.i
  else if h.d.base = D.PWM_DUTY.base || h.d.base = D.PWM_DT.base then (s.wrFields h v []).lateWrite h.i
  else if h.d.base = D.PWM_TRIP_CTRL.base then
    let s := (s.wrFields h v []).tripPol (s.rd F.PWM_TRIP_CTRL_POL) (F.PWM_TRIP_CTRL_POL.of v)
    s.tripLatch.thenIf (F.PWM_TRIP_CTRL_CLR.on v) (fun s => s.tripClr (F.PWM_TRIP_CTRL_CLR.of v))
  else s.wrFields h v []

/-! ### TIME (13) -/

/-- Block TIME: setting EN of a comparator arms it, clearing it disarms it (R345, R346). -/
def State.wrTime (s : State) (h : RegHit) (v : Nat) : State :=
  if h.d.base = D.TIME_CTRL.base then s.wrFields h v (skipIf (F.TIME_CTRL_LOCK_MS.of v = 0) F.TIME_CTRL_LOCK_MS)
  else if h.d.base = D.TIME_INC.base then s.setInc h.i (F.TIME_INC_INC.of v)
  else if h.d.base = D.TIME_ADJ.base then s.adjust h.i (BitVec.ofNat 64 v).toInt
  else if h.d.base = D.TIME_LOCK.base then
    s.setLock h.i (if F.TIME_LOCK_ASSERT.on v then s.rd F.TIME_CTRL_LOCK_MS * msCycles else 0)
  else if h.d.base = D.TIME_CMP_TARGET.base then s.doCmpArm (Fin.ofNat 16 h.i) (some (BitVec.ofNat 64 v))
  else if h.d.base = D.TIME_CMP_PERIOD.base then
    s.wrFields h v (skipIf (decide (2 ^ 63 ≤ F.TIME_CMP_PERIOD_PERIOD.of v)) F.TIME_CMP_PERIOD_PERIOD)
  else if h.d.base = D.TIME_CMP_CTRL.base then
    let was := s.bit F.TIME_CMP_CTRL_EN h.i
    let s := s.wrFields h v [F.TIME_CMP_CTRL_EN]
    if !F.TIME_CMP_CTRL_EN.on v then s.doCmpDisarm (Fin.ofNat 16 h.i)
    else if was then s else s.doCmpArm (Fin.ofNat 16 h.i) none
  else s.wrFields h v []

/-! ### SEQ and the ledger (02, 11) -/

/-- A `SEQ_HCMD` submission (02). -/
def State.hostCommand (s : State) (v : Nat) : State :=
  let c : HostCmd := { epoch := BitVec.ofNat 32 (F.SEQ_HCMD_EPOCH.of v), seqnum := BitVec.ofNat 32 (F.SEQ_HCMD_SEQNUM.of v)
                       input := BitVec.ofNat 16 (F.SEQ_HCMD_INPUT.of v), output := BitVec.ofNat 16 (F.SEQ_HCMD_OUTPUT.of v) }
  match F.SEQ_HCMD_OP.of v with
  | 0 => s.hostFile .unpin c
  | 1 => s.hostFile .disc c
  | 2 => s.hostFile .conn c
  | 3 => s.hostFile .pin c
  | 8 => s.doHcmdOpenEpoch c.epoch c.seqnum
  | 9 => s.doHcmdAbortEpoch c.epoch
  | _ => (s.wr F.SEQ_HCMD_RESULT_HANDLE 0).wr F.SEQ_HCMD_RESULT_STATUS 0

/-- Block SEQ. -/
def State.wrSeq (s : State) (h : RegHit) (v : Nat) : State :=
  if h.d.base = D.SEQ_CTRL.base then
    let s := (s.wrFields h v [F.SEQ_CTRL_SQ_EN]).sqEnable (F.SEQ_CTRL_SQ_EN.of v)
    let s := forEach (maskBits (F.SEQ_CTRL_SQ_STOP.of v) 8) State.sqStop s
    forEach (maskBits (F.SEQ_CTRL_TRAP_CLR.of v) 8) State.trapClear s
  else if h.d.base = D.SEQ_SEAL_LEAD.base then
    s.wrFields h v (skipIf (outside 16 250 (F.SEQ_SEAL_LEAD_FRAMES.of v)) F.SEQ_SEAL_LEAD_FRAMES)
  else if h.d.base = D.SEQ_DOORBELL.base then s.fireHook 26 (BitVec.ofNat 32 v)
  else if h.d.base = D.SEQ_HOOK.base then s.wrFields h v (skipIf (h.i = 0) F.SEQ_HOOK_EN)
  else if h.d.base = D.SEQ_HCMD.base then s.hostCommand v
  else if h.d.base = D.SEQ_NET_CFG.base then s.wrFields h v (skipIf (F.SEQ_NET_CFG_HOPS.of v = 0) F.SEQ_NET_CFG_HOPS)
  else if h.d.base = D.SEQ_NET_ID.base then
    s.wrFields h v (skipIf (F.SEQ_NET_ID_ID.of v = 0 || F.SEQ_NET_ID_ID.of v = 0xFFFF) F.SEQ_NET_ID_ID)
  else if h.d.base = D.SEQ_NET_RETRY.base then s.wrFields h v (skipIf (F.SEQ_NET_RETRY_US.of v = 0) F.SEQ_NET_RETRY_US)
  else if h.d.base = D.SEQ_NET_OPEN.base then
    s.netOpen { epoch := BitVec.ofNat 32 (F.SEQ_NET_OPEN_EPOCH.of v), layFrame := BitVec.ofNat 32 (F.SEQ_NET_OPEN_LAY_FRAME.of v)
                win := BitVec.ofNat 8 (F.SEQ_NET_OPEN_WIN.of v), tree := BitVec.ofNat 2 (F.SEQ_NET_OPEN_TREE.of v)
                sNet := BitVec.ofNat 3 (F.SEQ_NET_OPEN_S_NET.of v) }
  else s.wrFields h v []

/-! ### SOLVE and LAY (04, 05) -/

/-- Blocks SOLVE and LAY. -/
def State.wrSolve (s : State) (h : RegHit) (v : Nat) : State :=
  if h.d.base = D.SOLVE_CTRL.base then (s.wrFields h v []).thenIf (F.SOLVE_CTRL_FOLD.on v) State.doWearFold
  else if h.d.base = D.SOLVE_DMAP_CMD.base then
    match F.SOLVE_DMAP_CMD_OP.of v with
    | 1 => s.dmapAdd (BitVec.ofNat 32 (F.SOLVE_DMAP_CMD_ENTRY.of v))
    | 2 => s.dmapRemove (BitVec.ofNat 32 (F.SOLVE_DMAP_CMD_ENTRY.of v))
    | _ => s.wr F.SOLVE_DMAP_RESULT_RESULT 0
  else if h.d.base = D.LAY_CTRL.base then ((s.wrFields h v []).noteLayEn (s.bit F.LAY_CTRL_EN)).thenIf (F.LAY_CTRL_FLUSH.on v)
    State.flushLays
  else if h.d.base = D.LAY_TIMING.base then
    s.wrFields h v (skipIf (outside 2 16 (F.LAY_TIMING_MARGIN.of v)) F.LAY_TIMING_MARGIN ++
      skipIf (outside 2 10 (F.LAY_TIMING_TIMEOUT.of v)) F.LAY_TIMING_TIMEOUT)
  else if h.d.base = D.LAY_SETTLE.base then
    s.wrFields h v (skipIf (outside 1 8 (F.LAY_SETTLE_COUNT.of v)) F.LAY_SETTLE_COUNT)
  else if h.d.base = D.LAY_REOPEN.base then s.doLayReopen (BitVec.ofNat 10 (F.LAY_REOPEN_OUTPUT.of v))
  else s.wrFields h v []

/-! ### LOOP and DRIVE (06, 07) -/

/-- Sources and targets of auxiliary loops that R199 accepts: 0 none, 1 an index of the first range, 2 of the
second, 3 of the third. -/
def auxKindOk (kind index n1 n2 n3 : Nat) : Bool :=
  match kind with
  | 0 => true
  | 1 => decide (index < n1)
  | 2 => decide (index < n2)
  | 3 => decide (index < n3)
  | _ => false

/-- The level a channel's negative polarity is held at until its next entry to rest (R228). -/
def State.setPol (s : State) (ch : Nat) (new : Bool) : State :=
  let cur := s.polOf ch
  let l := adel s.drive.polInForce ch
  let s := { s with drive := { s.drive with polInForce := if cur = new then l else (ch, cur) :: l } }
  let w := s.rd F.DRIVE_POL_POL (ch / 32)
  let b := ch % 32
  (s.wr F.DRIVE_POL_POL (w - boolNat (w.testBit b) * 2 ^ b + boolNat new * 2 ^ b) (ch / 32)).setDCtrl ch 6 1 (boolNat new)

/-- Block LOOP. -/
def State.wrLoop (s : State) (h : RegHit) (v : Nat) : State :=
  if h.d.base = D.LOOP_CTRL.base then
    (s.wrFields h v (F.LOOP_CTRL_EN :: (skipIf (outside 4 9 (F.LOOP_CTRL_HOLD_K.of v)) F.LOOP_CTRL_HOLD_K ++
      skipIf (F.LOOP_CTRL_QUIET.of v = 0) F.LOOP_CTRL_QUIET))).doLoopEnable (F.LOOP_CTRL_EN.on v)
  else if h.d.base = D.LOOP_ERR_HI.base then
    s.wrFields h v (skipIf (F32.lt (F.LOOP_ERR_HI_E_HI.flt v) (s.rdW F.LOOP_ERR_LO_E_LO)) F.LOOP_ERR_HI_E_HI)
  else if h.d.base = D.LOOP_ERR_LO.base then
    s.wrFields h v (skipIf (F32.lt (s.rdW F.LOOP_ERR_HI_E_HI) (F.LOOP_ERR_LO_E_LO.flt v)) F.LOOP_ERR_LO_E_LO)
  else if h.d.base = D.LOOP_STRESS.base then
    let x := F.LOOP_STRESS_V.flt v
    match s.strand.desc with
    | some d => s.wr F.LOOP_STRESS_V (if F32.lt d.armStress x then d.armStress else x).toNat
    | none => s.wr F.LOOP_STRESS_V x.toNat
  else if h.d.base = D.LOOP_CORE_RETIRE.base then s.markRetire (F.LOOP_CORE_RETIRE_CORE.of v)
  else if h.d.base = D.LOOP_CAP_STOP.base then s.doLoopCapStop (BitVec.ofNat 48 (F.LOOP_CAP_STOP_STOP.of v))
  else if h.d.base = D.LOOP_AUX_SRC.base then
    if auxKindOk (F.LOOP_AUX_SRC_KIND.of v) (F.LOOP_AUX_SRC_INDEX.of v) 40 66560 262144 then s.wrFields h v [] else s
  else if h.d.base = D.LOOP_AUX_OUT.base then
    if auxKindOk (F.LOOP_AUX_OUT_KIND.of v) (F.LOOP_AUX_OUT_INDEX.of v) 4 262144 8 then s.wrFields h v [] else s
  else if h.d.base = D.LOOP_AUX_CFG.base then
    let s := s.wrFields h v (F.LOOP_AUX_CFG_EN :: skipIf (outside 4 15 (F.LOOP_AUX_CFG_K.of v)) F.LOOP_AUX_CFG_K)
    if F.LOOP_AUX_CFG_EN.on v then s.doAuxLoopEnable (Fin.ofNat 64 h.i) else s.wrB F.LOOP_AUX_CFG_EN false h.i
  else if h.d.base = D.LOOP_AUX_PAR.base then
    if h.j = 2 || (4 ≤ h.j && h.j ≤ 7) then s else s.lsetAux h.i h.j (BitVec.ofNat 32 v)
  else s.wrFields h v []

/-- Block DRIVE. -/
def State.wrDrive (s : State) (h : RegHit) (v : Nat) : State :=
  if h.d.base = D.DRIVE_RATE_DEF.base then
    let x := F.DRIVE_RATE_DEF_RATE.flt v
    s.wrFields h v (skipIf (!F32.finite x || F32.lt x 0x37800000 || F32.lt 0x40800000 x) F.DRIVE_RATE_DEF_RATE)
  else if h.d.base = D.DRIVE_DEGLITCH.base then
    s.wrFields h v (skipIf (outside 1 57344 (F.DRIVE_DEGLITCH_MAJOR.of v)) F.DRIVE_DEGLITCH_MAJOR ++
      skipIf (outside 1 4 (F.DRIVE_DEGLITCH_HOLD.of v)) F.DRIVE_DEGLITCH_HOLD)
  else if h.d.base = D.DRIVE_STROBE.base then s.doDriveStrobeFire (BitVec.ofNat 16 v)
  else if h.d.base = D.DRIVE_POL.base then
    forEach (List.range 32) (fun s b => s.setPol (32 * h.i + b) (v.testBit b)) s
  else s.wrFields h v []

/-! ### SENSE and CAL (08, 09) -/

/-- Blocks SENSE and CAL. -/
def State.wrSense (s : State) (h : RegHit) (v : Nat) : State :=
  if h.d.base = D.SENSE_CTRL.base then
    s.wrFields h v (skipIf (outside 8 31 (F.SENSE_CTRL_OVR_RUN.of v)) F.SENSE_CTRL_OVR_RUN ++
      skipIf (F.SENSE_CTRL_OVR_LEVEL.of v = 0) F.SENSE_CTRL_OVR_LEVEL)
  else if h.d.base = D.SENSE_REF_MIN.base then
    let x := F.SENSE_REF_MIN_V.flt v
    s.wrFields h v (skipIf (!F32.finite x || F32.lt x 0) F.SENSE_REF_MIN_V)
  else if h.d.base = D.SENSE_VFY_DARK.base then
    s.wrFields h v (skipIf (!F32.finite (F.SENSE_VFY_DARK_V.flt v)) F.SENSE_VFY_DARK_V)
  else if h.d.base = D.SENSE_VFY_REQ.base then s.thenIf (F.SENSE_VFY_REQ_GO.on v) State.doSenseVfyReq
  else if h.d.base = D.CAL_CTRL.base then
    (s.wrFields h v (skipIf (outside 1 16 (F.CAL_CTRL_PAR.of v)) F.CAL_CTRL_PAR)).thenIf (F.CAL_CTRL_ABORT.on v)
      State.calAbortAll
  else if h.d.base = D.CAL_BLEND.base then s.wrFields h v (skipIf (F.CAL_BLEND_N.of v = 0) F.CAL_BLEND_N)
  else if h.d.base = D.CAL_REQ.base then s.calSubmit (F.CAL_REQ_OBJECT.of v) (F.CAL_REQ_KIND.on v)
  else s.wrFields h v []

/-! ### STRAND (10) -/

/-- Block STRAND: START, PORT_REQ, PORT_REL, STREAM and STOP of one write act in that order (R288). -/
def State.wrStrand (s : State) (h : RegHit) (v : Nat) : State :=
  if h.d.base = D.STRAND_CTRL.base then
    let s := (s.wrFields h v []).thenIf (F.STRAND_CTRL_START.on v) State.doStrandStart
    let s := (s.thenIf (F.STRAND_CTRL_PORT_REQ.on v) (fun s => s.portCmd true)).thenIf (F.STRAND_CTRL_PORT_REL.on v) (fun s =>
      s.portCmd false)
    (s.thenIf (F.STRAND_CTRL_STREAM.on v) State.doStrandStream).thenIf (F.STRAND_CTRL_STOP.on v) State.streamOff
  else if h.d.base = D.STRAND_LANE_TEST.base then
    s.doStrandLaneTest (BitVec.ofNat 7 (F.STRAND_LANE_TEST_LANE.of v))
  else if h.d.base = D.STRAND_ID_CMD.base then
    let w := F.STRAND_ID_CMD_WADDR.of v
    if F.STRAND_ID_CMD_WRITE.on v then s.idSubmit (idAccess true w (BitVec.ofNat 32 (F.STRAND_ID_CMD_DATA.of v)))
    else s.idSubmit (idAccess false w 0)
  else s.wrFields h v []

/-! ### BRAID, SWITCH, SCHED (12) -/

/-- Ports and groups a table may name. -/
def portOrGroup (top p : Nat) : Bool := decide (p ≤ top) || (24 ≤ p && p ≤ 27)

/-- A refused table write. -/
def State.badPort (s : State) : State := s.wrB F.SWITCH_TBL_STATUS_BADPORT true

/-- An accepted write to a versioned table's entry (R323). -/
def State.wrEntry (s : State) (h : RegHit) (v : Nat) (ver : Fld) : State :=
  (s.wrFields h v []).wr ver (s.rd ver h.i + 1) h.i

/-- A write to a group (R327): enabling it, or changing an enabled group's members, deals its buckets. -/
def State.wrLag (s : State) (h : RegHit) (v : Nat) : State :=
  let g := h.i
  let ms := maskBits (F.SWITCH_LAG_MEMBERS.of v) 16
  let en := F.SWITCH_LAG_EN.on v
  let taken := (List.range 4).any (fun k => k ≠ g && s.bit F.SWITCH_LAG_EN k && ms.any (s.lagMembers k).contains)
  if ms.length = 1 || 4 < ms.length || taken || (en && ms.isEmpty) then s.badPort
  else
    let deal := en && (!s.bit F.SWITCH_LAG_EN g || s.rd F.SWITCH_LAG_MEMBERS g ≠ F.SWITCH_LAG_MEMBERS.of v)
    let s := (s.wrEntry h v F.SWITCH_LAG_VERSION).thenIf deal (fun s => (s.lagDeal g).lagHeal g)
    s.thenIf (F.SWITCH_LAG_REJOIN.on v) (fun s => s.doLagRejoin (Fin.ofNat 4 g))

/-- A write to a route entry (R322, R323). -/
def State.wrRoute (s : State) (h : RegHit) (v : Nat) : State :=
  let dev := F.SWITCH_ROUTE_DEVICE.of v
  let own := s.rd F.SEQ_NET_ID_ID
  let held := (List.range 4096).any (fun k => k ≠ h.i && s.bit F.SWITCH_ROUTE_VALID k && s.rd F.SWITCH_ROUTE_DEVICE k = dev)
  if !portOrGroup 15 (F.SWITCH_ROUTE_PORT.of v) then s.badPort
  else if held || (own ≠ 0 && dev = own) then s.wrB F.SWITCH_TBL_STATUS_DUP true
  else s.wrEntry h v F.SWITCH_ROUTE_VERSION

/-- Blocks BRAID and SWITCH. -/
def State.wrSwitch (s : State) (h : RegHit) (v : Nat) : State :=
  if h.d.base = D.BRAID_CTRL.base then
    let old := s.bit F.BRAID_CTRL_SPEED h.i
    let new := old != F.BRAID_CTRL_SPEED.on v
    let s := s.thenIf new (fun s => forEach (List.range 8) (fun s c => s.creditSync h.i c) s)
    (s.wrFields h v []).thenIf new (fun s => s.linkDown h.i)
  else if h.d.base = D.SWITCH_PCP_MAP.base then
    forEach (List.range 8) (fun s k =>
      let c := F.SWITCH_PCP_MAP_CLASS.of v k
      if 4 < c then s else s.wr F.SWITCH_PCP_MAP_CLASS c 0 0 k) s
  else if h.d.base = D.SWITCH_BUF.base then
    s.wrFields h v (skipIf (decide (512 < F.SWITCH_BUF_RESV.of v)) F.SWITCH_BUF_RESV)
  else if h.d.base = D.SWITCH_HOST_TX.base then s.hostSubmit (v % 2 ^ 32)
  else if h.d.base = D.SWITCH_HOST_CFG.base then
    (s.wrFields h v (skipIf (F.SWITCH_HOST_CFG_VEC.of v = 0) F.SWITCH_HOST_CFG_VEC)).thenIf (F.SWITCH_HOST_CFG_POP.on v)
      State.doHostRxPop
  else if h.d.base = D.SWITCH_PORT_CFG.base then
    s.wrFields h v (skipIf (decide (4 < F.SWITCH_PORT_CFG_DEF_CLASS.of v)) F.SWITCH_PORT_CFG_DEF_CLASS)
  else if h.d.base = D.SWITCH_LAG.base then s.wrLag h v
  else if h.d.base = D.SWITCH_MAC.base then
    if portOrGroup 18 (F.SWITCH_MAC_PORT.of v) then s.wrEntry h v F.SWITCH_MAC_VERSION else s.badPort
  else if h.d.base = D.SWITCH_MCAST.base then
    if 16 < popcount (F.SWITCH_MCAST_PORTS.of v) 19 then s.wrB F.SWITCH_TBL_STATUS_WIDE true
    else s.wrEntry h v F.SWITCH_MCAST_VERSION
  else if h.d.base = D.SWITCH_ROUTE.base then s.wrRoute h v
  else s.wrFields h v []

/-- Block SCHED: a queue's credit stands as it is when its shaper is changed, and its settings hold until the next transmission
decision (R334, R337). -/
def State.wrSched (s : State) (h : RegHit) (v : Nat) : State :=
  if h.d.base = D.SCHED_QCFG.base then
    (s.holdShaper h.i h.j).wrFields h v (skipIf (outside 1 16384 (F.SCHED_QCFG_LIMIT.of v)) F.SCHED_QCFG_LIMIT)
  else if h.d.base = D.SCHED_SHAPE.base then
    let r := F.SCHED_SHAPE_RATE.of v
    let s := (s.holdShaper h.i h.j).wrFields h v [F.SCHED_SHAPE_RATE]
    if r = 0 then s else s.wr F.SCHED_SHAPE_RATE (Nat.min r (s.portRate h.i)) h.i h.j
  else if h.d.base = D.SCHED_OBS_CFG.base then
    s.wrFields h v (skipIf (F.SCHED_OBS_CFG_INTERVAL.of v = 0) F.SCHED_OBS_CFG_INTERVAL)
  else if h.d.base = D.SCHED_GATE_CTRL.base then
    (s.wrFields h v []).thenIf (F.SCHED_GATE_CTRL_COMMIT.on v) (fun s => s.gateCommit h.i)
  else s.wrFields h v []

/-! ### REDUND (14) -/

/-- EN of a pair written: a unit leaves the pair as ALONE; one that joins takes the role its link's state
gives it (R352; log entry 18). -/
def State.pairEnable (s : State) (was : Bool) : State :=
  if s.bit F.REDUND_CTRL_EN then
    if was then s
    else if s.rd F.STRAND_STATUS_STATE = 5 then s.nowActive
    else if s.rd F.STRAND_STATUS_STATE = 4 then (s.setRole 3).portCmd true
    else s
  else if was then s.setRole 0 else s

/-- Block REDUND. -/
def State.wrRedund (s : State) (h : RegHit) (v : Nat) : State :=
  if h.d.base = D.REDUND_CTRL.base then
    let s := (s.wrFields h v []).pairEnable (s.bit F.REDUND_CTRL_EN)
    let s := s.thenIf (F.REDUND_CTRL_SURRENDER.on v) State.surrender
    (s.thenIf (F.REDUND_CTRL_TAKEBACK.on v) State.doRedundTakeback).thenIf (F.REDUND_CTRL_RESTORE.on v) State.doRedundRestore
  else if h.d.base = D.REDUND_CFG.base then
    s.wrFields h v (skipIf (F.REDUND_CFG_HOLDOFF_S.of v = 0) F.REDUND_CFG_HOLDOFF_S ++
      skipIf (outside 1 50 (F.REDUND_CFG_WDOG_MS.of v)) F.REDUND_CFG_WDOG_MS)
  else if h.d.base = D.REDUND_WDOG.base then s.doRedundWdog
  else s.wrFields h v []

/-! ### A register written -/

/-- The whole register written with `v`. -/
def State.regWrite (s : State) (h : RegHit) (v : Nat) : State :=
  match h.d.base / 65536 with
  | 0x100 | 0x101 | 0x118 => s.wrBoot h v
  | 0x102 | 0x103 | 0x104 => s.wrClk h v
  | 0x105 | 0x106 => s.wrFault h v
  | 0x107 | 0x108 | 0x109 => s.wrTherm h v
  | 0x10A => s.wrTime h v
  | 0x10B => s.wrSeq h v
  | 0x10C | 0x10D => s.wrSolve h v
  | 0x10E => s.wrLoop h v
  | 0x10F => s.wrDrive h v
  | 0x110 | 0x111 => s.wrSense h v
  | 0x112 => s.wrStrand h v
  | 0x113 | 0x114 => s.wrSwitch h v
  | 0x115 => s.wrSched h v
  | 0x116 => s.wrRedund h v
  | _ => s

/-- A 32-bit write of a register word by a master (R13): a lower word of a wide register is held. -/
def State.writeWord (s : State) (m : Nat) (h : RegHit) (v : W32) : State :=
  if h.w < h.last then { s with bus := s.bus.place m h.addr h.w v }
  else s.regWrite h (s.heldValue m h v)

end Sys2Proof.Machine
end

