-- ==== Sys2Proof/Machine/Bus.lean ====
section
/-! DEFINITION. The bus matrix (R7 to R13, R434 to R439): windows, targets and their domains, accesses to the
memories and the register blocks, and the rows that are one access of a master. -/

namespace Sys2Proof.Machine

/-! ### Where an access goes (R7 to R9, R425, R438, R451) -/

/-- A window of a master: whether it covers an address, and the internal address it gives. -/
def State.window (s : State) (m w addr : Nat) : Option Nat :=
  let base := s.rd F.BUS_WIN_BASE m w * 4096
  if s.bit F.BUS_WIN_EN m w && base ≤ addr && decide (addr < base + 2 ^ s.rd F.BUS_WIN_SIZE m w) then
    some (s.rd F.BUS_WIN_TARGET m w * 4096 + (addr - base))
  else none

/-- The internal address of a master's address; none for one that only the default target answers (R438). -/
def State.internal (s : State) (m addr : Nat) : Option Nat :=
  match (List.range 8).findSome? (fun w => s.window m w addr) with
  | some a => some a
  | none => if addr < 0x08000000 then some addr else none

/-- The clock domain of a memory (R425). -/
def memDomain : MemKind → Nat
  | .instr | .data => 4
  | .cell => 2
  | .weave => 3
  | .frames => 9
  | _ => 1

/-- The clock domain of the register block at an address (R425). -/
def blockDomain (a : Nat) : Nat :=
  match a / 65536 with
  | 0x107 | 0x108 => 7
  | 0x109 => 6
  | 0x10A => 5
  | 0x10C => 3
  | 0x10E => 2
  | 0x112 => 8
  | 0x113 | 0x114 | 0x115 => 9
  | _ => 1

/-- Until READY the host reaches SYS, BOOT and FLASH alone (R446, R451). -/
def State.hostBlocked (s : State) (m a : Nat) : Bool :=
  m = 0 && !s.pins.ready && !(a / 65536 = 0x100 || a / 65536 = 0x101 || a / 65536 = 0x118)

/-- A target: a memory, a register block, or the default target. -/
inductive Target where
  | memory (k : MemKind)
  | block
  | none
  deriving DecidableEq, Repr

/-- The target at an internal address for a master. -/
def State.target (s : State) (m a : Nat) : Target :=
  if s.hostBlocked m a then .none
  else match memKind a with
    | some k => .memory k
    | none => if inRegBlocks a then .block else .none

/-! ### Memories (R11, R12, R74, R228, R245, R251) -/

/-- The cell record written: the calibration area only in PARK or RETIRED, a new DITHER_ROW by its own rule
(R182, R206, R251). -/
def State.cellWrite (s : State) (a n v : Nat) : State :=
  let c := (a - 0x02000000) / 256
  let off := a % 256
  if 0x40 ≤ off && off < 0xC8 && s.inService c then s
  else
    let t := (s.st a n v).setCw c 0xB8 (s.cw c 0xB8)
    if off < 4 then (t.setCCtrl c 8 6 (s.cCtrl c 8 6)).setRow c (t.cCtrl c 8 6) else t

/-- RATE as a program write leaves it: clamped where it is finite (R228). -/
def rateClamp (x : W32) : W32 := if F32.lt x 0x37800000 then 0x37800000 else if F32.lt 0x40800000 x then 0x40800000 else x

/-- The drive record written: GROUP, POL and RATE, and the modulator's state, which the next computation
tests; every other field is the controller's (R214, R216, R228). -/
def State.driveWrite (s : State) (a n v : Nat) : State :=
  let ch := (a - 0x03000000) / 32
  let u := s
  let t := s.st a n v
  let g := t.dCtrl ch 2 4
  let s := if g = 1 then s else s.setDCtrl ch 2 4 g
  let pol := decide (t.dCtrl ch 6 1 = 1)
  let s := if pol = decide (s.dCtrl ch 6 1 = 1) then s else s.setPol ch pol
  let s := if t.dw ch 8 = s.dw ch 8 then s else s.setDw ch 8 (rateClamp (t.dw ch 8))
  let bad := t.modBad ch
  let s := if bad then s.driveFault ch 3 else s
  let s := s.keepWrite u ch
  if s.dCtrl ch 8 1 = 1 then s
  else if bad then s.reseed ch
  else (s.setDw ch 0x16 (t.dw ch 0x16)).st (driveRec ch + 0x1B) 1 (t.ld (driveRec ch + 0x1B) 1)

/-- The sense record written: OFS and GAIN under R237; values and flags of samples stand until the next one, and what the
controller holds in CTRL beside them stays (R245, log entry 31). -/
def State.senseWrite (s : State) (a n v : Nat) : State :=
  let ch := (a - 0x03200000) / 32
  let t := s.st a n v
  let u := if t.sw' ch 4 = s.sw' ch 4 && t.sw' ch 8 = s.sw' ch 8 then s else s.setCorr ch (t.sw' ch 4) (t.sw' ch 8)
  let u := forEach [0x0C, 0x10, 0x14, 0x18, 0x1C] (fun u off => u.setSw ch off (t.sw' ch off)) u
  u.setSCtrl ch 6 4 (t.sCtrl ch 6 4)

/-- A copy of the connection ledger written with bytes it did not hold: its CRC fails (R80). -/
def State.ledgerWrite (s : State) (a n v : Nat) : State :=
  let b := decide (0x04840000 ≤ a)
  let c := if b then s.ledger.copyB else s.ledger.copyA
  if (List.range n).all (fun i => (Config.ledgerByte c ((a + i) % 0x40000)).toNat = v / 256 ^ i % 256) then s else s.copyFails b

/-- Bytes put among those written to the frame buffer or to checkpoint staging. -/
def bufPut (l : List (Nat × Byte)) (a : Nat) : List Byte → List (Nat × Byte)
  | [] => l
  | b :: bs => bufPut (aset l a b) (a + 1) bs

/-- A byte of the frame buffer: what was last written there, else 0 until a frame has entered it, else a free value of
the frames entered so far, for where in it frames lie is not stated (R7, R448; log entry 7). -/
def State.bufByte (s : State) (a : Nat) : Byte :=
  (alist s.sw.bufBytes a).getD (if s.sw.nextId = 0 then 0 else Config.frameByte s.sw.nextId a)

/-- A memory written. -/
def State.memWrite (s : State) (k : MemKind) (a n v : Nat) : State :=
  match k with
  | .instr | .data | .weave => s.st a n v
  | .frames => { s with sw := { s.sw with bufBytes := bufPut s.sw.bufBytes a (natBytes n v) } }
  | .hist => ({ s with mon := { s.mon with invalid := s.mon.invalid.filter (fun w => !(a < w + 4 && w < a + n)) } } : State).st a n v
  | .cell => s.cellWrite a n v
  | .drive => s.driveWrite a n v
  | .sense => s.senseWrite a n v
  | .ledger => s.ledgerWrite a n v
  | .staging => { s with redund := { s.redund with staged := bufPut s.redund.staged (a - 0x07000000) (natBytes n v) } }

/-- A memory read: the value and the state after it. -/
def State.memRead (s : State) (k : MemKind) (a n : Nat) : Nat × State :=
  match k with
  | .ledger =>
    let c := if 0x04840000 ≤ a then s.ledger.copyB else s.ledger.copyA
    (bytesNat ((List.range n).map (fun i => Config.ledgerByte c ((a + i) % 0x40000))), s)
  | .frames => (bytesNat ((List.range n).map (fun i => s.bufByte (a + i))), s)
  | .staging =>
    (bytesFrom s.stagedByte (a - 0x07000000) n, s)
  | .sense =>
    let v := s.ld a n
    (if a % 32 = 0 then v / 256 * 256 + s.senseCtrl0 ((a - 0x03200000) / 32) % 256 else v, s)
  | _ => (s.ld a n, s)

/-! ### Register blocks (R10, R11, R13, R339) -/

/-- The host's transmit and receive windows. -/
def inTxBuf (a : Nat) : Bool := decide (0x01146000 ≤ a) && decide (a < 0x01146600)
/-- See `inTxBuf`. -/
def inRxBuf (a : Nat) : Bool := decide (0x01147000 ≤ a) && decide (a < 0x01147600)

/-- One word of the receive window: the head frame's bytes, free values beyond them. -/
def State.rxWord (s : State) (a : Nat) : W32 × State :=
  let l := ((s.sw.hostRx.head?).map (fun (r : HostRx) => r.bytes)).getD []
  let o := a - 0x01147000
  let d := s.draw
  let byte (i : Nat) : Byte := (l[o + i]?).getD (BitVec.ofNat 8 (d.1.toNat / 256 ^ i))
  (BitVec.ofNat 32 (bytesNat ((List.range 4).map byte)), if o + 4 ≤ l.length then s else d.2)

/-- A 32-bit read of the register blocks. -/
def State.wordRead (s : State) (m a : Nat) : W32 × State :=
  if inRxBuf a then s.rxWord a
  else match regAt a with
    | some h => s.readWord m h
    | none => (0, s)

/-- A 32-bit write of the register blocks. -/
def State.wordWrite (s : State) (m a : Nat) (v : W32) : State :=
  if inTxBuf a then { s with sw := { s.sw with txBuf := memPut s.sw.txBuf a 4 v.toNat } }
  else match regAt a with
    | some h => s.writeWord m h v
    | none => s

/-- An access to the register blocks: 64 bits as two words, the lower first. -/
def State.blockRead (s : State) (m a n : Nat) : Nat × State :=
  let lo := s.wordRead m a
  if n = 4 then (lo.1.toNat, lo.2)
  else
    let hi := lo.2.wordRead m (a + 4)
    (lo.1.toNat + hi.1.toNat * 2 ^ 32, hi.2)

/-- See `blockRead`. -/
def State.blockWrite (s : State) (m a n v : Nat) : State :=
  let s := s.wordWrite m a (BitVec.ofNat 32 v)
  if n = 4 then s else s.wordWrite m (a + 4) (BitVec.ofNat 32 (v / 2 ^ 32))

/-! ### Accesses (R9, R11, R428, R437) -/

/-- An access of a size a target does not take: an error response, with no effect (R11). -/
def State.badAccess (s : State) (m : Nat) (write : Bool) : State × Option Nat :=
  ((s.inc F.BUS_MASTER_ERRORS 1 m).errResponse m write, none)

/-- A completed read. -/
def answer (m : Nat) (r : Nat × State) : State × Option Nat := (r.2.respond m true (BitVec.ofNat 64 r.1), some r.1)

/-- A size and alignment that a target takes. -/
def sizeOk (sizes : List Nat) (a n : Nat) : Bool := sizes.contains n && a % n = 0

/-- A burst: 1 to 32 beats of 8 bytes, of which one beat is an access of 8 bytes (R436). -/
def isBurst (n : Nat) : Bool := decide (8 < n) && decide (n ≤ 256) && n % 8 = 0

/-- A burst to a register block: an error response on every beat, one bus error (R436, R437). -/
def State.burstError (s : State) (m a n : Nat) (write : Bool) : State :=
  (s.inc F.BUS_MASTER_ERRORS (n / 8 - 1) m).busError m 2 a write

/-- One access of a master: the state after it and, unless the response is an error, what it answers. -/
def State.access (s : State) (m addr n : Nat) (write : Bool) (v : Nat) : State × Option Nat :=
  match s.internal m addr with
  | none => (s.busError m 0 addr write, none)
  | some a =>
    match s.target m a with
    | .none => (s.busError m 0 a write, none)
    | .memory k =>
      if !s.domOpen (memDomain k) then (s.busError m 1 a write, none)
      else if !sizeOk [1, 2, 4, 8] a n then s.badAccess m write
      else if write then ((s.respond m true 0).memWrite k a n v, some 0)
      else answer m (s.memRead k a n)
    | .block =>
      if !s.domOpen (blockDomain a) then (s.busError m 1 a write, none)
      else if isBurst n then (s.burstError m a n write, none)
      else if !sizeOk [4, 8] a n then s.badAccess m write
      else if write then ((s.respond m true 0).blockWrite m a n v, some 0)
      else answer m (s.blockRead m a n)

/-- The beats of a burst to a memory, each an access of 8 bytes by itself: the state after them and what they answer (R436). -/
def State.burstBeats (s : State) (m addr : Nat) (write : Bool) : List W64 → State × List W64
  | [] => (s, [])
  | v :: vs =>
    let r := s.access m addr 8 write v.toNat
    let t := r.1.burstBeats m (addr + 8) write vs
    (t.1, BitVec.ofNat 64 (r.2.getD 0) :: t.2)

/-- An access to an address: a burst is accepted by a memory alone (R436). -/
def State.memAccess (s : State) (a : MemAccess) : State :=
  let one := (s.access a.m.val a.addr.toNat a.size a.write a.data.toNat).1
  let mem := match s.internal a.m.val a.addr.toNat with
    | some i => i % 8 = 0 && (memKind i).isSome && s.target a.m.val i ≠ .block && s.target a.m.val i ≠ .none
    | none => false
  if isBurst a.size && mem then
    let r := s.burstBeats a.m.val a.addr.toNat a.write ((List.range (a.size / 8)).map (fun k => (a.data :: a.more).getD k 0))
    match alist r.1.bus.resp a.m.val with
    | some x => if x.ok && !a.write then
        { r.1 with bus := { r.1.bus with resp := aset r.1.bus.resp a.m.val { x with data := r.2.headD 0, more := r.2.tail } } }
      else r.1
    | none => r.1
  else one

/-- A master may issue an access: it is not in reset, and the debug port allows it (R439, R452). -/
def State.mayIssue (s : State) (m : Nat) (write : Bool) : Bool :=
  !s.bus.inReset.contains m &&
    (m ≠ 13 || s.boot.fuses.lc ≤ 1 || (s.boot.fuses.lc = 3 && !write))

/-- REGISTER_WRITE: an access to a register block (R11, R13, R14). -/
def execRegisterWrite (a : RegAccess) (s : State) : Host.Outcome State Fault Refusal :=
  done s (if s.mayIssue a.m.val a.write then (s.access a.m.val a.addr.toNat a.size a.write a.data.toNat).1 else s)

/-- MEMORY_WRITE: an access to an on-chip memory (R7, R11). -/
def execMemoryWrite (a : MemAccess) (s : State) : Host.Outcome State Fault Refusal :=
  done s (if s.mayIssue a.m.val a.write then s.memAccess a else s)

/-- DEFAULT_TARGET_ACCESS: an access that only the default target answers (R9). -/
def execDefaultTargetAccess (m : Master) (addr : BitVec 32) (isWrite : Bool) (s : State) : Host.Outcome State Fault Refusal :=
  done s (
    if !s.mayIssue m.val isWrite then s
    else match s.internal m.val addr.toNat with
      | none => s.busError m.val 0 addr.toNat isWrite
      | some a => if s.target m.val a = .none then s.busError m.val 0 a isWrite else s)

/-! ### RDX and WRX (R97, R98) -/

/-- The end of a sequencer's access: an error response traps it at the instruction (R97). -/
def State.accessEnd (q : Fin 8) (pc : BitVec 16) (r : State × Option Nat) (ok : State → Nat → State) : State :=
  match r.2 with
  | some v => ok r.1 v
  | none => (r.1.setSq q.val { r.1.sq q.val with pc := pc }).trap q.val 4

/-- RDX. -/
def execRdx (q : Fin 8) (w : Fields) (s : State) : Host.Outcome State Fault Refusal :=
  execEngine 0x46 q w (fun s x =>
    let a := (x.addr w).toNat
    let n := sizeOf' w.mod
    if a % n ≠ 0 then .error 3
    else if !s.mayIssue (q.val + 1) false then .ok s
    else .ok (State.accessEnd q x.pc ((s.sqNext q).access (q.val + 1) a n false 0) (fun s v =>
      s.setSq q.val ((s.sq q.val).setG w.dst (BitVec.ofNat 64 v))))) s

/-- WRX: the instruction is over before its write acts, so a write that stops the sequencer finds it so. -/
def execWrx (q : Fin 8) (w : Fields) (s : State) : Host.Outcome State Fault Refusal :=
  execEngine 0x47 q w (fun s x =>
    let a := (x.addr w).toNat
    let n := sizeOf' w.mod
    if a % n ≠ 0 then .error 3
    else if !s.mayIssue (q.val + 1) true then .ok s
    else .ok (State.accessEnd q x.pc ((s.sqNext q).access (q.val + 1) a n true ((x.rg w.src2).toNat % 256 ^ n)) (fun s _ => s))) s

end Sys2Proof.Machine
end

