-- ==== Sys2Proof/Machine/Boot.lean ====
section
/-! DEFINITION. The commands of start-up, life cycle and flash (18). -/

namespace Sys2Proof.Machine

/-! ### Resets (R440, R441, R452) -/

/-- The device in reset: nothing runs until the release (R440). -/
def State.heldReset (s : State) (cause : Nat) : State := s.deviceReset cause

/-- POWER_ON_RESET. -/
def execPowerOnReset (s : State) : Host.Outcome State Fault Refusal := done s (s.heldReset 0)

/-- RESET_N_RESET. -/
def execResetNReset (s : State) : Host.Outcome State Fault Refusal := done s (s.heldReset 1)

/-- SOFT_RESET. -/
def execSoftReset (s : State) : Host.Outcome State Fault Refusal := done s (s.warmReset 2)

/-- DEBUG_RESET: accepted where the debug port is full (R452, log entry 17). -/
def execDebugReset (s : State) : Host.Outcome State Fault Refusal :=
  done s (if s.boot.fuses.lc ≤ 1 then s.warmReset 4 else s)

/-- RESET_RELEASE: of a device that is in reset. -/
def execResetRelease (s : State) : Host.Outcome State Fault Refusal :=
  done s (if s.rd F.BOOT_STATUS_PHASE = 0 then s.bootBegin else s)

/-! ### Program load (R449) -/

/-- An INSTR or DATA section in its memory. -/
def State.loadSection (s : State) (x : Nat × Nat × List Byte) : State := if x.1 ≤ 2 then s.stBytes x.2.1 x.2.2 else s

/-- A REGS entry written by the boot loader; the rest of the table falls with a reset that an entry makes (R440). -/
def State.loadReg (s : State) (e : Nat × Nat × Nat) : State :=
  if s.boot.img.isNone then s else (s.access 12 e.1 e.2.1 true (e.2.2 % 256 ^ e.2.1)).1

/-- Step 7's third and fourth parts: compatibility table, issuer key, staging zeroed. -/
def State.programEnd (s : State) (im : BootImage) : State :=
  let s := match im.only 4 with
    | some l => s.applyCompat l
    | none => s
  let s := { s with boot := { s.boot with issuerKey := (im.only 5).getD [] }
                    redund := { s.redund with staged := [] } }
  let s := { s with boot := { s.boot with imageRegs := s.regs } }
  s.wr F.BOOT_STATUS_PHASE 8

/-- Step 7: sections, registers, compatibility table and issuer key, staging zeroed. -/
def State.programLoad (s : State) (im : BootImage) : State :=
  let s := forEach im.sections State.loadSection s
  let s := forEach (regsEntries ((im.only 3).getD [])) State.loadReg s
  if s.boot.img.isNone then s else s.programEnd im

/-- The step in progress ends (R441); step 2 ends by its clocks. -/
def State.stepDone (s : State) : State :=
  match s.rd F.BOOT_STATUS_PHASE with
  | 1 => s.fuseLoad
  | 3 => s.bootDiscover
  | 4 => s.bootLoad
  | 5 => s.bootVerify
  | 6 => s.bootWipe
  | 7 => match s.boot.img with
    | some im => s.programLoad im
    | none => s
  | 8 => match s.boot.img with
    | some im => s.eclosion im
    | none => s
  | _ => s

/-- STARTUP_STEP_DONE. -/
def execStartupStepDone (s : State) : Host.Outcome State Fault Refusal := done s s.stepDone

/-! ### Flash (R408, R456) -/

/-- FLASH_READ. -/
def execFlashRead (addr : BitVec 32) (s : State) : Host.Outcome State Fault Refusal := done s (s.flashSubmit 1 addr.toNat)

/-- FLASH_PROGRAM. -/
def execFlashProgram (addr : BitVec 32) (s : State) : Host.Outcome State Fault Refusal := done s (s.flashSubmit 2 addr.toNat)

/-- FLASH_ERASE_4K. -/
def execFlashErase4k (addr : BitVec 32) (s : State) : Host.Outcome State Fault Refusal := done s (s.flashSubmit 3 addr.toNat)

/-- FLASH_ERASE_64K. -/
def execFlashErase64k (addr : BitVec 32) (s : State) : Host.Outcome State Fault Refusal := done s (s.flashSubmit 4 addr.toNat)

/-- FLASH_CMD_DONE. -/
def execFlashCmdDone (ok : Bool) (s : State) : Host.Outcome State Fault Refusal := done s (s.flashEnd ok)

/-- FLASH_QUEUE_ISSUE. -/
def execFlashQueueIssue (s : State) : Host.Outcome State Fault Refusal := done s s.flashIssue

/-! ### Life cycle (R454, R455) -/

/-- LC_NONCE. -/
def execLcNonce (s : State) : Host.Outcome State Fault Refusal := done s s.lcNonce

/-- LC_GO. -/
def execLcGo (target : BitVec 3) (s : State) : Host.Outcome State Fault Refusal := done s (s.lcGo target.toNat)

end Sys2Proof.Machine
end

