-- ==== Sys2Proof/Machine/Clock.lean ====
section
/-! DEFINITION. The commands of clocks, power states and the bus matrix (17). -/

namespace Sys2Proof.Machine

/-- CLOCK_MONITOR_WINDOW (R420, R421). -/
def execClockMonitorWindow (mon : ClockMon) (count : BitVec 32) (s : State) : Host.Outcome State Fault Refusal :=
  done s (s.monWindow mon count.toNat)

/-- CLOCK_DETECTOR_FAIL (R420, R421). -/
def execClockDetectorFail (d : ClockDetector) (s : State) : Host.Outcome State Fault Refusal :=
  done s (
    match d with
    | .amp => s.declareClk 0
    | .lock p => s.declareClk (5 + p.val))

/-- XTAL_QUALIFIED (R419): both levels have passed, after fuse load. -/
def execXtalQualified (s : State) : Host.Outcome State Fault Refusal :=
  done s (if 2 ≤ s.rd F.BOOT_STATUS_PHASE then s.xtalQualified else s)

/-- XTAL_QUAL_TIMEOUT (R419, R441): start-up goes on by RCO; a failure of level 2 leaves the amplitude standing. -/
def execXtalQualTimeout (level2 : Bool) (s : State) : Host.Outcome State Fault Refusal :=
  done s (
    if s.rd F.BOOT_STATUS_PHASE = 2 && !s.bit F.CLK_STATUS_XTAL_QUAL then
      (((s.declareClk (boolNat level2)).wrB F.CLK_STATUS_AMP_OK level2).wrB F.BOOT_STATUS_ON_RCO true).clocksReady
    else s)

/-- PLL_LOCK (R419): the PLL's domains return; start-up goes on once all four are locked (R441). -/
def execPllLock (pll : Fin 4) (s : State) : Host.Outcome State Fault Refusal :=
  done s (
    if s.bit F.CLK_STATUS_XTAL_QUAL then
      let l := s.rd F.CLK_STATUS_LOCK ||| 2 ^ pll.val
      let s := (s.wr F.CLK_STATUS_LOCK l).clkPass [5 + pll.val]
      let s := forEach (pllDomains pll.val) State.domReturn s
      if s.rd F.BOOT_STATUS_PHASE = 2 && l = 15 then s.clocksReady else s
    else s)

/-- CLK_DOM_SRC (R424, R426). -/
def execClkDomSrc (d : Fin 10) (fallback : Bool) (s : State) : Host.Outcome State Fault Refusal :=
  done s (s.domSrc d.val fallback)

/-- CLOCK_SWITCH_TIMEOUT (R427). -/
def execClockSwitchTimeout (d : Fin 10) (s : State) : Host.Outcome State Fault Refusal :=
  done s (s.switchForced d.val)

/-- REFCLK_RESTORED (R424): M_REF has passed four windows. -/
def execRefclkRestored (s : State) : Host.Outcome State Fault Refusal :=
  done s s.refRestored

/-- GATE_FORCE_TIMEOUT (R428). -/
def execGateForceTimeout (block : BitVec 32) (s : State) : Host.Outcome State Fault Refusal := done s (s.gateForced block)

/-- PWR_CTRL (R432). -/
def execPwrCtrl (target : BitVec 2) (s : State) : Host.Outcome State Fault Refusal := done s (s.pwrRequest target.toNat)

/-- POWER_TRANSITION_DONE (R433). -/
def execPowerTransitionDone (s : State) : Host.Outcome State Fault Refusal := done s s.pwrDone

/-- BUS_TARGET_TIMEOUT (R436, R437). -/
def execBusTargetTimeout (m : Master) (addr : BitVec 32) (s : State) : Host.Outcome State Fault Refusal :=
  done s (s.targetTimeout m.val addr.toNat)

/-- BUS_MASTER_RESET (R439). -/
def execBusMasterReset (m : Master) (s : State) : Host.Outcome State Fault Refusal := done s (s.masterReset m.val)

/-- MASTER_RESET_DONE (R439). -/
def execMasterResetDone (m : Master) (s : State) : Host.Outcome State Fault Refusal := done s (s.masterDrained m.val)

/-- PCIE_FLR (R439): the endpoint and the host master are reset; a lost link stays down. -/
def execPcieFlr (linkLost : Bool) (s : State) : Host.Outcome State Fault Refusal :=
  let s1 := s.masterReset 0
  done s (if linkLost then { s1 with boot := { s1.boot with pcieUp := false } } else s1)

/-- PCIE_LINK_UP (R451): the endpoint trains from the end of fuse load on. -/
def execPcieLinkUp (s : State) : Host.Outcome State Fault Refusal :=
  done s (if 2 ≤ s.rd F.BOOT_STATUS_PHASE then { s with boot := { s.boot with pcieUp := true } } else s)

end Sys2Proof.Machine
end

