-- ==== Sys2Proof/Machine/Fabric.lean ====
section
/-! DEFINITION. The fabric and ledger instructions (R100 to R110) and the events that end their waits. -/

namespace Sys2Proof.Machine

/-! ### UNPIN, DISC, CONN, PIN (R101, R102) -/

/-- Filing for a thread: the handle and the first status in gd, or the stall of R59. -/
def State.fileInstr (s : State) (q : Fin 8) (op : CmdOp) (w : Fields) : State :=
  let x := s.sq q.val
  let ga := x.rg w.src1
  let gb := x.rg w.src2
  let seqnum : W32 := if w.mod.getLsbD 0 then gb.extractLsb' 32 32 else w.imm
  let r := s.file (s.ownCmd op (gb.extractLsb' 0 16).toNat (gb.extractLsb' 16 16).toNat (ga.setWidth 32) seqnum) false
  match r.2 with
  | some v => r.1.sqRet q w.dst (v.2.1.word ++ v.1)
  | none => r.1.sqBlock q (.stall op w)

/-- UNPIN. -/
def execUnpin (q : Fin 8) (w : Fields) (s : State) : Host.Outcome State Fault Refusal :=
  execEngine 0x60 q w (fun s _ => .ok (s.fileInstr q .unpin w)) s
/-- DISC. -/
def execDisc (q : Fin 8) (w : Fields) (s : State) : Host.Outcome State Fault Refusal :=
  execEngine 0x61 q w (fun s _ => .ok (s.fileInstr q .disc w)) s
/-- CONN. -/
def execConn (q : Fin 8) (w : Fields) (s : State) : Host.Outcome State Fault Refusal :=
  execEngine 0x62 q w (fun s _ => .ok (s.fileInstr q .conn w)) s
/-- PIN. -/
def execPin (q : Fin 8) (w : Fields) (s : State) : Host.Outcome State Fault Refusal :=
  execEngine 0x63 q w (fun s _ => .ok (s.fileInstr q .pin w)) s

/-- LEDGER_STALL_RESUME: a stalled command is judged again (R59, R102). -/
def execLedgerStallResume (q : Fin 8) (s : State) : Host.Outcome State Fault Refusal :=
  done s (match (s.sq q.val).wait with
    | .stall op w => s.fileInstr q op w
    | _ => s)

/-! ### EPOCH, ABORT, STAGE, LAY, VERIFY (R103 to R108) -/

/-- EPOCH. -/
def execEpoch (q : Fin 8) (w : Fields) (s : State) : Host.Outcome State Fault Refusal :=
  execEngine 0x64 q w (fun s x =>
    let r := s.openLocal ((x.rg w.src1).setWidth 32) ((x.rg w.src2).setWidth 32)
    .ok (r.1.sqRet q w.dst (r.2.word.setWidth 64))) s

/-- ABORT: an epoch never opened answers NONE at once. -/
def execAbort (q : Fin 8) (w : Fields) (s : State) : Host.Outcome State Fault Refusal :=
  execEngine 0x65 q w (fun s x =>
    let e : W32 := (x.rg w.src1).setWidth 32
    .ok (if s.everOpened e then s.sqBlock q (.abort w.dst e) else s.sqRet q w.dst (St.none.word.setWidth 64))) s

/-- ABORT_RESOLVED: the abort a thread waits for is resolved (R70, R104). -/
def execAbortResolved (q : Fin 8) (s : State) : Host.Outcome State Fault Refusal :=
  done s (match (s.sq q.val).wait with
    | .abort dst e =>
      let r := s.abortRequest e
      r.1.sqRet q dst (r.2.word.setWidth 64)
    | _ => s)

/-- What STAGE answers, with the options recorded (R106). -/
def State.stageInstr (s : State) (e : W32) (imm : W32) : State × Status :=
  if !s.everOpened e then (s, St.late 2)
  else match s.epoch? e with
  | none => (s, St.late 1)
  | some x =>
    if x.st = .opened && decide (s.ext0 < x.sealT) then
      (s.modEpoch e (fun x => { x with noblank := x.noblank || imm.getLsbD 0, verify := x.verify || imm.getLsbD 1 }),
        St.accepted)
    else (s, St.late 1)

/-- STAGE: IMM[31:2] must be zero. -/
def execStage (q : Fin 8) (w : Fields) (s : State) : Host.Outcome State Fault Refusal :=
  execEngine 0x67 q w (fun s x =>
    if 4 ≤ w.imm.toNat then .error 6
    else
      let r := s.stageInstr ((x.rg w.src1).setWidth 32) w.imm
      .ok (r.1.sqRet q w.dst (r.2.word.setWidth 64))) s

/-- What LAY answers of an epoch; none while the epoch has not ended (R107). -/
def State.layResult (s : State) (e : W32) : Option W64 :=
  match s.ledger.outcomes.find? (fun o => o.1 = e) with
  | some o => some (o.2.2.word ++ (if o.2.1 then 4#32 else 5#32))
  | none => if (s.epoch? e).any (fun x => !x.ended) then none else some 7

/-- LAY. -/
def execLay (q : Fin 8) (w : Fields) (s : State) : Host.Outcome State Fault Refusal :=
  execEngine 0x68 q w (fun s x =>
    let e : W32 := (x.rg w.src1).setWidth 32
    .ok (match s.layResult e with
      | some v => s.sqRet q w.dst v
      | none => s.sqBlock q (.layEnd w.dst e))) s

/-- LAY_EPOCH_END: the epoch a thread waits for has ended (R107). -/
def execLayEpochEnd (q : Fin 8) (s : State) : Host.Outcome State Fault Refusal :=
  done s (match (s.sq q.val).wait with
    | .layEnd dst e => match s.layResult e with
      | some v => s.sqRet q dst v
      | none => s
    | _ => s)

/-- VERIFY (R108). -/
def execVerify (q : Fin 8) (w : Fields) (s : State) : Host.Outcome State Fault Refusal :=
  execEngine 0x69 q w (fun s _ =>
    let r := s.requestPass
    .ok (r.1.sqRet q w.dst ((if r.2 then St.accepted else St.blocked 0).word.setWidth 64))) s

/-! ### SOLVE (R105) -/

/-- The outcome of a trial solve: its status and, where it writes the buffer, the connections to move. -/
def State.trialOutcome (s : State) (i o : Nat) : Status × Option (List ConnRec) :=
  let set := s.stableSet
  if set.any (fun c => c.input = i && c.output = o) then (St.already 0, none)
  else if set.any (fun c => c.input = i) then (St.blocked 0x10, none)
  else if set.any (fun c => c.output = o) then (St.blocked 0x11, none)
  else if 1023 < i || 1023 < o || s.portAbsent i || s.portAbsent o then (St.defect 0x20, none)
  else if shutterClosed s.solve.dmapForce i o then (St.defect 0x21, none)
  else
    let j : SolveJob :=
      { epoch := s.stableEpoch, y512 := s.strand.geomY512
        base := some { Weave.empty with routes := s.ledger.stableRoutes, states := s.ledger.stableCells }
        baseSlot := 0xFF, conns := set, adds := [], dmap := s.solve.dmapForce, wearSnap := s.solve.wearSnap
        policy := 0, dmapGen := 0, foldGen := 0, solveNs := 0 }
    j.trial i o

/-- The trap of a buffer of word 0 and `cap` records (R105).  One that starts in data memory and runs past its end traps
BAD_ADDR at once, whatever the outcome would write (DESIGN CHOICE, log entry 20). -/
def bufTrap (a : W64) (cap : Nat) : Option Nat :=
  if a.toNat < dmemLo || dmemHi < a.toNat + 8 + 8 * cap then some 2
  else if a.toNat % 8 ≠ 0 then some 3 else none

/-- SOLVE: the candidate is judged on the set and the health state of this moment; the answer follows when
the solver has served it. -/
def execSolve (q : Fin 8) (w : Fields) (s : State) : Host.Outcome State Fault Refusal :=
  execEngine 0x66 q w (fun s x =>
    let ga := x.rg w.src1
    let gb := x.rg w.src2
    match bufTrap gb w.imm.toNat with
    | some c => .error c
    | none =>
      let r := s.trialOutcome (ga.extractLsb' 0 16).toNat (ga.extractLsb' 16 16).toNat
      let s := if s.solve.trials.isEmpty && s.solve.running.isNone then s.takeSolveMode else s
      let s := { s with solve := { s.solve with trials := s.solve.trials ++ [q] } }
      .ok (s.sqBlock q (.trial w.dst gb.toNat w.imm.toNat r.1 r.2))) s

/-- The move-list buffer: word 0 the full count, then the first `cap` records. -/
def State.writeMoves (s : State) (buf cap : Nat) (moves : List ConnRec) : State :=
  let s := s.st buf 8 moves.length
  forEach ((moves.take cap).zipIdx) (fun s (p : ConnRec × Nat) => s.st (buf + 8 + 8 * p.2) 8 p.1.enc) s

/-- No epoch solve runs or waits (R105). -/
def State.solverFree (s : State) : Bool :=
  s.solve.running.isNone && s.ledger.epochs.all (fun (x : Epoch) => x.st ≠ .sealed)

/-- TRIAL_SOLVE_DONE: the first waiting trial is served, while no epoch solve waits (R105). -/
def execTrialSolveDone (q : Fin 8) (s : State) : Host.Outcome State Fault Refusal :=
  done s (match (s.sq q.val).wait with
    | .trial dst buf cap st moves =>
      if s.solverFree && s.solve.trials.head? = some q then
        let s := { s with solve := { s.solve with trials := s.solve.trials.drop 1 } }
        let s := if s.solve.trials.isEmpty then s else s.takeSolveMode
        let s := match moves with
          | some l => s.writeMoves buf cap l
          | none => s
        s.sqRet q dst (st.word.setWidth 64)
      else s
    | _ => s)

/-! ### READW (R109) -/

/-- A stable view read by a thread, of a number below a bound. -/
def readView (mod : BitVec 5) (q : Fin 8) (w : Fields) (width bound : Nat) (view : State → Nat → BitVec 64) (s : State) :
    Host.Outcome State Fault Refusal :=
  let w := { w with mod := mod }
  execEngine 0x6A q w (fun s x =>
    let n := (x.rg w.src1).toNat % 2 ^ width
    if bound ≤ n then .error 6 else .ok (s.sqRet q w.dst (view s n))) s

/-- READW.in. -/
def execReadwIn (q : Fin 8) (w : Fields) (s : State) : Host.Outcome State Fault Refusal :=
  readView 0 q w 16 1024 State.viewIn s
/-- READW.out. -/
def execReadwOut (q : Fin 8) (w : Fields) (s : State) : Host.Outcome State Fault Refusal :=
  readView 1 q w 16 1024 State.viewOut s
/-- READW.cell. -/
def execReadwCell (q : Fin 8) (w : Fields) (s : State) : Host.Outcome State Fault Refusal :=
  readView 2 q w 15 21504 State.viewCell s
/-- READW.stable. -/
def execReadwStable (q : Fin 8) (w : Fields) (s : State) : Host.Outcome State Fault Refusal :=
  execEngine 0x6A q { w with mod := 4 } (fun s _ => .ok (s.sqRet q w.dst s.viewStable)) s

/-- A final status read through its handle and delivered (R60, R109); an entry that is still ACCEPTED keeps
the thread waiting. -/
def State.readStatus (s : State) (q : Fin 8) (dst : BitVec 5) (h : W32) : State :=
  match s.entryOf h with
  | none => s.sqRet q dst (St.none.word.setWidth 64)
  | some p =>
    if p.2.status.code = 1 then s.sqBlock q (.stFinal dst h)
    else (s.entryRead p.1).sqRet q dst (p.2.status.word.setWidth 64)

/-- READW.st. -/
def execReadwSt (q : Fin 8) (w : Fields) (s : State) : Host.Outcome State Fault Refusal :=
  execEngine 0x6A q { w with mod := 3 } (fun s x => .ok (s.readStatus q w.dst ((x.rg w.src1).setWidth 32))) s

/-- READW_ST_FINAL: the awaited status has become final (R109). -/
def execReadwStFinal (q : Fin 8) (s : State) : Host.Outcome State Fault Refusal :=
  done s (match (s.sq q.val).wait with
    | .stFinal dst h => s.readStatus q dst h
    | _ => s)

end Sys2Proof.Machine
end

