-- ==== Sys2Proof/Machine/FloatInstr.lean ====
section
/-! DEFINITION. The float instructions (R94, R95, R45). -/

namespace Sys2Proof.Machine

/-- fd = f(fa, fb). -/
def fpuRR (opc : Nat) (q : Fin 8) (w : Fields) (f : W32 → W32 → W32) (s : State) : Host.Outcome State Fault Refusal :=
  execLocal opc q w (fun x => .ok (x.retF w.dst (f (x.rf w.src1) (x.rf w.src2)))) s
/-- fd = f(fa). -/
def fpuR (opc : Nat) (q : Fin 8) (w : Fields) (f : W32 → W32) (s : State) : Host.Outcome State Fault Refusal :=
  execLocal opc q w (fun x => .ok (x.retF w.dst (f (x.rf w.src1)))) s

/-- FADD. -/
def execFadd (q : Fin 8) (w : Fields) (s : State) : Host.Outcome State Fault Refusal := fpuRR 0x30 q w F32.add s
/-- FSUB. -/
def execFsub (q : Fin 8) (w : Fields) (s : State) : Host.Outcome State Fault Refusal := fpuRR 0x31 q w F32.sub s
/-- FMUL. -/
def execFmul (q : Fin 8) (w : Fields) (s : State) : Host.Outcome State Fault Refusal := fpuRR 0x32 q w F32.mul s
/-- FDIV. -/
def execFdiv (q : Fin 8) (w : Fields) (s : State) : Host.Outcome State Fault Refusal := fpuRR 0x33 q w F32.div s
/-- FSQRT. -/
def execFsqrt (q : Fin 8) (w : Fields) (s : State) : Host.Outcome State Fault Refusal := fpuR 0x34 q w F32.sqrt s
/-- FMA: fd + fa × fb with one rounding. -/
def execFma (q : Fin 8) (w : Fields) (s : State) : Host.Outcome State Fault Refusal :=
  execLocal 0x35 q w (fun x => .ok (x.retF w.dst (F32.fma (x.rf w.src1) (x.rf w.src2) (x.rf w.dst)))) s
/-- FMIN. -/
def execFmin (q : Fin 8) (w : Fields) (s : State) : Host.Outcome State Fault Refusal := fpuRR 0x36 q w fminW s
/-- FMAX. -/
def execFmax (q : Fin 8) (w : Fields) (s : State) : Host.Outcome State Fault Refusal := fpuRR 0x37 q w fmaxW s
/-- FABS. -/
def execFabs (q : Fin 8) (w : Fields) (s : State) : Host.Outcome State Fault Refusal := fpuR 0x38 q w fabsW s
/-- FNEG. -/
def execFneg (q : Fin 8) (w : Fields) (s : State) : Host.Outcome State Fault Refusal := fpuR 0x39 q w fnegW s
/-- FCMP. -/
def execFcmp (q : Fin 8) (w : Fields) (s : State) : Host.Outcome State Fault Refusal :=
  execLocal 0x3A q w (fun x => .ok (x.retP w.dst (fcondOf w.mod (x.rf w.src1) (x.rf w.src2)))) s
/-- FCVT.S.L. -/
def execFcvtSL (q : Fin 8) (w : Fields) (s : State) : Host.Outcome State Fault Refusal :=
  execLocal 0x3B q w (fun x => .ok (x.retF w.dst (F32.ofInt (x.rg w.src1).toInt))) s
/-- FCVT.L.S. -/
def execFcvtLS (q : Fin 8) (w : Fields) (s : State) : Host.Outcome State Fault Refusal :=
  execLocal 0x3C q w (fun x => .ok (x.retG w.dst (toLong (x.rf w.src1)))) s
/-- FMOVI. -/
def execFmovi (q : Fin 8) (w : Fields) (s : State) : Host.Outcome State Fault Refusal :=
  execLocal 0x3D q w (fun x => .ok (x.retF w.dst (flush w.imm))) s
/-- FMVGF. -/
def execFmvgf (q : Fin 8) (w : Fields) (s : State) : Host.Outcome State Fault Refusal :=
  execLocal 0x3E q w (fun x => .ok (x.retG w.dst ((x.rf w.src1).setWidth 64))) s
/-- FMVFG. -/
def execFmvfg (q : Fin 8) (w : Fields) (s : State) : Host.Outcome State Fault Refusal :=
  execLocal 0x3F q w (fun x => .ok (x.retF w.dst (flush ((x.rg w.src1).setWidth 32)))) s

end Sys2Proof.Machine
end

