-- ==== Sys2Proof/Machine/FrameInstr.lean ====
section
/-! DEFINITION. The frame instructions (R113 to R115, R294, R296) and the events that end their waits. -/

namespace Sys2Proof.Machine

/-! ### SEND -/

/-- The operands of a SEND: length, destination, class, group, type. -/
structure SendOp where
  len : Nat
  dst : BitVec 16
  cls : Nat
  group : Bool
  typ : Nat
  deriving DecidableEq, Repr

/-- The fields of gb (R114, R294). -/
def sendOf (gb : W64) : SendOp :=
  { len := (gb.extractLsb' 0 16).toNat, dst := gb.extractLsb' 16 16, cls := (gb.extractLsb' 32 3).toNat
    group := gb.getLsbD 35, typ := (gb.extractLsb' 36 4).toNat }

/-- Operands that R114 and R294 accept. -/
def SendOp.ok (o : SendOp) : Bool :=
  decide (1 ≤ o.len) && decide (o.len ≤ 1472) && decide (o.cls ≤ 5) && (o.typ = 0 || (o.typ = 1 && o.cls = 4)) &&
    (o.cls ≠ 5 || o.len = 16)

/-- The trap of a SEND (R114, R294, R296). -/
def State.sendTrap (s : State) (a : Nat) (o : SendOp) : Option Nat :=
  if !o.ok then some 6
  else if a < dmemLo || dmemHi < a + o.len then some 2
  else if o.cls = 5 && (cmdRecord (s.ldBytes a 16)).isNone then some 6 else none

/-- The frame is queued: a COMMAND with its key in the header and its retransmission (R296, R299), a DATA or
QUERY frame with the transmit count (R294). -/
def State.queueSend (s : State) (a : Nat) (o : SendOp) : State :=
  let p := s.ldBytes a o.len
  let g := boolNat o.group
  if o.cls = 5 then
    let f := s.mkFrame 3 5 o.dst (g + 4 * g) (BitVec.ofNat 32 (bytesAt p 4 4)) (BitVec.ofNat 32 (bytesAt p 0 4)) 0 p
    let s := { s with net := { s.net with retrans := s.net.retrans ++ [Retrans.mk f 1 s.time.cycle] } }
    s.sendFrame f
  else
    let f := s.mkFrame (if o.typ = 1 then 5 else 1) o.cls o.dst g s.net.txCount 0 0 p
    (s.sendFrame f).countFrame

/-- The transmit queue has room for one more frame of SEND. -/
def State.sendRoom (s : State) : Bool := decide (s.net.txq.length ≤ Config.txQueueExtra)

/-- SEND as the thread's registers stand: a trap cause, the frame queued, or the wait for room. -/
def State.sendInstr (s : State) (q : Fin 8) (w : Fields) : Except Nat State :=
  let x := s.sq q.val
  let a := (x.rg w.src1).toNat
  let o := sendOf (x.rg w.src2)
  match s.sendTrap a o with
  | some c => .error c
  | none => .ok (if s.sendRoom then (s.queueSend a o).sqRet q w.dst 0 else s.sqBlock q (.send w))

/-- SEND. -/
def execSend (q : Fin 8) (w : Fields) (s : State) : Host.Outcome State Fault Refusal :=
  execEngine 0x90 q w (fun s _ => s.sendInstr q w) s

/-- SEND_QUEUE_ROOM: a SEND that waits for room goes on. -/
def execSendQueueRoom (q : Fin 8) (s : State) : Host.Outcome State Fault Refusal :=
  done s (match (s.sq q.val).wait with
    | .send w => match s.sendInstr q w with
      | .ok t => t
      | .error c => s.trap q.val c
    | _ => s)

/-! ### RECV, RECV.n (R115) -/

/-- The trap of a receive buffer for `n` bytes that are written. -/
def recvTrap (a n : Nat) : Option Nat := if a < dmemLo || dmemHi < a + Nat.max n 1 then some 2 else none

/-- The head frame of a queue is taken: its payload copied up to gb bytes, its result in gd. -/
def State.takeFrame (s : State) (q : Fin 8) (w : Fields) (k : Nat) (r : RxFrame) (rest : List RxFrame) : Except Nat State :=
  let x := s.sq q.val
  let a := (x.rg w.src1).toNat
  let p := r.frame.payload.take (x.rg w.src2).toNat
  match recvTrap a p.length with
  | some c => .error c
  | none =>
    let s := { s with net := { s.net with rxq := s.net.rxq.set (Fin.ofNat 8 k) rest, unacked := s.net.unacked ++ [r] } }
    let v : W64 := r.token ++ (r.frame.src ++ BitVec.ofNat 16 r.frame.payload.length)
    .ok ((s.stBytes a p).sqRet q w.dst v)

/-- RECV as the thread's registers stand; `wait` keeps it waiting on an empty queue, else gd = 0.  With ga outside data
memory it traps BAD_ADDR at once on an empty queue; otherwise the range judged is that of the bytes written, one at the
least (DESIGN CHOICE, log entry 20). -/
def State.recvInstr (s : State) (q : Fin 8) (w : Fields) (wait : Bool) : Except Nat State :=
  let k := w.imm.toNat % 8
  match s.net.rxq.get (Fin.ofNat 8 k) with
  | r :: rest => s.takeFrame q w k r rest
  | [] => match recvTrap ((s.sq q.val).rg w.src1).toNat 1 with
    | some c => .error c
    | none => .ok (if wait then s.sqBlock q (.recv w) else s.sqRet q w.dst 0)

/-- RECV. -/
def execRecv (q : Fin 8) (w : Fields) (s : State) : Host.Outcome State Fault Refusal :=
  execEngine 0x91 q { w with mod := 0 } (fun s _ => s.recvInstr q w true) s

/-- RECV.n: gd = 0 at once when the queue is empty. -/
def execRecvN (q : Fin 8) (w : Fields) (s : State) : Host.Outcome State Fault Refusal :=
  execEngine 0x91 q { w with mod := 1 } (fun s _ => s.recvInstr q w false) s

/-- RECV_FRAME_READY: a frame has entered the queue a thread waits on. -/
def execRecvFrameReady (q : Fin 8) (s : State) : Host.Outcome State Fault Refusal :=
  done s (match (s.sq q.val).wait with
    | .recv w => match s.recvInstr q w true with
      | .ok t => t
      | .error c => s.trap q.val c
    | _ => s)

/-! ### ACK (R115) -/

/-- The acknowledgement of a received frame; a token of no unacknowledged frame sends nothing. -/
def State.ackToken (s : State) (token st : W32) : State :=
  match s.net.unacked.find? (fun (r : RxFrame) => r.token = token) with
  | none => s
  | some r =>
    let s := { s with net := { s.net with unacked := s.net.unacked.erase r } }
    s.sendCounted 2 r.frame.cls.toNat r.frame.src 0 0 r.frame.seqnum (natBytes 4 st.toNat)

/-- ACK. -/
def execAck (q : Fin 8) (w : Fields) (s : State) : Host.Outcome State Fault Refusal :=
  execEngine 0x92 q w (fun s x =>
    .ok ((s.ackToken ((x.rg w.src1).setWidth 32) ((x.rg w.src2).setWidth 32)).sqNext q)) s

end Sys2Proof.Machine
end

