-- ==== Sys2Proof/Machine/Integer.lean ====
section
/-! DEFINITION. The integer and predicate instructions (R92, R93). -/

namespace Sys2Proof.Machine

/-- gd = f(ga, gb). -/
def aluRR (opc : Nat) (q : Fin 8) (w : Fields) (f : W64 → W64 → W64) (s : State) : Host.Outcome State Fault Refusal :=
  execLocal opc q w (fun x => .ok (x.retG w.dst (f (x.rg w.src1) (x.rg w.src2)))) s
/-- gd = f(ga). -/
def aluR (opc : Nat) (q : Fin 8) (w : Fields) (f : W64 → W64) (s : State) : Host.Outcome State Fault Refusal :=
  execLocal opc q w (fun x => .ok (x.retG w.dst (f (x.rg w.src1)))) s
/-- pd = f(pa, pb). -/
def aluPP (opc : Nat) (q : Fin 8) (w : Fields) (f : Bool → Bool → Bool) (s : State) : Host.Outcome State Fault Refusal :=
  execLocal opc q w (fun x => .ok (x.retP w.dst (f (x.rp (pIdx w.src1)) (x.rp (pIdx w.src2))))) s

/-- NOP. -/
def execNop (q : Fin 8) (w : Fields) (s : State) : Host.Outcome State Fault Refusal :=
  execLocal 0x00 q w (fun x => .ok x.advance) s
/-- ADD. -/
def execAdd (q : Fin 8) (w : Fields) (s : State) : Host.Outcome State Fault Refusal := aluRR 0x01 q w (· + ·) s
/-- SUB. -/
def execSub (q : Fin 8) (w : Fields) (s : State) : Host.Outcome State Fault Refusal := aluRR 0x02 q w (· - ·) s
/-- MUL. -/
def execMul (q : Fin 8) (w : Fields) (s : State) : Host.Outcome State Fault Refusal := aluRR 0x03 q w (· * ·) s
/-- MULHU. -/
def execMulhu (q : Fin 8) (w : Fields) (s : State) : Host.Outcome State Fault Refusal := aluRR 0x04 q w mulhu s
/-- DIVU. -/
def execDivu (q : Fin 8) (w : Fields) (s : State) : Host.Outcome State Fault Refusal := aluRR 0x05 q w divu s
/-- REMU. -/
def execRemu (q : Fin 8) (w : Fields) (s : State) : Host.Outcome State Fault Refusal := aluRR 0x06 q w remu s
/-- AND. -/
def execAnd (q : Fin 8) (w : Fields) (s : State) : Host.Outcome State Fault Refusal := aluRR 0x07 q w (· &&& ·) s
/-- OR. -/
def execOr (q : Fin 8) (w : Fields) (s : State) : Host.Outcome State Fault Refusal := aluRR 0x08 q w (· ||| ·) s
/-- XOR. -/
def execXor (q : Fin 8) (w : Fields) (s : State) : Host.Outcome State Fault Refusal := aluRR 0x09 q w (· ^^^ ·) s
/-- SHL. -/
def execShl (q : Fin 8) (w : Fields) (s : State) : Host.Outcome State Fault Refusal :=
  aluRR 0x0A q w (fun a b => a <<< (b.toNat % 64)) s
/-- SHR. -/
def execShr (q : Fin 8) (w : Fields) (s : State) : Host.Outcome State Fault Refusal :=
  aluRR 0x0B q w (fun a b => a >>> (b.toNat % 64)) s
/-- SAR. -/
def execSar (q : Fin 8) (w : Fields) (s : State) : Host.Outcome State Fault Refusal :=
  aluRR 0x0C q w (fun a b => a.sshiftRight (b.toNat % 64)) s
/-- ADDI. -/
def execAddi (q : Fin 8) (w : Fields) (s : State) : Host.Outcome State Fault Refusal := aluR 0x0D q w (· + (immS w)) s
/-- ANDI. -/
def execAndi (q : Fin 8) (w : Fields) (s : State) : Host.Outcome State Fault Refusal := aluR 0x0E q w (· &&& (immZ w)) s
/-- ORI. -/
def execOri (q : Fin 8) (w : Fields) (s : State) : Host.Outcome State Fault Refusal := aluR 0x0F q w (· ||| (immZ w)) s
/-- XORI. -/
def execXori (q : Fin 8) (w : Fields) (s : State) : Host.Outcome State Fault Refusal := aluR 0x10 q w (· ^^^ (immZ w)) s
/-- SHLI: IMM[31:6] must be zero. -/
def execShli (q : Fin 8) (w : Fields) (s : State) : Host.Outcome State Fault Refusal :=
  execLocal 0x11 q w (fun x =>
    if w.imm.toNat < 64 then .ok (x.retG w.dst (x.rg w.src1 <<< w.imm.toNat)) else .error 6) s
/-- SHRI: the shift is IMM[5:0] (log entry 20). -/
def execShri (q : Fin 8) (w : Fields) (s : State) : Host.Outcome State Fault Refusal :=
  aluR 0x12 q w (· >>> (w.imm.toNat % 64)) s
/-- SARI: the shift is IMM[5:0] (log entry 20). -/
def execSari (q : Fin 8) (w : Fields) (s : State) : Host.Outcome State Fault Refusal :=
  aluR 0x13 q w (·.sshiftRight (w.imm.toNat % 64)) s
/-- MOVI. -/
def execMovi (q : Fin 8) (w : Fields) (s : State) : Host.Outcome State Fault Refusal :=
  execLocal 0x14 q w (fun x => .ok (x.retG w.dst (immS w))) s
/-- MOVHI. -/
def execMovhi (q : Fin 8) (w : Fields) (s : State) : Host.Outcome State Fault Refusal :=
  execLocal 0x15 q w (fun x => .ok (x.retG w.dst (w.imm ++ (x.rg w.dst).extractLsb' 0 32))) s
/-- MIN. -/
def execMin (q : Fin 8) (w : Fields) (s : State) : Host.Outcome State Fault Refusal :=
  aluRR 0x16 q w (fun a b => if b.slt a then b else a) s
/-- MAX. -/
def execMax (q : Fin 8) (w : Fields) (s : State) : Host.Outcome State Fault Refusal :=
  aluRR 0x17 q w (fun a b => if a.slt b then b else a) s
/-- MINU. -/
def execMinu (q : Fin 8) (w : Fields) (s : State) : Host.Outcome State Fault Refusal :=
  aluRR 0x18 q w (fun a b => if b.ult a then b else a) s
/-- MAXU. -/
def execMaxu (q : Fin 8) (w : Fields) (s : State) : Host.Outcome State Fault Refusal :=
  aluRR 0x19 q w (fun a b => if a.ult b then b else a) s
/-- POPC. -/
def execPopc (q : Fin 8) (w : Fields) (s : State) : Host.Outcome State Fault Refusal := aluR 0x1A q w popc s
/-- CLZ. -/
def execClz (q : Fin 8) (w : Fields) (s : State) : Host.Outcome State Fault Refusal := aluR 0x1B q w clz s
/-- BFX. -/
def execBfx (q : Fin 8) (w : Fields) (s : State) : Host.Outcome State Fault Refusal :=
  execLocal 0x1C q w (fun x =>
    if bfOk w.imm then .ok (x.retG w.dst (bfx (x.rg w.src1) (bfL w.imm) (bfW w.imm))) else .error 6) s
/-- BFI. -/
def execBfi (q : Fin 8) (w : Fields) (s : State) : Host.Outcome State Fault Refusal :=
  execLocal 0x1D q w (fun x =>
    if bfOk w.imm then .ok (x.retG w.dst (bfi (x.rg w.dst) (x.rg w.src1) (bfL w.imm) (bfW w.imm))) else .error 6) s
/-- CMP (R93). -/
def execCmp (q : Fin 8) (w : Fields) (s : State) : Host.Outcome State Fault Refusal :=
  execLocal 0x20 q w (fun x => .ok (x.retP w.dst (condOf w.mod (x.rg w.src1) (x.rg w.src2)))) s
/-- CMPI (R93). -/
def execCmpi (q : Fin 8) (w : Fields) (s : State) : Host.Outcome State Fault Refusal :=
  execLocal 0x21 q w (fun x => .ok (x.retP w.dst (condOf w.mod (x.rg w.src1) (immS w)))) s
/-- PAND. -/
def execPand (q : Fin 8) (w : Fields) (s : State) : Host.Outcome State Fault Refusal := aluPP 0x22 q w (· && ·) s
/-- POR. -/
def execPor (q : Fin 8) (w : Fields) (s : State) : Host.Outcome State Fault Refusal := aluPP 0x23 q w (· || ·) s
/-- PXOR. -/
def execPxor (q : Fin 8) (w : Fields) (s : State) : Host.Outcome State Fault Refusal := aluPP 0x24 q w (· != ·) s
/-- PNOT. -/
def execPnot (q : Fin 8) (w : Fields) (s : State) : Host.Outcome State Fault Refusal :=
  execLocal 0x25 q w (fun x => .ok (x.retP w.dst (!x.rp (pIdx w.src1)))) s
/-- PGET. -/
def execPget (q : Fin 8) (w : Fields) (s : State) : Host.Outcome State Fault Refusal :=
  execLocal 0x26 q w (fun x => .ok (x.retG w.dst (x.preds8.setWidth 64))) s
/-- PPUT: p0 is unchanged. -/
def execPput (q : Fin 8) (w : Fields) (s : State) : Host.Outcome State Fault Refusal :=
  execLocal 0x27 q w (fun x => .ok ({ x with preds := (x.rg w.src1).setWidth 8 ||| 1 } : Seq).advance) s
/-- SQID. -/
def execSqid (q : Fin 8) (w : Fields) (s : State) : Host.Outcome State Fault Refusal :=
  execLocal 0x28 q w (fun x => .ok (x.retG w.dst (BitVec.ofNat 64 q.val))) s
/-- RDCYC. -/
def execRdcyc (q : Fin 8) (w : Fields) (s : State) : Host.Outcome State Fault Refusal :=
  execLocal 0x29 q w (fun x => .ok (x.retG w.dst x.cyc)) s

end Sys2Proof.Machine
end

