-- ==== Sys2Proof/Machine/SystemInstr.lean ====
section
/-! DEFINITION. The time, wait, monitor, fault and system instructions (R116 to R120) and the events that end
their waits. -/

namespace Sys2Proof.Machine

/-! ### WAITT, WAITE, TNOW (R116 to R118) -/

/-- The signed difference of a target to a time base's NOW (R117). -/
def State.timeLeft (s : State) (t : Nat) (target : W64) : Int := (target - (s.tb t).now).toInt

/-- WAITT: goes on at once where the difference is not positive. -/
def execWaitt (q : Fin 8) (w : Fields) (s : State) : Host.Outcome State Fault Refusal :=
  execEngine 0xA0 q w (fun s x =>
    let t := w.mod.toNat % 4
    let v := x.rg w.src1
    .ok (if s.timeLeft t v ≤ 0 then s.sqNext q else s.sqBlock q (.waitt (Fin.ofNat 4 t) v))) s

/-- WAITT_RESUME: the time base reaches the target (R117). -/
def execWaittResume (q : Fin 8) (s : State) : Host.Outcome State Fault Refusal :=
  done s (match (s.sq q.val).wait with
    | .waitt t v =>
      let s := s.passBaseTo t.val v
      if s.timeLeft t.val v ≤ 0 then s.sqNext q else s
    | _ => s)

/-- WAITE: an IMM of 0 traps. -/
def execWaite (q : Fin 8) (w : Fields) (s : State) : Host.Outcome State Fault Refusal :=
  execEngine 0xA1 q w (fun s _ =>
    if w.imm = 0 then .error 6 else .ok (s.sqBlock q (.waite w.imm false))) s

/-- WAITE_RESUME: an event of the mask has occurred (R118). -/
def execWaiteResume (q : Fin 8) (s : State) : Host.Outcome State Fault Refusal :=
  done s (match (s.sq q.val).wait with
    | .waite _ true => s.sqNext q
    | _ => s)

/-- TNOW. -/
def execTnow (q : Fin 8) (w : Fields) (s : State) : Host.Outcome State Fault Refusal :=
  execEngine 0xA2 q w (fun s _ => .ok (s.sqRet q w.dst (s.tb (w.mod.toNat % 4)).now)) s

/-! ### HIST, FRAISE, FACK (R119) -/

/-- HIST: only an engine whose source is the sequencer input takes the sample (R389, R390). -/
def execHist (q : Fin 8) (w : Fields) (s : State) : Host.Outcome State Fault Refusal :=
  execEngine 0xB0 q w (fun s x =>
    let e := (x.rg w.src1).toNat
    let t := s.sqNext q
    if 32 ≤ e then .error 6
    else if s.bit F.MON_HIST_CFG_EN e && s.rd F.MON_HIST_CFG_SRC e = 1 then .ok (t.monEnter e (x.rg w.src2).toInt)
    else .ok t) s

/-- FRAISE: recorded as INJECTED. -/
def execFraise (q : Fin 8) (w : Fields) (s : State) : Host.Outcome State Fault Refusal :=
  execEngine 0xB1 q w (fun s x =>
    let n := (x.rg w.src1).toNat
    if 128 ≤ n then .error 6 else .ok ((s.sqNext q).inject n ((x.rg w.src2).setWidth 32))) s

/-- FACK. -/
def execFack (q : Fin 8) (w : Fields) (s : State) : Host.Outcome State Fault Refusal :=
  execEngine 0xB2 q w (fun s x =>
    let n := (x.rg w.src1).toNat
    if 128 ≤ n then .error 6 else .ok ((s.sqNext q).ackFault n)) s

/-! ### HALT, SLEEP, SYNC, TRAP (R120) -/

/-- HALT: the thread ends (R49). -/
def execHalt (q : Fin 8) (w : Fields) (s : State) : Host.Outcome State Fault Refusal :=
  execEngine 0xF0 q w (fun s _ => .ok ((s.sqNext q).endThread q.val (s.restState q.val))) s

/-- SLEEP: an IMM of 0 traps. -/
def execSleep (q : Fin 8) (w : Fields) (s : State) : Host.Outcome State Fault Refusal :=
  execEngine 0xF1 q w (fun s x =>
    if w.imm = 0 then .error 6
    else .ok (s.setSq q.val { x with st := .sleep, wait := .sleep w.imm false })) s

/-- SLEEP_WAKE: an event of the mask has occurred (R120). -/
def execSleepWake (q : Fin 8) (s : State) : Host.Outcome State Fault Refusal :=
  done s (match (s.sq q.val).wait with
    | .sleep _ true => s.sqNext q
    | _ => s)

/-- SYNC: hook SOFT with argument ga[31:0]; IMM[31:2] must be zero. -/
def execSync (q : Fin 8) (w : Fields) (s : State) : Host.Outcome State Fault Refusal :=
  execEngine 0xF2 q w (fun s x =>
    if 4 ≤ w.imm.toNat then .error 6
    else .ok ((s.sqNext q).fireHook (28 + w.imm.toNat) ((x.rg w.src1).setWidth 32))) s

/-- TRAP: cause 0x80 + IMM[6:0]; IMM[31:7] must be zero. -/
def execTrap (q : Fin 8) (w : Fields) (s : State) : Host.Outcome State Fault Refusal :=
  execEngine 0xF3 q w (fun s _ =>
    if 128 ≤ w.imm.toNat then .error 6 else .ok (s.trap q.val (0x80 + w.imm.toNat))) s

end Sys2Proof.Machine
end

