-- ==== Sys2Proof/Machine/Therm.lean ====
section
/-! DEFINITION. The commands of temperature, housekeeping conversion and thermal drive (16). -/

namespace Sys2Proof.Machine

/-- HK_ROUND_START (R395). -/
def execHkRoundStart (s : State) : Host.Outcome State Fault Refusal := done s s.hkStart

/-- HK_PUBLISH (R397 to R407). -/
def execHkPublish (convs : List HkConv) (s : State) : Host.Outcome State Fault Refusal := done s (s.hkPublish convs)

/-- PWM_RELOAD (R413). -/
def execPwmReload (n : Fin 8) (s : State) : Host.Outcome State Fault Refusal := done s (s.pwmReload n.val)

/-- PWM_SYNC_IN_EDGE (R412): module 0 restarts where it follows the pin, but not in the step in which it has wrapped. -/
def execPwmSyncInEdge (s : State) : Host.Outcome State Fault Refusal :=
  done s (
    if s.bit F.PWM_CTRL_EN 0 && s.bit F.PWM_CTRL_SYNC_EN 0 && decide ((s.pm 0).startAt + s.pwmStep ≤ s.now4) then s.pwmPeriod 0 s.now4 (((s.pm 0).j + 1) % 16) else s)

/-- PWM_ENABLE (R409). -/
def execPwmEnable (n : Fin 8) (en : Bool) (s : State) : Host.Outcome State Fault Refusal := done s (s.ifOpen 6 (s.pwmEnable n.val en))

/-- TRIP_ASSERT (R414). -/
def execTripAssert (k : Fin 4) (s : State) : Host.Outcome State Fault Refusal :=
  done s (s.wr F.PWM_TRIP_STATUS_PIN (s.rd F.PWM_TRIP_STATUS_PIN ||| 2 ^ k.val)).tripLatch

/-- TRIP_CLR (R415). -/
def execTripClr (mask : BitVec 4) (s : State) : Host.Outcome State Fault Refusal := done s (s.ifOpen 6 (s.tripClr mask.toNat))

end Sys2Proof.Machine
end

