-- ==== Sys2Proof/Machine/Dispatch.lean ====
section
/-! DEFINITION. One arm per command: each a direct call of its meaning. -/

namespace Sys2Proof.Machine

def exec (i : Instr) (s : State) : Host.Outcome State Fault Refusal :=
  match i with
  | .registerWrite a => Sys2Proof.Machine.execRegisterWrite a s
  | .memoryWrite a => Sys2Proof.Machine.execMemoryWrite a s
  | .defaultTargetAccess m addr isWrite => Sys2Proof.Machine.execDefaultTargetAccess m addr isWrite s
  | .powerOnReset => Sys2Proof.Machine.execPowerOnReset s
  | .resetNReset => Sys2Proof.Machine.execResetNReset s
  | .softReset => Sys2Proof.Machine.execSoftReset s
  | .debugReset => Sys2Proof.Machine.execDebugReset s
  | .pcieFlr linkLost => Sys2Proof.Machine.execPcieFlr linkLost s
  | .lcNonce => Sys2Proof.Machine.execLcNonce s
  | .lcGo target => Sys2Proof.Machine.execLcGo target s
  | .flashRead addr => Sys2Proof.Machine.execFlashRead addr s
  | .flashProgram addr => Sys2Proof.Machine.execFlashProgram addr s
  | .flashErase4k addr => Sys2Proof.Machine.execFlashErase4k addr s
  | .flashErase64k addr => Sys2Proof.Machine.execFlashErase64k addr s
  | .flashCmdDone ok => Sys2Proof.Machine.execFlashCmdDone ok s
  | .flashQueueIssue => Sys2Proof.Machine.execFlashQueueIssue s
  | .nop q w => Sys2Proof.Machine.execNop q w s
  | .add q w => Sys2Proof.Machine.execAdd q w s
  | .sub q w => Sys2Proof.Machine.execSub q w s
  | .mul q w => Sys2Proof.Machine.execMul q w s
  | .mulhu q w => Sys2Proof.Machine.execMulhu q w s
  | .divu q w => Sys2Proof.Machine.execDivu q w s
  | .remu q w => Sys2Proof.Machine.execRemu q w s
  | .and q w => Sys2Proof.Machine.execAnd q w s
  | .or q w => Sys2Proof.Machine.execOr q w s
  | .xor q w => Sys2Proof.Machine.execXor q w s
  | .shl q w => Sys2Proof.Machine.execShl q w s
  | .shr q w => Sys2Proof.Machine.execShr q w s
  | .sar q w => Sys2Proof.Machine.execSar q w s
  | .addi q w => Sys2Proof.Machine.execAddi q w s
  | .andi q w => Sys2Proof.Machine.execAndi q w s
  | .ori q w => Sys2Proof.Machine.execOri q w s
  | .xori q w => Sys2Proof.Machine.execXori q w s
  | .shli q w => Sys2Proof.Machine.execShli q w s
  | .shri q w => Sys2Proof.Machine.execShri q w s
  | .sari q w => Sys2Proof.Machine.execSari q w s
  | .movi q w => Sys2Proof.Machine.execMovi q w s
  | .movhi q w => Sys2Proof.Machine.execMovhi q w s
  | .min q w => Sys2Proof.Machine.execMin q w s
  | .max q w => Sys2Proof.Machine.execMax q w s
  | .minu q w => Sys2Proof.Machine.execMinu q w s
  | .maxu q w => Sys2Proof.Machine.execMaxu q w s
  | .popc q w => Sys2Proof.Machine.execPopc q w s
  | .clz q w => Sys2Proof.Machine.execClz q w s
  | .bfx q w => Sys2Proof.Machine.execBfx q w s
  | .bfi q w => Sys2Proof.Machine.execBfi q w s
  | .cmp q w => Sys2Proof.Machine.execCmp q w s
  | .cmpi q w => Sys2Proof.Machine.execCmpi q w s
  | .pand q w => Sys2Proof.Machine.execPand q w s
  | .pxor q w => Sys2Proof.Machine.execPxor q w s
  | .por q w => Sys2Proof.Machine.execPor q w s
  | .pnot q w => Sys2Proof.Machine.execPnot q w s
  | .pget q w => Sys2Proof.Machine.execPget q w s
  | .pput q w => Sys2Proof.Machine.execPput q w s
  | .sqid q w => Sys2Proof.Machine.execSqid q w s
  | .rdcyc q w => Sys2Proof.Machine.execRdcyc q w s
  | .fadd q w => Sys2Proof.Machine.execFadd q w s
  | .fsub q w => Sys2Proof.Machine.execFsub q w s
  | .fmul q w => Sys2Proof.Machine.execFmul q w s
  | .fdiv q w => Sys2Proof.Machine.execFdiv q w s
  | .fsqrt q w => Sys2Proof.Machine.execFsqrt q w s
  | .fma q w => Sys2Proof.Machine.execFma q w s
  | .fmin q w => Sys2Proof.Machine.execFmin q w s
  | .fmax q w => Sys2Proof.Machine.execFmax q w s
  | .fabs q w => Sys2Proof.Machine.execFabs q w s
  | .fneg q w => Sys2Proof.Machine.execFneg q w s
  | .fcmp q w => Sys2Proof.Machine.execFcmp q w s
  | .fcvtSL q w => Sys2Proof.Machine.execFcvtSL q w s
  | .fcvtLS q w => Sys2Proof.Machine.execFcvtLS q w s
  | .fmovi q w => Sys2Proof.Machine.execFmovi q w s
  | .fmvgf q w => Sys2Proof.Machine.execFmvgf q w s
  | .fmvfg q w => Sys2Proof.Machine.execFmvfg q w s
  | .ld q w => Sys2Proof.Machine.execLd q w s
  | .st q w => Sys2Proof.Machine.execSt q w s
  | .fld q w => Sys2Proof.Machine.execFld q w s
  | .fst q w => Sys2Proof.Machine.execFst q w s
  | .cas q w => Sys2Proof.Machine.execCas q w s
  | .aadd q w => Sys2Proof.Machine.execAadd q w s
  | .rdx q w => Sys2Proof.Machine.execRdx q w s
  | .wrx q w => Sys2Proof.Machine.execWrx q w s
  | .fence q w => Sys2Proof.Machine.execFence q w s
  | .fenceDone q => Sys2Proof.Machine.execFenceDone q s
  | .br q w => Sys2Proof.Machine.execBr q w s
  | .jmp q w => Sys2Proof.Machine.execJmp q w s
  | .call q w => Sys2Proof.Machine.execCall q w s
  | .callr q w => Sys2Proof.Machine.execCallr q w s
  | .loop q w => Sys2Proof.Machine.execLoop q w s
  | .illegalOpcode q word => Sys2Proof.Machine.execIllegalOpcode q word s
  | .unpin q w => Sys2Proof.Machine.execUnpin q w s
  | .disc q w => Sys2Proof.Machine.execDisc q w s
  | .conn q w => Sys2Proof.Machine.execConn q w s
  | .pin q w => Sys2Proof.Machine.execPin q w s
  | .ledgerStallResume q => Sys2Proof.Machine.execLedgerStallResume q s
  | .epoch q w => Sys2Proof.Machine.execEpoch q w s
  | .abort q w => Sys2Proof.Machine.execAbort q w s
  | .abortResolved q => Sys2Proof.Machine.execAbortResolved q s
  | .solve q w => Sys2Proof.Machine.execSolve q w s
  | .trialSolveDone q => Sys2Proof.Machine.execTrialSolveDone q s
  | .stage q w => Sys2Proof.Machine.execStage q w s
  | .lay q w => Sys2Proof.Machine.execLay q w s
  | .layEpochEnd q => Sys2Proof.Machine.execLayEpochEnd q s
  | .verify q w => Sys2Proof.Machine.execVerify q w s
  | .readwIn q w => Sys2Proof.Machine.execReadwIn q w s
  | .readwOut q w => Sys2Proof.Machine.execReadwOut q w s
  | .readwCell q w => Sys2Proof.Machine.execReadwCell q w s
  | .readwSt q w => Sys2Proof.Machine.execReadwSt q w s
  | .readwStFinal q => Sys2Proof.Machine.execReadwStFinal q s
  | .readwStable q w => Sys2Proof.Machine.execReadwStable q w s
  | .lset q w => Sys2Proof.Machine.execLset q w s
  | .lmode q w => Sys2Proof.Machine.execLmode q w s
  | .lpreset q w => Sys2Proof.Machine.execLpreset q w s
  | .linj q w => Sys2Proof.Machine.execLinj q w s
  | .lcap q w => Sys2Proof.Machine.execLcap q w s
  | .send q w => Sys2Proof.Machine.execSend q w s
  | .sendQueueRoom q => Sys2Proof.Machine.execSendQueueRoom q s
  | .recv q w => Sys2Proof.Machine.execRecv q w s
  | .recvFrameReady q => Sys2Proof.Machine.execRecvFrameReady q s
  | .recvN q w => Sys2Proof.Machine.execRecvN q w s
  | .ack q w => Sys2Proof.Machine.execAck q w s
  | .waitt q w => Sys2Proof.Machine.execWaitt q w s
  | .waittResume q => Sys2Proof.Machine.execWaittResume q s
  | .waite q w => Sys2Proof.Machine.execWaite q w s
  | .waiteResume q => Sys2Proof.Machine.execWaiteResume q s
  | .tnow q w => Sys2Proof.Machine.execTnow q w s
  | .hist q w => Sys2Proof.Machine.execHist q w s
  | .fraise q w => Sys2Proof.Machine.execFraise q w s
  | .fack q w => Sys2Proof.Machine.execFack q w s
  | .halt q w => Sys2Proof.Machine.execHalt q w s
  | .sleep q w => Sys2Proof.Machine.execSleep q w s
  | .sleepWake q => Sys2Proof.Machine.execSleepWake q s
  | .sync q w => Sys2Proof.Machine.execSync q w s
  | .trap q w => Sys2Proof.Machine.execTrap q w s
  | .hookStart q => Sys2Proof.Machine.execHookStart q s
  | .sqStop mask => Sys2Proof.Machine.execSqStop mask s
  | .sqEn mask => Sys2Proof.Machine.execSqEn mask s
  | .trapClr mask => Sys2Proof.Machine.execTrapClr mask s
  | .seqDoorbell value => Sys2Proof.Machine.execSeqDoorbell value s
  | .hcmdUnpin h => Sys2Proof.Machine.execHcmdUnpin h s
  | .hcmdDisc h => Sys2Proof.Machine.execHcmdDisc h s
  | .hcmdConn h => Sys2Proof.Machine.execHcmdConn h s
  | .hcmdPin h => Sys2Proof.Machine.execHcmdPin h s
  | .hcmdOpenEpoch e frame => Sys2Proof.Machine.execHcmdOpenEpoch e frame s
  | .hcmdAbortEpoch e => Sys2Proof.Machine.execHcmdAbortEpoch e s
  | .seqEntryRead m idx => Sys2Proof.Machine.execSeqEntryRead m idx s
  | .entryDeliveryTimeout idx => Sys2Proof.Machine.execEntryDeliveryTimeout idx s
  | .sealEpoch e => Sys2Proof.Machine.execSeal e s
  | .epochEvaluateDeferred e => Sys2Proof.Machine.execEpochEvaluateDeferred e s
  | .slotFreedSolve e => Sys2Proof.Machine.execSlotFreedSolve e s
  | .solveDone => Sys2Proof.Machine.execSolveDone s
  | .weaveResolve slot => Sys2Proof.Machine.execWeaveResolve slot s
  | .stageWeave e => Sys2Proof.Machine.execStageWeave e s
  | .stagingDeadline e => Sys2Proof.Machine.execStagingDeadline e s
  | .layInstant e => Sys2Proof.Machine.execLayInstant e s
  | .layStrobe => Sys2Proof.Machine.execLayStrobe s
  | .layHandBack => Sys2Proof.Machine.execLayHandBack s
  | .settleCheck => Sys2Proof.Machine.execSettleCheck s
  | .unblank => Sys2Proof.Machine.execUnblank s
  | .layComplete => Sys2Proof.Machine.execLayComplete s
  | .laggingCheck => Sys2Proof.Machine.execLaggingCheck s
  | .layReopen output => Sys2Proof.Machine.execLayReopen output s
  | .layEnable en => Sys2Proof.Machine.execLayEnable en s
  | .layFlush => Sys2Proof.Machine.execLayFlush s
  | .restoringLayStart => Sys2Proof.Machine.execRestoringLayStart s
  | .outboundFrame => Sys2Proof.Machine.execOutboundFrame s
  | .driveStrobeFire mask => Sys2Proof.Machine.execDriveStrobeFire mask s
  | .driveRecordRebuild ch => Sys2Proof.Machine.execDriveRecordRebuild ch s
  | .inboundFrame lanes => Sys2Proof.Machine.execInboundFrame lanes s
  | .loopPeriod => Sys2Proof.Machine.execLoopPeriod s
  | .gradientBlock => Sys2Proof.Machine.execGradientBlock s
  | .knownAnswerTest failed => Sys2Proof.Machine.execKnownAnswerTest failed s
  | .loopCoreRetire core => Sys2Proof.Machine.execLoopCoreRetire core s
  | .loopEnable en => Sys2Proof.Machine.execLoopEnable en s
  | .loopCapStop mask => Sys2Proof.Machine.execLoopCapStop mask s
  | .captureDone ch => Sys2Proof.Machine.execCaptureDone ch s
  | .injectionEnd loopNo => Sys2Proof.Machine.execInjectionEnd loopNo s
  | .auxLoopEnable a => Sys2Proof.Machine.execAuxLoopEnable a s
  | .calReq object sense => Sys2Proof.Machine.execCalReq object sense s
  | .calRunStart => Sys2Proof.Machine.execCalRunStart s
  | .calDwell object => Sys2Proof.Machine.execCalDwell object s
  | .calRunEnd object => Sys2Proof.Machine.execCalRunEnd object s
  | .senseCalStep object => Sys2Proof.Machine.execSenseCalStep object s
  | .senseCalRunEnd object => Sys2Proof.Machine.execSenseCalRunEnd object s
  | .blendStart => Sys2Proof.Machine.execBlendStart s
  | .passiveObservation => Sys2Proof.Machine.execPassiveObservation s
  | .passiveExpire cell => Sys2Proof.Machine.execPassiveExpire cell s
  | .calEnable en => Sys2Proof.Machine.execCalEnable en s
  | .calAbort => Sys2Proof.Machine.execCalAbort s
  | .calAreaReload cell entry => Sys2Proof.Machine.execCalAreaReload cell entry s
  | .strandStart => Sys2Proof.Machine.execStrandStart s
  | .linkTrained locked => Sys2Proof.Machine.execLinkTrained locked s
  | .linkAligned adv => Sys2Proof.Machine.execLinkAligned adv s
  | .cartAuthResponse sig => Sys2Proof.Machine.execCartAuthResponse sig s
  | .linkIdentified id => Sys2Proof.Machine.execLinkIdentified id s
  | .strandStream => Sys2Proof.Machine.execStrandStream s
  | .streamEchoReady => Sys2Proof.Machine.execStreamEchoReady s
  | .strandStop => Sys2Proof.Machine.execStrandStop s
  | .portReq => Sys2Proof.Machine.execPortReq s
  | .portRel => Sys2Proof.Machine.execPortRel s
  | .laneFailure lane => Sys2Proof.Machine.execLaneFailure lane s
  | .spareSwitch => Sys2Proof.Machine.execSpareSwitch s
  | .strandLaneTest lane => Sys2Proof.Machine.execStrandLaneTest lane s
  | .laneTestEnd lane pass => Sys2Proof.Machine.execLaneTestEnd lane pass s
  | .idRead waddr => Sys2Proof.Machine.execIdRead waddr s
  | .idWrite waddr data => Sys2Proof.Machine.execIdWrite waddr data s
  | .writeBack => Sys2Proof.Machine.execWriteBack s
  | .poweredHour => Sys2Proof.Machine.execPoweredHour s
  | .wearFold => Sys2Proof.Machine.execWearFold s
  | .dmapAdd entry => Sys2Proof.Machine.execDmapAdd entry s
  | .dmapRemove entry => Sys2Proof.Machine.execDmapRemove entry s
  | .memParity addr byMaster => Sys2Proof.Machine.execMemParity addr byMaster s
  | .instrParityReload index => Sys2Proof.Machine.execInstrParityReload index s
  | .commandFrame f => Sys2Proof.Machine.execCommandFrame f s
  | .statusFrame f => Sys2Proof.Machine.execStatusFrame f s
  | .dataFrame f => Sys2Proof.Machine.execDataFrame f s
  | .ackFrame f => Sys2Proof.Machine.execAckFrame f s
  | .query f => Sys2Proof.Machine.execQuery f s
  | .reply f => Sys2Proof.Machine.execReply f s
  | .commandRetransmit e op seqnum => Sys2Proof.Machine.execCommandRetransmit e op seqnum s
  | .seqNetOpen o => Sys2Proof.Machine.execSeqNetOpen o s
  | .prepare f => Sys2Proof.Machine.execPrepare f s
  | .ready f => Sys2Proof.Machine.execReady f s
  | .readyDeadline e => Sys2Proof.Machine.execReadyDeadline e s
  | .commit f => Sys2Proof.Machine.execCommit f s
  | .abortFrame f => Sys2Proof.Machine.execAbortFrame f s
  | .missed f => Sys2Proof.Machine.execMissed f s
  | .landed f => Sys2Proof.Machine.execLanded f s
  | .stable f => Sys2Proof.Machine.execStable f s
  | .braidFrameRx port frame => Sys2Proof.Machine.execBraidFrameRx port frame s
  | .transmitStart port => Sys2Proof.Machine.execTransmitStart port s
  | .transmitEnd port => Sys2Proof.Machine.execTransmitEnd port s
  | .braidLinkDown port => Sys2Proof.Machine.execBraidLinkDown port s
  | .braidLinkUp port => Sys2Proof.Machine.execBraidLinkUp port s
  | .lagRejoin g => Sys2Proof.Machine.execLagRejoin g s
  | .lagRejoinDone g => Sys2Proof.Machine.execLagRejoinDone g s
  | .gateCommit port => Sys2Proof.Machine.execGateCommit port s
  | .gateListStart port => Sys2Proof.Machine.execGateListStart port s
  | .gateEntryChange port => Sys2Proof.Machine.execGateEntryChange port s
  | .queueSample => Sys2Proof.Machine.execQueueSample s
  | .switchHostTx value => Sys2Proof.Machine.execSwitchHostTx value s
  | .hostFrameEnter => Sys2Proof.Machine.execHostFrameEnter s
  | .hostRxPop => Sys2Proof.Machine.execHostRxPop s
  | .timeInc t inc => Sys2Proof.Machine.execTimeInc t inc s
  | .timeAdj t adj => Sys2Proof.Machine.execTimeAdj t adj s
  | .slewEnd => Sys2Proof.Machine.execSlewEnd s
  | .lockAssert t => Sys2Proof.Machine.execLockAssert t s
  | .lockClear t => Sys2Proof.Machine.execLockClear t s
  | .lockExpire t => Sys2Proof.Machine.execLockExpire t s
  | .cmpArm n target => Sys2Proof.Machine.execCmpArm n target s
  | .cmpDisarm n => Sys2Proof.Machine.execCmpDisarm n s
  | .cmpFire n => Sys2Proof.Machine.execCmpFire n s
  | .ppsOutPulse => Sys2Proof.Machine.execPpsOutPulse s
  | .ppsInEdge => Sys2Proof.Machine.execPpsInEdge s
  | .laySyncOutPulse => Sys2Proof.Machine.execLaySyncOutPulse s
  | .laySyncInEdge => Sys2Proof.Machine.execLaySyncInEdge s
  | .heartbeatSend => Sys2Proof.Machine.execHeartbeatSend s
  | .heartbeatFrameRx hb => Sys2Proof.Machine.execHeartbeatFrameRx hb s
  | .heartbeatPulseIn ns => Sys2Proof.Machine.execHeartbeatPulseIn ns s
  | .redundSurrender => Sys2Proof.Machine.execRedundSurrender s
  | .peerLost => Sys2Proof.Machine.execPeerLost s
  | .hbPath => Sys2Proof.Machine.execHbPath s
  | .failoverGrant => Sys2Proof.Machine.execFailoverGrant s
  | .failoverEchoReady => Sys2Proof.Machine.execFailoverEchoReady s
  | .failoverGrantTimeout => Sys2Proof.Machine.execFailoverGrantTimeout s
  | .redundWdog => Sys2Proof.Machine.execRedundWdog s
  | .watchdogExpire => Sys2Proof.Machine.execWatchdogExpire s
  | .ckptRecordRx r => Sys2Proof.Machine.execCkptRecordRx r s
  | .ckptGapTimeout => Sys2Proof.Machine.execCkptGapTimeout s
  | .ckptResyncDone => Sys2Proof.Machine.execCkptResyncDone s
  | .shadowSend => Sys2Proof.Machine.execShadowSend s
  | .marchPassEnd mismatch => Sys2Proof.Machine.execMarchPassEnd mismatch s
  | .takebackHoldoff => Sys2Proof.Machine.execTakebackHoldoff s
  | .redundTakeback => Sys2Proof.Machine.execRedundTakeback s
  | .takebackQuiesced => Sys2Proof.Machine.execTakebackQuiesced s
  | .handoverFrame => Sys2Proof.Machine.execHandoverFrame s
  | .takebackTimeout => Sys2Proof.Machine.execTakebackTimeout s
  | .redundRestore => Sys2Proof.Machine.execRedundRestore s
  | .faultRaise src detail => Sys2Proof.Machine.execFaultRaise src detail s
  | .faultForce src => Sys2Proof.Machine.execFaultForce src s
  | .faultAckWrite src => Sys2Proof.Machine.execFaultAckWrite src s
  | .releaseFreeze => Sys2Proof.Machine.execReleaseFreeze s
  | .releaseHold => Sys2Proof.Machine.execReleaseHold s
  | .releaseSafe => Sys2Proof.Machine.execReleaseSafe s
  | .safeNAssert => Sys2Proof.Machine.execSafeNAssert s
  | .safeNDeassert => Sys2Proof.Machine.execSafeNDeassert s
  | .monSnap hists trks => Sys2Proof.Machine.execMonSnap hists trks s
  | .monHopIn p ns => Sys2Proof.Machine.execMonHopIn p ns s
  | .histConfigWrite e word value => Sys2Proof.Machine.execHistConfigWrite e word value s
  | .trackerConfigWrite k value => Sys2Proof.Machine.execTrackerConfigWrite k value s
  | .monitorSample => Sys2Proof.Machine.execMonitorSample s
  | .hkRoundStart => Sys2Proof.Machine.execHkRoundStart s
  | .hkPublish convs => Sys2Proof.Machine.execHkPublish convs s
  | .pwmReload n => Sys2Proof.Machine.execPwmReload n s
  | .pwmSyncInEdge => Sys2Proof.Machine.execPwmSyncInEdge s
  | .pwmEnable n en => Sys2Proof.Machine.execPwmEnable n en s
  | .tripAssert k => Sys2Proof.Machine.execTripAssert k s
  | .tripClr mask => Sys2Proof.Machine.execTripClr mask s
  | .clockMonitorWindow mon count => Sys2Proof.Machine.execClockMonitorWindow mon count s
  | .clockDetectorFail d => Sys2Proof.Machine.execClockDetectorFail d s
  | .xtalQualified => Sys2Proof.Machine.execXtalQualified s
  | .xtalQualTimeout level2 => Sys2Proof.Machine.execXtalQualTimeout level2 s
  | .pllLock pll => Sys2Proof.Machine.execPllLock pll s
  | .clkDomSrc d fallback => Sys2Proof.Machine.execClkDomSrc d fallback s
  | .clockSwitchTimeout d => Sys2Proof.Machine.execClockSwitchTimeout d s
  | .refclkRestored => Sys2Proof.Machine.execRefclkRestored s
  | .gateForceTimeout block => Sys2Proof.Machine.execGateForceTimeout block s
  | .pwrCtrl target => Sys2Proof.Machine.execPwrCtrl target s
  | .powerTransitionDone => Sys2Proof.Machine.execPowerTransitionDone s
  | .busTargetTimeout m addr => Sys2Proof.Machine.execBusTargetTimeout m addr s
  | .busMasterReset m => Sys2Proof.Machine.execBusMasterReset m s
  | .masterResetDone m => Sys2Proof.Machine.execMasterResetDone m s
  | .resetRelease => Sys2Proof.Machine.execResetRelease s
  | .startupStepDone => Sys2Proof.Machine.execStartupStepDone s
  | .pcieLinkUp => Sys2Proof.Machine.execPcieLinkUp s
  | .senseVfyReq => Sys2Proof.Machine.execSenseVfyReq s
  | .verifyPassDone => Sys2Proof.Machine.execVerifyPassDone s
  | .synceSquelchEnd k => Sys2Proof.Machine.execSynceSquelchEnd k s
  | .healthFlagClear lane => Sys2Proof.Machine.execHealthFlagClear lane s
  | .ckptRollingUpdate wear => Sys2Proof.Machine.execCkptRollingUpdate wear s

end Sys2Proof.Machine
end

