-- ==== Sys2Proof/Safety.lean ====
section
/-! DEFINITION. What counts as a sound state, in the terms the statements use: the two sparse tables of State
in canonical form, what no command but a few may change, and a command that brings nothing beyond its own
effect. -/

namespace Sys2Proof.Machine

/-- The keys of a sparse table rise strictly from `lo` on. -/
def Sparse.rising {β : Type} : Nat → List (Nat × β) → Bool
  | _, [] => true
  | lo, (a, _) :: l => decide (lo ≤ a) && Sparse.rising (a + 1) l

/-- The memory of bytes holds its canonical form and the register table lists every field once. -/
def State.ok (s : State) : Bool := Memory.wf s.mem && Sparse.rising 0 s.regs

/-- What survives a reset and is not a register: the one-time fuses (R452, R455) and the flash (R442). -/
abbrev Lasting : Type := Fuses × List Host.Cell

/-- The lasting contents of a state. -/
def State.lasting (s : State) : Lasting := (s.boot.fuses, s.boot.flash)

/-- The parts of a sound state with given lasting contents. -/
def GoodOf (z : Lasting) (fuses : Fuses) (flash : List Host.Cell) (regs : List (Nat × W64)) (mem : List Host.Cell) : Prop :=
  (Memory.wf mem && Sparse.rising 0 regs) = true ∧ (fuses, flash) = z

/-- A sound state with given lasting contents. -/
def State.Good (z : Lasting) (s : State) : Prop := GoodOf z s.boot.fuses s.boot.flash s.regs s.mem

/-- A command gave a next state, and it is sound with the lasting contents it had. -/
def Answers (z : Lasting) (o : Host.Outcome State Fault Refusal) : Prop :=
  match o with
  | .next t => t.Good z
  | .fault _ => True
  | .refused _ => True

/-- The commands that can change the fuses or the flash: a write that reaches a register block, the life-cycle
command it stands for, the start-up step that loads the registers of the image, and the end of a flash command. -/
def mayBurn : Instr → Bool
  | .registerWrite a => a.write
  | .memoryWrite a => a.write
  | .wrx _ _ => true
  | .startupStepDone => true
  | .lcGo _ => true
  | .flashCmdDone _ => true
  | _ => false

/-- A command whose own effect is all that happens: no reaction in force, no staged lay gone, no epoch to
solve, no port to flush, no latched trip, no ledger copy to mend. -/
def State.Quiet (s0 s : State) : Prop := unsettled s0 s = false

/-- The state of the machine after a command with effect `t` on `s`: what the reactions in force and the
machine's own standing rules make of it, with the queue as it stood (R382). -/
def State.after (s t : State) : State := { settle s t with pending := s.pending }

/-- The outcome of a command with effect `t` on `s`. -/
abbrev State.goes (s t : State) : Host.Outcome State Fault Refusal := .next (s.after t)

/-- Sequencer `q` runs, the SEQ domain is enabled (R429), and an instruction of this opcode executes: its fields are
legal (R84, R87) and its guard holds (R85). -/
def Runs (opc : Nat) (q : Fin 8) (w : Fields) (s : State) : Prop :=
  (s.sq q.val).st = .run ∧ s.domEnabled 4 = true ∧ legalFields opc w = true ∧ (s.sq q.val).guard w = true

/-- The integer instructions that write one register and go on, with their opcodes (R92). -/
def integerRows : List (Nat × (Fin 8 → Fields → Instr)) :=
  [(0x01, .add), (0x02, .sub), (0x03, .mul), (0x04, .mulhu), (0x05, .divu), (0x06, .remu), (0x07, .and),
    (0x08, .or), (0x09, .xor), (0x0A, .shl), (0x0B, .shr), (0x0C, .sar), (0x0D, .addi), (0x0E, .andi),
    (0x0F, .ori), (0x10, .xori), (0x12, .shri), (0x13, .sari), (0x14, .movi), (0x15, .movhi), (0x16, .min),
    (0x17, .max), (0x18, .minu), (0x19, .maxu), (0x1A, .popc), (0x1B, .clz), (0x28, .sqid), (0x29, .rdcyc)]

/-- Instructions of every family, with their opcodes. -/
def guardedRows : List (Nat × (Fin 8 → Fields → Instr)) :=
  [(0x01, .add), (0x20, .cmp), (0x30, .fadd), (0x40, .ld), (0x41, .st), (0x44, .cas), (0x46, .rdx),
    (0x47, .wrx), (0x50, .br), (0x54, .loop), (0x62, .conn), (0x64, .epoch), (0x80, .lset), (0x90, .send),
    (0xA0, .waitt), (0xB1, .fraise), (0xF0, .halt), (0xF3, .trap)]

end Sys2Proof.Machine
end

