-- ==== Sys2Proof/WellFormed.lean ====
section
/-! DEFINITION. Which commands the surroundings of the block can give: the operands that their rules allow.
No meaning relies on it: every command has a meaning on any operands. -/

namespace Sys2Proof

open Sys2Proof.Machine

/-- A lane of an inbound frame: one of 96, a header and blocks 1 to 37 (R269). -/
def LaneRx.wf (l : LaneRx) : Bool := decide (l.lane < 96) && decide (l.blocks.length = 37)

/-- The records of the identity memory have the sizes of R282. -/
def IdentityLoad.wf (x : IdentityLoad) : Bool :=
  decide (x.desc.length = 256) && decide (x.ident.length = 64) && decide (x.auth.length = 256) &&
    x.wear.all (fun e => decide (e.1 < 21504)) && x.cal.all (fun e => decide (e.1 < 21504) && decide (e.2.length = 32)) &&
    x.senseCal.all (fun e => decide (e.1 < 66560))

/-- An object of calibration: a cell or a sense channel (R249). -/
def calObject (o : BitVec 17) (sense : Bool) : Bool := if sense then decide (o.toNat < 66560) else decide (o.toNat < 21504)

/-- A frame of a type, with reserved flags zero and a payload that LEN can state (R292, R293). -/
def TFrame.ofType (f : TFrame) (t : Nat) : Bool :=
  decide (f.typ.toNat = t) && decide (f.flags.toNat < 32) && decide (f.payload.length ≤ 1472)

/-- An address that only a window maps to a target (R438). -/
def inWindows (a : Nat) : Bool := decide (0x08000000 ≤ a) && decide (a < 0x10000000)

/-- A command is well formed. -/
def Instr.wf (i : Instr) : Bool :=
  match i with
  | .registerWrite a => decide (1 ≤ a.size) && decide (a.size ≤ 256) && (inWindows a.addr.toNat || inRegBlocks a.addr.toNat)
  | .memoryWrite a => decide (1 ≤ a.size) && (decide (a.size ≤ 8) || isBurst a.size) && decide (a.more.length = (a.size - 1) / 8) &&
    (inWindows a.addr.toNat || (memKind a.addr.toNat).isSome)
  | .defaultTargetAccess _ _ _ => true
  | .powerOnReset => true
  | .resetNReset => true
  | .softReset => true
  | .debugReset => true
  | .pcieFlr _ => true
  | .lcNonce => true
  | .lcGo _ => true
  | .flashRead _ => true
  | .flashProgram _ => true
  | .flashErase4k _ => true
  | .flashErase64k _ => true
  | .flashCmdDone _ => true
  | .flashQueueIssue => true
  | .nop _ w => legalFields 0x00 w
  | .add _ w => legalFields 0x01 w
  | .sub _ w => legalFields 0x02 w
  | .mul _ w => legalFields 0x03 w
  | .mulhu _ w => legalFields 0x04 w
  | .divu _ w => legalFields 0x05 w
  | .remu _ w => legalFields 0x06 w
  | .and _ w => legalFields 0x07 w
  | .or _ w => legalFields 0x08 w
  | .xor _ w => legalFields 0x09 w
  | .shl _ w => legalFields 0x0A w
  | .shr _ w => legalFields 0x0B w
  | .sar _ w => legalFields 0x0C w
  | .addi _ w => legalFields 0x0D w
  | .andi _ w => legalFields 0x0E w
  | .ori _ w => legalFields 0x0F w
  | .xori _ w => legalFields 0x10 w
  | .shli _ w => legalFields 0x11 w
  | .shri _ w => legalFields 0x12 w
  | .sari _ w => legalFields 0x13 w
  | .movi _ w => legalFields 0x14 w
  | .movhi _ w => legalFields 0x15 w
  | .min _ w => legalFields 0x16 w
  | .max _ w => legalFields 0x17 w
  | .minu _ w => legalFields 0x18 w
  | .maxu _ w => legalFields 0x19 w
  | .popc _ w => legalFields 0x1A w
  | .clz _ w => legalFields 0x1B w
  | .bfx _ w => legalFields 0x1C w
  | .bfi _ w => legalFields 0x1D w
  | .cmp _ w => legalFields 0x20 w
  | .cmpi _ w => legalFields 0x21 w
  | .pand _ w => legalFields 0x22 w
  | .pxor _ w => legalFields 0x24 w
  | .por _ w => legalFields 0x23 w
  | .pnot _ w => legalFields 0x25 w
  | .pget _ w => legalFields 0x26 w
  | .pput _ w => legalFields 0x27 w
  | .sqid _ w => legalFields 0x28 w
  | .rdcyc _ w => legalFields 0x29 w
  | .fadd _ w => legalFields 0x30 w
  | .fsub _ w => legalFields 0x31 w
  | .fmul _ w => legalFields 0x32 w
  | .fdiv _ w => legalFields 0x33 w
  | .fsqrt _ w => legalFields 0x34 w
  | .fma _ w => legalFields 0x35 w
  | .fmin _ w => legalFields 0x36 w
  | .fmax _ w => legalFields 0x37 w
  | .fabs _ w => legalFields 0x38 w
  | .fneg _ w => legalFields 0x39 w
  | .fcmp _ w => legalFields 0x3A w
  | .fcvtSL _ w => legalFields 0x3B w
  | .fcvtLS _ w => legalFields 0x3C w
  | .fmovi _ w => legalFields 0x3D w
  | .fmvgf _ w => legalFields 0x3E w
  | .fmvfg _ w => legalFields 0x3F w
  | .ld _ w => legalFields 0x40 w
  | .st _ w => legalFields 0x41 w
  | .fld _ w => legalFields 0x42 w
  | .fst _ w => legalFields 0x43 w
  | .cas _ w => legalFields 0x44 w
  | .aadd _ w => legalFields 0x45 w
  | .rdx _ w => legalFields 0x46 w
  | .wrx _ w => legalFields 0x47 w
  | .fence _ w => legalFields 0x48 w
  | .fenceDone _ => true
  | .br _ w => legalFields 0x50 w
  | .jmp _ w => legalFields 0x51 w
  | .call _ w => legalFields 0x52 w
  | .callr _ w => legalFields 0x53 w
  | .loop _ w => legalFields 0x54 w
  | .illegalOpcode _ w => !legalFields (opcOf w) (fieldsOf w)
  | .unpin _ w => legalFields 0x60 w
  | .disc _ w => legalFields 0x61 w
  | .conn _ w => legalFields 0x62 w
  | .pin _ w => legalFields 0x63 w
  | .ledgerStallResume _ => true
  | .epoch _ w => legalFields 0x64 w
  | .abort _ w => legalFields 0x65 w
  | .abortResolved _ => true
  | .solve _ w => legalFields 0x66 w
  | .trialSolveDone _ => true
  | .stage _ w => legalFields 0x67 w
  | .lay _ w => legalFields 0x68 w
  | .layEpochEnd _ => true
  | .verify _ w => legalFields 0x69 w
  | .readwIn _ w => legalFields 0x6A w && w.mod = 0
  | .readwOut _ w => legalFields 0x6A w && w.mod = 1
  | .readwCell _ w => legalFields 0x6A w && w.mod = 2
  | .readwSt _ w => legalFields 0x6A w && w.mod = 3
  | .readwStFinal _ => true
  | .readwStable _ w => legalFields 0x6A w && w.mod = 4
  | .lset _ w => legalFields 0x80 w
  | .lmode _ w => legalFields 0x81 w
  | .lpreset _ w => legalFields 0x82 w
  | .linj _ w => legalFields 0x83 w
  | .lcap _ w => legalFields 0x84 w
  | .send _ w => legalFields 0x90 w
  | .sendQueueRoom _ => true
  | .recv _ w => legalFields 0x91 w && w.mod = 0
  | .recvFrameReady _ => true
  | .recvN _ w => legalFields 0x91 w && w.mod = 1
  | .ack _ w => legalFields 0x92 w
  | .waitt _ w => legalFields 0xA0 w
  | .waittResume _ => true
  | .waite _ w => legalFields 0xA1 w
  | .waiteResume _ => true
  | .tnow _ w => legalFields 0xA2 w
  | .hist _ w => legalFields 0xB0 w
  | .fraise _ w => legalFields 0xB1 w
  | .fack _ w => legalFields 0xB2 w
  | .halt _ w => legalFields 0xF0 w
  | .sleep _ w => legalFields 0xF1 w
  | .sleepWake _ => true
  | .sync _ w => legalFields 0xF2 w
  | .trap _ w => legalFields 0xF3 w
  | .hookStart _ => true
  | .sqStop _ => true
  | .sqEn _ => true
  | .trapClr _ => true
  | .seqDoorbell _ => true
  | .hcmdUnpin _ => true
  | .hcmdDisc _ => true
  | .hcmdConn _ => true
  | .hcmdPin _ => true
  | .hcmdOpenEpoch _ _ => true
  | .hcmdAbortEpoch _ => true
  | .seqEntryRead _ _ => true
  | .entryDeliveryTimeout _ => true
  | .sealEpoch _ => true
  | .epochEvaluateDeferred _ => true
  | .slotFreedSolve _ => true
  | .solveDone => true
  | .weaveResolve _ => true
  | .stageWeave _ => true
  | .stagingDeadline _ => true
  | .layInstant _ => true
  | .layStrobe => true
  | .layHandBack => true
  | .settleCheck => true
  | .unblank => true
  | .layComplete => true
  | .laggingCheck => true
  | .layReopen _ => true
  | .layEnable _ => true
  | .layFlush => true
  | .restoringLayStart => true
  | .outboundFrame => true
  | .driveStrobeFire _ => true
  | .driveRecordRebuild _ => true
  | .inboundFrame lanes => lanes.all LaneRx.wf && decide ((lanes.map (fun l => l.lane)).Nodup)
  | .loopPeriod => true
  | .gradientBlock => true
  | .knownAnswerTest _ => true
  | .loopCoreRetire core => decide (core.toNat < 18)
  | .loopEnable _ => true
  | .loopCapStop _ => true
  | .captureDone _ => true
  | .injectionEnd _ => true
  | .auxLoopEnable _ => true
  | .calReq object sense => calObject object sense
  | .calRunStart => true
  | .calDwell object => calObject object false
  | .calRunEnd object => calObject object false
  | .senseCalStep object => calObject object true
  | .senseCalRunEnd object => calObject object true
  | .blendStart => true
  | .passiveObservation => true
  | .passiveExpire _ => true
  | .calEnable _ => true
  | .calAbort => true
  | .calAreaReload _ entry => decide (entry.length = 32)
  | .strandStart => true
  | .linkTrained _ => true
  | .linkAligned adv => adv.all (fun x => decide (x.1 < 96)) && decide ((adv.map (fun x => x.1)).Nodup)
  | .cartAuthResponse _ => true
  | .linkIdentified id => id.wf
  | .strandStream => true
  | .streamEchoReady => true
  | .strandStop => true
  | .portReq => true
  | .portRel => true
  | .laneFailure _ => true
  | .spareSwitch => true
  | .strandLaneTest lane => decide (lane.toNat < 96)
  | .laneTestEnd _ _ => true
  | .idRead _ => true
  | .idWrite _ _ => true
  | .writeBack => true
  | .poweredHour => true
  | .wearFold => true
  | .dmapAdd _ => true
  | .dmapRemove _ => true
  | .memParity addr _ => (memKind addr.toNat).isSome
  | .instrParityReload _ => true
  | .commandFrame f => f.ofType 0x03
  | .statusFrame f => f.ofType 0x04
  | .dataFrame f => f.ofType 0x01
  | .ackFrame f => f.ofType 0x02
  | .query f => f.ofType 0x05
  | .reply f => f.ofType 0x06
  | .commandRetransmit _ op _ => decide (op.toNat < 4)
  | .seqNetOpen _ => true
  | .prepare f => f.ofType 0x10
  | .ready f => f.ofType 0x11
  | .readyDeadline _ => true
  | .commit f => f.ofType 0x12
  | .abortFrame f => f.ofType 0x13
  | .missed f => f.ofType 0x14
  | .landed f => f.ofType 0x15
  | .stable f => f.ofType 0x16
  | .braidFrameRx _ _ => true
  | .transmitStart _ => true
  | .transmitEnd _ => true
  | .braidLinkDown _ => true
  | .braidLinkUp _ => true
  | .lagRejoin _ => true
  | .lagRejoinDone _ => true
  | .gateCommit _ => true
  | .gateListStart _ => true
  | .gateEntryChange _ => true
  | .queueSample => true
  | .switchHostTx _ => true
  | .hostFrameEnter => true
  | .hostRxPop => true
  | .timeInc _ _ => true
  | .timeAdj _ _ => true
  | .slewEnd => true
  | .lockAssert _ => true
  | .lockClear _ => true
  | .lockExpire _ => true
  | .cmpArm _ _ => true
  | .cmpDisarm _ => true
  | .cmpFire _ => true
  | .ppsOutPulse => true
  | .ppsInEdge => true
  | .laySyncOutPulse => true
  | .laySyncInEdge => true
  | .heartbeatSend => true
  | .heartbeatFrameRx _ => true
  | .heartbeatPulseIn _ => true
  | .redundSurrender => true
  | .peerLost => true
  | .hbPath => true
  | .failoverGrant => true
  | .failoverEchoReady => true
  | .failoverGrantTimeout => true
  | .redundWdog => true
  | .watchdogExpire => true
  | .ckptRecordRx r => decide (r.data.length ≤ 128)
  | .ckptGapTimeout => true
  | .ckptResyncDone => true
  | .shadowSend => true
  | .marchPassEnd _ => true
  | .takebackHoldoff => true
  | .redundTakeback => true
  | .takebackQuiesced => true
  | .handoverFrame => true
  | .takebackTimeout => true
  | .redundRestore => true
  | .faultRaise _ _ => true
  | .faultForce _ => true
  | .faultAckWrite _ => true
  | .releaseFreeze => true
  | .releaseHold => true
  | .releaseSafe => true
  | .safeNAssert => true
  | .safeNDeassert => true
  | .monSnap _ _ => true
  | .monHopIn _ _ => true
  | .histConfigWrite _ _ _ => true
  | .trackerConfigWrite _ _ => true
  | .monitorSample => true
  | .hkRoundStart => true
  | .hkPublish convs => convs.all (fun c => decide (c.input < 40)) && decide ((convs.map (fun c => c.input)).Nodup)
  | .pwmReload _ => true
  | .pwmSyncInEdge => true
  | .pwmEnable _ _ => true
  | .tripAssert _ => true
  | .tripClr _ => true
  | .clockMonitorWindow _ _ => true
  | .clockDetectorFail _ => true
  | .xtalQualified => true
  | .xtalQualTimeout _ => true
  | .pllLock _ => true
  | .clkDomSrc _ _ => true
  | .clockSwitchTimeout _ => true
  | .refclkRestored => true
  | .gateForceTimeout _ => true
  | .pwrCtrl _ => true
  | .powerTransitionDone => true
  | .busTargetTimeout _ _ => true
  | .busMasterReset _ => true
  | .masterResetDone _ => true
  | .resetRelease => true
  | .startupStepDone => true
  | .pcieLinkUp => true
  | .senseVfyReq => true
  | .verifyPassDone => true
  | .synceSquelchEnd _ => true
  | .healthFlagClear _ => true
  | .ckptRollingUpdate _ => true

end Sys2Proof
end

