-- ==== Sys2Proof/Certificates/Slice0/Obligations.lean ====
section
/-! DEFINITION. The statements.  A row is stated by its effect `u`: `s.goes u` is the next state `s.after u`, the
effect with what the reactions in force and the machine's standing rules make of it (see QuietCommandIsItsEffect). -/

open Sys2Proof Sys2Proof.Machine Sys2Proof.Machine.F

/-- A step with a command in front is the command's meaning on the rest of the queue. -/
def Obligations.StepRunsFront : Prop :=
 ∀ (c : Instr) (rest : List Instr) (s : State), s.pending = c :: rest → step s = exec c { s with pending := rest }

/-- On an empty queue a step is one TIME cycle: the model's choice (log entry 1). -/
def Obligations.EmptyQueueRunsTime : Prop :=
 ∀ s : State, s.pending = [] → step s = s.goes (s.passCycles 1)

/-- The state after reset is sound, its queue empty, every register field at its reset value. -/
def Obligations.ResetSound : Prop :=
 State.reset.ok ∧ State.reset.pending = [] ∧ ∀ (f : Fld) (i j k : Nat), State.reset.rd f i j k = f.reset i j % 2 ^ 64

/-- Every command answers a next state, in any state, and leaves the queue. -/
def Obligations.EveryCommandAnswers : Prop :=
 ∀ (c : Instr) (s : State), ∃ t, exec c s = .next t ∧ t.pending = s.pending

/-- Every step keeps the memory and the register fields in their canonical form. -/
def Obligations.StepKeepsForm : Prop :=
 ∀ s t : State, s.ok → step s = .next t → t.ok

/-- No command but those of `mayBurn` changes a fuse or a byte of the flash. -/
def Obligations.OnlyBurnersChangeFusesOrFlash : Prop :=
 ∀ (c : Instr) (s t : State), s.ok → mayBurn c = false → exec c s = .next t →
  t.boot.fuses = s.boot.fuses ∧ t.boot.flash = s.boot.flash

/-- Where nothing stands beside the effect `u` (`State.Quiet`), it leaves `u`, FAULT_N following READY. -/
def Obligations.QuietCommandIsItsEffect : Prop :=
 ∀ s u : State, State.Quiet s u →
  s.after u = { u with fault := { u.fault with faultN := u.pins.ready && !u.safeOn }, pending := s.pending }

/-- The word of a well-formed row reads back as the row, and every word as one such row (R83, R84, R87). -/
def Obligations.EncodingRoundTrip : Prop :=
 (∀ (i : Instr) (q : Fin 8) (w : W64), i.wf → i.word = some (q, w) → decodeWicker q w = i) ∧
 ∀ (q : Fin 8) (w : W64), (decodeWicker q w).wf ∧ (decodeWicker q w).word = some (q, w)

/-- Words written out from R83: OPC 63:56, DST 55:51, SRC1 50:46, SRC2 45:41, GP 40:38, GS 37, MOD 36:32, IMM 31:0. -/
def Obligations.WrittenWords : Prop :=
 decodeWicker 0 0x2109_C001_0000_0001 = .cmpi 0 ⟨1, 7, 0, 0, 0, 1, 1⟩ ∧
 decodeWicker 3 0x5000_0040_0000_0012 = .br 3 ⟨0, 0, 0, 1, 0, 0, 0x12⟩ ∧
 decodeWicker 0 0x6278_DA01_0000_0000 = .conn 0 ⟨15, 3, 13, 0, 0, 1, 0⟩ ∧
 decodeWicker 5 0xC000_0000_0000_0000 = .illegalOpcode 5 0xC000_0000_0000_0000

/-- g0 reads 0, p0 reads 1, writes of them are discarded; every other register keeps what is written (R44). -/
def Obligations.ConstantRegisters : Prop :=
 ∀ (x : Seq) (w : Fields), (x.rg 0 = 0 ∧ ∀ v, x.setG 0 v = x) ∧ (x.rp 0 ∧ ∀ b, x.setP 0 b = x) ∧
  (∀ n m v, n ≠ 0 → (x.setG n v).rg m = if m = n then v else x.rg m) ∧
  (∀ n m b, n ≠ 0 → (x.setP n b).rp m = if m = n then b else x.rp m) ∧ (w.gp = 0 → w.gs = 0 → x.guard w)

/-- The results of the integer instructions (R92, R86); SHRI and SARI take IMM[5:0] (log entry 20). -/
def Obligations.IntegerResults : Prop :=
 ∀ (q : Fin 8) (w : Fields) (s : State),
  let x := s.sq q.val
  let a := x.rg w.src1
  let b := x.rg w.src2
  let n := w.imm.toNat
  let z := w.imm.setWidth 64
  let gives (v : W64) : Host.Outcome State Fault Refusal := .next (s.setSq q.val (x.setG w.dst v).advance)
  let orTrap (ok : Bool) (v : W64) := if ok then gives v else s.goes (s.trap q.val 6)
  let row (c : Nat) (i : Fin 8 → Fields → Instr) (v : W64) : Prop := Runs c q w s → exec (i q w) s = gives v
  row 0x01 .add (a + b) ∧ row 0x02 .sub (a - b) ∧ row 0x03 .mul (a * b) ∧
  row 0x04 .mulhu (BitVec.ofNat 64 (a.toNat * b.toNat / 2 ^ 64)) ∧
  row 0x05 .divu (if b = 0 then BitVec.allOnes 64 else a / b) ∧ row 0x06 .remu (if b = 0 then a else a % b) ∧
  row 0x07 .and (a &&& b) ∧ row 0x08 .or (a ||| b) ∧ row 0x09 .xor (a ^^^ b) ∧
  row 0x0A .shl (a <<< (b.toNat % 64)) ∧ row 0x0B .shr (a >>> (b.toNat % 64)) ∧
  row 0x0C .sar (a.sshiftRight (b.toNat % 64)) ∧
  row 0x16 .min (if b.toInt < a.toInt then b else a) ∧ row 0x17 .max (if a.toInt < b.toInt then b else a) ∧
  row 0x18 .minu (if b.toNat < a.toNat then b else a) ∧ row 0x19 .maxu (if a.toNat < b.toNat then b else a) ∧
  (Runs 0x00 q w s → exec (.nop q w) s = .next (s.setSq q.val x.advance)) ∧
  row 0x0D .addi (a + w.imm.signExtend 64) ∧ row 0x0E .andi (a &&& z) ∧ row 0x0F .ori (a ||| z) ∧
  row 0x10 .xori (a ^^^ z) ∧ (Runs 0x11 q w s → exec (.shli q w) s = orTrap (n < 64) (a <<< n)) ∧
  row 0x12 .shri (a >>> (n % 64)) ∧ row 0x13 .sari (a.sshiftRight (n % 64)) ∧
  row 0x14 .movi (w.imm.signExtend 64) ∧ row 0x15 .movhi (w.imm ++ (x.rg w.dst).extractLsb' 0 32) ∧
  row 0x1A .popc (popc a) ∧ row 0x1B .clz (if a = 0 then 64 else BitVec.ofNat 64 (63 - Nat.log2 a.toNat)) ∧
  (Runs 0x1C q w s → exec (.bfx q w) s = orTrap (bfOk w.imm) ((a >>> bfL w.imm) &&& ones (bfW w.imm))) ∧
  (Runs 0x1D q w s → exec (.bfi q w) s = orTrap (bfOk w.imm) (bfi (x.rg w.dst) a (bfL w.imm) (bfW w.imm))) ∧
  row 0x28 .sqid (BitVec.ofNat 64 q.val) ∧ row 0x29 .rdcyc x.cyc

/-- BFX lies below 2^w, and BFX after BFI gives the w bits inserted (R92). -/
def Obligations.BitFieldsAgree : Prop :=
 ∀ (imm : W32) (d a : W64), bfOk imm → (bfx a (bfL imm) (bfW imm)).toNat < 2 ^ bfW imm ∧
  (bfx (bfi d a (bfL imm) (bfW imm)) (bfL imm) (bfW imm)).toNat = a.toNat % 2 ^ bfW imm

/-- The conditions of CMP and CMPI by MOD (R93), written to pd. -/
def Obligations.Compares : Prop :=
 ∀ (q : Fin 8) (w : Fields) (s : State) (b : W64),
  let x := s.sq q.val
  let a := x.rg w.src1
  let gives (i : Instr) (c : Prop) : Prop :=
   ∃ r : Bool, (r ↔ c) ∧ exec i s = .next (s.setSq q.val (x.setP (pIdx w.dst) r).advance)
  let byMod (i : Instr) : Prop := (w.mod = 0 → gives i (a = b)) ∧ (w.mod = 1 → gives i (a ≠ b)) ∧
   (w.mod = 2 → gives i (a.toInt < b.toInt)) ∧ (w.mod = 3 → gives i (b.toInt ≤ a.toInt)) ∧
   (w.mod = 4 → gives i (a.toNat < b.toNat)) ∧ (w.mod = 5 → gives i (b.toNat ≤ a.toNat))
  (Runs 0x20 q w s → b = x.rg w.src2 → byMod (.cmp q w)) ∧
  (Runs 0x21 q w s → b = w.imm.signExtend 64 → byMod (.cmpi q w))

/-- The predicate instructions (R92): pd is written, or all of p7 to p1 by PPUT, or gd by PGET. -/
def Obligations.PredicateResults : Prop :=
 ∀ (q : Fin 8) (w : Fields) (s : State),
  let x := s.sq q.val
  let a := x.rp (pIdx w.src1)
  let b := x.rp (pIdx w.src2)
  let gives (v : Bool) : Host.Outcome State Fault Refusal := .next (s.setSq q.val (x.setP (pIdx w.dst) v).advance)
  let row (c : Nat) (i : Fin 8 → Fields → Instr) (v : Bool) : Prop := Runs c q w s → exec (i q w) s = gives v
  row 0x22 .pand (a && b) ∧ row 0x23 .por (a || b) ∧ row 0x24 .pxor (xor a b) ∧ row 0x25 .pnot (!a) ∧
  (Runs 0x26 q w s → exec (.pget q w) s =
   .next (s.setSq q.val (x.setG w.dst ((x.preds ||| 1).setWidth 64)).advance)) ∧
  (Runs 0x27 q w s → exec (.pput q w) s =
   .next (s.setSq q.val { x with preds := (x.rg w.src1).setWidth 8 ||| 1, pc := x.pc + 1 }))

/-- The results of the float instructions, and of FABS, FNEG, FMIN, FMAX and FCMP on NaN (R94, R95). -/
def Obligations.FloatResults : Prop :=
 (∀ (q : Fin 8) (w : Fields) (s : State),
  let x := s.sq q.val
  let a := x.rf w.src1
  let b := x.rf w.src2
  let g := x.rg w.src1
  let row (c : Nat) (i : Fin 8 → Fields → Instr) (v : W32) : Prop := Runs c q w s → exec (i q w) s =
   .next (s.setSq q.val (x.setF w.dst v).advance)
  let long (c : Nat) (i : Fin 8 → Fields → Instr) (v : W64) : Prop := Runs c q w s → exec (i q w) s =
   .next (s.setSq q.val (x.setG w.dst v).advance)
  row 0x30 .fadd (F32.add a b) ∧ row 0x31 .fsub (F32.sub a b) ∧ row 0x32 .fmul (F32.mul a b) ∧
  row 0x33 .fdiv (F32.div a b) ∧ row 0x34 .fsqrt (F32.sqrt a) ∧ row 0x35 .fma (F32.fma a b (x.rf w.dst)) ∧
  row 0x36 .fmin (fminW a b) ∧ row 0x37 .fmax (fmaxW a b) ∧
  row 0x38 .fabs (if F32.isNan a then a else flush a &&& 0x7FFFFFFF) ∧
  row 0x39 .fneg (if F32.isNan a then a else flush a ^^^ 0x80000000) ∧
  (Runs 0x3A q w s → exec (.fcmp q w) s = .next (s.setSq q.val (x.setP (pIdx w.dst) (fcondOf w.mod a b)).advance)) ∧
  row 0x3B .fcvtSL (F32.ofInt g.toInt) ∧ long 0x3C .fcvtLS (toLong a) ∧ row 0x3D .fmovi (flush w.imm) ∧
  long 0x3E .fmvgf (a.setWidth 64) ∧ row 0x3F .fmvfg (flush (g.setWidth 32))) ∧ (∀ a b : W32,
  (F32.isNan a → F32.isNan b → fminW a b = 0x7FC00000 ∧ fmaxW a b = 0x7FC00000) ∧
  (F32.isNan a → F32.isNan b = false → fminW a b = flush b ∧ fmaxW a b = flush b) ∧
  (F32.isNan a = false → F32.isNan b → fminW a b = flush a ∧ fmaxW a b = flush a) ∧ (F32.isNan a ∨ F32.isNan b →
   fcondOf 0 a b = false ∧ fcondOf 1 a b = false ∧ fcondOf 2 a b = false ∧ fcondOf 3 a b) ∧
  (F32.isNan a = false → F32.isNan b = false → fcondOf 3 a b = false))

/-- The memories are little-endian, and a store changes its own bytes alone (R12). -/
def Obligations.LittleEndian : Prop :=
 ∀ (s : State) (a n v : Nat), s.ok → s.ld a (n + 1) = (s.ldB a).toNat + 256 * s.ld (a + 1) n ∧
  (∀ i, i < n → (s.st a n v).ldB (a + i) = BitVec.ofNat 8 (v / 256 ^ i)) ∧ (s.st a n v).ld a n = v % 256 ^ n ∧
  ∀ b, (b < a ∨ a + n ≤ b) → (s.st a n v).ldB b = s.ldB b

/-- Loads, stores, CAS, AADD and FENCE; BAD_ADDR outside data memory, MISALIGN inside it (R97). -/
def Obligations.DataMemory : Prop :=
 (∀ (q : Fin 8) (w : Fields) (s : State),
  let x := s.sq q.val
  let ga := x.rg w.src1
  let gb := x.rg w.src2
  let a := (ga + w.imm.signExtend 64).toNat
  let n := 2 ^ (w.mod.toNat % 4)
  let fits (a n : Nat) : Prop := 0x00100000 ≤ a ∧ a < 0x00200000 ∧ a % n = 0
  let old := BitVec.ofNat 64 (s.ld ga.toNat 8)
  (Runs 0x40 q w s → fits a n → exec (.ld q w) s =
   .next (s.setSq q.val (x.setG w.dst (extend n (s.ld a n) (w.mod.getLsbD 2))).advance)) ∧
  (Runs 0x41 q w s → fits a n → exec (.st q w) s = .next ((s.st a n gb.toNat).setSq q.val x.advance)) ∧
  (Runs 0x42 q w s → fits a 4 → exec (.fld q w) s = .next (s.setSq q.val (x.setF w.dst (flush (s.ldW a))).advance)) ∧
  (Runs 0x43 q w s → fits a 4 → exec (.fst q w) s = .next ((s.st a 4 (x.rf w.src2).toNat).setSq q.val x.advance)) ∧
  (Runs 0x44 q w s → fits ga.toNat 8 → exec (.cas q w) s =
   .next ((if old = x.rg w.dst then s.st ga.toNat 8 gb.toNat else s).setSq q.val (x.setG w.dst old).advance)) ∧
  (Runs 0x45 q w s → fits ga.toNat 8 → exec (.aadd q w) s =
   .next ((s.st ga.toNat 8 (old + gb).toNat).setSq q.val (x.setG w.dst old).advance)) ∧
  (Runs 0x48 q w s → exec (.fence q w) s = .next (s.setSq q.val { x with st := .wait, wait := .fence })) ∧
  ((s.sq q.val).wait = .fence → exec (.fenceDone q) s =
   .next (s.setSq q.val { x with pc := x.pc + 1, st := .run, wait := .none }))) ∧
 (∀ (q : Fin 8) (w : Fields) (s : State),
  let x := s.sq q.val
  let a := (x.rg w.src1 + w.imm.signExtend 64).toNat
  let n := 2 ^ (w.mod.toNat % 4)
  let outside : Prop := a < 0x00100000 ∨ 0x00200000 ≤ a
  let traps (i : Instr) (c : Nat) : Prop := exec i s = s.goes (s.trap q.val c)
  let row (c n : Nat) (i : Instr) : Prop := Runs c q w s → (outside → traps i 2) ∧ (¬ outside → a % n ≠ 0 → traps i 3)
  row 0x40 n (.ld q w) ∧ row 0x41 n (.st q w) ∧ row 0x42 4 (.fld q w) ∧ row 0x43 4 (.fst q w))

/-- What the integer instructions, and the storing ones, leave alone (R92, R96, R97). -/
def Obligations.InstructionFrames : Prop :=
 (∀ (opc : Nat) (f : Fin 8 → Fields → Instr) (q : Fin 8) (w : Fields) (s t : State), Runs opc q w s →
   (opc, f) ∈ integerRows →
  exec (f q w) s = .next t → t.mem = s.mem ∧ t.regs = s.regs ∧ (∀ p : Fin 8, p ≠ q → t.sq p.val = s.sq p.val) ∧
   (∀ m, m ≠ w.dst → (t.sq q.val).rg m = (s.sq q.val).rg m) ∧ (t.sq q.val).f = (s.sq q.val).f ∧
   (t.sq q.val).preds = (s.sq q.val).preds ∧ (t.sq q.val).pc = (s.sq q.val).pc + 1 ∧
   t.ledger = s.ledger ∧ t.fault = s.fault ∧ t.time = s.time) ∧
 (∀ (q : Fin 8) (w : Fields) (s t : State) (i : Instr) (a n : Nat), s.ok →
  let x := s.sq q.val
  let ea := (x.rg w.src1 + w.imm.signExtend 64).toNat
  ((i = .st q w ∧ Runs 0x41 q w s ∧ a = ea ∧ n = 2 ^ (w.mod.toNat % 4)) ∨
   (i = .fst q w ∧ Runs 0x43 q w s ∧ a = ea ∧ n = 4) ∨
   (i = .cas q w ∧ Runs 0x44 q w s ∧ a = (x.rg w.src1).toNat ∧ n = 8) ∨
   (i = .aadd q w ∧ Runs 0x45 q w s ∧ a = (x.rg w.src1).toNat ∧ n = 8)) →
  0x00100000 ≤ a → a < 0x00200000 → a % n = 0 → exec i s = .next t → (∀ b, (b < a ∨ a + n ≤ b) → t.ldB b = s.ldB b) ∧
   (∀ p : Fin 8, p ≠ q → t.sq p.val = s.sq p.val) ∧
   (∀ m, m ≠ w.dst → (t.sq q.val).rg m = x.rg m) ∧ (t.sq q.val).f = x.f ∧ (t.sq q.val).preds = x.preds ∧
   (t.sq q.val).pc = x.pc + 1 ∧ t.regs = s.regs ∧ t.ledger = s.ledger ∧ t.fault = s.fault ∧ t.time = s.time)

/-- Control flow (R99), modulo 65,536 (R87); LOOP on g0 never branches (log entry 20). -/
def Obligations.ControlFlow : Prop :=
 ∀ (q : Fin 8) (w : Fields) (s : State),
  let x := s.sq q.val
  let target := x.pc + w.imm.setWidth 16
  let back : W64 := (x.pc + 1).setWidth 64
  (Runs 0x50 q w s → exec (.br q w) s = .next (s.setSq q.val { x with pc := target })) ∧
  (Runs 0x51 q w s → exec (.jmp q w) s = .next (s.setSq q.val { x with pc := (x.rg w.src1).setWidth 16 })) ∧
  (Runs 0x52 q w s → exec (.call q w) s = .next (s.setSq q.val { x.setG w.dst back with pc := target })) ∧
  (Runs 0x53 q w s → exec (.callr q w) s =
   .next (s.setSq q.val { x.setG w.dst back with pc := (x.rg w.src1).setWidth 16 })) ∧
  (Runs 0x54 q w s → w.dst ≠ 0 → exec (.loop q w) s = .next (s.setSq q.val { x.setG w.dst (x.rg w.dst - 1) with
    pc := if x.rg w.dst - 1 ≠ 0 then target else x.pc + 1 })) ∧
  (Runs 0x54 q w s → w.dst = 0 → exec (.loop q w) s = .next (s.setSq q.val x.advance))

/-- A false guard skips, an illegal word traps, a disabled SEQ domain runs nothing, and what a trap keeps (R85, R87, R88,
R429). -/
def Obligations.GuardsAndTraps : Prop :=
 (∀ (opc : Nat) (f : Fin 8 → Fields → Instr) (q : Fin 8) (w : Fields) (s : State), (s.sq q.val).st = .run →
  (opc, f) ∈ guardedRows →
  (s.domEnabled 4 → legalFields opc w → (s.sq q.val).guard w = false →
   exec (f q w) s = .next (s.setSq q.val { s.sq q.val with pc := (s.sq q.val).pc + 1 })) ∧
  (s.domEnabled 4 → legalFields opc w = false → exec (f q w) s = s.goes (s.trap q.val 1)) ∧
  (s.domEnabled 4 = false → exec (f q w) s = .next s)) ∧
 (∀ (q : Fin 8) (word : W64) (s : State), (s.sq q.val).st = .run → s.domEnabled 4 →
   legalFields (opcOf word) (fieldsOf word) = false →
  exec (.illegalOpcode q word) s = s.goes (s.trap q.val 1) ∧ decodeWicker q word = .illegalOpcode q word) ∧
 (∀ (q p : Fin 8) (c : Nat) (s : State),
  let u := s.trap q.val c
  (u.sq q.val).st = .trapped ∧ (u.sq q.val).pc = (s.sq q.val).pc ∧ (u.sq q.val).cause = BitVec.ofNat 8 c ∧
  (u.sq p.val).g = (s.sq p.val).g ∧ (u.sq p.val).f = (s.sq p.val).f ∧ (u.sq p.val).preds = (s.sq p.val).preds ∧
  u.mem = s.mem ∧ u.ledger = s.ledger)

/-- RDX and WRX: misaligned, answered, and met with an error response (R96, R97). -/
def Obligations.BusInstructions : Prop :=
 ∀ (q : Fin 8) (w : Fields) (s : State),
  let x := s.sq q.val
  let a := (x.rg w.src1 + w.imm.signExtend 64).toNat
  let n := 2 ^ (w.mod.toNat % 4)
  let rd := (s.sqNext q).access (q.val + 1) a n false 0
  let wr := (s.sqNext q).access (q.val + 1) a n true ((x.rg w.src2).toNat % 256 ^ n)
  let failed (t : State) : State := (t.setSq q.val { t.sq q.val with pc := x.pc }).trap q.val 4
  (Runs 0x46 q w s → a % n ≠ 0 → exec (.rdx q w) s = s.goes (s.trap q.val 3)) ∧
  (Runs 0x47 q w s → a % n ≠ 0 → exec (.wrx q w) s = s.goes (s.trap q.val 3)) ∧
  (∀ v, Runs 0x46 q w s → a % n = 0 → s.mayIssue (q.val + 1) false → rd.2 = some v → exec (.rdx q w) s =
    s.goes (rd.1.setSq q.val ((rd.1.sq q.val).setG w.dst (BitVec.ofNat 64 v)))) ∧
  (∀ v, Runs 0x47 q w s → a % n = 0 → s.mayIssue (q.val + 1) true → wr.2 = some v → exec (.wrx q w) s = s.goes wr.1) ∧
  (Runs 0x46 q w s → a % n = 0 → s.mayIssue (q.val + 1) false → rd.2 = none →
   exec (.rdx q w) s = s.goes (failed rd.1)) ∧
  (Runs 0x47 q w s → a % n = 0 → s.mayIssue (q.val + 1) true → wr.2 = none → exec (.wrx q w) s = s.goes (failed wr.1))

/-- UNPIN, DISC, CONN and PIN file a command, or stall while every entry is in use (R59, R101, R102). -/
def Obligations.FilingInstructions : Prop :=
 ∀ (q : Fin 8) (w : Fields) (s : State),
  let x := s.sq q.val
  let gb := x.rg w.src2
  let num : W32 := if w.mod.getLsbD 0 then gb.extractLsb' 32 32 else w.imm
  let filed (op : CmdOp) : State × Option (W32 × Status × Bool) :=
   s.file (s.ownCmd op (gb.extractLsb' 0 16).toNat (gb.extractLsb' 16 16).toNat ((x.rg w.src1).setWidth 32) num) false
  let files (i : Instr) (op : CmdOp) : Prop :=
   (∀ v, (filed op).2 = some v → exec i s = s.goes ((filed op).1.sqRet q w.dst (v.2.1.word ++ v.1))) ∧
   ((filed op).2 = none → exec i s = s.goes ((filed op).1.sqBlock q (.stall op w)))
  (Runs 0x60 q w s → files (.unpin q w) .unpin) ∧ (Runs 0x61 q w s → files (.disc q w) .disc) ∧
  (Runs 0x62 q w s → files (.conn q w) .conn) ∧ (Runs 0x63 q w s → files (.pin q w) .pin) ∧
  ∀ op, x.wait = .stall op w → files (.ledgerStallResume q) op

/-- EPOCH, ABORT, STAGE, LAY, VERIFY and the ends of their waits (R103, R104, R106 to R108). -/
def Obligations.EpochInstructions : Prop :=
 ∀ (q : Fin 8) (w : Fields) (s : State),
  let x := s.sq q.val
  let e : W32 := (x.rg w.src1).setWidth 32
  let opened := s.openLocal e ((x.rg w.src2).setWidth 32)
  let staged := s.stageInstr e w.imm
  let pass := s.requestPass
  (Runs 0x64 q w s → exec (.epoch q w) s = s.goes (opened.1.sqRet q w.dst (opened.2.word.setWidth 64))) ∧
  (Runs 0x65 q w s → s.everOpened e → exec (.abort q w) s = s.goes (s.sqBlock q (.abort w.dst e))) ∧
  (Runs 0x65 q w s → s.everOpened e = false → exec (.abort q w) s =
   s.goes (s.sqRet q w.dst (St.none.word.setWidth 64))) ∧ (Runs 0x67 q w s → w.imm.toNat < 4 → exec (.stage q w) s =
   s.goes (staged.1.sqRet q w.dst (staged.2.word.setWidth 64))) ∧
  (Runs 0x67 q w s → 4 ≤ w.imm.toNat → exec (.stage q w) s = s.goes (s.trap q.val 6)) ∧
  (∀ v, Runs 0x68 q w s → s.layResult e = some v → exec (.lay q w) s = s.goes (s.sqRet q w.dst v)) ∧
  (Runs 0x68 q w s → s.layResult e = none → exec (.lay q w) s = s.goes (s.sqBlock q (.layEnd w.dst e))) ∧
  (Runs 0x69 q w s → exec (.verify q w) s = s.goes (pass.1.sqRet q w.dst
   ((if pass.2 then St.accepted else St.blocked 0).word.setWidth 64))) ∧
  (∀ d f, x.wait = .abort d f → exec (.abortResolved q) s =
   s.goes ((s.abortRequest f).1.sqRet q d ((s.abortRequest f).2.word.setWidth 64))) ∧
  (∀ d f v, x.wait = .layEnd d f → s.layResult f = some v → exec (.layEpochEnd q) s = s.goes (s.sqRet q d v))

/-- SOLVE queues the trial `trialOutcome` judges now, or traps for its buffer; TRIAL_SOLVE_DONE serves the first one
queued while no epoch is to be solved (R105). -/
def Obligations.TrialSolve : Prop :=
 ∀ (q : Fin 8) (w : Fields) (s : State),
  let x := s.sq q.val
  let b := (x.rg w.src2).toNat
  let cap := w.imm.toNat
  let r := s.trialOutcome ((x.rg w.src1).extractLsb' 0 16).toNat ((x.rg w.src1).extractLsb' 16 16).toNat
  let fits : Prop := 0x00100000 ≤ b ∧ b + 8 + 8 * cap ≤ 0x00200000
  let trials (t : State) (l : List (Fin 8)) : State := { t with solve := { t.solve with trials := l } }
  let first := if s.solve.trials.isEmpty && s.solve.running.isNone then s.takeSolveMode else s
  (Runs 0x66 q w s → fits → b % 8 = 0 → exec (.solve q w) s =
   s.goes ((trials first (first.solve.trials ++ [q])).sqBlock q (.trial w.dst b cap r.1 r.2))) ∧
  (Runs 0x66 q w s → ¬ fits → exec (.solve q w) s = s.goes (s.trap q.val 2)) ∧
  (Runs 0x66 q w s → fits → b % 8 ≠ 0 → exec (.solve q w) s = s.goes (s.trap q.val 3)) ∧
  (∀ d buf n st moves, x.wait = .trial d buf n st moves → s.solverFree → s.solve.trials.head? = some q →
   let u := trials s (s.solve.trials.drop 1)
   let u := if u.solve.trials.isEmpty then u else u.takeSolveMode
   exec (.trialSolveDone q) s = s.goes (((moves.map (u.writeMoves buf n)).getD u).sqRet q d (st.word.setWidth 64)))

/-- READW of a stable view, of the stable epoch, of a status; READW waits while ACCEPTED (R109, R60). -/
def Obligations.StableReads : Prop :=
 ∀ (q : Fin 8) (w : Fields) (s : State),
  let x := s.sq q.val
  let n := (x.rg w.src1).toNat
  let legal (m : BitVec 5) : Prop := Runs 0x6A q { w with mod := m } s
  (legal 0 → n % 65536 < 1024 → exec (.readwIn q w) s = s.goes (s.sqRet q w.dst (s.viewIn (n % 65536)))) ∧
  (legal 1 → n % 65536 < 1024 → exec (.readwOut q w) s = s.goes (s.sqRet q w.dst (s.viewOut (n % 65536)))) ∧
  (legal 2 → n % 32768 < 21504 → exec (.readwCell q w) s = s.goes (s.sqRet q w.dst (s.viewCell (n % 32768)))) ∧
  (legal 3 → exec (.readwSt q w) s = s.goes (s.readStatus q w.dst ((x.rg w.src1).setWidth 32))) ∧
  (legal 4 → exec (.readwStable q w) s = s.goes (s.sqRet q w.dst s.viewStable)) ∧
  (legal 0 → 1024 ≤ n % 65536 → exec (.readwIn q w) s = s.goes (s.trap q.val 6)) ∧
  (legal 2 → 21504 ≤ n % 32768 → exec (.readwCell q w) s = s.goes (s.trap q.val 6)) ∧
  (∀ d h p, x.wait = .stFinal d h → s.entryOf h = some p → p.2.status.code ≠ 1 → exec (.readwStFinal q) s =
   s.goes ((s.entryRead p.1).sqRet q d (p.2.status.word.setWidth 64)))

/-- LSET, LMODE, LPRESET, LINJ and LCAP: taken, and refused (R111, R112). -/
def Obligations.LoopInstructions : Prop :=
 (∀ (q : Fin 8) (w : Fields) (s : State),
  let x := s.sq q.val
  let l := (x.rg w.src1).toNat % 65536
  let m := w.mod.toNat
  let fb := x.rf w.src2
  let gb := (x.rg w.src2).toNat
  let arg := if w.mod.getLsbD 0 then some fb else none
  let takes (i : Instr) (u : State) : Prop := exec i s = s.goes (u.sqRet q w.dst (St.accepted.word.setWidth 64))
  let cell : Prop := l < 21504 ∧ s.cellAbsent l = false ∧ s.cellState l ≠ 3
  let aux : Prop := 21504 ≤ l ∧ l < 21568
  (Runs 0x80 q w s → cell → m ≤ 7 → takes (.lset q w) (s.lsetCell l m fb)) ∧
  (Runs 0x80 q w s → aux → m ∈ [0, 1, 3, 8, 9, 10, 11, 12, 13, 14, 15] → takes (.lset q w) (s.lsetAux (l - 21504) m fb)) ∧
  (Runs 0x81 q w s → cell → w.imm.toNat ≤ 2 → takes (.lmode q w) (s.cellInstr (.mode l w.imm.toNat))) ∧
  (Runs 0x81 q w s → aux → w.imm.toNat ≤ 2 → takes (.lmode q w) (s.setAuxMode (l - 21504) w.imm.toNat)) ∧
  (Runs 0x82 q w s → cell → takes (.lpreset q w) (s.cellInstr (.preset l arg))) ∧
  (Runs 0x82 q w s → aux → takes (.lpreset q w) (s.presetAuxInstr (l - 21504) arg)) ∧
  (Runs 0x83 q w s → cell → gb = 0 → takes (.linj q w) (s.cellInstr (.inj l []))) ∧
  (Runs 0x83 q w s → cell → gb ≠ 0 → s.injTrap true gb = none →
    takes (.linj q w) (s.cellInstr (.inj l (s.injWords gb)))) ∧
  (Runs 0x83 q w s → aux → gb ≠ 0 → s.injTrap false gb = none →
    takes (.linj q w) (s.setInj l (injOfWords (s.injWords gb)))) ∧
  (Runs 0x84 q w s → cell ∨ aux → gb ≤ 47 → w.imm.toNat < 1024 → takes (.lcap q w) (s.startCapture l gb w.imm.toNat))) ∧
 (∀ (q : Fin 8) (w : Fields) (s : State),
  let l := ((s.sq q.val).rg w.src1).toNat % 65536
  let refused (i : Instr) : Prop := exec i s = s.goes (s.sqRet q w.dst ((St.defect 0).word.setWidth 64))
  let gone : Prop := l < 21504 ∧ (s.cellAbsent l ∨ s.cellState l = 3)
  (Runs 0x80 q w s → gone → w.mod.toNat ≤ 7 → refused (.lset q w)) ∧
  (Runs 0x81 q w s → gone → w.imm.toNat ≤ 2 → refused (.lmode q w)) ∧
  (Runs 0x82 q w s → gone → refused (.lpreset q w)) ∧
  (Runs 0x83 q w s → gone → (s.sq q.val).rg w.src2 = 0 → refused (.linj q w)) ∧
  (Runs 0x84 q w s → gone → ((s.sq q.val).rg w.src2).toNat ≤ 47 → w.imm.toNat < 1024 → refused (.lcap q w)) ∧
  (Runs 0x82 q w s → 21568 ≤ l → exec (.lpreset q w) s = s.goes (s.trap q.val 6)))

/-- SEND and its operands, RECV, RECV.n, ACK and the ends of their waits (R114, R115, R294). -/
def Obligations.FrameInstructions : Prop :=
 (∀ (q : Fin 8) (w : Fields) (s : State),
  let x := s.sq q.val
  let a := (x.rg w.src1).toNat
  let o := sendOf (x.rg w.src2)
  (o.ok ↔ 1 ≤ o.len ∧ o.len ≤ 1472 ∧ o.cls ≤ 5 ∧ (o.typ = 0 ∨ (o.typ = 1 ∧ o.cls = 4)) ∧ (o.cls = 5 → o.len = 16)) ∧
  (o.ok = false → s.sendTrap a o = some 6) ∧
  (o.ok → (a < 0x00100000 ∨ 0x00200000 < a + o.len) → s.sendTrap a o = some 2) ∧
  (∀ c, Runs 0x90 q w s → s.sendTrap a o = some c → exec (.send q w) s = s.goes (s.trap q.val c)) ∧
  (Runs 0x90 q w s → s.sendTrap a o = none → s.sendRoom → exec (.send q w) s =
   s.goes ((s.queueSend a o).sqRet q w.dst 0)) ∧
  (Runs 0x90 q w s → s.sendTrap a o = none → s.sendRoom = false → exec (.send q w) s =
   s.goes (s.sqBlock q (.send w))) ∧
  (x.wait = .send w → s.sendTrap a o = none → s.sendRoom → exec (.sendQueueRoom q) s =
   s.goes ((s.queueSend a o).sqRet q w.dst 0))) ∧ (∀ (q : Fin 8) (w : Fields) (s : State),
  let x := s.sq q.val
  let k : Fin 8 := Fin.ofNat 8 (w.imm.toNat % 8)
  let a := (x.rg w.src1).toNat
  let taken (i : Instr) : Prop := ∀ r rest, s.net.rxq.get k = r :: rest →
   let p := r.frame.payload.take (x.rg w.src2).toNat
   let u : State := { s with net := { s.net with rxq := s.net.rxq.set k rest, unacked := s.net.unacked ++ [r] } }
   0x00100000 ≤ a → a + Nat.max p.length 1 ≤ 0x00200000 → exec i s =
    s.goes ((u.stBytes a p).sqRet q w.dst (r.token ++ (r.frame.src ++ BitVec.ofNat 16 r.frame.payload.length)))
  let empty : Prop := s.net.rxq.get k = [] ∧ 0x00100000 ≤ a ∧ a < 0x00200000
  (Runs 0x91 q { w with mod := 0 } s → taken (.recv q w)) ∧ (Runs 0x91 q { w with mod := 1 } s → taken (.recvN q w)) ∧
  (x.wait = .recv w → taken (.recvFrameReady q)) ∧
  (Runs 0x91 q { w with mod := 0 } s → empty → exec (.recv q w) s = s.goes (s.sqBlock q (.recv w))) ∧
  (Runs 0x91 q { w with mod := 1 } s → empty → exec (.recvN q w) s = s.goes (s.sqRet q w.dst 0)) ∧
  (∀ r, Runs 0x92 q w s → s.net.unacked.find? (fun r => r.token = (x.rg w.src1).setWidth 32) = some r →
   exec (.ack q w) s = s.goes ((({ s with net := { s.net with unacked := s.net.unacked.erase r } } : State).sendCounted
    2 r.frame.cls.toNat r.frame.src 0 0 r.frame.seqnum (natBytes 4 ((x.rg w.src2).setWidth 32).toNat)).sqNext q)) ∧
  (Runs 0x92 q w s → s.net.unacked.find? (fun r => r.token = (x.rg w.src1).setWidth 32) = none →
   exec (.ack q w) s = s.goes (s.sqNext q)))

/-- WAITT, WAITE, TNOW, SLEEP, HIST, FRAISE, FACK, SYNC and TRAP (R116 to R120). -/
def Obligations.TimeAndSystemInstructions : Prop :=
 (∀ (q : Fin 8) (w : Fields) (s : State),
  let x := s.sq q.val
  let t := w.mod.toNat % 4
  let left := (x.rg w.src1 - (s.tb t).now).toInt
  (Runs 0xA0 q w s → left ≤ 0 → exec (.waitt q w) s = s.goes (s.sqNext q)) ∧
  (Runs 0xA0 q w s → 0 < left → exec (.waitt q w) s = s.goes (s.sqBlock q (.waitt (Fin.ofNat 4 t) (x.rg w.src1)))) ∧
  (Runs 0xA1 q w s → w.imm ≠ 0 → exec (.waite q w) s = s.goes (s.sqBlock q (.waite w.imm false))) ∧
  (Runs 0xA1 q w s → w.imm = 0 → exec (.waite q w) s = s.goes (s.trap q.val 6)) ∧
  (Runs 0xA2 q w s → exec (.tnow q w) s = s.goes (s.sqRet q w.dst (s.tb t).now)) ∧
  (Runs 0xF1 q w s → w.imm ≠ 0 → exec (.sleep q w) s =
   s.goes (s.setSq q.val { x with st := .sleep, wait := .sleep w.imm false })) ∧
  (∀ b v, x.wait = .waitt b v → let p := s.passBaseTo b.val v
   (v - (p.tb b.val).now).toInt ≤ 0 → exec (.waittResume q) s = s.goes (p.sqNext q)) ∧
  (∀ m, x.wait = .waite m true → exec (.waiteResume q) s = s.goes (s.sqNext q)) ∧
  (∀ m, x.wait = .sleep m true → exec (.sleepWake q) s = s.goes (s.sqNext q))) ∧
 (∀ (q : Fin 8) (w : Fields) (s : State),
  let x := s.sq q.val
  let a := (x.rg w.src1).toNat
  let t := s.sqNext q
  (Runs 0xB0 q w s → a < 32 → s.bit MON_HIST_CFG_EN a → s.rd MON_HIST_CFG_SRC a = 1 →
   exec (.hist q w) s = s.goes (t.monEnter a (x.rg w.src2).toInt)) ∧
  (Runs 0xB0 q w s → a < 32 → s.bit MON_HIST_CFG_EN a = false → exec (.hist q w) s = s.goes t) ∧
  (Runs 0xB1 q w s → a < 128 → exec (.fraise q w) s = s.goes (t.inject a ((x.rg w.src2).setWidth 32))) ∧
  (Runs 0xB2 q w s → a < 128 → exec (.fack q w) s = s.goes (t.ackFault a)) ∧
  (Runs 0xB2 q w s → 128 ≤ a → exec (.fack q w) s = s.goes (s.trap q.val 6)) ∧
  (Runs 0xF2 q w s → w.imm.toNat < 4 → exec (.sync q w) s =
   s.goes (t.fireHook (28 + w.imm.toNat) ((x.rg w.src1).setWidth 32))) ∧
  (Runs 0xF3 q w s → w.imm.toNat < 128 → exec (.trap q w) s = s.goes (s.trap q.val (0x80 + w.imm.toNat))))

/-- HALT ends the thread and keeps the registers, which a thread that starts later finds (R49). -/
def Obligations.HaltEndsThread : Prop :=
 ∀ (q : Fin 8) (w : Fields) (s : State),
  let x := s.sq q.val
  (Runs 0xF0 q w s → ∃ u, exec (.halt q w) s = s.goes u ∧
   (u.sq q.val).st = (if (s.rd SEQ_CTRL_SQ_EN).testBit q.val then .idle else .halted) ∧
   (u.sq q.val).g = x.g ∧ (u.sq q.val).f = x.f ∧ (u.sq q.val).preds = x.preds) ∧
  (∀ h, x.st = .idle → s.pendingHook q.val = some h → ∃ u, exec (.hookStart q) s = s.goes u ∧
   (u.sq q.val).f = x.f ∧ (u.sq q.val).preds = x.preds ∧ ∀ n, n ≠ 0 → n ≠ 1 → n ≠ 2 → (u.sq q.val).rg n = x.rg n)

/-- HOOK_START runs the lowest pending hook of a sequencer; SEQ_DOORBELL is hook HOST (R51, R52, R53). -/
def Obligations.Hooks : Prop :=
 (∀ (q : Fin 8) (s : State) (h : Nat), s.ok → (s.sq q.val).st = .idle → s.bit SEQ_HOOK_PEND h →
  s.rd SEQ_HOOK_TARGET h = q.val → h < 32 →
  (∀ g, g < h → s.bit SEQ_HOOK_PEND g = false ∨ s.rd SEQ_HOOK_TARGET g ≠ q.val) →
  ∃ u, exec (.hookStart q) s = s.goes u ∧ (u.sq q.val).st = .run ∧
   (u.sq q.val).rg 1 = ((alist s.hookArgs h).getD 0).setWidth 64 ∧ (u.sq q.val).rg 2 = BitVec.ofNat 64 h ∧
   (u.sq q.val).pc = BitVec.ofNat 16 (s.rd SEQ_HOOK_ENTRY h) ∧ u.bit SEQ_HOOK_PEND h = false ∧ u.mem = s.mem) ∧
 (∀ (v : W32) (s : State), s.ok → s.bit SEQ_HOOK_EN 26 →
  (s.bit SEQ_HOOK_PEND 26 = false → ∃ u, exec (.seqDoorbell v) s = s.goes u ∧
   u.bit SEQ_HOOK_PEND 26 ∧ alist u.hookArgs 26 = some v ∧ u.mem = s.mem ∧ u.ledger = s.ledger) ∧
  (s.bit SEQ_HOOK_PEND 26 → ∃ u, exec (.seqDoorbell v) s = s.goes u ∧
   u.rd SEQ_HOOK_OVF 26 = Nat.min 0xFFFF (s.rd SEQ_HOOK_OVF 26 + 1) ∧ u.hookArgs = s.hookArgs))

/-- SQ_STOP, SQ_EN and TRAP_CLR (R47, R50, R88) on every sequencer their masks name. -/
def Obligations.SequencerControl : Prop :=
 ∀ (mask : BitVec 8) (q : Fin 8) (s : State),
  (mask.getLsbD q.val → (s.sq q.val).st = .run ∨ (s.sq q.val).st = .wait ∨ (s.sq q.val).st = .sleep →
   ∃ u, exec (.sqStop mask) s = s.goes u ∧ (u.sq q.val).st = .halted ∧
    (u.sq q.val).g = (s.sq q.val).g ∧ u.ledger = s.ledger) ∧
  (s.ok → ∃ u, exec (.sqEn mask) s = s.goes u ∧ u.rd SEQ_CTRL_SQ_EN = mask.toNat ∧
   ((s.sq q.val).st = .run → (u.sq q.val).st = .run) ∧ (s.pins.ready = false → u.seqs = s.seqs) ∧
   (s.pins.ready → (s.sq q.val).st = .halted → mask.getLsbD q.val → (u.sq q.val).st = .idle) ∧
   (s.pins.ready → (s.sq q.val).st = .idle → mask.getLsbD q.val = false → (u.sq q.val).st = .halted)) ∧
  (mask.getLsbD q.val → (s.sq q.val).st = .trapped → ∃ u, exec (.trapClr mask) s = s.goes u ∧ (u.sq q.val).cause = 0 ∧
    (u.sq q.val).st = if (s.rd SEQ_CTRL_SQ_EN).testBit q.val then .idle else .halted)

/-- The submissions of the host, and what its result register shows (R59, R64, R66, R70). -/
def Obligations.HostSubmissions : Prop :=
 ∀ (h : HostCmd) (e frame : W32) (s : State), s.ok →
  let filed (op : CmdOp) := s.file (s.ownCmd op h.input.toNat h.output.toNat h.epoch h.seqnum) false
  let files (i : Instr) (op : CmdOp) : Prop := ∀ v, (filed op).2 = some v →
   ∃ u, exec i s = s.goes u ∧ u.ledger = (filed op).1.ledger ∧
    u.rd SEQ_HCMD_RESULT_HANDLE = v.1.toNat ∧ u.rd SEQ_HCMD_RESULT_STATUS = v.2.1.word.toNat
  files (.hcmdUnpin h) .unpin ∧ files (.hcmdDisc h) .disc ∧ files (.hcmdConn h) .conn ∧ files (.hcmdPin h) .pin ∧
  (∃ u, exec (.hcmdOpenEpoch e frame) s = s.goes u ∧ u.ledger = (s.openLocal e frame).1.ledger ∧
   u.rd SEQ_HCMD_RESULT_STATUS = (s.openLocal e frame).2.word.toNat) ∧
  (∃ u, exec (.hcmdAbortEpoch e) s = s.goes u ∧ u.ledger = (s.abortRequest e).1.ledger ∧
   u.rd SEQ_HCMD_RESULT_STATUS = (s.abortRequest e).2.word.toNat)

/-- A resend files nothing: same operands, same status; else REFUSED_BLOCKED with KEY_CLASH (R58). -/
def Obligations.Resends : Prop :=
 ∀ (c : Cmd) (remote : Bool) (k : Nat) (e : Entry) (s : State), s.everOpened c.epoch →
  s.ledger.entries.find? (fun p => p.2.cmd.epoch = c.epoch && p.2.cmd.op = c.op && p.2.cmd.dev = c.dev &&
   p.2.cmd.seqnum = c.seqnum) = some (k, e) →
  (s.file c remote).1 = s ∧
  (e.cmd.input = c.input ∧ e.cmd.output = c.output → ∃ h, (s.file c remote).2 = some (h, e.status, false)) ∧
  (¬ (e.cmd.input = c.input ∧ e.cmd.output = c.output) → (s.file c remote).2 = some (0, St.blocked 0x13, false))

/-- Seal, evaluation, slot, solve, remade weave (R64, R65, R68, R143, R145, R149), entry delivery (R60), wear fold
(R38) and defect map (R32, R142). -/
def Obligations.EpochPipeline : Prop :=
 (∀ (e : W32) (x : Epoch) (s : State), (s.ledger.epochs.find? (fun x => x.st = .opened) = some x → x.num = e →
   exec (.sealEpoch e) s = s.goes (s.sealEpoch x)) ∧
  (s.epoch? e = some x → x.st = .sealed → x.evaluated = false → s.baseSolved x →
   exec (.epochEvaluateDeferred e) s = s.goes (s.evaluate e).nextSolve) ∧
  (s.ledger.epochs.find? (fun x => x.st = .sealed && x.slot.isNone) = some x → x.num = e →
   exec (.slotFreedSolve e) s = s.goes (s.takeSlot e).nextSolve) ∧
  (∀ n, s.solve.running = some e → s.epoch? e = some x → x.slot = some n →
   exec .solveDone s = s.goes (s.finishSolve x n)) ∧
  (∀ n : Fin 16, s.rd SOLVE_SLOTS_STATE 0 0 n.val = 4 → exec (.weaveResolve n) s =
   s.goes ((s.putWeave n.val 4 (s.tracedWeave (s.weave n.val))).slotMended n.val)) ∧
  (∀ n : Fin 16, exec (.weaveResolve n) s = s.goes (State.resolveSlot 16 s n)) ∧
  (∀ (m : Master) (i : Fin 2048), exec (.seqEntryRead m i) s =
   s.goes ((s.respond m.val true (s.entryWord i.val)).entryRead i.val)) ∧
  (∀ (i : Fin 2048) (n : Entry), alist s.ledger.entries i.val = some n → s.epoch? n.cmd.epoch = some x →
   x.ended → exec (.entryDeliveryTimeout i) s =
    s.goes ((s.passTo (x.endT + 100000000 * nsUnit)).freeEntry i.val))) ∧ (∀ (entry : W32) (s : State),
  (s.domOpen 3 → ∃ u l, exec .wearFold s = s.goes u ∧ u.solve.foldPending = some l ∧ u.solve.wearSnap = s.solve.wearSnap ∧
   (∀ c n, (c, n) ∈ l ↔ c ∈ presentCells s.strand.geomY512 ∧ n = s.liveWear c ∧ n ≠ 0) ∧ u.ledger = s.ledger) ∧
  (s.domOpen 3 → ∃ u, exec (.dmapAdd entry) s = s.goes u ∧ u = s.dmapAdd entry ∧ u.solve.dmapForce = s.solve.dmapForce) ∧
  (s.domOpen 3 → ∃ u, exec (.dmapRemove entry) s = s.goes u ∧ u = s.dmapRemove entry ∧ u.solve.dmapForce =
    s.solve.dmapForce))

/-- Staging and its deadline (R153, R145, R170), and the lay instant (R155, R71, R277). -/
def Obligations.LayStarts : Prop :=
 (∀ (e : W32) (x : Epoch) (n : Fin 16) (s : State), s.epoch? e = some x →
  let d := s.passTo x.deadline.toNat
  (x.slot = some n → s.mayStage x n → exec (.stageWeave e) s = s.goes ((s.stage x n).tryReady e)) ∧
  (x.st = .sealed → exec (.stagingDeadline e) s =
   s.goes ((d.abortPlain x.num (St.aborted (if x.slot.isSome then 0x121 else 0x120))).fireHook 5 x.num)) ∧
  (x.st = .solved → d.bit LAY_CTRL_EN → d.ledger.noLays = false → x.slot.any (fun n => d.slotBad n.val) = false →
   exec (.stagingDeadline e) s = s.goes (d.layRefuse x (St.late 0x200) 3 0x200)) ∧
  (x.st = .solved → d.bit LAY_CTRL_EN = false →
   exec (.stagingDeadline e) s = s.goes (d.layRefuse x (St.aborted 0x204) 3 0x204))) ∧
 (∀ (e : W32) (x : Epoch) (y : StagedLay) (s : State), s.epoch? e = some x →
  s.lay.staged.find? (fun (y : StagedLay) => y.epoch = e) = some y → (∀ l, s.lay.cur = some l → l.kind ≠ .epoch) →
  let d := s.passTo (frameAt x.layFrame)
  let busy := d.lay.cur.isSome || d.lay.recover.any (fun r => !r.waitStream && !r.waitLane)
  let linked : Prop := d.rd STRAND_STATUS_STATE = 5 ∧ d.bit STRAND_STATUS_OWNER
  let may : Prop := d.strand.failed = [] ∧ d.onRco = false ∧ x.passed = false ∧ d.strand.sentFrame ≤ x.layFrame ∧
   d.frame ≤ x.layFrame
  let answers (u : State) : Prop := exec (.layInstant e) s = s.goes u
  (d.frozen → answers (d.abortPlain x.num (St.aborted 0x34))) ∧
  (d.frozen = false → busy → answers (d.layRefuse x (St.aborted 0x207) 3 0x207)) ∧
  (d.frozen = false → busy = false → ¬ linked → answers (d.layRefuse x (St.aborted 0x208) 3 0x208)) ∧
  (d.frozen = false → busy = false → linked → ¬ may → answers (d.layRefuse x (St.late 0x200) 3 0x200)) ∧
  (d.frozen = false → busy = false → linked → may → x.net.any (fun n => !n.commitHeld) →
   answers (d.abortPlain x.num St.missed)) ∧
  (d.frozen = false → busy = false → linked → may → x.net.any (fun n => !n.commitHeld) = false →
   d.slotBad y.slot.val = false → d.ledger.noLays = false → answers (d.beginLay x y)))

/-- The steps of a lay (R156, R157), LAGGING_CHECK (R165), LAY_REOPEN (R167), EN, FLUSH (R170), restoring lays (R388). -/
def Obligations.LayProgress : Prop :=
 (∀ (l : Lay) (s : State), s.lay.cur = some l →
  let at' (k : Nat) := s.passTo (frameAt (l.frame + l.s + k))
  (l.strobed = false → exec .layStrobe s = s.goes ((at' 0).strobe l)) ∧
  (l.strobed → l.handed = false → exec .layHandBack s = s.goes ((at' 1).handBack l)) ∧
  (l.strobed → l.m < l.timeout → exec .settleCheck s = s.goes ((at' (2 * (l.m + 1))).settleCheck l)) ∧
  (0 < l.m → exec .unblank s = s.goes ((at' (2 * l.m + 1)).unblank l)) ∧ (∀ m l', l.mayComplete → l.finalM = some m →
   let p := (s.passTo (frameAt (l.lastFrame m))).unblank l
   p.lay.cur = some l' → exec .layComplete s = s.goes (p.completeLay l' m))) ∧ (∀ s : State, s.ok →
  (∀ f, s.lagNext = some f → exec .laggingCheck s = s.goes ((s.passTo (frameAt f)).laggingCheck f)) ∧
  (∀ o : BitVec 10, s.lay.vfyClosed.contains o.toNat → s.layHolds o.toNat = false →
   let u : State := { s with lay := { s.lay with vfyClosed := s.lay.vfyClosed.filter (· ≠ o.toNat) } }
   exec (.layReopen o) s =
    s.goes (if u.lay.lagging.any (fun g => g.output = o.toNat) then u else u.openShutter (outShut o.toNat))) ∧
  (∀ en : Bool, ∃ u, exec (.layEnable en) s = s.goes u ∧ u.bit LAY_CTRL_EN = en ∧ u.mem = s.mem) ∧
  exec .layFlush s = s.goes s.flushLays ∧ (∀ r, s.lay.recover = some r → r.kind = .restoring → s.mayRecover r →
   exec .restoringLayStart s = s.goes ((s.passTo (frameAt r.at')).beginRecovery r)))

/-- Drive frames, strobes, rebuilds (R216, R227, R267); periods, gradients, cores, captures, injections, EN and
auxiliary loops (R177 to R205). -/
def Obligations.DriveAndLooper : Prop :=
 (∀ s : State, (2 ≤ s.rd STRAND_STATUS_STATE → s.rd STRAND_STATUS_STATE ≤ 5 → s.lanesRun →
   exec .outboundFrame s = s.goes s.sendStrandFrame.inboundHeld.fenceAfterFrame) ∧
  (∀ mask : BitVec 16, exec (.driveStrobeFire mask) s =
   s.goes { s with drive := { s.drive with fire := s.drive.fire ++ [(s.frame40, mask &&& 0xFFFC)] } }) ∧
  (∀ c : Fin 45056, s.drive.bad.contains c.val → s.loop.echoWait.contains (c.val / 2) = false →
   exec (.driveRecordRebuild c) s = s.goes (s.driveRebuild c.val))) ∧ (∀ s : State, s.ok →
  exec .loopPeriod s = s.goes s.loopPeriod ∧ (s.rd LOOP_PERIOD_P % 64 = 0 → 0 < s.strand.count →
   exec .gradientBlock s = s.goes (s.demodulate (s.rd LOOP_PERIOD_P))) ∧
  (∀ m : BitVec 18, ∃ u, exec (.knownAnswerTest m) s = s.goes u ∧
   ∀ n, n < 18 → m.getLsbD n → (s.rd LOOP_CORE_ACTIVE).testBit n → n ∈ u.loop.retire) ∧
  (∀ c : BitVec 5, s.domOpen 2 → c.toNat ≤ 17 → ∃ u, exec (.loopCoreRetire c) s = s.goes u ∧ c.toNat ∈ u.loop.retire ∧
   u.regs = s.regs ∧ u.mem = s.mem) ∧
  (s.domOpen 2 → ∃ u, exec (.loopEnable false) s = s.goes u ∧ u.bit LOOP_CTRL_EN = false ∧ u.mem = s.mem) ∧
  (s.domOpen 2 → s.bit LOOP_CTRL_EN = false → exec (.loopEnable true) s =
   let u := forEach s.serviceCells (fun s c => s.presetCell c (s.cw c 0x08) (s.cw c 0x10)) (s.wrB LOOP_CTRL_EN true)
   s.goes (forEach ((List.range 64).filter (fun a => u.bit LOOP_AUX_CFG_EN a))
    (fun s a => s.presetAux a (s.auxS a 1)) u)) ∧ (∀ m : BitVec 48, s.domOpen 2 → exec (.loopCapStop m) s =
   s.goes (forEach ((maskBits m.toNat 48).filter (fun ch => s.bit LOOP_CAP_STATUS_ACTIVE ch)) State.capEnd s)) ∧
  (∀ ch : Fin 48, s.bit LOOP_CAP_STATUS_ACTIVE ch.val → 4096 ≤ s.rd LOOP_CAP_STATUS_COUNT ch.val →
   exec (.captureDone ch) s = s.goes (s.capEnd ch.val)) ∧ (∀ (n : Fin 21568) i, s.injOf n.val = some i → i.value.2.2 →
   exec (.injectionEnd n) s = s.goes (s.setInj n.val none)) ∧ (∀ a : Fin 64, s.domOpen 2 →
     s.bit LOOP_AUX_CFG_EN a.val = false →
   exec (.auxLoopEnable a) s = s.goes ((s.wrB LOOP_AUX_CFG_EN true a.val).presetAux a.val 0)))

/-- SENSE_VFY_REQ (R241) and the end of a pass of 1,024 chips (R242). -/
def Obligations.Verification : Prop :=
 ∀ s : State, s.ok → (s.requestPass.2 → exec .senseVfyReq s = s.goes s.requestPass.1) ∧
  (s.requestPass.2 = false → ∃ u, exec .senseVfyReq s = s.goes u ∧
   u.bit SENSE_VFY_STATUS_REQ_REF ∧ u.sense = s.sense ∧ u.mem = s.mem) ∧
  (∀ v d, s.sense.pass = some v → s.strand.desc = some d → 1024 ≤ v.chips →
   exec .verifyPassDone s = s.goes (s.postPass v d))

/-- Calibration requests, runs, blends, passive observation, EN, ABORT and area reloads (R252 to R264). -/
def Obligations.Calibration : Prop :=
 (∀ (o : BitVec 17) (sense : Bool) (s : State), s.ok →
  let known := s.cal.queue.any (fun r => r.object = o.toNat && r.sense = sense) ||
   s.cal.runs.any (fun r => r.req.object = o.toNat && r.req.sense = sense)
  let answers (n : Nat) (queue : List CalReq) : Prop :=
   ∃ u, exec (.calReq o sense) s = s.goes u ∧ u.rd CAL_REQ_RESULT_OUTCOME = n ∧ u.cal.queue = queue ∧
    u.mem = s.mem ∧ u.ledger = s.ledger
  (known → answers 13 s.cal.queue) ∧ (known = false → 256 ≤ s.cal.queue.length → answers 14 s.cal.queue) ∧
  (known = false → s.cal.queue.length < 256 → s.bit CAL_CTRL_EN = false → answers 16 s.cal.queue) ∧
  (known = false → s.cal.queue.length < 256 → s.bit CAL_CTRL_EN →
   answers 1 (s.cal.queue ++ [CalReq.mk o.toNat sense 0 none false false]))) ∧
 (∀ (s : State) (o : BitVec 17) (r : CalRun), s.ok →
  let others : List CalRun := s.cal.runs.filter (fun x => !(x.req.object = o.toNat && !x.req.sense))
  let rests (t : State) : State := { t with cal := { t.cal with runs := others } }
  (∀ q rest, s.cal.queue = q :: rest → s.bit THERM_STATUS_CART_VALID →
   s.bit CAL_CTRL_EN ∨ q.first.isSome ∨ q.attempts ≠ 0 → s.calCheck q = none →
   s.calWaits q = false → s.holdOn = false → s.safeOn = false → exec .calRunStart s =
    s.goes (({ s with cal := { s.cal with queue := rest } } : State).calBegin { q with seen := true })) ∧
  (s.runOf o.toNat false = some r → exec (.calDwell o) s = s.goes (s.calDwell o.toNat)) ∧
  (s.runOf o.toNat false = some r → 127 < r.dwell → exec (.calRunEnd o) s =
   s.goes ((rests (if s.inService o.toNat then s else s.restArms o.toNat)).calJudge r.req (s.calFitRun r))) ∧
  (s.runOf o.toNat true = some r → exec (.senseCalStep o) s = s.goes (s.senseStep o.toNat)) ∧
  (s.runOf o.toNat true = some r → 2 ≤ r.dwell → exec (.senseCalRunEnd o) s = s.goes (s.senseRunEnd o.toNat)) ∧
  (∀ b, (s.cal.blends.filter (·.running)).length < 16 → s.cal.blends.find? (fun b => !b.running) = some b →
   ∃ u, exec .blendStart s = s.goes u ∧ u.mem = s.mem ∧ u.regs = s.regs ∧
    ∃ x ∈ u.cal.blends, x.cell = b.cell ∧ x.set = b.set ∧ x.running) ∧
  (s.bit CAL_CTRL_PASSIVE_EN → s.bit THERM_STATUS_CART_VALID →
   exec .passiveObservation s = s.goes (forEach s.serviceCells State.passiveCell s)) ∧
  (∀ c : Fin 21504, s.cCal c.val 12 1 = 1 → exec (.passiveExpire c) s = s.goes ((s.passTo
   ((s.tb0Sec.toNat - s.passiveAge c.val + 60) * 1000000000 * nsUnit)).passiveClear c.val)) ∧
  (∀ en : Bool, ∃ u, exec (.calEnable en) s = s.goes u ∧ u.bit CAL_CTRL_EN = en ∧ u.cal = s.cal) ∧
  exec .calAbort s = s.goes s.calAbortAll ∧ (∀ (c : Fin 21504) (l : List (W32)), s.cal.reload.contains c.val →
   ∃ u, exec (.calAreaReload c l) s = s.goes u ∧ u.cal.reload = s.cal.reload.filter (· ≠ c.val) ∧
    u.mem = ((s.loadCal c.val l).setCCal c.val 6 1 1).mem))

/-- The link comes up (R284, R287; no locked lane: log entry 34); identity memory (R283, R285); POWERED_HOUR (R40). -/
def Obligations.LinkUp : Prop :=
 (∀ s : State, s.ok →
  let st := s.rd STRAND_STATUS_STATE
  (s.domOpen 8 → s.mayStart → exec .strandStart s = s.goes s.startLink.clampInc) ∧
  (s.bit SYS_STATUS_BOOT_FAIL ∨ s.rd PWR_STATUS_STATE = 3 ∨ s.laneClock = false → exec .strandStart s = s.goes s) ∧
  (∀ locked : BitVec 96, st = 1 → s.lanesRun → locked ≠ 0 →
   let t := forEach (List.range 96) (fun s n => s.wrB STRAND_LANE_LOCK (locked.getLsbD n) n) (s.wr STRAND_STATUS_STATE 2)
   exec (.linkTrained locked) s = s.goes
    (forEach ((List.range 96).filter (fun n => !locked.getLsbD n)) State.failLane t.laneCoeffs).laneStatus) ∧
  (st = 1 → s.lanesRun → ∃ u, exec (.linkTrained (BitVec.allOnes 96)) s = s.goes u ∧
   u.rd STRAND_STATUS_STATE = 2 ∧ u.mem = s.mem ∧ ∀ n, n < 96 → u.bit STRAND_LANE_LOCK n) ∧
  (st = 1 → s.lanesRun → ∃ u, exec (.linkTrained 0) s = s.goes u ∧ u.rd STRAND_STATUS_STATE = 6 ∧ u.mem = s.mem) ∧
  (∀ adv, st = 2 → ∃ u, exec (.linkAligned adv) s = s.goes u ∧ u.rd STRAND_STATUS_STATE = 3 ∧
   u.fresh = s.fresh + 8 ∧ u.mem = s.mem) ∧ (∀ sig : BitVec 512, st = 3 → s.strand.authSig = none →
   s.strand.chalAt.any (fun t => decide (t + 20 * msCycles < s.time.cycle)) = false →
   exec (.cartAuthResponse sig) s = s.goes { s with strand := { s.strand with authSig := some sig } }) ∧
  (∀ id, st = 3 → exec (.linkIdentified id) s = s.goes (if (s.identify id).bit REDUND_CTRL_EN then
   ((s.identify id).setRole 3).portCmd true else s.identify id))) ∧ (∀ s : State, s.ok →
  (∀ a : BitVec 22, s.domOpen 8 → exec (.idRead a) s = s.goes (s.idSubmit (idAccess false a.toNat 0))) ∧
  (∀ (a : BitVec 22) d, s.domOpen 8 → exec (.idWrite a d) s = s.goes (s.idSubmit (idAccess true a.toNat d))) ∧
  (∀ c, (s.idSubmit c).rd STRAND_ID_RESULT_STATUS = if c.gated && !s.writeGate then 4 else 5) ∧
  exec .writeBack s = s.goes s.writeBack ∧
  (∀ d, s.strand.desc = some d → ∃ u, exec .poweredHour s = s.goes u ∧ u.strand.hours = s.strand.hours + 1 ∧
   u.strand.wbThermal))

/-- Streaming and ownership (R288), inbound frames (R267, R279; their order: log entry 2), lanes (R273 to R275). -/
def Obligations.LinkRuns : Prop :=
 (∀ s : State, (s.domOpen 8 → s.mayStream → s.bit STRAND_CTRL_ECHO_PRESET → ∃ u, exec .strandStream s = s.goes u ∧
   u.strand.streamWait ∧ u.regs = s.regs ∧ u.mem = s.mem) ∧
  (s.domOpen 8 → s.mayStream → s.bit STRAND_CTRL_ECHO_PRESET = false →
   exec .strandStream s = s.goes (s.startStream false)) ∧ (s.mayStream = false → exec .strandStream s = s.goes s) ∧
  (s.strand.streamWait → s.mayStream → s.echoComplete → exec .streamEchoReady s = s.goes (s.startStream true)) ∧
  (s.domOpen 8 → exec .strandStop s = s.goes s.streamOff ∧
   exec .portReq s = s.goes (s.portCmd true) ∧ exec .portRel s = s.goes (s.portCmd false)) ∧
  (∀ rxs, 2 ≤ s.rd STRAND_STATUS_STATE → s.rd STRAND_STATUS_STATE ≤ 5 → s.lanesRun →
   (∀ e f l, s.strand.flight = e :: f :: l → exec (.inboundFrame rxs) s =
    s.goes (({ s with strand := { s.strand with flight := f :: l } } : State).takeInbound e rxs)) ∧
   (∀ e, s.strand.flight = [e] → s.strand.rxHeld = none → exec (.inboundFrame rxs) s =
    s.goes { s with strand := { s.strand with rxHeld := some rxs } }))) ∧ (∀ s : State, s.ok →
  (∀ n : Fin 96, s.bit STRAND_LANE_LOCK n.val → exec (.laneFailure n) s = s.goes
   (((s.wrB STRAND_LANE_LOCK false n.val).wrB STRAND_LANE_ALIGNED false n.val).failLane n.val)) ∧
  exec .spareSwitch s = s.goes (s.applySwitches s.strand.count (Nat.max s.strand.sentFrame s.frame)) ∧
  (∀ n : BitVec 7, s.domOpen 8 → n.toNat < 96 → s.laneRole n.toNat = 3 → ∃ u, exec (.strandLaneTest n) s = s.goes u ∧
   alist u.strand.testing n.toNat = some s.time.cycle ∧ u.laneRole n.toNat = 4 ∧ u.mem = s.mem) ∧
  (∀ (n : Fin 96) (t : Nat), alist s.strand.testing n.val = some t →
   let p := s.passToCycle (t + 10 * msCycles)
   exec (.laneTestEnd n false) s = s.goes ((({ p with strand := { p.strand with
    testing := adel p.strand.testing n.val } } : State).setLane n.val 3 0x7F).laneStatus)))

/-- Frames for the sequencers (R293, R295); repeats count in DUP alone (R305); every other frame has the operation
of its name, after it has left the inbox. -/
def Obligations.NetworkFrames : Prop :=
 (∀ (f : TFrame) (s : State), exec (.dataFrame f) s = s.goes ((s.takeInbox f).rxEnter (3 + f.cls.toNat) f) ∧
  exec (.ackFrame f) s = s.goes ((s.takeInbox f).rxEnter 1 f) ∧
  exec (.reply f) s = s.goes ((s.takeInbox f).rxEnter 2 f) ∧ ∀ k : Fin 8, s.ok →
   let q := s.net.rxq.get k
   (q.length < 64 → ∃ r, (s.rxEnter k.val f).net.rxq.get k = q ++ [r] ∧ r.frame = f) ∧
   (64 ≤ q.length → (s.rxEnter k.val f).net.rxq = s.net.rxq ∧ (s.rxEnter k.val f).rd SEQ_NET_RXQ_DROP k.val =
    Nat.min (2 ^ SEQ_NET_RXQ_DROP.width - 1) (s.rd SEQ_NET_RXQ_DROP k.val + 1))) ∧ (∀ (f : TFrame) (s : State),
  let t := s.takeInbox f
  let h := t.hear 0x14 f
  let repeated (typ : BitVec 8) (i : Instr) : Prop := s.net.heard.contains (typ, f.epoch, f.src) →
   exec i s = s.goes (t.inc SEQ_NET_ERR_DUP)
  repeated 0x10 (.prepare f) ∧ repeated 0x11 (.ready f) ∧ repeated 0x12 (.commit f) ∧ repeated 0x13 (.abortFrame f) ∧
  repeated 0x14 (.missed f) ∧ repeated 0x15 (.landed f) ∧ repeated 0x16 (.stable f) ∧
  exec (.commandFrame f) s = s.goes (t.commandFrame f) ∧ exec (.statusFrame f) s = s.goes (t.statusFrame f) ∧
  exec (.query f) s = s.goes (t.sendCounted 6 4 f.src 0 0 f.seqnum (t.replyPayload f.payload)) ∧
  (∀ o, exec (.seqNetOpen o) s = s.goes (s.netOpen o)) ∧
  exec (.prepare f) s = s.goes (t.prepare f) ∧ exec (.ready f) s = s.goes (t.ready f) ∧
  exec (.commit f) s = s.goes (t.commit f) ∧ exec (.abortFrame f) s = s.goes (t.abortFrame f) ∧
  exec (.missed f) s = s.goes (if h.2 then (h.1.rxEnter 2 f).missedReport f.epoch f.src else h.1) ∧
  exec (.landed f) s = s.goes (t.landed f) ∧ exec (.stable f) s = s.goes (t.stable f) ∧
  (∀ r e op n, s.net.retrans.find? (fun r => r.frame.epoch = e && r.frame.seqnum = n &&
   bytesAt r.frame.payload 12 1 = op.toNat) = some r → exec (.commandRetransmit e op n) s = s.goes (s.retransmit r)) ∧
  (∀ e x n, s.epoch? e = some x → x.net = some n → n.coordinator → n.decided = false → x.ended = false →
   exec (.readyDeadline e) s = s.goes (s.readyDeadline x n)))

/-- Braid ports and outputs (R316 to R332), and a group's rejoin (R327). -/
def Obligations.SwitchTraffic : Prop :=
 (∀ s : State, s.ok → (∀ (p : Fin 16) b, exec (.braidFrameRx p b) s = s.goes (s.braidReceive p.val b)) ∧
  (∀ (o : Fin 19), let t := s.enterLedger.enterMgmt
   t.sw.sending.any (fun t => t.out = o.val) = false → t.outOk o.val →
   ∀ c u, t.pickClass o.val = (some c, u) → exec (.transmitStart o) s = s.goes (u.startFrame o.val c)) ∧
  (∀ (o : Fin 19) t, s.sw.sending.find? (fun t => t.out = o.val) = some t →
   exec (.transmitEnd o) s = s.goes (s.endFrame t)) ∧
  (∀ p : Fin 16, exec (.braidLinkDown p) s = s.goes (s.linkDown p.val)) ∧
  (∀ p : Fin 16, s.bit BRAID_CTRL_EN p.val → s.braidRuns p.val →
   ∃ u, exec (.braidLinkUp p) s = s.goes u ∧ u.bit BRAID_STATUS_LINK p.val ∧
    u.bit BRAID_STATUS_LOCK p.val ∧ alist u.sw.upAt p.val = some s.time.cycle ∧ u.mem = s.mem) ∧
  (∀ (p : Fin 16) b, s.bit BRAID_CTRL_EN p.val = false → exec (.braidFrameRx p b) s = s.goes s)) ∧
 (∀ (g : Fin 4) (s : State), s.ok → (s.domOpen 9 → s.bit SWITCH_LAG_EN g.val → ∃ u, exec (.lagRejoin g) s = s.goes u ∧
   u.bit SWITCH_LAG_REJOIN_PEND g.val ∧ u.sw = s.sw ∧ u.mem = s.mem) ∧
  (s.bit SWITCH_LAG_EN g.val = false → exec (.lagRejoin g) s = s.goes s) ∧ (s.bit SWITCH_LAG_REJOIN_PEND g.val →
   (∀ p ∈ s.lagMembers g.val, (s.outQ p 5).copies = [] ∧ (s.outQ p 6).copies = []) →
   exec (.lagRejoinDone g) s = s.goes (((s.lagDeal g.val).lagHeal g.val).wrB SWITCH_LAG_REJOIN_PEND false g.val)))

/-- Gate lists (R335, R336), the host's port (R339), queue samples (R338), the end of a squelch (R318). -/
def Obligations.SwitchSchedules : Prop :=
 (∀ (p : Fin 16) (s : State), s.ok → (s.domOpen 9 → s.gateValid p.val = false → ∃ u, exec (.gateCommit p) s = s.goes u ∧
   u.bit SCHED_GATE_CTRL_ERR p.val ∧ u.sw = s.sw) ∧
  (s.domOpen 9 → s.gateValid p.val → ∃ u g, exec (.gateCommit p) s = s.goes u ∧
   u.bit SCHED_GATE_CTRL_PENDING p.val ∧ alist u.sw.pendingGates p.val = some g ∧
   g.cycle = s.rd SCHED_GATE_CYCLE_CYCLE p.val ∧ g.entries.length = s.rd SCHED_GATE_LEN_LEN p.val) ∧
  (∀ g, alist s.sw.pendingGates p.val = some g → exec (.gateListStart p) s = s.goes (s.gateStart p.val g)) ∧
  (∀ g, s.gateList p.val = some g → ∃ u : State, exec (.gateEntryChange p) s =
    s.goes (u.wr SCHED_GATE_CTRL_ENTRY (u.gateEntry p.val) p.val))) ∧
 (∀ s : State, s.ok →
  (∀ v : W32, s.domOpen 9 → 12 ≤ v.toNat % 2048 → v.toNat % 2048 ≤ 1518 → s.bit SWITCH_HOST_CFG_BUSY = false →
   ∃ u f, exec (.switchHostTx v) s = s.goes u ∧ u.sw.hostTx = some f ∧ f.1.length = v.toNat % 2048 ∧
    u.bit SWITCH_HOST_CFG_BUSY ∧ u.mem = s.mem) ∧
  (∀ v : W32, s.domOpen 9 → 12 ≤ v.toNat % 2048 → v.toNat % 2048 ≤ 1518 → s.bit SWITCH_HOST_CFG_BUSY →
   ∃ u, exec (.switchHostTx v) s = s.goes u ∧ u.sw = s.sw) ∧
  (∀ b c d p ts, s.sw.hostTx = some (b, c, d, p, ts) → exec .hostFrameEnter s =
    s.goes ((({ s with sw := { s.sw with hostTx := none } } : State).wrB SWITCH_HOST_CFG_BUSY false).swEnter 16
    (b ++ List.replicate (60 - b.length) 0) (some (c, if d then some p else none)) none ts)) ∧
  (s.domOpen 9 → ∃ u, exec .hostRxPop s = s.goes u ∧ u.sw.hostRx = s.sw.hostRx.drop 1 ∧ u.regs = s.regs ∧ u.mem = s.mem) ∧
  exec .queueSample s = s.goes s.sampleQueues ∧
  (∀ k : Fin 2, let p := s.rd BRAID_SYNCE_PORT k.val
   s.bit BRAID_SYNCE_EN k.val → s.bit BRAID_STATUS_LOCK p → s.bit BRAID_STATUS_LINK p →
   let u := s.passToCycle ((alist s.sw.upAt p).getD 0 + squelchCycles)
   exec (.synceSquelchEnd k) s = s.goes (u.wrB BRAID_SYNCE_SQUELCHED (u.squelched k.val) k.val)))

/-- INC (R341, R343), adjustments (R342, R343), LOCKED (R344), the time pins (R350, R351). -/
def Obligations.TimeBases : Prop :=
 (∀ (t : Fin 4) (inc : W64) (s : State), s.ok → s.domOpen 5 → inc.toNat < 2 ^ 40 →
  let fits : Prop := 8581344658 ≤ inc.toNat ∧ inc.toNat ≤ 8598524526 ∧
   (t = 0 → s.bound → 8589505096 ≤ inc.toNat ∧ inc.toNat ≤ 8590364088)
  ∃ u, exec (.timeInc t inc) s = s.goes u ∧ u.time = s.time ∧ u.mem = s.mem ∧
   (fits → u.rd TIME_INC_INC t.val = inc.toNat) ∧
   (¬ fits → u.rd TIME_INC_INC t.val = s.rd TIME_INC_INC t.val ∧ u.bit TIME_STATUS_INC_REJ t.val)) ∧
 (∀ (t : Fin 4) (adj : W64) (s : State), s.domOpen 5 → (t ≠ 0 ∨ s.bound = false → ∃ u, exec (.timeAdj t adj) s =
   s.goes u ∧
   u.tb t.val = (s.tb t.val).move adj.toInt ∧ ∀ k : Fin 4, k ≠ t → u.tb k.val = s.tb k.val) ∧
  (∃ u, exec (.timeAdj t adj) s = s.goes u ∧ u = s.adjust t.val adj.toInt ∧ u.mem = s.mem) ∧
  (∃ u, exec (.lockAssert t) s = s.goes u ∧ (u.tb t.val).lockLeft = s.rd TIME_CTRL_LOCK_MS * msCycles ∧
   u.regs = s.regs ∧ ∀ k : Fin 4, k ≠ t → u.tb k.val = s.tb k.val) ∧
  (∃ u, exec (.lockClear t) s = s.goes u ∧ (u.tb t.val).lockLeft = 0 ∧ u.regs = s.regs) ∧
  (exec (.lockExpire t) s = s.goes (s.passCycles (s.tb t.val).lockLeft)) ∧
  (exec .slewEnd s = s.goes (s.passCycles (s.cyclesForEdges (ceilDiv (s.tb 0).slew.natAbs (slewStep (s.edgeInc 0))))))) ∧
 (∀ s : State, s.ok → (s.bit TIME_CTRL_PPS_OUT_EN → s.pins.ready →
   let past := (s.tb (s.rd TIME_CTRL_PPS_OUT_TB)).ext % secUnits
   let risen := decide (0 < s.pins.ppsOut) && s.pins.ppsOutAt = s.time.cycle
   let p := if past = 0 && !risen then s else s.passCycles (s.cyclesToGain (s.rd TIME_CTRL_PPS_OUT_TB) (secUnits - past))
   exec .ppsOutPulse s =
    s.goes { p with pins := { p.pins with ppsOut := p.pins.ppsOut + 1, ppsOutAt := p.time.cycle } }) ∧
  (s.bit TIME_CTRL_PPS_IN_EN → s.bit TIME_CAP_STATUS_PPS_NEW = false →
   ∃ u, exec .ppsInEdge s = s.goes u ∧ u.bit TIME_CAP_STATUS_PPS_NEW ∧ u.time = s.time ∧
    ∃ j : Int, -131072 ≤ j ∧ j ≤ 131072 ∧ u.rd TIME_PPS_IN_TS_TS =
     ((s.tb (s.rd TIME_CTRL_PPS_IN_TB)).now + BitVec.ofInt 64 j).toNat) ∧
  (∀ l, s.pins.ready → s.rd TIME_CTRL_LSO_MODE = 1 → s.lay.cur = some l → l.kind = .epoch → exec .laySyncOutPulse s =
   s.goes (s.laySyncRise (s.time.cycle - (s.ext0 - l.frame * frameUnits) / (2 * nsUnit)))) ∧
  (s.pins.ready → s.rd TIME_CTRL_LSO_MODE = 2 →
   let g := 2 ^ s.rd TIME_CTRL_LSO_K * frameUnits
   let risen := decide (0 < s.pins.laySyncOut) && s.pins.laySyncOutAt = s.time.cycle
   let p := if s.ext0 % g = 0 && !risen then s else s.passTo ((s.ext0 / g + 1) * g)
   exec .laySyncOutPulse s = s.goes (p.laySyncRise p.time.cycle)) ∧
  (s.bit TIME_CTRL_LSI_EN → ∃ u, exec .laySyncInEdge s = s.goes u ∧
   u.bit TIME_CAP_STATUS_LSI_NEW ∧ u.rd TIME_LSI_TS_TS = (s.tb 0).now.toNat))

/-- Arming, disarming and firing of a comparator, and the next TARGET of a periodic one (R345, R346). -/
def Obligations.Comparators : Prop :=
 (∀ (n : Fin 16) (v : W64) (s : State), s.ok → (s.domOpen 5 →
  (∃ u, exec (.cmpArm n (some v)) s = s.goes u ∧ u.rd TIME_CMP_TARGET_TARGET n.val = v.toNat ∧
   (s.bit TIME_CMP_CTRL_EN n.val → u.bit TIME_CMP_CTRL_ARMED n.val) ∧
   (s.bit TIME_CMP_CTRL_EN n.val = false → u.bit TIME_CMP_CTRL_ARMED n.val = s.bit TIME_CMP_CTRL_ARMED n.val)) ∧
  (∃ u, exec (.cmpArm n none) s = s.goes u ∧ u.bit TIME_CMP_CTRL_EN n.val ∧ u.bit TIME_CMP_CTRL_ARMED n.val) ∧
  (∃ u, exec (.cmpDisarm n) s = s.goes u ∧ u.bit TIME_CMP_CTRL_EN n.val = false ∧
   u.bit TIME_CMP_CTRL_ARMED n.val = false ∧ u.bit TIME_CMP_CTRL_FIRED n.val = s.bit TIME_CMP_CTRL_FIRED n.val)) ∧
  (s.bit TIME_CMP_CTRL_ARMED n.val →
   let target := BitVec.ofNat 64 (s.rd TIME_CMP_TARGET_TARGET n.val)
   let p := s.passBaseTo (s.rd TIME_CMP_CTRL_TB n.val) target
   let d := ((p.tb (s.rd TIME_CMP_CTRL_TB n.val)).now - target).toInt
   0 ≤ d → p.rd TIME_CMP_PERIOD_PERIOD n.val = 0 → ∃ u, exec (.cmpFire n) s = s.goes u ∧
    u.bit TIME_CMP_CTRL_FIRED n.val ∧ u.bit TIME_CMP_CTRL_ARMED n.val = false)) ∧
 (∀ (n : Fin 16) (d : Nat) (s : State), s.ok →
  let p := s.rd TIME_CMP_PERIOD_PERIOD n.val
  let old := s.rd TIME_CMP_TARGET_TARGET n.val
  let u := s.cmpFire n.val d
  let new := u.rd TIME_CMP_TARGET_TARGET n.val
  0 < p → old + d + p < 2 ^ 64 → old + d < new ∧ new ≤ old + d + p ∧ (new - old) % p = 0 ∧
   u.bit TIME_CMP_CTRL_FIRED n.val ∧ u.bit TIME_CMP_CTRL_ARMED n.val = s.bit TIME_CMP_CTRL_ARMED n.val)

/-- Heartbeats (R358 to R362, R469), failover (R362 to R365, R368), watchdog (R358, R361). -/
def Obligations.PairRoles : Prop :=
 (∀ s : State, s.ok → s.bit REDUND_CTRL_EN →
  let role := s.rd REDUND_STATUS_ROLE
  (s.redund.silent = false → role ≠ 1 ∨ s.mayBeat →
   ∃ u, exec .heartbeatSend s = s.goes u ∧ u.redund.hbSeq = s.redund.hbSeq + 1 ∧
    u.pins.heartbeatPulses = s.pins.heartbeatPulses + boolNat s.pins.ready ∧ u.regs = s.regs ∧ u.mem = s.mem) ∧
  (s.redund.silent = false → role = 1 → s.mayBeat = false → exec .heartbeatSend s = s.goes s.fence) ∧
  (∀ ns : BitVec 16, 200 ≤ ns.toNat → ns.toNat < 4000 → s.bit REDUND_STATUS_HB_NET = false →
   ∃ u, exec (.heartbeatPulseIn ns) s = s.goes u ∧ u.bit REDUND_STATUS_HB_PIN ∧
    u.redund.hbPinAt = s.time.cycle) ∧ (∀ ns : BitVec 16, 4000 ≤ ns.toNat → role = 2 →
   exec (.heartbeatPulseIn ns) s = s.goes (s.declareLost true)) ∧
  (∀ hb, hb.surrender → hb.resync = false → hb.healthy = s.bit REDUND_STATUS_PEER_HEALTHY →
   s.bit REDUND_STATUS_HB_PIN = false → role = 2 → s.redund.holdoffRun = false →
   ∃ u : State, exec (.heartbeatFrameRx hb) s = s.goes (u.declareLost true) ∧
    u.redund.hbNetAt = s.time.cycle ∧ u.bit REDUND_STATUS_HB_NET ∧
    u.rd REDUND_STATUS_PEER_SEQ = hb.hbSeq.toNat) ∧ exec .redundSurrender s = s.goes s.surrender ∧
  (role = 2 → exec .peerLost s = s.goes
    ((s.passToCycle (Nat.max s.redund.hbNetAt s.redund.hbPinAt + 150 * usCycles)).declareLost false)) ∧
  (s.redund.hbNetAt < s.redund.hbPinAt → exec .hbPath s =
    s.goes (((s.passToCycle (Nat.min s.redund.hbNetAt s.redund.hbPinAt + 150 * usCycles)).wrB REDUND_STATUS_HB_NET
    false).raise 51 1))) ∧ (∀ s : State, s.ok →
  let role := s.rd REDUND_STATUS_ROLE
  (role = 3 → s.redund.kind ≠ 0 →
   let g := s.wrB STRAND_STATUS_OWNER true
   let g := { g with strand := { g.strand with grantCount := g.strand.count - 1, streamWait := true } }
   exec .failoverGrant s = s.goes (if s.redund.kind = 4 then g else g.takeImage)) ∧
  (role = 3 → s.redund.kind ≠ 0 → s.bit STRAND_STATUS_OWNER → s.cartOk → s.echoComplete →
   ∃ u, exec .failoverEchoReady s = s.goes u ∧ u.redund.kind = 0 ∧ u.redund.takeback = false) ∧
  (role = 3 → s.redund.kind ≠ 0 → s.bit STRAND_STATUS_OWNER = false →
   ∃ u, exec .failoverGrantTimeout s = s.goes u ∧ u.redund.kind = 0 ∧ u.redund.peerLost = false) ∧
  (∃ u, exec .redundWdog s = s.goes u ∧ u.redund.kickAt = s.time.cycle ∧ u.regs = s.regs ∧ u.mem = s.mem) ∧
  (s.bit REDUND_CTRL_EN → role = 1 → exec .watchdogExpire s =
    s.goes (s.passToCycle (s.redund.kickAt + s.rd REDUND_CFG_WDOG_MS * msCycles)).fence))

/-- The checkpoint (R355, R356, R369, R370), takeback and restore (R371 to R373, R375). -/
def Obligations.PairState : Prop :=
 (∀ s : State, s.ok →
  let role := s.rd REDUND_STATUS_ROLE
  (∀ r, role = 2 → exec (.ckptRecordRx r) s = s.goes ((s.takeMgmt (.record r)).recvRecord r)) ∧
  (∀ t, s.redund.gapAt = some t → ∃ u, exec .ckptGapTimeout s = s.goes u ∧ u.redund.gapAt = none ∧ u.redund.resync) ∧
  (role = 2 → s.redund.resync → ∃ u, exec .ckptResyncDone s = s.goes u ∧ u = s.resyncDone ∧
   u.bit REDUND_STATUS_CKPT_CURRENT ∧ u.redund.resync = false ∧ u.redund.held = []) ∧ (role = 1 →
   let l := presentCells s.strand.geomY512
   let cells := (List.range 64).map (fun k => l.getD ((s.redund.shadowNext + k) % l.length) 0)
   let u := s.ckptSend .shadow 0 (Config.shadowWords (cells.map s.shadowOf))
   exec .shadowSend s =
    s.goes { u with redund := { u.redund with shadowNext := (s.redund.shadowNext + 64) % l.length } }) ∧
  (role = 2 → ∃ u, exec (.marchPassEnd false) s = s.goes u ∧ u.bit REDUND_HEALTH_MARCH_FAIL = false ∧ u.mem = s.mem) ∧
  (role ≤ 1 → exec (.ckptRollingUpdate true) s = s.goes s.rollWear ∧
   exec (.ckptRollingUpdate false) s = s.goes s.rollLoops) ∧
  (s.bit REDUND_HEALTH_LANE_ERR → exec (.healthFlagClear true) s =
    s.goes ((s.passToCycle (s.redund.prbsAt + 10000 * msCycles)).wrB REDUND_HEALTH_LANE_ERR false))) ∧
 (∀ s : State, s.ok →
  let role := s.rd REDUND_STATUS_ROLE
  (s.redund.holdoffRun → role = 1 → exec .takebackHoldoff s =
    s.goes (((s.passToCycle (s.redund.holdoffAt + s.rd REDUND_CFG_HOLDOFF_S * 1000 * msCycles)).wr
    REDUND_STATUS_HOLDOFF_REM 0).beginTakeback)) ∧ (s.bit REDUND_CTRL_EN → s.bit REDUND_STATUS_PRIMARY →
   role = 2 → s.healthy → ∃ u, exec .redundTakeback s = s.goes u ∧ u.redund.takeback ∧ u.regs = s.regs) ∧
  (role = 3 → s.redund.takeback → s.redund.kind = 0 → (∀ x ∈ s.ledger.epochs, x.ended) →
   let u := s.rollLoops.rollWear
   let h := u.frame + 16
   exec .takebackQuiesced s = s.goes (({ u with redund := { u.redund with handoverFrame := some h } } : State).ckptSend
    .handover 0 [BitVec.ofNat 32 h])) ∧
  (∀ h, s.redund.handoverFrame = some h → let p := s.passTo (h * frameUnits)
   p.rd REDUND_STATUS_ROLE = 3 → p.redund.takeback → p.redund.kind = 0 →
   exec .handoverFrame s = s.goes (p.streamOff.portCmd false)) ∧
  (∀ h, s.redund.handoverFrame = some h → role = 3 → s.redund.takeback →
   s.redund.kind = 0 → ∃ u : State, exec .takebackTimeout s = s.goes (u.portCmd true) ∧
    u.redund.kind = 4 ∧ u.redund.handoverFrame = none) ∧
  (∀ im, s.pins.ready → s.stagedImage = some im → ∃ u, exec .redundRestore s = s.goes u ∧
   u.redund.restore = some im ∧ u.bit REDUND_STATUS_RESTORE_ERR = false) ∧
  (s.pins.ready → s.stagedImage = none → exec .redundRestore s = s.goes (s.wrB REDUND_STATUS_RESTORE_ERR true)))

/-- Raises, forced ones, acknowledgements (R379, R380, R381, R384), and the first fault kept (R385, R386). -/
def Obligations.FaultRaises : Prop :=
 (∀ (n : Fin 128) (d : W32) (s : State), s.ok →
  let recorded (i : Instr) (injected : Bool) (d : W32) : Prop := ∃ u, exec i s = s.goes u ∧
   u.bit FAULT_SRC_STATUS_ACTIVE n.val ∧ u.rd FAULT_SRC_STATUS_DETAIL n.val = d.toNat ∧
   u.bit FAULT_SRC_STATUS_INJECTED n.val = injected ∧ u.mem = s.mem ∧
   u.rd FAULT_SRC_STATUS_COUNT n.val = satAdd (2 ^ FAULT_SRC_STATUS_COUNT.width - 1)
    (s.rd FAULT_SRC_STATUS_COUNT n.val) 1
  (faultAssigned n.val → faultLevel n.val = false ∨ s.bit FAULT_SRC_STATUS_LEVEL n.val = false →
   (s.faultCycle.cycleOf n.val).details = [] → recorded (.faultRaise n d) false d) ∧
  (faultLevel n.val → s.bit FAULT_SRC_STATUS_LEVEL n.val → exec (.faultRaise n d) s = s.goes s) ∧
  (faultAssigned n.val → recorded (.faultForce n) true 0) ∧
  (s.bit FAULT_SRC_STATUS_LEVEL n.val = false → ∃ u, exec (.faultAckWrite n) s = s.goes u ∧
   u.bit FAULT_SRC_STATUS_ACTIVE n.val = false ∧ u.mem = s.mem ∧ u.ledger = s.ledger) ∧
  (s.bit FAULT_SRC_STATUS_LEVEL n.val → exec (.faultAckWrite n) s = s.goes s)) ∧
 (∀ (x : FaultEntry) (s : State), s.ok → x.src < 128 →
  let u := s.faultFirst x
  let kept := s.bit FAULT_FIRST_VALID && !(s.fault.firstHere && x.src ≠ s.rd FAULT_FIRST_SOURCE &&
   (decide (s.rd FAULT_FIRST_EFF < x.lead) || (x.lead =
     s.rd FAULT_FIRST_EFF && decide (x.src < s.rd FAULT_FIRST_SOURCE))))
  (kept → u = s) ∧ (kept = false → u.bit FAULT_FIRST_VALID ∧ u.rd FAULT_FIRST_SOURCE = x.src ∧
   u.rd FAULT_FIRST_DETAIL = x.detail.toNat ∧ u.rd FAULT_FIRST_TIME = (s.tb 0).now.toNat))

/-- Releases: refused with REL_REF, or ending the reaction (R387, R388); SAFE_N (R382, R384). -/
def Obligations.Releases : Prop :=
 ∀ s : State, s.ok →
  let refused (i : Instr) : Prop := ∃ u, exec i s = s.goes u ∧ u.bit FAULT_STATUS_REL_REF ∧
   u.fault = s.fault ∧ u.lay = s.lay
  let low := s.bit FAULT_STATUS_SAFE_N_LOW
  let kept := s.heldBySource 4 || low || (s.safeOn && s.holdOn && s.heldBySource 3)
  (s.heldBySource 2 ∨ s.holdOn ∨ s.safeOn → refused .releaseFreeze) ∧
  (s.heldBySource 2 = false → s.holdOn = false → s.safeOn = false → ∃ u, exec .releaseFreeze s = s.goes u ∧
   u.fault.heldFreeze = false ∧ u.regs = s.regs ∧ u.frozen = false) ∧
  (s.heldBySource 3 ∨ s.safeOn → refused .releaseHold) ∧
  (s.heldBySource 3 = false → s.safeOn = false → s.holdOn → exec .releaseHold s = s.goes s.endHold) ∧
  (kept → refused .releaseSafe) ∧ (kept = false → s.safeOn = false → exec .releaseSafe s = s.goes s) ∧
  (kept = false → s.safeOn → ∃ u, exec .releaseSafe s = s.goes u ∧ u.safeOn = false ∧ u.lay.lagging = []) ∧
  exec .safeNAssert s = s.goes ((s.wrB FAULT_STATUS_SAFE_N_LOW true).raise 4 0) ∧
  (∃ u, exec .safeNDeassert s = s.goes u ∧ u.bit FAULT_STATUS_SAFE_N_LOW = false ∧
   u.bit FAULT_SRC_STATUS_LEVEL 4 = false ∧ u.bit FAULT_STATUS_SAFE = s.bit FAULT_STATUS_SAFE)

/-- Samples, snapshots, hop samples and configuration writes (R390 to R393); a tracker's extremes (R392). -/
def Obligations.Monitors : Prop :=
 (∀ s : State, s.ok → (∃ u, exec .monitorSample s = s.goes u ∧
   u.mon.queues = (s.mon.queues.map (fun p => (p.1, p.2.drop 1))).filter (fun p => !p.2.isEmpty)) ∧
  (∀ hs ts, ∃ u, exec (.monSnap hs ts) s = s.goes u ∧ u.rd MON_SNAP_TIME_TIME = (s.tb 0).now.toNat) ∧
  (∀ (p : Fin 16) (ns : W32), exec (.monHopIn p ns) s = s.goes (s.monOffer 8 p.val (Int.ofNat ns.toNat))) ∧
  (∀ (e : Fin 32) (w : Fin 4) (v : W32), w ≠ 2 → w ≠ 1 ∨ v ≠ 0 → ∃ u, exec (.histConfigWrite e w v) s = s.goes u ∧
   u.rd MON_HIST_STAT_SAMPLES e.val = 0 ∧ u.rd MON_HIST_STAT_DROPPED e.val = 0 ∧
   alist u.mon.queues e.val = none ∧ ∀ b, b < 64 → u.ldW (binAddr e.val b) = 0) ∧
  (∀ (e : Fin 32) (v : W32), ∃ u, exec (.histConfigWrite e 2 v) s = s.goes u ∧ u.regs = s.regs ∧ u.mem = s.mem) ∧
  (∀ (k : Fin 16) v, ∃ u, exec (.trackerConfigWrite k v) s = s.goes u ∧ u.rd MON_TRK_N_N k.val = 0 ∧
   u.rd MON_TRK_MIN_MIN k.val = 0x7FFFFFFFFFFFFFFF ∧ u.rd MON_TRK_MAX_MAX k.val = 0x8000000000000000 ∧
   alist u.mon.queues (32 + k.val) = none)) ∧
 (∀ (k : Fin 16) (x : Int) (s : State), s.ok → -(2 ^ 63 : Int) ≤ x → x < 2 ^ 63 →
  let u := s.trkTake k.val x
  let first := s.rd MON_TRK_N_N k.val = 0
  let lo := s.rdI MON_TRK_MIN_MIN k.val
  let hi := s.rdI MON_TRK_MAX_MAX k.val
  let now := (s.tb 0).now.toNat
  (first → u.rdI MON_TRK_MIN_MIN k.val = x ∧ u.rdI MON_TRK_MAX_MAX k.val = x ∧
   u.rd MON_TRK_MIN_T_TIME k.val = now ∧ u.rd MON_TRK_MAX_T_TIME k.val = now) ∧
  (¬ first → u.rdI MON_TRK_MIN_MIN k.val = min lo x ∧ u.rdI MON_TRK_MAX_MAX k.val = max hi x ∧
   u.rd MON_TRK_MIN_T_TIME k.val = (if x < lo then now else s.rd MON_TRK_MIN_T_TIME k.val) ∧
   u.rd MON_TRK_MAX_T_TIME k.val = (if hi < x then now else s.rd MON_TRK_MAX_T_TIME k.val)))

/-- Housekeeping rounds, PWM modules (R395, R397, R409, R412, R413) and trips (R414, R415). -/
def Obligations.ThermalAndPwm : Prop :=
 (∀ s : State, s.ok → (s.bit HKADC_CTRL_EN → s.therm.roundEnd = none → ∃ u, exec .hkRoundStart s = s.goes u ∧
   u.therm.roundEnd.isSome ∧ u.bit HKADC_STATUS_POWERED) ∧
  (s.bit HKADC_CTRL_EN = false → exec .hkRoundStart s = s.goes s) ∧
  (∀ c t, s.therm.roundEnd = some t → exec (.hkPublish c) s = s.goes (s.hkPublish c)) ∧
  (∀ n : Fin 8, s.bit PWM_CTRL_EN n.val → exec (.pwmReload n) s = s.goes (s.pwmReload n.val)) ∧
  (s.bit PWM_CTRL_EN 0 → s.bit PWM_CTRL_SYNC_EN 0 → (s.pm 0).startAt + s.pwmStep ≤ s.now4 →
   exec .pwmSyncInEdge s = s.goes (s.pwmPeriod 0 s.now4 (((s.pm 0).j + 1) % 16))) ∧
  (∀ n : Fin 8, s.domOpen 6 → ∃ u, exec (.pwmEnable n false) s = s.goes u ∧ u.bit PWM_CTRL_EN n.val = false ∧
   u.mem = s.mem ∧ u.pwm = s.pwm) ∧ (∀ n : Fin 8, s.domOpen 6 → s.bit PWM_CTRL_EN n.val = false →
     exec (.pwmEnable n true) s =
   s.goes ((s.wrB PWM_CTRL_EN true n.val).pwmPeriod n.val s.now4 0))) ∧
 (∀ (k : Fin 4) (mask : BitVec 4) (s : State), s.ok →
  (∃ u, exec (.tripAssert k) s = s.goes u ∧ (u.rd PWM_TRIP_STATUS_PIN).testBit k.val ∧
   ((s.rd PWM_TRIP_CTRL_EN).testBit k.val → (u.rd PWM_TRIP_STATUS_LATCHED).testBit k.val)) ∧
  (s.domOpen 6 → ∃ u, exec (.tripClr mask) s = s.goes u ∧
   let pin := (u.rd PWM_TRIP_STATUS_PIN).testBit k.val
   (mask.getLsbD k.val → pin = false → (u.rd PWM_TRIP_STATUS_LATCHED).testBit k.val = false) ∧
   (mask.getLsbD k.val → pin → (u.rd PWM_TRIP_STATUS_CLR_REF).testBit k.val) ∧
   (mask.getLsbD k.val = false ∨ pin → (u.rd PWM_TRIP_STATUS_LATCHED).testBit k.val =
    (s.rd PWM_TRIP_STATUS_LATCHED).testBit k.val)))

/-- Clock monitoring and sources (R419 to R428). -/
def Obligations.ClockCommands : Prop :=
 ∀ s : State, s.ok → (∀ n : W32, ∃ u, exec (.clockMonitorWindow .rl n) s = s.goes u ∧ u.mem = s.mem ∧
   u.rd CLK_MON_CNT_RL = n.toNat % 2 ^ CLK_MON_CNT_RL.width) ∧
  (∀ p : Fin 4, exec (.clockDetectorFail (.lock p)) s = s.goes (s.declareClk (5 + p.val))) ∧
  (exec (.clockDetectorFail .amp) s = s.goes (s.declareClk 0)) ∧ (2 ≤ s.rd BOOT_STATUS_PHASE → exec .xtalQualified s =
    s.goes s.xtalQualified) ∧
  (∀ b, s.rd BOOT_STATUS_PHASE = 2 → s.bit CLK_STATUS_XTAL_QUAL = false →
   ∃ u, exec (.xtalQualTimeout b) s = s.goes u ∧ u.rd BOOT_STATUS_PHASE = 3 ∧ u.bit BOOT_STATUS_ON_RCO) ∧
  (∀ p : Fin 4, s.bit CLK_STATUS_XTAL_QUAL = false → exec (.pllLock p) s = s.goes s) ∧
  (∀ p : Fin 4, s.bit CLK_STATUS_XTAL_QUAL → s.rd BOOT_STATUS_PHASE ≠ 2 → s.clock.declared = [] →
   ∃ u, exec (.pllLock p) s = s.goes u ∧ (u.rd CLK_STATUS_LOCK).testBit p.val) ∧
  (∀ d : Fin 10, d.val < 8 → ∃ u, exec (.clkDomSrc d true) s = s.goes u ∧
   u.bit CLK_DOM_ACT_SRC d.val ∧ d.val ∈ u.clock.held ∧ u.mem = s.mem) ∧
  (∀ d : Fin 10, d.val < 8 → s.normalOk d.val = false → ∃ u, exec (.clkDomSrc d false) s = s.goes u ∧
   u.bit CLK_DOM_SRC_REF d.val ∧ u.bit CLK_DOM_ACT_SRC d.val = s.bit CLK_DOM_ACT_SRC d.val) ∧
  (∀ d : Fin 10, exec (.clockSwitchTimeout d) s = s.goes (s.switchForced d.val)) ∧
  (∀ d : Fin 10, s.switchingSince d.val = none → s.switchForced d.val = s) ∧
  (exec .refclkRestored s = s.goes s.refRestored) ∧ (∀ b, exec (.gateForceTimeout b) s = s.goes (s.gateForced b))

/-- A power request: refused with REFUSED, or taken; and a transition's end (R432, R433). -/
def Obligations.PowerStates : Prop :=
 ∀ (t : BitVec 2) (s : State), s.ok →
  (s.pwrRefused t.toNat → ∃ u, exec (.pwrCtrl t) s = s.goes u ∧ u.bit PWR_STATUS_REFUSED ∧
   u.rd PWR_CTRL_TARGET = s.rd PWR_CTRL_TARGET ∧ u.rd PWR_STATUS_STATE = s.rd PWR_STATUS_STATE) ∧
  (s.pwrRefused t.toNat = false → ∃ u, exec (.pwrCtrl t) s = s.goes u ∧ u.rd PWR_CTRL_TARGET = t.toNat ∧
   u.rd PWR_STATUS_STATE = s.rd PWR_STATUS_STATE) ∧
  (s.bit PWR_STATUS_CHANGING → ∃ u, exec .powerTransitionDone s = s.goes u ∧
   u.bit PWR_STATUS_CHANGING = false ∧ u.mem = s.mem)

/-- Timeouts, master resets, PCIe (R436, R439, R451), and accesses taken, or in error (R9, R11, R437). -/
def Obligations.BusMatrix : Prop :=
 (∀ (m : Master) (s : State), s.ok →
   (∀ a : W32, exec (.busTargetTimeout m a) s = s.goes (s.targetTimeout m.val a.toNat)) ∧
   (∃ u, exec (.busMasterReset m) s = s.goes u ∧ m.val ∈ u.bus.inReset ∧ alist u.bus.resp m.val = none ∧
    u.bit BUS_MASTER_RESETTING m.val ∧ u.mem = s.mem) ∧
   (∃ u, exec (.masterResetDone m) s = s.goes u ∧ u.bit BUS_MASTER_RESETTING m.val = false ∧
    u.bus.inReset = s.bus.inReset.erase m.val ∧ u.mem = s.mem) ∧
   (∀ l : Bool, ∃ u, exec (.pcieFlr l) s = s.goes u ∧ 0 ∈ u.bus.inReset ∧ u.boot.pcieUp = (s.boot.pcieUp && !l)) ∧
   (2 ≤ s.rd BOOT_STATUS_PHASE → ∃ u, exec .pcieLinkUp s = s.goes u ∧ u.boot.pcieUp ∧ u.regs = s.regs ∧ u.mem = s.mem)) ∧
 (∀ (a : RegAccess) (b : MemAccess) (i : Nat) (k : MemKind) (s : State),
  let at' (m : Master) (addr : W32) (wr : Bool) : Prop :=
   s.mayIssue m.val wr ∧ s.internal m.val addr.toNat = some i
  let reg (wr : Bool) : Prop := at' a.m a.addr wr ∧ a.write = wr ∧ s.target a.m.val i = .block ∧
   s.domOpen (blockDomain i)
  let mem (wr : Bool) : Prop := at' b.m b.addr wr ∧ b.write = wr ∧ s.target b.m.val i = .memory k ∧
   s.domOpen (memDomain k)
  (reg true → sizeOk [4, 8] i a.size → exec (.registerWrite a) s =
   s.goes ((s.respond a.m.val true 0).blockWrite a.m.val i a.size a.data.toNat)) ∧
  (reg false → sizeOk [4, 8] i a.size → exec (.registerWrite a) s =
   s.goes (answer a.m.val (s.blockRead a.m.val i a.size)).1) ∧
  (reg true → sizeOk [4, 8] i a.size = false → isBurst a.size = false → ∃ u, exec (.registerWrite a) s = s.goes u ∧
   u.mem = s.mem ∧ u.ledger = s.ledger ∧ u.fault = s.fault) ∧
  (reg a.write → isBurst a.size → exec (.registerWrite a) s = s.goes (s.burstError a.m.val i a.size a.write)) ∧
  (mem true → isBurst b.size → i % 8 = 0 → exec (.memoryWrite b) s = s.goes (s.burstBeats b.m.val b.addr.toNat true
   ((List.range (b.size / 8)).map (fun k => (b.data :: b.more).getD k 0))).1) ∧
  (mem true → sizeOk [1, 2, 4, 8] i b.size → exec (.memoryWrite b) s =
   s.goes ((s.respond b.m.val true 0).memWrite k i b.size b.data.toNat)) ∧
  (mem false → sizeOk [1, 2, 4, 8] i b.size → exec (.memoryWrite b) s =
   s.goes (answer b.m.val (s.memRead k i b.size)).1) ∧
  (∀ (m : Master) (w : W32) (wr : Bool), at' m w wr → s.target m.val i = .none →
   exec (.defaultTargetAccess m w wr) s = s.goes (s.busError m.val 0 i wr)))

/-- A command that is a write of a register has no effect while the register's domain is disabled (R428). -/
def Obligations.ClosedDomains : Prop :=
 ∀ (s : State) (d : Nat) (i : Instr) (e v : W32) (l : BitVec 7) (a : BitVec 22) (b : Bool) (x : W64) (n : Fin 16)
  (t : Fin 4) (g : Fin 8) (c : Fin 64),
  (d, i) ∈ [ (2, Instr.loopCoreRetire (l.setWidth 5)), (2, .loopEnable b), (2, .loopCapStop (x.setWidth 48)),
   (2, .auxLoopEnable c), (3, .wearFold), (3, .dmapAdd e), (3, .dmapRemove e),
   (5, .timeInc t x), (5, .timeAdj t x), (5, .lockAssert t),
   (5, .lockClear t), (5, .cmpArm n (if b then some x else none)), (5, .cmpDisarm n),
   (6, .pwmEnable g b), (6, .tripClr (l.setWidth 4)), (8, .strandLaneTest l), (8, .strandStart),
   (8, .strandStream), (8, .strandStop), (8, .portReq), (8, .portRel), (8, .idRead a), (8, .idWrite a v),
   (9, .lagRejoin t), (9, .gateCommit n), (9, .switchHostTx v), (9, .hostRxPop)] →
  s.domOpen d = false → exec i s = s.goes s

/-- What a parity failure does in each memory, and an instruction word's reload (R78, R79, R149). -/
def Obligations.ParityFailures : Prop :=
 ∀ (a : W32) (m : Master) (s : State),
  (memKind a.toNat = some .weave → ∃ u, exec (.memParity a m) s = s.goes u ∧ a.toNat ∈ u.solve.weaveBad) ∧
  (memKind a.toNat = some .drive → ∃ u, exec (.memParity a m) s = s.goes u ∧
   (a.toNat - 0x03000000) / 32 ∈ u.drive.bad) ∧
  (memKind a.toNat = some .staging → exec (.memParity a m) s = s.goes (s.raise 5 a)) ∧
  (memKind a.toNat = some .data → 1 ≤ m.val → m.val ≤ 8 → (s.sq (m.val - 1)).st = .run →
   exec (.memParity a m) s = s.goes ((s.raise 5 a).trap (m.val - 1) 5)) ∧ (memKind a.toNat = none →
     exec (.memParity a m) s = s.goes s) ∧
  (∀ (q : Fin 8) (i : BitVec 16) im, s.boot.badWords.contains i.toNat →
   (s.sq q.val).wait = .reload i → s.boot.img = some im → ∃ u, exec (.instrParityReload i) s = s.goes u ∧
     (u.sq q.val).st = .run ∧ (u.sq q.val).wait = .none ∧
    u.mem = (s.st (8 * i.toNat) 8 (im.instrWord i.toNat)).mem)

/-- Which resets begin start-up and what they leave (R440, R452); start-up by the phase that ends (R441). -/
def Obligations.ResetAndStartup : Prop :=
 (∀ s : State, exec .powerOnReset s = s.goes (s.heldReset 0) ∧ exec .resetNReset s = s.goes (s.heldReset 1) ∧
  exec .softReset s = s.goes (s.warmReset 2) ∧ (s.boot.fuses.lc ≤ 1 → exec .debugReset s = s.goes (s.warmReset 4)) ∧
  (1 < s.boot.fuses.lc → exec .debugReset s = s.goes s) ∧
  (s.rd BOOT_STATUS_PHASE = 0 → exec .resetRelease s = s.goes s.bootBegin) ∧ ∀ c : Nat,
   let seen := State.reset.wr SYS_RESET_CAUSE_CAUSE (if c = 0 then 1 else s.rd SYS_RESET_CAUSE_CAUSE ||| 2 ^ c)
   let keeps (u : State) : Prop := u.mem = [] ∧ u.seqs = State.reset.seqs ∧ u.ledger = State.reset.ledger ∧
    u.lay = State.reset.lay ∧ u.strand = State.reset.strand ∧ u.net = State.reset.net ∧ u.fault = State.reset.fault ∧
    u.boot.fuses = s.boot.fuses ∧ u.boot.flash = s.boot.flash
   (s.heldReset c).regs = seen.regs ∧ (s.warmReset c).regs = (seen.wr BOOT_STATUS_PHASE 1).regs ∧
   keeps (s.heldReset c) ∧ keeps (s.warmReset c)) ∧ (∀ (s : State) (im : BootImage),
  let ends (n : Nat) (u : State) : Prop := s.rd BOOT_STATUS_PHASE = n → exec .startupStepDone s = s.goes u
  ends 1 s.fuseLoad ∧ ends 3 s.bootDiscover ∧ ends 4 s.bootLoad ∧ ends 5 s.bootVerify ∧ ends 6 s.bootWipe ∧
  (s.boot.img = some im → ends 7 (s.programLoad im) ∧ ends 8 (s.eclosion im)))

/-- Flash commands (R408, R456) and life-cycle changes (R454, R455). -/
def Obligations.FlashAndLifeCycle : Prop :=
 (∀ (a : W32) (s : State), s.ok →
  let x := s.flashAddr a.toNat
  let gate := s.bit THERM_STATUS_FLASH_GATE
  let busy := s.bit FLASH_STATUS_BUSY
  let refuses (i : Instr) (code : Nat) : Prop := ∃ u, exec i s = s.goes u ∧ u.rd FLASH_STATUS_RESULT = code ∧
   u.boot = s.boot ∧ u.therm = s.therm
  let begins (i : Instr) (op : Nat) : Prop := ∃ u l, exec i s = s.goes u ∧
   u.boot.flashOp = some (op, x, l) ∧ u.bit FLASH_STATUS_BUSY ∧ u.boot.flash = s.boot.flash
  let queues (i : Instr) (op : Nat) : Prop := ∃ u l, exec i s = s.goes u ∧
   u.therm.flashQ = s.therm.flashQ ++ [(op, x, l)] ∧ u.boot = s.boot
  let free : Prop := busy = false ∧ (gate = false ∨ s.therm.flashQ = [])
  let row (i : Instr) (op : Nat) : Prop := (busy → refuses i 3) ∧ (free → s.flashProtected op x → refuses i 2) ∧
   (free → s.flashProtected op x = false → gate → begins i op) ∧
   (free → s.flashProtected op x = false → gate = false → s.therm.flashQ.length < 64 → queues i op)
  (busy → refuses (.flashRead a) 3) ∧ (free → begins (.flashRead a) 1) ∧
  row (.flashProgram a) 2 ∧ row (.flashErase4k a) 3 ∧ row (.flashErase64k a) 4 ∧
  (∀ op y l rest, s.therm.flashQ = (op, y, l) :: rest → gate → busy = false →
   ∃ u, exec .flashQueueIssue s = s.goes u ∧ u.boot.flashOp = some (op, y, l) ∧ u.therm.flashQ = rest) ∧
  (∀ op y l ok, s.boot.flashOp = some (op, y, l) → ∃ u, exec (.flashCmdDone ok) s = s.goes u ∧
   u.boot.flashOp = none ∧ u.bit FLASH_STATUS_BUSY = false ∧ u.rd FLASH_STATUS_RESULT = if ok then 1 else 5)) ∧
 (∀ (t : BitVec 3) (s : State), s.ok →
   (∃ u, exec .lcNonce s = s.goes u ∧ u.boot.nonceHeld ∧ u.boot.fuses = s.boot.fuses ∧ u.mem = s.mem) ∧
   (s.lcRefusal t.toNat ≠ 0 → ∃ u, exec (.lcGo t) s = s.goes u ∧
    u.rd BOOT_LC_CTRL_RESULT = s.lcRefusal t.toNat ∧ u.boot.fuses = s.boot.fuses ∧ u.boot.nonceHeld = false) ∧
   (s.lcRefusal t.toNat = 0 → ∃ u, exec (.lcGo t) s = s.goes u ∧ u.boot.nonceHeld = false ∧
    (u.boot.fuses.lc = t.toNat ∨ u.boot.fuses = s.boot.fuses)))
end

