-- ==== Sys2Proof/Laws/Memory.lean ====
section
/-! SUPPORT. The laws of sparse tables and of the memory: a read after a write, what a write leaves alone, and
that every operation keeps the canonical form. -/

namespace Sys2Proof.Machine

/-! ### Sparse tables -/

/-- A table in canonical form is in canonical form from any lower bound. -/
theorem Sparse.wfAbove_mono {β : Type} [DecidableEq β] {d : β} :
    ∀ {l : List (Nat × β)} {a b : Nat}, a ≤ b → Sparse.wfAbove d b l = true → Sparse.wfAbove d a l = true
  | [], _, _, _, _ => rfl
  | (k, v) :: l, a, b, hab, h => by
    simp only [Sparse.wfAbove, Bool.and_eq_true, decide_eq_true_eq] at h ⊢
    exact ⟨⟨Nat.le_trans hab h.1.1, h.1.2⟩, h.2⟩

/-- Rising keys rise from any lower bound. -/
theorem Sparse.rising_mono {β : Type} :
    ∀ {l : List (Nat × β)} {a b : Nat}, a ≤ b → Sparse.rising b l = true → Sparse.rising a l = true
  | [], _, _, _, _ => rfl
  | (k, v) :: l, a, b, hab, h => by
    simp only [Sparse.rising, Bool.and_eq_true, decide_eq_true_eq] at h ⊢
    exact ⟨Nat.le_trans hab h.1, h.2⟩

/-- The canonical form has rising keys. -/
theorem Sparse.rising_of_wfAbove {β : Type} [DecidableEq β] {d : β} :
    ∀ {l : List (Nat × β)} {a : Nat}, Sparse.wfAbove d a l = true → Sparse.rising a l = true
  | [], _, _ => rfl
  | (k, v) :: l, a, h => by
    simp only [Sparse.wfAbove, Sparse.rising, Bool.and_eq_true, decide_eq_true_eq] at h ⊢
    exact ⟨h.1.1, Sparse.rising_of_wfAbove h.2⟩

/-- A write keeps the canonical form. -/
theorem Sparse.put_wfAbove {β : Type} [DecidableEq β] {d : β} :
    ∀ {l : List (Nat × β)} {a k : Nat} {v : β}, a ≤ k → Sparse.wfAbove d a l = true →
      Sparse.wfAbove d a (Sparse.put d l k v) = true
  | [], a, k, v, hk, _ => by
    unfold Sparse.put; split
    · rfl
    · simp_all [Sparse.wfAbove]
  | (b, w) :: l, a, k, v, hk, h => by
    simp only [Sparse.wfAbove, Bool.and_eq_true, decide_eq_true_eq] at h
    unfold Sparse.put; split
    · rename_i hb
      simp only [Sparse.wfAbove, Bool.and_eq_true, decide_eq_true_eq]
      exact ⟨h.1, Sparse.put_wfAbove hb h.2⟩
    · split
      · rename_i _ hb
        split
        · exact Sparse.wfAbove_mono (by omega) h.2
        · rename_i hv
          simp only [Sparse.wfAbove, Bool.and_eq_true, decide_eq_true_eq]
          exact ⟨⟨hk, hv⟩, hb ▸ h.2⟩
      · split
        · simp only [Sparse.wfAbove, Bool.and_eq_true, decide_eq_true_eq]; exact h
        · rename_i hv
          simp only [Sparse.wfAbove, Bool.and_eq_true, decide_eq_true_eq]
          exact ⟨⟨hk, hv⟩, ⟨by omega, h.1.2⟩, h.2⟩

/-- A write keeps the keys rising. -/
theorem Sparse.put_rising {β : Type} [DecidableEq β] {d : β} :
    ∀ {l : List (Nat × β)} {a k : Nat} {v : β}, a ≤ k → Sparse.rising a l = true →
      Sparse.rising a (Sparse.put d l k v) = true
  | [], a, k, v, hk, _ => by
    unfold Sparse.put; split
    · rfl
    · simp_all [Sparse.rising]
  | (b, w) :: l, a, k, v, hk, h => by
    simp only [Sparse.rising, Bool.and_eq_true, decide_eq_true_eq] at h
    unfold Sparse.put; split
    · rename_i hb
      simp only [Sparse.rising, Bool.and_eq_true, decide_eq_true_eq]
      exact ⟨h.1, Sparse.put_rising hb h.2⟩
    · split
      · rename_i _ hb
        split
        · exact Sparse.rising_mono (by omega) h.2
        · simp only [Sparse.rising, Bool.and_eq_true, decide_eq_true_eq]
          exact ⟨hk, hb ▸ h.2⟩
      · split
        · simp only [Sparse.rising, Bool.and_eq_true, decide_eq_true_eq]; exact h
        · simp only [Sparse.rising, Bool.and_eq_true, decide_eq_true_eq]
          exact ⟨hk, by omega, h.2⟩

/-- A filtered table in canonical form is in canonical form. -/
theorem Sparse.filter_wfAbove {β : Type} [DecidableEq β] {d : β} (f : Nat × β → Bool) :
    ∀ {l : List (Nat × β)} {a : Nat}, Sparse.wfAbove d a l = true → Sparse.wfAbove d a (l.filter f) = true
  | [], _, _ => rfl
  | (k, v) :: l, a, h => by
    simp only [Sparse.wfAbove, Bool.and_eq_true, decide_eq_true_eq] at h
    have ih := Sparse.filter_wfAbove f h.2
    rw [List.filter_cons]; split
    · simp only [Sparse.wfAbove, Bool.and_eq_true, decide_eq_true_eq]; exact ⟨h.1, ih⟩
    · exact Sparse.wfAbove_mono (by omega) ih

/-- Clearing a range keeps the canonical form. -/
theorem Sparse.clear_wfAbove {β : Type} [DecidableEq β] {d : β} {l : List (Nat × β)} {a lo hi : Nat}
    (h : Sparse.wfAbove d a l = true) : Sparse.wfAbove d a (Sparse.clear l lo hi) = true :=
  Sparse.filter_wfAbove _ h

/-- A key below every listed one reads as the unlisted value. -/
theorem Sparse.get_of_lt {β : Type} {d : β} :
    ∀ {l : List (Nat × β)} {a k : Nat}, k < a → Sparse.rising a l = true → Sparse.get d l k = d
  | [], _, _, _, _ => rfl
  | (b, w) :: l, a, k, hk, h => by
    simp only [Sparse.rising, Bool.and_eq_true, decide_eq_true_eq] at h
    unfold Sparse.get
    rw [if_neg (by omega), if_pos (by omega)]

/-- A read after a write to the same key gives the value written. -/
theorem Sparse.get_put_eq {β : Type} [DecidableEq β] {d : β} :
    ∀ {l : List (Nat × β)} {a k : Nat} {v : β}, Sparse.rising a l = true → Sparse.get d (Sparse.put d l k v) k = v
  | [], a, k, v, _ => by
    unfold Sparse.put; split
    · simp_all [Sparse.get]
    · simp [Sparse.get]
  | (b, w) :: l, a, k, v, h => by
    simp only [Sparse.rising, Bool.and_eq_true, decide_eq_true_eq] at h
    unfold Sparse.put; split
    · rename_i hb
      unfold Sparse.get
      rw [if_neg (by omega), if_neg (by omega)]
      exact Sparse.get_put_eq h.2
    · split
      · rename_i _ hb
        split
        · rename_i hv
          rw [hv]; exact Sparse.get_of_lt (by omega) h.2
        · simp [Sparse.get]
      · split
        · rename_i hv
          unfold Sparse.get
          rw [if_neg (by omega), if_pos (by omega), hv]
        · simp [Sparse.get]

/-- A read of another key gives what it gave before the write. -/
theorem Sparse.get_put_ne {β : Type} [DecidableEq β] {d d' : β} :
    ∀ {l : List (Nat × β)} {a k j : Nat} {v : β}, j ≠ k → Sparse.rising a l = true →
      Sparse.get d' (Sparse.put d l k v) j = Sparse.get d' l j
  | [], a, k, j, v, hj, _ => by
    unfold Sparse.put; split
    · rfl
    · simp [Sparse.get, Ne.symm hj]
  | (b, w) :: l, a, k, j, v, hj, h => by
    simp only [Sparse.rising, Bool.and_eq_true, decide_eq_true_eq] at h
    unfold Sparse.put; split
    · unfold Sparse.get
      split
      · rfl
      · split
        · rfl
        · exact Sparse.get_put_ne hj h.2
    · split
      · rename_i _ hb
        split
        · conv_rhs => unfold Sparse.get
          rw [if_neg (by omega)]
          split
          · exact Sparse.get_of_lt (by omega) h.2
          · rfl
        · subst hb
          simp only [Sparse.get, if_neg (Ne.symm hj)]
      · split
        · rfl
        · conv_lhs => unfold Sparse.get
          rw [if_neg (by omega)]
          split
          · exact (Sparse.get_of_lt (a := b) (by omega) (by
              simp only [Sparse.rising, Bool.and_eq_true, decide_eq_true_eq]; exact ⟨Nat.le_refl _, h.2⟩)).symm
          · rfl

/-! ### The memory operations keep the canonical form -/

/-- A number stored byte by byte. -/
theorem memPut_wf : ∀ {n : Nat} {m : List Host.Cell} {a v : Nat}, Memory.wf m = true → Memory.wf (memPut m a n v) = true
  | 0, _, _, _, h => h
  | n + 1, m, a, v, h => by
    unfold memPut
    exact memPut_wf (n := n) (m := Sparse.put 0 m a (BitVec.ofNat 8 v)) (Sparse.put_wfAbove (Nat.zero_le _) h)

/-- A block cleared. -/
theorem clear_wf {m : List Host.Cell} {a b : Nat} (h : Memory.wf m = true) : Memory.wf (Sparse.clear m a b) = true :=
  Sparse.clear_wfAbove h

/-- A part of the memory below a bound followed by a table from that bound on. -/
theorem append_wf {lo : Nat} {acc : List Host.Cell} (ha : Sparse.wfAbove 0 lo acc = true) :
    ∀ {m : List Host.Cell} {a : Nat}, a ≤ lo → Sparse.wfAbove 0 a m = true →
      Sparse.wfAbove 0 a (m.filter (fun p => p.1 < lo) ++ acc) = true
  | [], a, hl, _ => Sparse.wfAbove_mono hl ha
  | (k, v) :: l, a, hl, h => by
    simp only [Sparse.wfAbove, Bool.and_eq_true, decide_eq_true_eq] at h
    rw [List.filter_cons]; split
    · rename_i hk
      simp only [decide_eq_true_eq] at hk
      simp only [List.cons_append, Sparse.wfAbove, Bool.and_eq_true, decide_eq_true_eq]
      exact ⟨h.1, append_wf ha (by omega) h.2⟩
    · exact append_wf ha hl (Sparse.wfAbove_mono (by omega) h.2)

/-- A table of entries from a bound on. -/
theorem filter_above_wf {hi : Nat} :
    ∀ {m : List Host.Cell} {a : Nat}, Sparse.wfAbove 0 a m = true → Sparse.wfAbove 0 hi (m.filter (fun p => hi ≤ p.1)) = true
  | [], _, _ => rfl
  | (k, v) :: l, a, h => by
    simp only [Sparse.wfAbove, Bool.and_eq_true, decide_eq_true_eq] at h
    rw [List.filter_cons]; split
    · rename_i hk
      simp only [decide_eq_true_eq] at hk
      simp only [Sparse.wfAbove, Bool.and_eq_true, decide_eq_true_eq]
      exact ⟨⟨hk, h.1.2⟩, Sparse.filter_wfAbove _ h.2⟩
    · exact filter_above_wf h.2

/-- A block of memory replaced. -/
theorem memSplice_wf {m : List Host.Cell} {lo hi : Nat} {l : List (Nat × Byte)} (hb : lo ≤ hi)
    (h : Memory.wf m = true) : Memory.wf (memSplice m lo hi l) = true := by
  refine append_wf ?_ (Nat.zero_le _) h
  induction l with
  | nil => exact Sparse.wfAbove_mono hb (filter_above_wf h)
  | cons p l ih => exact Sparse.put_wfAbove (Nat.le_add_right _ _) ih

/-! ### Bytes -/

/-- A stored byte reads back. -/
theorem ldB_st_eq {s : State} {a v : Nat} (h : s.ok = true) : (s.st a 1 v).ldB a = BitVec.ofNat 8 v := by
  simp only [State.ok, Bool.and_eq_true] at h
  exact Sparse.get_put_eq (Sparse.rising_of_wfAbove h.1)

/-- A number stored leaves every byte outside it. -/
theorem memPut_get_ne : ∀ {n : Nat} {m : List Host.Cell} {a v b : Nat}, Memory.wf m = true → (b < a ∨ a + n ≤ b) →
    Sparse.get 0 (memPut m a n v) b = Sparse.get 0 m b
  | 0, _, _, _, _, _, _ => rfl
  | n + 1, m, a, v, b, h, hb => by
    have hp : Memory.wf (Sparse.put 0 m a (BitVec.ofNat 8 v)) = true := Sparse.put_wfAbove (Nat.zero_le _) h
    unfold memPut
    rw [memPut_get_ne hp (by omega)]
    exact Sparse.get_put_ne (by omega) (Sparse.rising_of_wfAbove h)

/-- A store leaves every byte outside it. -/
theorem ldB_st_ne {s : State} {a n v b : Nat} (h : s.ok = true) (hb : b < a ∨ a + n ≤ b) :
    (s.st a n v).ldB b = s.ldB b := by
  simp only [State.ok, Bool.and_eq_true] at h
  exact memPut_get_ne h.1 hb

end Sys2Proof.Machine
end

