-- ==== Sys2Proof/Laws/GoodBase.lean ====
section
/-! SUPPORT. The lemmas by which every operation is shown to keep a sound state: what a record update, a choice
and a loop keep. -/

set_option linter.unusedTactic false
set_option linter.unreachableTactic false

namespace Sys2Proof.Machine

theorem good_mk {z : Lasting} {bus time seqs hookArgs ledger solve lay loop drive sense cal strand net sw redund fault mon therm pwm clock boot pins fresh regs mem pending} (h : GoodOf z boot.fuses boot.flash regs mem) :
    State.Good z (State.mk bus time seqs hookArgs ledger solve lay loop drive sense cal strand net sw redund fault mon therm pwm clock boot pins fresh regs mem pending) := h

theorem good_of {z : Lasting} {X : State} (h : X.Good z) : GoodOf z X.boot.fuses X.boot.flash X.regs X.mem := h

theorem ok_mk {bus time seqs hookArgs ledger solve lay loop drive sense cal strand net sw redund fault mon therm pwm clock boot pins fresh regs mem pending} (h : (Memory.wf mem && Sparse.rising 0 regs) = true) :
    State.ok (State.mk bus time seqs hookArgs ledger solve lay loop drive sense cal strand net sw redund fault mon therm pwm clock boot pins fresh regs mem pending) = true := h

theorem ok_of {X : State} (h : X.ok = true) : (Memory.wf X.mem && Sparse.rising 0 X.regs) = true := h

theorem good_self {s : State} (h : s.ok = true) : s.Good s.lasting := ⟨h, rfl⟩

theorem ok_of_good {z : Lasting} {s : State} (h : s.Good z) : s.ok = true := h.1

theorem lasting_of_good {z : Lasting} {s : State} (h : s.Good z) : s.lasting = z := h.2

theorem ite_good {z : Lasting} {c : Prop} [Decidable c] {a b : State} (ha : a.Good z) (hb : b.Good z) :
    (ite c a b).Good z := by split <;> assumption

theorem ite_ok {c : Prop} [Decidable c] {a b : State} (ha : a.ok = true) (hb : b.ok = true) :
    (ite c a b).ok = true := by split <;> assumption

theorem forEach_good {z : Lasting} {β : Type} {l : List β} {f : State → β → State} {s : State}
    (hs : s.Good z) (hf : ∀ s b, s.Good z → (f s b).Good z) : (forEach l f s).Good z := by
  induction l generalizing s with
  | nil => exact hs
  | cons a l ih => exact ih (hf s a hs)

theorem forEach_ok {β : Type} {l : List β} {f : State → β → State} {s : State}
    (hs : s.ok = true) (hf : ∀ s b, s.ok = true → (f s b).ok = true) : (forEach l f s).ok = true := by
  induction l generalizing s with
  | nil => exact hs
  | cons a l ih => exact ih (hf s a hs)

/-- A fold that carries a state beside other values. -/
theorem foldl_fst_good {z : Lasting} {β γ : Type} {l : List β} {f : State × γ → β → State × γ} {p : State × γ}
    (hs : p.1.Good z) (hf : ∀ p b, p.1.Good z → (f p b).1.Good z) : (l.foldl f p).1.Good z := by
  induction l generalizing p with
  | nil => exact hs
  | cons a l ih => exact ih (hf p a hs)

theorem foldl_snd_good {z : Lasting} {β γ : Type} {l : List β} {f : γ × State → β → γ × State} {p : γ × State}
    (hs : p.2.Good z) (hf : ∀ p b, p.2.Good z → (f p b).2.Good z) : (l.foldl f p).2.Good z := by
  induction l generalizing p with
  | nil => exact hs
  | cons a l ih => exact ih (hf p a hs)

theorem foldl_good {z : Lasting} {β : Type} {l : List β} {f : State → β → State} {s : State}
    (hs : s.Good z) (hf : ∀ s b, s.Good z → (f s b).Good z) : (l.foldl f s).Good z := forEach_good hs hf

theorem ite_fst_good {z : Lasting} {γ : Type} {c : Prop} [Decidable c] {a b : State × γ} (ha : a.1.Good z)
    (hb : b.1.Good z) : (ite c a b).1.Good z := by split <;> assumption

theorem ite_snd_good {z : Lasting} {γ : Type} {c : Prop} [Decidable c] {a b : γ × State} (ha : a.2.Good z)
    (hb : b.2.Good z) : (ite c a b).2.Good z := by split <;> assumption

theorem ite_fst_ok {γ : Type} {c : Prop} [Decidable c] {a b : State × γ} (ha : a.1.ok = true)
    (hb : b.1.ok = true) : (ite c a b).1.ok = true := by split <;> assumption

theorem have_fst_ok {γ : Type} {p : State × γ} {P : Prop} (h : p.1.ok = true) (k : p.1.ok = true → P) : P := k h
theorem have_snd_ok {γ : Type} {p : γ × State} {P : Prop} (h : p.2.ok = true) (k : p.2.ok = true → P) : P := k h

/-! ### Local definitions -/

theorem have_good {z : Lasting} {s : State} {P : Prop} (h : s.Good z) (k : s.Good z → P) : P := k h
theorem have_ok {s : State} {P : Prop} (h : s.ok = true) (k : s.ok = true → P) : P := k h
theorem have_fst {z : Lasting} {γ : Type} {p : State × γ} {P : Prop} (h : p.1.Good z) (k : p.1.Good z → P) : P := k h
theorem have_snd {z : Lasting} {γ : Type} {p : γ × State} {P : Prop} (h : p.2.Good z) (k : p.2.Good z → P) : P := k h

theorem have_fun1 {z : Lasting} {f : State → State} {P : Prop} (h : ∀ s, s.Good z → (f s).Good z)
    (k : (∀ s, s.Good z → (f s).Good z) → P) : P := k h
theorem have_fun2 {z : Lasting} {β : Type} {f : State → β → State} {P : Prop} (h : ∀ s b, s.Good z → (f s b).Good z)
    (k : (∀ s b, s.Good z → (f s b).Good z) → P) : P := k h
theorem have_fun3 {z : Lasting} {β γ : Type} {f : State → β → γ → State} {P : Prop}
    (h : ∀ s b c, s.Good z → (f s b c).Good z) (k : (∀ s b c, s.Good z → (f s b c).Good z) → P) : P := k h

/-! ### Outcomes -/

/-- An outcome whose next state, where there is one, is sound. -/
def Sound (o : Host.Outcome State Fault Refusal) : Prop :=
  match o with
  | .next t => t.ok = true
  | .fault _ => True
  | .refused _ => True

theorem next_answers {z : Lasting} {t : State} (h : t.Good z) : Answers z (.next t) := h
theorem next_sound {t : State} (h : t.ok = true) : Sound (.next t) := h

theorem ite_answers {z : Lasting} {c : Prop} [Decidable c] {a b : Host.Outcome State Fault Refusal}
    (ha : Answers z a) (hb : Answers z b) : Answers z (ite c a b) := by split <;> assumption

theorem ite_sound {c : Prop} [Decidable c] {a b : Host.Outcome State Fault Refusal}
    (ha : Sound a) (hb : Sound b) : Sound (ite c a b) := by split <;> assumption

theorem sound_of_answers {z : Lasting} {o : Host.Outcome State Fault Refusal} (h : Answers z o) : Sound o := by
  cases o with
  | next t => exact ok_of_good (z := z) h
  | fault _ => trivial
  | refused _ => trivial

/-- An effect that may end in a trap cause: the state it gives is sound. -/
def Allows (z : Lasting) (e : Except Nat State) : Prop :=
  match e with
  | .ok t => t.Good z
  | .error _ => True

theorem allows_ok {z : Lasting} {t : State} (h : t.Good z) : Allows z (.ok t) := h
theorem allows_error {z : Lasting} {c : Nat} : Allows z (.error c) := trivial
theorem allows_get {z : Lasting} {e : Except Nat State} {t : State} (h : Allows z e) (he : e = .ok t) : t.Good z := by
  subst he; exact h

theorem ite_allows {z : Lasting} {c : Prop} [Decidable c] {a b : Except Nat State}
    (ha : Allows z a) (hb : Allows z b) : Allows z (ite c a b) := by split <;> assumption

/-- An effect on a sequencer and the memory that may end in a trap cause: the memory it gives is canonical. -/
def MemAllows (e : Except Nat (Seq × List Host.Cell)) : Prop :=
  match e with
  | .ok y => Memory.wf y.2 = true
  | .error _ => True

theorem memAllows_ok {x : Seq} {m : List Host.Cell} (h : Memory.wf m = true) : MemAllows (.ok (x, m)) := h

theorem ite_wf {c : Prop} [Decidable c] {a b : List Host.Cell} (ha : Memory.wf a = true) (hb : Memory.wf b = true) :
    Memory.wf (ite c a b) = true := by split <;> assumption

/-! ### The operations that reach the two tables -/

theorem good_regs {z : Lasting} {s : State} {r : List (Nat × W64)} (h : s.Good z) (hr : Sparse.rising 0 r = true) :
    GoodOf z s.boot.fuses s.boot.flash r s.mem := by
  refine ⟨?_, h.2⟩
  have := h.1
  simp only [Bool.and_eq_true] at this ⊢
  exact ⟨this.1, hr⟩

theorem good_mem {z : Lasting} {s : State} {m : List Host.Cell} (h : s.Good z) (hm : Memory.wf m = true) :
    GoodOf z s.boot.fuses s.boot.flash s.regs m := by
  refine ⟨?_, h.2⟩
  have := h.1
  simp only [Bool.and_eq_true] at this ⊢
  exact ⟨hm, this.2⟩

theorem good_wf {z : Lasting} {s : State} (h : s.Good z) : Memory.wf s.mem = true := by
  have := h.1; simp only [Bool.and_eq_true] at this; exact this.1

theorem good_rising {z : Lasting} {s : State} (h : s.Good z) : Sparse.rising 0 s.regs = true := by
  have := h.1; simp only [Bool.and_eq_true] at this; exact this.2

end Sys2Proof.Machine
end

