-- ==== Sys2Proof/Laws/GoodOps.lean ====
section
/-! SUPPORT. Every operation of Machine/Ops.lean keeps a sound state sound and, but for those named _ok, the fuses and the
flash as they are. -/

namespace Sys2Proof.Machine

theorem State.wr_good {z : Lasting} {s : State} (f : Fld) (v : Nat) (i : Nat) (j : Nat) (k : Nat) (hs : s.Good z) :
    (State.wr s f v i j k).Good z := good_mk (good_regs hs (Sparse.put_rising (Nat.zero_le _) (good_rising hs)))

theorem State.wrB_good {z : Lasting} {s : State} (f : Fld) (b : Bool) (i : Nat) (j : Nat) (k : Nat) (hs : s.Good z) : (State.wrB s f b i j k).Good z := by
  unfold State.wrB
  repeat' first
    | with_reducible assumption
    | refine fun _ => ?_
    | ((try lift_lets -underBinder); intro s1; refine have_good (z := z) (s := s1) ?_ (fun h1 => ?_) <;> [subst s1; try clear_value s1])
    | ((try lift_lets -underBinder); intro s1; refine have_fst (z := z) (p := s1) ?_ (fun h1 => ?_) <;> [subst s1; try clear_value s1])
    | ((try lift_lets -underBinder); intro s1; refine have_snd (z := z) (p := s1) ?_ (fun h1 => ?_) <;> [subst s1; try clear_value s1])
    | ((try lift_lets -underBinder); intro f1; refine have_fun1 (z := z) (f := f1) ?_ (fun hf1 => ?_) <;> [subst f1; try clear_value f1])
    | ((try lift_lets -underBinder); intro f1; refine have_fun2 (z := z) (f := f1) ?_ (fun hf1 => ?_) <;> [subst f1; try clear_value f1])
    | ((try lift_lets -underBinder); intro f1; refine have_fun3 (z := z) (f := f1) ?_ (fun hf1 => ?_) <;> [subst f1; try clear_value f1])
    | ((try lift_lets -underBinder); intro x1; first | (have f1 : ∀ _, _ := x1; clear f1) | clear_value x1)
    | with_reducible apply hf1
    | with_reducible apply State.wr_good
    | with_reducible apply ite_good
    | with_reducible apply forEach_good
    | with_reducible apply foldl_fst_good
    | with_reducible apply foldl_snd_good
    | with_reducible apply foldl_good
    | split
    | fail_if_no_progress (with_reducible apply good_mk; with_reducible apply good_of)
    | fail_if_no_progress (with_reducible apply good_mk; dsimp only; with_reducible apply good_of)
    | apply ite_good
    | dsimp only

theorem State.wrI_good {z : Lasting} {s : State} (f : Fld) (v : Int) (i : Nat) (j : Nat) (k : Nat) (hs : s.Good z) : (State.wrI s f v i j k).Good z := by
  unfold State.wrI
  repeat' first
    | with_reducible assumption
    | refine fun _ => ?_
    | ((try lift_lets -underBinder); intro s1; refine have_good (z := z) (s := s1) ?_ (fun h1 => ?_) <;> [subst s1; try clear_value s1])
    | ((try lift_lets -underBinder); intro s1; refine have_fst (z := z) (p := s1) ?_ (fun h1 => ?_) <;> [subst s1; try clear_value s1])
    | ((try lift_lets -underBinder); intro s1; refine have_snd (z := z) (p := s1) ?_ (fun h1 => ?_) <;> [subst s1; try clear_value s1])
    | ((try lift_lets -underBinder); intro f1; refine have_fun1 (z := z) (f := f1) ?_ (fun hf1 => ?_) <;> [subst f1; try clear_value f1])
    | ((try lift_lets -underBinder); intro f1; refine have_fun2 (z := z) (f := f1) ?_ (fun hf1 => ?_) <;> [subst f1; try clear_value f1])
    | ((try lift_lets -underBinder); intro f1; refine have_fun3 (z := z) (f := f1) ?_ (fun hf1 => ?_) <;> [subst f1; try clear_value f1])
    | ((try lift_lets -underBinder); intro x1; first | (have f1 : ∀ _, _ := x1; clear f1) | clear_value x1)
    | with_reducible apply hf1
    | with_reducible apply State.wr_good
    | with_reducible apply ite_good
    | with_reducible apply forEach_good
    | with_reducible apply foldl_fst_good
    | with_reducible apply foldl_snd_good
    | with_reducible apply foldl_good
    | split
    | fail_if_no_progress (with_reducible apply good_mk; with_reducible apply good_of)
    | fail_if_no_progress (with_reducible apply good_mk; dsimp only; with_reducible apply good_of)
    | apply ite_good
    | dsimp only

theorem State.inc_good {z : Lasting} {s : State} (f : Fld) (n : Nat) (i : Nat) (j : Nat) (k : Nat) (hs : s.Good z) : (State.inc s f n i j k).Good z := by
  unfold State.inc
  repeat' first
    | with_reducible assumption
    | refine fun _ => ?_
    | ((try lift_lets -underBinder); intro s1; refine have_good (z := z) (s := s1) ?_ (fun h1 => ?_) <;> [subst s1; try clear_value s1])
    | ((try lift_lets -underBinder); intro s1; refine have_fst (z := z) (p := s1) ?_ (fun h1 => ?_) <;> [subst s1; try clear_value s1])
    | ((try lift_lets -underBinder); intro s1; refine have_snd (z := z) (p := s1) ?_ (fun h1 => ?_) <;> [subst s1; try clear_value s1])
    | ((try lift_lets -underBinder); intro f1; refine have_fun1 (z := z) (f := f1) ?_ (fun hf1 => ?_) <;> [subst f1; try clear_value f1])
    | ((try lift_lets -underBinder); intro f1; refine have_fun2 (z := z) (f := f1) ?_ (fun hf1 => ?_) <;> [subst f1; try clear_value f1])
    | ((try lift_lets -underBinder); intro f1; refine have_fun3 (z := z) (f := f1) ?_ (fun hf1 => ?_) <;> [subst f1; try clear_value f1])
    | ((try lift_lets -underBinder); intro x1; first | (have f1 : ∀ _, _ := x1; clear f1) | clear_value x1)
    | with_reducible apply hf1
    | with_reducible apply State.wr_good
    | with_reducible apply ite_good
    | with_reducible apply forEach_good
    | with_reducible apply foldl_fst_good
    | with_reducible apply foldl_snd_good
    | with_reducible apply foldl_good
    | split
    | fail_if_no_progress (with_reducible apply good_mk; with_reducible apply good_of)
    | fail_if_no_progress (with_reducible apply good_mk; dsimp only; with_reducible apply good_of)
    | apply ite_good
    | dsimp only

theorem State.rst_good {z : Lasting} {s : State} (f : Fld) (i : Nat) (j : Nat) (k : Nat) (hs : s.Good z) : (State.rst s f i j k).Good z := by
  unfold State.rst
  repeat' first
    | with_reducible assumption
    | refine fun _ => ?_
    | ((try lift_lets -underBinder); intro s1; refine have_good (z := z) (s := s1) ?_ (fun h1 => ?_) <;> [subst s1; try clear_value s1])
    | ((try lift_lets -underBinder); intro s1; refine have_fst (z := z) (p := s1) ?_ (fun h1 => ?_) <;> [subst s1; try clear_value s1])
    | ((try lift_lets -underBinder); intro s1; refine have_snd (z := z) (p := s1) ?_ (fun h1 => ?_) <;> [subst s1; try clear_value s1])
    | ((try lift_lets -underBinder); intro f1; refine have_fun1 (z := z) (f := f1) ?_ (fun hf1 => ?_) <;> [subst f1; try clear_value f1])
    | ((try lift_lets -underBinder); intro f1; refine have_fun2 (z := z) (f := f1) ?_ (fun hf1 => ?_) <;> [subst f1; try clear_value f1])
    | ((try lift_lets -underBinder); intro f1; refine have_fun3 (z := z) (f := f1) ?_ (fun hf1 => ?_) <;> [subst f1; try clear_value f1])
    | ((try lift_lets -underBinder); intro x1; first | (have f1 : ∀ _, _ := x1; clear f1) | clear_value x1)
    | with_reducible apply hf1
    | with_reducible apply State.wr_good
    | with_reducible apply ite_good
    | with_reducible apply forEach_good
    | with_reducible apply foldl_fst_good
    | with_reducible apply foldl_snd_good
    | with_reducible apply foldl_good
    | split
    | fail_if_no_progress (with_reducible apply good_mk; with_reducible apply good_of)
    | fail_if_no_progress (with_reducible apply good_mk; dsimp only; with_reducible apply good_of)
    | apply ite_good
    | dsimp only

theorem State.st_good {z : Lasting} {s : State} (a : Nat) (n : Nat) (v : Nat) (hs : s.Good z) :
    (State.st s a n v).Good z := good_mk (good_mem hs (memPut_wf (good_wf hs)))

theorem State.stW_good {z : Lasting} {s : State} (a : Nat) (v : W32) (hs : s.Good z) : (State.stW s a v).Good z := by
  unfold State.stW
  repeat' first
    | with_reducible assumption
    | refine fun _ => ?_
    | ((try lift_lets -underBinder); intro s1; refine have_good (z := z) (s := s1) ?_ (fun h1 => ?_) <;> [subst s1; try clear_value s1])
    | ((try lift_lets -underBinder); intro s1; refine have_fst (z := z) (p := s1) ?_ (fun h1 => ?_) <;> [subst s1; try clear_value s1])
    | ((try lift_lets -underBinder); intro s1; refine have_snd (z := z) (p := s1) ?_ (fun h1 => ?_) <;> [subst s1; try clear_value s1])
    | ((try lift_lets -underBinder); intro f1; refine have_fun1 (z := z) (f := f1) ?_ (fun hf1 => ?_) <;> [subst f1; try clear_value f1])
    | ((try lift_lets -underBinder); intro f1; refine have_fun2 (z := z) (f := f1) ?_ (fun hf1 => ?_) <;> [subst f1; try clear_value f1])
    | ((try lift_lets -underBinder); intro f1; refine have_fun3 (z := z) (f := f1) ?_ (fun hf1 => ?_) <;> [subst f1; try clear_value f1])
    | ((try lift_lets -underBinder); intro x1; first | (have f1 : ∀ _, _ := x1; clear f1) | clear_value x1)
    | with_reducible apply hf1
    | with_reducible apply State.st_good
    | with_reducible apply ite_good
    | with_reducible apply forEach_good
    | with_reducible apply foldl_fst_good
    | with_reducible apply foldl_snd_good
    | with_reducible apply foldl_good
    | split
    | fail_if_no_progress (with_reducible apply good_mk; with_reducible apply good_of)
    | fail_if_no_progress (with_reducible apply good_mk; dsimp only; with_reducible apply good_of)
    | apply ite_good
    | dsimp only

theorem State.stZero_good {z : Lasting} {s : State} (a : Nat) (n : Nat) (hs : s.Good z) :
    (State.stZero s a n).Good z := good_mk (good_mem hs (clear_wf (good_wf hs)))

theorem State.stBytes_good {z : Lasting} : ∀ {s : State} (a : Nat) (l : List Byte) (_ : s.Good z), (State.stBytes s a l).Good z
  | _, _, [], hs => hs
  | _, a, b :: bs, hs => State.stBytes_good (a + 1) bs (State.st_good a 1 b.toNat hs)

theorem State.stBits_good {z : Lasting} {s : State} (a : Nat) (n : Nat) (l : Nat) (w : Nat) (v : Nat) (hs : s.Good z) : (State.stBits s a n l w v).Good z := by
  unfold State.stBits
  repeat' first
    | with_reducible assumption
    | refine fun _ => ?_
    | ((try lift_lets -underBinder); intro s1; refine have_good (z := z) (s := s1) ?_ (fun h1 => ?_) <;> [subst s1; try clear_value s1])
    | ((try lift_lets -underBinder); intro s1; refine have_fst (z := z) (p := s1) ?_ (fun h1 => ?_) <;> [subst s1; try clear_value s1])
    | ((try lift_lets -underBinder); intro s1; refine have_snd (z := z) (p := s1) ?_ (fun h1 => ?_) <;> [subst s1; try clear_value s1])
    | ((try lift_lets -underBinder); intro f1; refine have_fun1 (z := z) (f := f1) ?_ (fun hf1 => ?_) <;> [subst f1; try clear_value f1])
    | ((try lift_lets -underBinder); intro f1; refine have_fun2 (z := z) (f := f1) ?_ (fun hf1 => ?_) <;> [subst f1; try clear_value f1])
    | ((try lift_lets -underBinder); intro f1; refine have_fun3 (z := z) (f := f1) ?_ (fun hf1 => ?_) <;> [subst f1; try clear_value f1])
    | ((try lift_lets -underBinder); intro x1; first | (have f1 : ∀ _, _ := x1; clear f1) | clear_value x1)
    | with_reducible apply hf1
    | with_reducible apply State.st_good
    | with_reducible apply ite_good
    | with_reducible apply forEach_good
    | with_reducible apply foldl_fst_good
    | with_reducible apply foldl_snd_good
    | with_reducible apply foldl_good
    | split
    | fail_if_no_progress (with_reducible apply good_mk; with_reducible apply good_of)
    | fail_if_no_progress (with_reducible apply good_mk; dsimp only; with_reducible apply good_of)
    | apply ite_good
    | dsimp only

theorem State.draw_good {z : Lasting} {s : State} (hs : s.Good z) : (State.draw s).2.Good z := by
  unfold State.draw
  repeat' first
    | with_reducible assumption
    | refine fun _ => ?_
    | ((try lift_lets -underBinder); intro s1; refine have_good (z := z) (s := s1) ?_ (fun h1 => ?_) <;> [subst s1; try clear_value s1])
    | ((try lift_lets -underBinder); intro s1; refine have_fst (z := z) (p := s1) ?_ (fun h1 => ?_) <;> [subst s1; try clear_value s1])
    | ((try lift_lets -underBinder); intro s1; refine have_snd (z := z) (p := s1) ?_ (fun h1 => ?_) <;> [subst s1; try clear_value s1])
    | ((try lift_lets -underBinder); intro f1; refine have_fun1 (z := z) (f := f1) ?_ (fun hf1 => ?_) <;> [subst f1; try clear_value f1])
    | ((try lift_lets -underBinder); intro f1; refine have_fun2 (z := z) (f := f1) ?_ (fun hf1 => ?_) <;> [subst f1; try clear_value f1])
    | ((try lift_lets -underBinder); intro f1; refine have_fun3 (z := z) (f := f1) ?_ (fun hf1 => ?_) <;> [subst f1; try clear_value f1])
    | ((try lift_lets -underBinder); intro x1; first | (have f1 : ∀ _, _ := x1; clear f1) | clear_value x1)
    | with_reducible apply hf1
    | with_reducible apply ite_snd_good
    | with_reducible apply ite_good
    | with_reducible apply forEach_good
    | with_reducible apply foldl_fst_good
    | with_reducible apply foldl_snd_good
    | with_reducible apply foldl_good
    | split
    | fail_if_no_progress (with_reducible apply good_mk; with_reducible apply good_of)
    | fail_if_no_progress (with_reducible apply good_mk; dsimp only; with_reducible apply good_of)
    | apply ite_good
    | dsimp only

theorem State.jitter_good {z : Lasting} {s : State} (hs : s.Good z) : (State.jitter s).2.Good z := by
  unfold State.jitter
  repeat' first
    | with_reducible assumption
    | refine fun _ => ?_
    | ((try lift_lets -underBinder); intro s1; refine have_good (z := z) (s := s1) ?_ (fun h1 => ?_) <;> [subst s1; try clear_value s1])
    | ((try lift_lets -underBinder); intro s1; refine have_fst (z := z) (p := s1) ?_ (fun h1 => ?_) <;> [subst s1; try clear_value s1])
    | ((try lift_lets -underBinder); intro s1; refine have_snd (z := z) (p := s1) ?_ (fun h1 => ?_) <;> [subst s1; try clear_value s1])
    | ((try lift_lets -underBinder); intro f1; refine have_fun1 (z := z) (f := f1) ?_ (fun hf1 => ?_) <;> [subst f1; try clear_value f1])
    | ((try lift_lets -underBinder); intro f1; refine have_fun2 (z := z) (f := f1) ?_ (fun hf1 => ?_) <;> [subst f1; try clear_value f1])
    | ((try lift_lets -underBinder); intro f1; refine have_fun3 (z := z) (f := f1) ?_ (fun hf1 => ?_) <;> [subst f1; try clear_value f1])
    | ((try lift_lets -underBinder); intro x1; first | (have f1 : ∀ _, _ := x1; clear f1) | clear_value x1)
    | with_reducible apply hf1
    | with_reducible apply State.draw_good
    | with_reducible apply ite_snd_good
    | with_reducible apply ite_good
    | with_reducible apply forEach_good
    | with_reducible apply foldl_fst_good
    | with_reducible apply foldl_snd_good
    | with_reducible apply foldl_good
    | split
    | fail_if_no_progress (with_reducible apply good_mk; with_reducible apply good_of)
    | fail_if_no_progress (with_reducible apply good_mk; dsimp only; with_reducible apply good_of)
    | apply ite_good
    | dsimp only



theorem State.setTb_good {z : Lasting} {s : State} (t : Nat) (b : TimeBase) (hs : s.Good z) : (State.setTb s t b).Good z := by
  unfold State.setTb
  repeat' first
    | with_reducible assumption
    | refine fun _ => ?_
    | ((try lift_lets -underBinder); intro s1; refine have_good (z := z) (s := s1) ?_ (fun h1 => ?_) <;> [subst s1; try clear_value s1])
    | ((try lift_lets -underBinder); intro s1; refine have_fst (z := z) (p := s1) ?_ (fun h1 => ?_) <;> [subst s1; try clear_value s1])
    | ((try lift_lets -underBinder); intro s1; refine have_snd (z := z) (p := s1) ?_ (fun h1 => ?_) <;> [subst s1; try clear_value s1])
    | ((try lift_lets -underBinder); intro f1; refine have_fun1 (z := z) (f := f1) ?_ (fun hf1 => ?_) <;> [subst f1; try clear_value f1])
    | ((try lift_lets -underBinder); intro f1; refine have_fun2 (z := z) (f := f1) ?_ (fun hf1 => ?_) <;> [subst f1; try clear_value f1])
    | ((try lift_lets -underBinder); intro f1; refine have_fun3 (z := z) (f := f1) ?_ (fun hf1 => ?_) <;> [subst f1; try clear_value f1])
    | ((try lift_lets -underBinder); intro x1; first | (have f1 : ∀ _, _ := x1; clear f1) | clear_value x1)
    | with_reducible apply hf1
    | with_reducible apply ite_good
    | with_reducible apply forEach_good
    | with_reducible apply foldl_fst_good
    | with_reducible apply foldl_snd_good
    | with_reducible apply foldl_good
    | split
    | fail_if_no_progress (with_reducible apply good_mk; with_reducible apply good_of)
    | fail_if_no_progress (with_reducible apply good_mk; dsimp only; with_reducible apply good_of)
    | apply ite_good
    | dsimp only

theorem State.passCycles_good {z : Lasting} {s : State} (k : Nat) (hs : s.Good z) : (State.passCycles s k).Good z := by
  unfold State.passCycles
  repeat' first
    | with_reducible assumption
    | refine fun _ => ?_
    | ((try lift_lets -underBinder); intro s1; refine have_good (z := z) (s := s1) ?_ (fun h1 => ?_) <;> [subst s1; try clear_value s1])
    | ((try lift_lets -underBinder); intro s1; refine have_fst (z := z) (p := s1) ?_ (fun h1 => ?_) <;> [subst s1; try clear_value s1])
    | ((try lift_lets -underBinder); intro s1; refine have_snd (z := z) (p := s1) ?_ (fun h1 => ?_) <;> [subst s1; try clear_value s1])
    | ((try lift_lets -underBinder); intro f1; refine have_fun1 (z := z) (f := f1) ?_ (fun hf1 => ?_) <;> [subst f1; try clear_value f1])
    | ((try lift_lets -underBinder); intro f1; refine have_fun2 (z := z) (f := f1) ?_ (fun hf1 => ?_) <;> [subst f1; try clear_value f1])
    | ((try lift_lets -underBinder); intro f1; refine have_fun3 (z := z) (f := f1) ?_ (fun hf1 => ?_) <;> [subst f1; try clear_value f1])
    | ((try lift_lets -underBinder); intro x1; first | (have f1 : ∀ _, _ := x1; clear f1) | clear_value x1)
    | with_reducible apply hf1
    | with_reducible apply ite_good
    | with_reducible apply forEach_good
    | with_reducible apply foldl_fst_good
    | with_reducible apply foldl_snd_good
    | with_reducible apply foldl_good
    | split
    | fail_if_no_progress (with_reducible apply good_mk; with_reducible apply good_of)
    | fail_if_no_progress (with_reducible apply good_mk; dsimp only; with_reducible apply good_of)
    | apply ite_good
    | dsimp only

theorem State.passTo_good {z : Lasting} {s : State} (x : Nat) (hs : s.Good z) : (State.passTo s x).Good z := by
  unfold State.passTo
  repeat' first
    | with_reducible assumption
    | refine fun _ => ?_
    | ((try lift_lets -underBinder); intro s1; refine have_good (z := z) (s := s1) ?_ (fun h1 => ?_) <;> [subst s1; try clear_value s1])
    | ((try lift_lets -underBinder); intro s1; refine have_fst (z := z) (p := s1) ?_ (fun h1 => ?_) <;> [subst s1; try clear_value s1])
    | ((try lift_lets -underBinder); intro s1; refine have_snd (z := z) (p := s1) ?_ (fun h1 => ?_) <;> [subst s1; try clear_value s1])
    | ((try lift_lets -underBinder); intro f1; refine have_fun1 (z := z) (f := f1) ?_ (fun hf1 => ?_) <;> [subst f1; try clear_value f1])
    | ((try lift_lets -underBinder); intro f1; refine have_fun2 (z := z) (f := f1) ?_ (fun hf1 => ?_) <;> [subst f1; try clear_value f1])
    | ((try lift_lets -underBinder); intro f1; refine have_fun3 (z := z) (f := f1) ?_ (fun hf1 => ?_) <;> [subst f1; try clear_value f1])
    | ((try lift_lets -underBinder); intro x1; first | (have f1 : ∀ _, _ := x1; clear f1) | clear_value x1)
    | with_reducible apply hf1
    | with_reducible apply State.passCycles_good
    | with_reducible apply ite_good
    | with_reducible apply forEach_good
    | with_reducible apply foldl_fst_good
    | with_reducible apply foldl_snd_good
    | with_reducible apply foldl_good
    | split
    | fail_if_no_progress (with_reducible apply good_mk; with_reducible apply good_of)
    | fail_if_no_progress (with_reducible apply good_mk; dsimp only; with_reducible apply good_of)
    | apply ite_good
    | dsimp only

theorem State.passBaseTo_good {z : Lasting} {s : State} (t : Nat) (target : W64) (hs : s.Good z) : (State.passBaseTo s t target).Good z := by
  unfold State.passBaseTo
  repeat' first
    | with_reducible assumption
    | refine fun _ => ?_
    | ((try lift_lets -underBinder); intro s1; refine have_good (z := z) (s := s1) ?_ (fun h1 => ?_) <;> [subst s1; try clear_value s1])
    | ((try lift_lets -underBinder); intro s1; refine have_fst (z := z) (p := s1) ?_ (fun h1 => ?_) <;> [subst s1; try clear_value s1])
    | ((try lift_lets -underBinder); intro s1; refine have_snd (z := z) (p := s1) ?_ (fun h1 => ?_) <;> [subst s1; try clear_value s1])
    | ((try lift_lets -underBinder); intro f1; refine have_fun1 (z := z) (f := f1) ?_ (fun hf1 => ?_) <;> [subst f1; try clear_value f1])
    | ((try lift_lets -underBinder); intro f1; refine have_fun2 (z := z) (f := f1) ?_ (fun hf1 => ?_) <;> [subst f1; try clear_value f1])
    | ((try lift_lets -underBinder); intro f1; refine have_fun3 (z := z) (f := f1) ?_ (fun hf1 => ?_) <;> [subst f1; try clear_value f1])
    | ((try lift_lets -underBinder); intro x1; first | (have f1 : ∀ _, _ := x1; clear f1) | clear_value x1)
    | with_reducible apply hf1
    | with_reducible apply State.passCycles_good
    | with_reducible apply ite_good
    | with_reducible apply forEach_good
    | with_reducible apply foldl_fst_good
    | with_reducible apply foldl_snd_good
    | with_reducible apply foldl_good
    | split
    | fail_if_no_progress (with_reducible apply good_mk; with_reducible apply good_of)
    | fail_if_no_progress (with_reducible apply good_mk; dsimp only; with_reducible apply good_of)
    | apply ite_good
    | dsimp only

theorem State.passToCycle_good {z : Lasting} {s : State} (c : Nat) (hs : s.Good z) : (State.passToCycle s c).Good z := by
  unfold State.passToCycle
  repeat' first
    | with_reducible assumption
    | refine fun _ => ?_
    | ((try lift_lets -underBinder); intro s1; refine have_good (z := z) (s := s1) ?_ (fun h1 => ?_) <;> [subst s1; try clear_value s1])
    | ((try lift_lets -underBinder); intro s1; refine have_fst (z := z) (p := s1) ?_ (fun h1 => ?_) <;> [subst s1; try clear_value s1])
    | ((try lift_lets -underBinder); intro s1; refine have_snd (z := z) (p := s1) ?_ (fun h1 => ?_) <;> [subst s1; try clear_value s1])
    | ((try lift_lets -underBinder); intro f1; refine have_fun1 (z := z) (f := f1) ?_ (fun hf1 => ?_) <;> [subst f1; try clear_value f1])
    | ((try lift_lets -underBinder); intro f1; refine have_fun2 (z := z) (f := f1) ?_ (fun hf1 => ?_) <;> [subst f1; try clear_value f1])
    | ((try lift_lets -underBinder); intro f1; refine have_fun3 (z := z) (f := f1) ?_ (fun hf1 => ?_) <;> [subst f1; try clear_value f1])
    | ((try lift_lets -underBinder); intro x1; first | (have f1 : ∀ _, _ := x1; clear f1) | clear_value x1)
    | with_reducible apply hf1
    | with_reducible apply State.passCycles_good
    | with_reducible apply ite_good
    | with_reducible apply forEach_good
    | with_reducible apply foldl_fst_good
    | with_reducible apply foldl_snd_good
    | with_reducible apply foldl_good
    | split
    | fail_if_no_progress (with_reducible apply good_mk; with_reducible apply good_of)
    | fail_if_no_progress (with_reducible apply good_mk; dsimp only; with_reducible apply good_of)
    | apply ite_good
    | dsimp only

theorem State.setSq_good {z : Lasting} {s : State} (q : Nat) (x : Seq) (hs : s.Good z) : (State.setSq s q x).Good z := by
  unfold State.setSq
  repeat' first
    | with_reducible assumption
    | refine fun _ => ?_
    | ((try lift_lets -underBinder); intro s1; refine have_good (z := z) (s := s1) ?_ (fun h1 => ?_) <;> [subst s1; try clear_value s1])
    | ((try lift_lets -underBinder); intro s1; refine have_fst (z := z) (p := s1) ?_ (fun h1 => ?_) <;> [subst s1; try clear_value s1])
    | ((try lift_lets -underBinder); intro s1; refine have_snd (z := z) (p := s1) ?_ (fun h1 => ?_) <;> [subst s1; try clear_value s1])
    | ((try lift_lets -underBinder); intro f1; refine have_fun1 (z := z) (f := f1) ?_ (fun hf1 => ?_) <;> [subst f1; try clear_value f1])
    | ((try lift_lets -underBinder); intro f1; refine have_fun2 (z := z) (f := f1) ?_ (fun hf1 => ?_) <;> [subst f1; try clear_value f1])
    | ((try lift_lets -underBinder); intro f1; refine have_fun3 (z := z) (f := f1) ?_ (fun hf1 => ?_) <;> [subst f1; try clear_value f1])
    | ((try lift_lets -underBinder); intro x1; first | (have f1 : ∀ _, _ := x1; clear f1) | clear_value x1)
    | with_reducible apply hf1
    | with_reducible apply ite_good
    | with_reducible apply forEach_good
    | with_reducible apply foldl_fst_good
    | with_reducible apply foldl_snd_good
    | with_reducible apply foldl_good
    | split
    | fail_if_no_progress (with_reducible apply good_mk; with_reducible apply good_of)
    | fail_if_no_progress (with_reducible apply good_mk; dsimp only; with_reducible apply good_of)
    | apply ite_good
    | dsimp only

theorem State.fireHook_good {z : Lasting} {s : State} (h : Nat) (arg : W32) (hs : s.Good z) : (State.fireHook s h arg).Good z := by
  unfold State.fireHook
  repeat' first
    | with_reducible assumption
    | refine fun _ => ?_
    | ((try lift_lets -underBinder); intro s1; refine have_good (z := z) (s := s1) ?_ (fun h1 => ?_) <;> [subst s1; try clear_value s1])
    | ((try lift_lets -underBinder); intro s1; refine have_fst (z := z) (p := s1) ?_ (fun h1 => ?_) <;> [subst s1; try clear_value s1])
    | ((try lift_lets -underBinder); intro s1; refine have_snd (z := z) (p := s1) ?_ (fun h1 => ?_) <;> [subst s1; try clear_value s1])
    | ((try lift_lets -underBinder); intro f1; refine have_fun1 (z := z) (f := f1) ?_ (fun hf1 => ?_) <;> [subst f1; try clear_value f1])
    | ((try lift_lets -underBinder); intro f1; refine have_fun2 (z := z) (f := f1) ?_ (fun hf1 => ?_) <;> [subst f1; try clear_value f1])
    | ((try lift_lets -underBinder); intro f1; refine have_fun3 (z := z) (f := f1) ?_ (fun hf1 => ?_) <;> [subst f1; try clear_value f1])
    | ((try lift_lets -underBinder); intro x1; first | (have f1 : ∀ _, _ := x1; clear f1) | clear_value x1)
    | with_reducible apply hf1
    | with_reducible apply State.inc_good
    | with_reducible apply State.wrB_good
    | with_reducible apply ite_good
    | with_reducible apply forEach_good
    | with_reducible apply foldl_fst_good
    | with_reducible apply foldl_snd_good
    | with_reducible apply foldl_good
    | split
    | fail_if_no_progress (with_reducible apply good_mk; with_reducible apply good_of)
    | fail_if_no_progress (with_reducible apply good_mk; dsimp only; with_reducible apply good_of)
    | apply ite_good
    | dsimp only

theorem State.fireClkfail_good {z : Lasting} {s : State} (src : W32) (hs : s.Good z) : (State.fireClkfail s src).Good z := by
  unfold State.fireClkfail
  repeat' first
    | with_reducible assumption
    | refine fun _ => ?_
    | ((try lift_lets -underBinder); intro s1; refine have_good (z := z) (s := s1) ?_ (fun h1 => ?_) <;> [subst s1; try clear_value s1])
    | ((try lift_lets -underBinder); intro s1; refine have_fst (z := z) (p := s1) ?_ (fun h1 => ?_) <;> [subst s1; try clear_value s1])
    | ((try lift_lets -underBinder); intro s1; refine have_snd (z := z) (p := s1) ?_ (fun h1 => ?_) <;> [subst s1; try clear_value s1])
    | ((try lift_lets -underBinder); intro f1; refine have_fun1 (z := z) (f := f1) ?_ (fun hf1 => ?_) <;> [subst f1; try clear_value f1])
    | ((try lift_lets -underBinder); intro f1; refine have_fun2 (z := z) (f := f1) ?_ (fun hf1 => ?_) <;> [subst f1; try clear_value f1])
    | ((try lift_lets -underBinder); intro f1; refine have_fun3 (z := z) (f := f1) ?_ (fun hf1 => ?_) <;> [subst f1; try clear_value f1])
    | ((try lift_lets -underBinder); intro x1; first | (have f1 : ∀ _, _ := x1; clear f1) | clear_value x1)
    | with_reducible apply hf1
    | with_reducible apply State.inc_good
    | with_reducible apply State.setSq_good
    | with_reducible apply State.fireHook_good
    | with_reducible apply ite_good
    | with_reducible apply forEach_good
    | with_reducible apply foldl_fst_good
    | with_reducible apply foldl_snd_good
    | with_reducible apply foldl_good
    | split
    | fail_if_no_progress (with_reducible apply good_mk; with_reducible apply good_of)
    | fail_if_no_progress (with_reducible apply good_mk; dsimp only; with_reducible apply good_of)
    | apply ite_good
    | dsimp only

theorem State.logSlot_good {z : Lasting} {s : State} (i : Nat) (x : FaultEntry) (hs : s.Good z) : (State.logSlot s i x).Good z := by
  unfold State.logSlot
  repeat' first
    | with_reducible assumption
    | refine fun _ => ?_
    | ((try lift_lets -underBinder); intro s1; refine have_good (z := z) (s := s1) ?_ (fun h1 => ?_) <;> [subst s1; try clear_value s1])
    | ((try lift_lets -underBinder); intro s1; refine have_fst (z := z) (p := s1) ?_ (fun h1 => ?_) <;> [subst s1; try clear_value s1])
    | ((try lift_lets -underBinder); intro s1; refine have_snd (z := z) (p := s1) ?_ (fun h1 => ?_) <;> [subst s1; try clear_value s1])
    | ((try lift_lets -underBinder); intro f1; refine have_fun1 (z := z) (f := f1) ?_ (fun hf1 => ?_) <;> [subst f1; try clear_value f1])
    | ((try lift_lets -underBinder); intro f1; refine have_fun2 (z := z) (f := f1) ?_ (fun hf1 => ?_) <;> [subst f1; try clear_value f1])
    | ((try lift_lets -underBinder); intro f1; refine have_fun3 (z := z) (f := f1) ?_ (fun hf1 => ?_) <;> [subst f1; try clear_value f1])
    | ((try lift_lets -underBinder); intro x1; first | (have f1 : ∀ _, _ := x1; clear f1) | clear_value x1)
    | with_reducible apply hf1
    | with_reducible apply State.wr_good
    | with_reducible apply State.wrB_good
    | with_reducible apply ite_good
    | with_reducible apply forEach_good
    | with_reducible apply foldl_fst_good
    | with_reducible apply foldl_snd_good
    | with_reducible apply foldl_good
    | split
    | fail_if_no_progress (with_reducible apply good_mk; with_reducible apply good_of)
    | fail_if_no_progress (with_reducible apply good_mk; dsimp only; with_reducible apply good_of)
    | apply ite_good
    | dsimp only

theorem State.faultCycle_good {z : Lasting} {s : State} (hs : s.Good z) : (State.faultCycle s).Good z := by
  unfold State.faultCycle
  repeat' first
    | with_reducible assumption
    | refine fun _ => ?_
    | ((try lift_lets -underBinder); intro s1; refine have_good (z := z) (s := s1) ?_ (fun h1 => ?_) <;> [subst s1; try clear_value s1])
    | ((try lift_lets -underBinder); intro s1; refine have_fst (z := z) (p := s1) ?_ (fun h1 => ?_) <;> [subst s1; try clear_value s1])
    | ((try lift_lets -underBinder); intro s1; refine have_snd (z := z) (p := s1) ?_ (fun h1 => ?_) <;> [subst s1; try clear_value s1])
    | ((try lift_lets -underBinder); intro f1; refine have_fun1 (z := z) (f := f1) ?_ (fun hf1 => ?_) <;> [subst f1; try clear_value f1])
    | ((try lift_lets -underBinder); intro f1; refine have_fun2 (z := z) (f := f1) ?_ (fun hf1 => ?_) <;> [subst f1; try clear_value f1])
    | ((try lift_lets -underBinder); intro f1; refine have_fun3 (z := z) (f := f1) ?_ (fun hf1 => ?_) <;> [subst f1; try clear_value f1])
    | ((try lift_lets -underBinder); intro x1; first | (have f1 : ∀ _, _ := x1; clear f1) | clear_value x1)
    | with_reducible apply hf1
    | with_reducible apply ite_good
    | with_reducible apply forEach_good
    | with_reducible apply foldl_fst_good
    | with_reducible apply foldl_snd_good
    | with_reducible apply foldl_good
    | split
    | fail_if_no_progress (with_reducible apply good_mk; with_reducible apply good_of)
    | fail_if_no_progress (with_reducible apply good_mk; dsimp only; with_reducible apply good_of)
    | apply ite_good
    | dsimp only

theorem State.logCycle_good {z : Lasting} {s : State} (hs : s.Good z) : (State.logCycle s).Good z := by
  unfold State.logCycle
  repeat' first
    | with_reducible assumption
    | refine fun _ => ?_
    | ((try lift_lets -underBinder); intro s1; refine have_good (z := z) (s := s1) ?_ (fun h1 => ?_) <;> [subst s1; try clear_value s1])
    | ((try lift_lets -underBinder); intro s1; refine have_fst (z := z) (p := s1) ?_ (fun h1 => ?_) <;> [subst s1; try clear_value s1])
    | ((try lift_lets -underBinder); intro s1; refine have_snd (z := z) (p := s1) ?_ (fun h1 => ?_) <;> [subst s1; try clear_value s1])
    | ((try lift_lets -underBinder); intro f1; refine have_fun1 (z := z) (f := f1) ?_ (fun hf1 => ?_) <;> [subst f1; try clear_value f1])
    | ((try lift_lets -underBinder); intro f1; refine have_fun2 (z := z) (f := f1) ?_ (fun hf1 => ?_) <;> [subst f1; try clear_value f1])
    | ((try lift_lets -underBinder); intro f1; refine have_fun3 (z := z) (f := f1) ?_ (fun hf1 => ?_) <;> [subst f1; try clear_value f1])
    | ((try lift_lets -underBinder); intro x1; first | (have f1 : ∀ _, _ := x1; clear f1) | clear_value x1)
    | with_reducible apply hf1
    | with_reducible apply State.logSlot_good
    | with_reducible apply ite_good
    | with_reducible apply forEach_good
    | with_reducible apply foldl_fst_good
    | with_reducible apply foldl_snd_good
    | with_reducible apply foldl_good
    | split
    | fail_if_no_progress (with_reducible apply good_mk; with_reducible apply good_of)
    | fail_if_no_progress (with_reducible apply good_mk; dsimp only; with_reducible apply good_of)
    | apply ite_good
    | dsimp only

theorem State.faultLog_good {z : Lasting} {s : State} (x : FaultEntry) (hs : s.Good z) : (State.faultLog s x).Good z := by
  unfold State.faultLog
  repeat' first
    | with_reducible assumption
    | refine fun _ => ?_
    | ((try lift_lets -underBinder); intro s1; refine have_good (z := z) (s := s1) ?_ (fun h1 => ?_) <;> [subst s1; try clear_value s1])
    | ((try lift_lets -underBinder); intro s1; refine have_fst (z := z) (p := s1) ?_ (fun h1 => ?_) <;> [subst s1; try clear_value s1])
    | ((try lift_lets -underBinder); intro s1; refine have_snd (z := z) (p := s1) ?_ (fun h1 => ?_) <;> [subst s1; try clear_value s1])
    | ((try lift_lets -underBinder); intro f1; refine have_fun1 (z := z) (f := f1) ?_ (fun hf1 => ?_) <;> [subst f1; try clear_value f1])
    | ((try lift_lets -underBinder); intro f1; refine have_fun2 (z := z) (f := f1) ?_ (fun hf1 => ?_) <;> [subst f1; try clear_value f1])
    | ((try lift_lets -underBinder); intro f1; refine have_fun3 (z := z) (f := f1) ?_ (fun hf1 => ?_) <;> [subst f1; try clear_value f1])
    | ((try lift_lets -underBinder); intro x1; first | (have f1 : ∀ _, _ := x1; clear f1) | clear_value x1)
    | with_reducible apply hf1
    | with_reducible apply State.inc_good
    | with_reducible apply State.wrB_good
    | with_reducible apply State.wr_good
    | with_reducible apply ite_good
    | with_reducible apply forEach_good
    | with_reducible apply foldl_fst_good
    | with_reducible apply foldl_snd_good
    | with_reducible apply foldl_good
    | split
    | fail_if_no_progress (with_reducible apply good_mk; with_reducible apply good_of)
    | fail_if_no_progress (with_reducible apply good_mk; dsimp only; with_reducible apply good_of)
    | apply ite_good
    | dsimp only

theorem State.firstDetail_good {z : Lasting} {s : State} (hs : s.Good z) : (State.firstDetail s).Good z := by
  unfold State.firstDetail
  repeat' first
    | with_reducible assumption
    | refine fun _ => ?_
    | ((try lift_lets -underBinder); intro s1; refine have_good (z := z) (s := s1) ?_ (fun h1 => ?_) <;> [subst s1; try clear_value s1])
    | ((try lift_lets -underBinder); intro s1; refine have_fst (z := z) (p := s1) ?_ (fun h1 => ?_) <;> [subst s1; try clear_value s1])
    | ((try lift_lets -underBinder); intro s1; refine have_snd (z := z) (p := s1) ?_ (fun h1 => ?_) <;> [subst s1; try clear_value s1])
    | ((try lift_lets -underBinder); intro f1; refine have_fun1 (z := z) (f := f1) ?_ (fun hf1 => ?_) <;> [subst f1; try clear_value f1])
    | ((try lift_lets -underBinder); intro f1; refine have_fun2 (z := z) (f := f1) ?_ (fun hf1 => ?_) <;> [subst f1; try clear_value f1])
    | ((try lift_lets -underBinder); intro f1; refine have_fun3 (z := z) (f := f1) ?_ (fun hf1 => ?_) <;> [subst f1; try clear_value f1])
    | ((try lift_lets -underBinder); intro x1; first | (have f1 : ∀ _, _ := x1; clear f1) | clear_value x1)
    | with_reducible apply hf1
    | with_reducible apply State.wr_good
    | with_reducible apply ite_good
    | with_reducible apply forEach_good
    | with_reducible apply foldl_fst_good
    | with_reducible apply foldl_snd_good
    | with_reducible apply foldl_good
    | split
    | fail_if_no_progress (with_reducible apply good_mk; with_reducible apply good_of)
    | fail_if_no_progress (with_reducible apply good_mk; dsimp only; with_reducible apply good_of)
    | apply ite_good
    | dsimp only

theorem State.faultFirst_good {z : Lasting} {s : State} (x : FaultEntry) (hs : s.Good z) : (State.faultFirst s x).Good z := by
  unfold State.faultFirst
  repeat' first
    | with_reducible assumption
    | refine fun _ => ?_
    | ((try lift_lets -underBinder); intro s1; refine have_good (z := z) (s := s1) ?_ (fun h1 => ?_) <;> [subst s1; try clear_value s1])
    | ((try lift_lets -underBinder); intro s1; refine have_fst (z := z) (p := s1) ?_ (fun h1 => ?_) <;> [subst s1; try clear_value s1])
    | ((try lift_lets -underBinder); intro s1; refine have_snd (z := z) (p := s1) ?_ (fun h1 => ?_) <;> [subst s1; try clear_value s1])
    | ((try lift_lets -underBinder); intro f1; refine have_fun1 (z := z) (f := f1) ?_ (fun hf1 => ?_) <;> [subst f1; try clear_value f1])
    | ((try lift_lets -underBinder); intro f1; refine have_fun2 (z := z) (f := f1) ?_ (fun hf1 => ?_) <;> [subst f1; try clear_value f1])
    | ((try lift_lets -underBinder); intro f1; refine have_fun3 (z := z) (f := f1) ?_ (fun hf1 => ?_) <;> [subst f1; try clear_value f1])
    | ((try lift_lets -underBinder); intro x1; first | (have f1 : ∀ _, _ := x1; clear f1) | clear_value x1)
    | with_reducible apply hf1
    | with_reducible apply State.wr_good
    | with_reducible apply State.wrB_good
    | with_reducible apply ite_good
    | with_reducible apply forEach_good
    | with_reducible apply foldl_fst_good
    | with_reducible apply foldl_snd_good
    | with_reducible apply foldl_good
    | split
    | fail_if_no_progress (with_reducible apply good_mk; with_reducible apply good_of)
    | fail_if_no_progress (with_reducible apply good_mk; dsimp only; with_reducible apply good_of)
    | apply ite_good
    | dsimp only

theorem State.sendMsix_good {z : Lasting} {s : State} (vec : Nat) (hs : s.Good z) : (State.sendMsix s vec).Good z := by
  unfold State.sendMsix
  repeat' first
    | with_reducible assumption
    | refine fun _ => ?_
    | ((try lift_lets -underBinder); intro s1; refine have_good (z := z) (s := s1) ?_ (fun h1 => ?_) <;> [subst s1; try clear_value s1])
    | ((try lift_lets -underBinder); intro s1; refine have_fst (z := z) (p := s1) ?_ (fun h1 => ?_) <;> [subst s1; try clear_value s1])
    | ((try lift_lets -underBinder); intro s1; refine have_snd (z := z) (p := s1) ?_ (fun h1 => ?_) <;> [subst s1; try clear_value s1])
    | ((try lift_lets -underBinder); intro f1; refine have_fun1 (z := z) (f := f1) ?_ (fun hf1 => ?_) <;> [subst f1; try clear_value f1])
    | ((try lift_lets -underBinder); intro f1; refine have_fun2 (z := z) (f := f1) ?_ (fun hf1 => ?_) <;> [subst f1; try clear_value f1])
    | ((try lift_lets -underBinder); intro f1; refine have_fun3 (z := z) (f := f1) ?_ (fun hf1 => ?_) <;> [subst f1; try clear_value f1])
    | ((try lift_lets -underBinder); intro x1; first | (have f1 : ∀ _, _ := x1; clear f1) | clear_value x1)
    | with_reducible apply hf1
    | with_reducible apply ite_good
    | with_reducible apply forEach_good
    | with_reducible apply foldl_fst_good
    | with_reducible apply foldl_snd_good
    | with_reducible apply foldl_good
    | split
    | fail_if_no_progress (with_reducible apply good_mk; with_reducible apply good_of)
    | fail_if_no_progress (with_reducible apply good_mk; dsimp only; with_reducible apply good_of)
    | apply ite_good
    | dsimp only

theorem State.faultReact_good {z : Lasting} {s : State} (n : Nat) (react : Nat) (detail : W32) (hs : s.Good z) : (State.faultReact s n react detail).Good z := by
  unfold State.faultReact
  repeat' first
    | with_reducible assumption
    | refine fun _ => ?_
    | ((try lift_lets -underBinder); intro s1; refine have_good (z := z) (s := s1) ?_ (fun h1 => ?_) <;> [subst s1; try clear_value s1])
    | ((try lift_lets -underBinder); intro s1; refine have_fst (z := z) (p := s1) ?_ (fun h1 => ?_) <;> [subst s1; try clear_value s1])
    | ((try lift_lets -underBinder); intro s1; refine have_snd (z := z) (p := s1) ?_ (fun h1 => ?_) <;> [subst s1; try clear_value s1])
    | ((try lift_lets -underBinder); intro f1; refine have_fun1 (z := z) (f := f1) ?_ (fun hf1 => ?_) <;> [subst f1; try clear_value f1])
    | ((try lift_lets -underBinder); intro f1; refine have_fun2 (z := z) (f := f1) ?_ (fun hf1 => ?_) <;> [subst f1; try clear_value f1])
    | ((try lift_lets -underBinder); intro f1; refine have_fun3 (z := z) (f := f1) ?_ (fun hf1 => ?_) <;> [subst f1; try clear_value f1])
    | ((try lift_lets -underBinder); intro x1; first | (have f1 : ∀ _, _ := x1; clear f1) | clear_value x1)
    | with_reducible apply hf1
    | with_reducible apply State.sendMsix_good
    | with_reducible apply State.fireClkfail_good
    | with_reducible apply State.fireHook_good
    | with_reducible apply State.wrB_good
    | with_reducible apply ite_good
    | with_reducible apply forEach_good
    | with_reducible apply foldl_fst_good
    | with_reducible apply foldl_snd_good
    | with_reducible apply foldl_good
    | split
    | fail_if_no_progress (with_reducible apply good_mk; with_reducible apply good_of)
    | fail_if_no_progress (with_reducible apply good_mk; dsimp only; with_reducible apply good_of)
    | apply ite_good
    | dsimp only

theorem State.record_good {z : Lasting} {s : State} (n : Nat) (detail : W32) (injected : Bool) (realSame : Bool) (hs : s.Good z) : (State.record s n detail injected realSame).Good z := by
  unfold State.record
  repeat' first
    | with_reducible assumption
    | refine fun _ => ?_
    | ((try lift_lets -underBinder); intro s1; refine have_good (z := z) (s := s1) ?_ (fun h1 => ?_) <;> [subst s1; try clear_value s1])
    | ((try lift_lets -underBinder); intro s1; refine have_fst (z := z) (p := s1) ?_ (fun h1 => ?_) <;> [subst s1; try clear_value s1])
    | ((try lift_lets -underBinder); intro s1; refine have_snd (z := z) (p := s1) ?_ (fun h1 => ?_) <;> [subst s1; try clear_value s1])
    | ((try lift_lets -underBinder); intro f1; refine have_fun1 (z := z) (f := f1) ?_ (fun hf1 => ?_) <;> [subst f1; try clear_value f1])
    | ((try lift_lets -underBinder); intro f1; refine have_fun2 (z := z) (f := f1) ?_ (fun hf1 => ?_) <;> [subst f1; try clear_value f1])
    | ((try lift_lets -underBinder); intro f1; refine have_fun3 (z := z) (f := f1) ?_ (fun hf1 => ?_) <;> [subst f1; try clear_value f1])
    | ((try lift_lets -underBinder); intro x1; first | (have f1 : ∀ _, _ := x1; clear f1) | clear_value x1)
    | with_reducible apply hf1
    | with_reducible apply State.wrB_good
    | with_reducible apply State.wr_good
    | with_reducible apply State.faultCycle_good
    | with_reducible apply State.inc_good
    | with_reducible apply State.faultReact_good
    | with_reducible apply State.firstDetail_good
    | with_reducible apply State.faultFirst_good
    | with_reducible apply State.logCycle_good
    | with_reducible apply State.faultLog_good
    | with_reducible apply ite_good
    | with_reducible apply forEach_good
    | with_reducible apply foldl_fst_good
    | with_reducible apply foldl_snd_good
    | with_reducible apply foldl_good
    | split
    | fail_if_no_progress (with_reducible apply good_mk; with_reducible apply good_of)
    | fail_if_no_progress (with_reducible apply good_mk; dsimp only; with_reducible apply good_of)
    | apply ite_good
    | dsimp only

theorem State.raise_good {z : Lasting} {s : State} (n : Nat) (detail : W32) (hs : s.Good z) : (State.raise s n detail).Good z := by
  unfold State.raise
  repeat' first
    | with_reducible assumption
    | refine fun _ => ?_
    | ((try lift_lets -underBinder); intro s1; refine have_good (z := z) (s := s1) ?_ (fun h1 => ?_) <;> [subst s1; try clear_value s1])
    | ((try lift_lets -underBinder); intro s1; refine have_fst (z := z) (p := s1) ?_ (fun h1 => ?_) <;> [subst s1; try clear_value s1])
    | ((try lift_lets -underBinder); intro s1; refine have_snd (z := z) (p := s1) ?_ (fun h1 => ?_) <;> [subst s1; try clear_value s1])
    | ((try lift_lets -underBinder); intro f1; refine have_fun1 (z := z) (f := f1) ?_ (fun hf1 => ?_) <;> [subst f1; try clear_value f1])
    | ((try lift_lets -underBinder); intro f1; refine have_fun2 (z := z) (f := f1) ?_ (fun hf1 => ?_) <;> [subst f1; try clear_value f1])
    | ((try lift_lets -underBinder); intro f1; refine have_fun3 (z := z) (f := f1) ?_ (fun hf1 => ?_) <;> [subst f1; try clear_value f1])
    | ((try lift_lets -underBinder); intro x1; first | (have f1 : ∀ _, _ := x1; clear f1) | clear_value x1)
    | with_reducible apply hf1
    | with_reducible apply State.record_good
    | with_reducible apply State.wrB_good
    | with_reducible apply ite_good
    | with_reducible apply forEach_good
    | with_reducible apply foldl_fst_good
    | with_reducible apply foldl_snd_good
    | with_reducible apply foldl_good
    | split
    | fail_if_no_progress (with_reducible apply good_mk; with_reducible apply good_of)
    | fail_if_no_progress (with_reducible apply good_mk; dsimp only; with_reducible apply good_of)
    | apply ite_good
    | dsimp only

theorem State.levelEnd_good {z : Lasting} {s : State} (n : Nat) (hs : s.Good z) : (State.levelEnd s n).Good z := by
  unfold State.levelEnd
  repeat' first
    | with_reducible assumption
    | refine fun _ => ?_
    | ((try lift_lets -underBinder); intro s1; refine have_good (z := z) (s := s1) ?_ (fun h1 => ?_) <;> [subst s1; try clear_value s1])
    | ((try lift_lets -underBinder); intro s1; refine have_fst (z := z) (p := s1) ?_ (fun h1 => ?_) <;> [subst s1; try clear_value s1])
    | ((try lift_lets -underBinder); intro s1; refine have_snd (z := z) (p := s1) ?_ (fun h1 => ?_) <;> [subst s1; try clear_value s1])
    | ((try lift_lets -underBinder); intro f1; refine have_fun1 (z := z) (f := f1) ?_ (fun hf1 => ?_) <;> [subst f1; try clear_value f1])
    | ((try lift_lets -underBinder); intro f1; refine have_fun2 (z := z) (f := f1) ?_ (fun hf1 => ?_) <;> [subst f1; try clear_value f1])
    | ((try lift_lets -underBinder); intro f1; refine have_fun3 (z := z) (f := f1) ?_ (fun hf1 => ?_) <;> [subst f1; try clear_value f1])
    | ((try lift_lets -underBinder); intro x1; first | (have f1 : ∀ _, _ := x1; clear f1) | clear_value x1)
    | with_reducible apply hf1
    | with_reducible apply State.wrB_good
    | with_reducible apply ite_good
    | with_reducible apply forEach_good
    | with_reducible apply foldl_fst_good
    | with_reducible apply foldl_snd_good
    | with_reducible apply foldl_good
    | split
    | fail_if_no_progress (with_reducible apply good_mk; with_reducible apply good_of)
    | fail_if_no_progress (with_reducible apply good_mk; dsimp only; with_reducible apply good_of)
    | apply ite_good
    | dsimp only

theorem State.inject_good {z : Lasting} {s : State} (n : Nat) (detail : W32) (hs : s.Good z) : (State.inject s n detail).Good z := by
  unfold State.inject
  repeat' first
    | with_reducible assumption
    | refine fun _ => ?_
    | ((try lift_lets -underBinder); intro s1; refine have_good (z := z) (s := s1) ?_ (fun h1 => ?_) <;> [subst s1; try clear_value s1])
    | ((try lift_lets -underBinder); intro s1; refine have_fst (z := z) (p := s1) ?_ (fun h1 => ?_) <;> [subst s1; try clear_value s1])
    | ((try lift_lets -underBinder); intro s1; refine have_snd (z := z) (p := s1) ?_ (fun h1 => ?_) <;> [subst s1; try clear_value s1])
    | ((try lift_lets -underBinder); intro f1; refine have_fun1 (z := z) (f := f1) ?_ (fun hf1 => ?_) <;> [subst f1; try clear_value f1])
    | ((try lift_lets -underBinder); intro f1; refine have_fun2 (z := z) (f := f1) ?_ (fun hf1 => ?_) <;> [subst f1; try clear_value f1])
    | ((try lift_lets -underBinder); intro f1; refine have_fun3 (z := z) (f := f1) ?_ (fun hf1 => ?_) <;> [subst f1; try clear_value f1])
    | ((try lift_lets -underBinder); intro x1; first | (have f1 : ∀ _, _ := x1; clear f1) | clear_value x1)
    | with_reducible apply hf1
    | with_reducible apply State.record_good
    | with_reducible apply ite_good
    | with_reducible apply forEach_good
    | with_reducible apply foldl_fst_good
    | with_reducible apply foldl_snd_good
    | with_reducible apply foldl_good
    | split
    | fail_if_no_progress (with_reducible apply good_mk; with_reducible apply good_of)
    | fail_if_no_progress (with_reducible apply good_mk; dsimp only; with_reducible apply good_of)
    | apply ite_good
    | dsimp only

theorem State.ackFault_good {z : Lasting} {s : State} (n : Nat) (hs : s.Good z) : (State.ackFault s n).Good z := by
  unfold State.ackFault
  repeat' first
    | with_reducible assumption
    | refine fun _ => ?_
    | ((try lift_lets -underBinder); intro s1; refine have_good (z := z) (s := s1) ?_ (fun h1 => ?_) <;> [subst s1; try clear_value s1])
    | ((try lift_lets -underBinder); intro s1; refine have_fst (z := z) (p := s1) ?_ (fun h1 => ?_) <;> [subst s1; try clear_value s1])
    | ((try lift_lets -underBinder); intro s1; refine have_snd (z := z) (p := s1) ?_ (fun h1 => ?_) <;> [subst s1; try clear_value s1])
    | ((try lift_lets -underBinder); intro f1; refine have_fun1 (z := z) (f := f1) ?_ (fun hf1 => ?_) <;> [subst f1; try clear_value f1])
    | ((try lift_lets -underBinder); intro f1; refine have_fun2 (z := z) (f := f1) ?_ (fun hf1 => ?_) <;> [subst f1; try clear_value f1])
    | ((try lift_lets -underBinder); intro f1; refine have_fun3 (z := z) (f := f1) ?_ (fun hf1 => ?_) <;> [subst f1; try clear_value f1])
    | ((try lift_lets -underBinder); intro x1; first | (have f1 : ∀ _, _ := x1; clear f1) | clear_value x1)
    | with_reducible apply hf1
    | with_reducible apply State.wrB_good
    | with_reducible apply ite_good
    | with_reducible apply forEach_good
    | with_reducible apply foldl_fst_good
    | with_reducible apply foldl_snd_good
    | with_reducible apply foldl_good
    | split
    | fail_if_no_progress (with_reducible apply good_mk; with_reducible apply good_of)
    | fail_if_no_progress (with_reducible apply good_mk; dsimp only; with_reducible apply good_of)
    | apply ite_good
    | dsimp only

theorem State.throttleSource_good {z : Lasting} {s : State} (hs : s.Good z) : (State.throttleSource s).Good z := by
  unfold State.throttleSource
  repeat' first
    | with_reducible assumption
    | refine fun _ => ?_
    | ((try lift_lets -underBinder); intro s1; refine have_good (z := z) (s := s1) ?_ (fun h1 => ?_) <;> [subst s1; try clear_value s1])
    | ((try lift_lets -underBinder); intro s1; refine have_fst (z := z) (p := s1) ?_ (fun h1 => ?_) <;> [subst s1; try clear_value s1])
    | ((try lift_lets -underBinder); intro s1; refine have_snd (z := z) (p := s1) ?_ (fun h1 => ?_) <;> [subst s1; try clear_value s1])
    | ((try lift_lets -underBinder); intro f1; refine have_fun1 (z := z) (f := f1) ?_ (fun hf1 => ?_) <;> [subst f1; try clear_value f1])
    | ((try lift_lets -underBinder); intro f1; refine have_fun2 (z := z) (f := f1) ?_ (fun hf1 => ?_) <;> [subst f1; try clear_value f1])
    | ((try lift_lets -underBinder); intro f1; refine have_fun3 (z := z) (f := f1) ?_ (fun hf1 => ?_) <;> [subst f1; try clear_value f1])
    | ((try lift_lets -underBinder); intro x1; first | (have f1 : ∀ _, _ := x1; clear f1) | clear_value x1)
    | with_reducible apply hf1
    | with_reducible apply State.levelEnd_good
    | with_reducible apply State.raise_good
    | with_reducible apply ite_good
    | with_reducible apply forEach_good
    | with_reducible apply foldl_fst_good
    | with_reducible apply foldl_snd_good
    | with_reducible apply foldl_good
    | split
    | fail_if_no_progress (with_reducible apply good_mk; with_reducible apply good_of)
    | fail_if_no_progress (with_reducible apply good_mk; dsimp only; with_reducible apply good_of)
    | apply ite_good
    | dsimp only

theorem State.takeSolveMode_good {z : Lasting} {s : State} (hs : s.Good z) : (State.takeSolveMode s).Good z := by
  unfold State.takeSolveMode
  repeat' first
    | with_reducible assumption
    | refine fun _ => ?_
    | ((try lift_lets -underBinder); intro s1; refine have_good (z := z) (s := s1) ?_ (fun h1 => ?_) <;> [subst s1; try clear_value s1])
    | ((try lift_lets -underBinder); intro s1; refine have_fst (z := z) (p := s1) ?_ (fun h1 => ?_) <;> [subst s1; try clear_value s1])
    | ((try lift_lets -underBinder); intro s1; refine have_snd (z := z) (p := s1) ?_ (fun h1 => ?_) <;> [subst s1; try clear_value s1])
    | ((try lift_lets -underBinder); intro f1; refine have_fun1 (z := z) (f := f1) ?_ (fun hf1 => ?_) <;> [subst f1; try clear_value f1])
    | ((try lift_lets -underBinder); intro f1; refine have_fun2 (z := z) (f := f1) ?_ (fun hf1 => ?_) <;> [subst f1; try clear_value f1])
    | ((try lift_lets -underBinder); intro f1; refine have_fun3 (z := z) (f := f1) ?_ (fun hf1 => ?_) <;> [subst f1; try clear_value f1])
    | ((try lift_lets -underBinder); intro x1; first | (have f1 : ∀ _, _ := x1; clear f1) | clear_value x1)
    | with_reducible apply hf1
    | with_reducible apply State.throttleSource_good
    | with_reducible apply State.wr_good
    | with_reducible apply ite_good
    | with_reducible apply forEach_good
    | with_reducible apply foldl_fst_good
    | with_reducible apply foldl_snd_good
    | with_reducible apply foldl_good
    | split
    | fail_if_no_progress (with_reducible apply good_mk; with_reducible apply good_of)
    | fail_if_no_progress (with_reducible apply good_mk; dsimp only; with_reducible apply good_of)
    | apply ite_good
    | dsimp only

theorem State.solveEnds_good {z : Lasting} {s : State} (hs : s.Good z) : (State.solveEnds s).Good z := by
  unfold State.solveEnds
  repeat' first
    | with_reducible assumption
    | refine fun _ => ?_
    | ((try lift_lets -underBinder); intro s1; refine have_good (z := z) (s := s1) ?_ (fun h1 => ?_) <;> [subst s1; try clear_value s1])
    | ((try lift_lets -underBinder); intro s1; refine have_fst (z := z) (p := s1) ?_ (fun h1 => ?_) <;> [subst s1; try clear_value s1])
    | ((try lift_lets -underBinder); intro s1; refine have_snd (z := z) (p := s1) ?_ (fun h1 => ?_) <;> [subst s1; try clear_value s1])
    | ((try lift_lets -underBinder); intro f1; refine have_fun1 (z := z) (f := f1) ?_ (fun hf1 => ?_) <;> [subst f1; try clear_value f1])
    | ((try lift_lets -underBinder); intro f1; refine have_fun2 (z := z) (f := f1) ?_ (fun hf1 => ?_) <;> [subst f1; try clear_value f1])
    | ((try lift_lets -underBinder); intro f1; refine have_fun3 (z := z) (f := f1) ?_ (fun hf1 => ?_) <;> [subst f1; try clear_value f1])
    | ((try lift_lets -underBinder); intro x1; first | (have f1 : ∀ _, _ := x1; clear f1) | clear_value x1)
    | with_reducible apply hf1
    | with_reducible apply State.wrB_good
    | with_reducible apply State.takeSolveMode_good
    | with_reducible apply ite_good
    | with_reducible apply forEach_good
    | with_reducible apply foldl_fst_good
    | with_reducible apply foldl_snd_good
    | with_reducible apply foldl_good
    | split
    | fail_if_no_progress (with_reducible apply good_mk; with_reducible apply good_of)
    | fail_if_no_progress (with_reducible apply good_mk; dsimp only; with_reducible apply good_of)
    | apply ite_good
    | dsimp only

end Sys2Proof.Machine
end

