-- ==== Sys2Proof/Laws/GoodCkpt.lean ====
section
/-! SUPPORT. Every operation of Machine/Ckpt.lean keeps a sound state sound and, but for those named _ok, the fuses and the
flash as they are. -/

namespace Sys2Proof.Machine

theorem State.sectWritten_good {z : Lasting} {s : State} (sect : CkptSection) (hs : s.Good z) : (State.sectWritten s sect).Good z := by
  unfold State.sectWritten
  repeat' first
    | with_reducible assumption
    | refine fun _ => ?_
    | ((try lift_lets -underBinder); intro s1; refine have_good (z := z) (s := s1) ?_ (fun h1 => ?_) <;> [subst s1; try clear_value s1])
    | ((try lift_lets -underBinder); intro s1; refine have_fst (z := z) (p := s1) ?_ (fun h1 => ?_) <;> [subst s1; try clear_value s1])
    | ((try lift_lets -underBinder); intro s1; refine have_snd (z := z) (p := s1) ?_ (fun h1 => ?_) <;> [subst s1; try clear_value s1])
    | ((try lift_lets -underBinder); intro f1; refine have_fun1 (z := z) (f := f1) ?_ (fun hf1 => ?_) <;> [subst f1; try clear_value f1])
    | ((try lift_lets -underBinder); intro f1; refine have_fun2 (z := z) (f := f1) ?_ (fun hf1 => ?_) <;> [subst f1; try clear_value f1])
    | ((try lift_lets -underBinder); intro f1; refine have_fun3 (z := z) (f := f1) ?_ (fun hf1 => ?_) <;> [subst f1; try clear_value f1])
    | ((try lift_lets -underBinder); intro x1; first | (have f1 : ∀ _, _ := x1; clear f1) | clear_value x1)
    | with_reducible apply hf1
    | with_reducible apply ite_good
    | with_reducible apply forEach_good
    | with_reducible apply foldl_fst_good
    | with_reducible apply foldl_snd_good
    | with_reducible apply foldl_good
    | split
    | fail_if_no_progress (with_reducible apply good_mk; with_reducible apply good_of)
    | fail_if_no_progress (with_reducible apply good_mk; dsimp only; with_reducible apply good_of)
    | apply ite_good
    | dsimp only

theorem State.ckptSend_good {z : Lasting} {s : State} (sect : CkptSection) (offset : Nat) (data : List W32) (hs : s.Good z) : (State.ckptSend s sect offset data).Good z := by
  unfold State.ckptSend
  repeat' first
    | with_reducible assumption
    | refine fun _ => ?_
    | ((try lift_lets -underBinder); intro s1; refine have_good (z := z) (s := s1) ?_ (fun h1 => ?_) <;> [subst s1; try clear_value s1])
    | ((try lift_lets -underBinder); intro s1; refine have_fst (z := z) (p := s1) ?_ (fun h1 => ?_) <;> [subst s1; try clear_value s1])
    | ((try lift_lets -underBinder); intro s1; refine have_snd (z := z) (p := s1) ?_ (fun h1 => ?_) <;> [subst s1; try clear_value s1])
    | ((try lift_lets -underBinder); intro f1; refine have_fun1 (z := z) (f := f1) ?_ (fun hf1 => ?_) <;> [subst f1; try clear_value f1])
    | ((try lift_lets -underBinder); intro f1; refine have_fun2 (z := z) (f := f1) ?_ (fun hf1 => ?_) <;> [subst f1; try clear_value f1])
    | ((try lift_lets -underBinder); intro f1; refine have_fun3 (z := z) (f := f1) ?_ (fun hf1 => ?_) <;> [subst f1; try clear_value f1])
    | ((try lift_lets -underBinder); intro x1; first | (have f1 : ∀ _, _ := x1; clear f1) | clear_value x1)
    | with_reducible apply hf1
    | with_reducible apply State.wr_good
    | with_reducible apply ite_good
    | with_reducible apply forEach_good
    | with_reducible apply foldl_fst_good
    | with_reducible apply foldl_snd_good
    | with_reducible apply foldl_good
    | split
    | fail_if_no_progress (with_reducible apply good_mk; with_reducible apply good_of)
    | fail_if_no_progress (with_reducible apply good_mk; dsimp only; with_reducible apply good_of)
    | apply ite_good
    | dsimp only

theorem State.sectSend_good {z : Lasting} {s : State} (sect : CkptSection) (hs : s.Good z) : (State.sectSend s sect).Good z := by
  unfold State.sectSend
  repeat' first
    | with_reducible assumption
    | refine fun _ => ?_
    | ((try lift_lets -underBinder); intro s1; refine have_good (z := z) (s := s1) ?_ (fun h1 => ?_) <;> [subst s1; try clear_value s1])
    | ((try lift_lets -underBinder); intro s1; refine have_fst (z := z) (p := s1) ?_ (fun h1 => ?_) <;> [subst s1; try clear_value s1])
    | ((try lift_lets -underBinder); intro s1; refine have_snd (z := z) (p := s1) ?_ (fun h1 => ?_) <;> [subst s1; try clear_value s1])
    | ((try lift_lets -underBinder); intro f1; refine have_fun1 (z := z) (f := f1) ?_ (fun hf1 => ?_) <;> [subst f1; try clear_value f1])
    | ((try lift_lets -underBinder); intro f1; refine have_fun2 (z := z) (f := f1) ?_ (fun hf1 => ?_) <;> [subst f1; try clear_value f1])
    | ((try lift_lets -underBinder); intro f1; refine have_fun3 (z := z) (f := f1) ?_ (fun hf1 => ?_) <;> [subst f1; try clear_value f1])
    | ((try lift_lets -underBinder); intro x1; first | (have f1 : ∀ _, _ := x1; clear f1) | clear_value x1)
    | with_reducible apply hf1
    | with_reducible apply State.ckptSend_good
    | with_reducible apply ite_good
    | with_reducible apply forEach_good
    | with_reducible apply foldl_fst_good
    | with_reducible apply foldl_snd_good
    | with_reducible apply foldl_good
    | split
    | fail_if_no_progress (with_reducible apply good_mk; with_reducible apply good_of)
    | fail_if_no_progress (with_reducible apply good_mk; dsimp only; with_reducible apply good_of)
    | apply ite_good
    | dsimp only

theorem State.ckptHeader_good {z : Lasting} {s : State} (hs : s.Good z) : (State.ckptHeader s).Good z := by
  unfold State.ckptHeader
  repeat' first
    | with_reducible assumption
    | refine fun _ => ?_
    | ((try lift_lets -underBinder); intro s1; refine have_good (z := z) (s := s1) ?_ (fun h1 => ?_) <;> [subst s1; try clear_value s1])
    | ((try lift_lets -underBinder); intro s1; refine have_fst (z := z) (p := s1) ?_ (fun h1 => ?_) <;> [subst s1; try clear_value s1])
    | ((try lift_lets -underBinder); intro s1; refine have_snd (z := z) (p := s1) ?_ (fun h1 => ?_) <;> [subst s1; try clear_value s1])
    | ((try lift_lets -underBinder); intro f1; refine have_fun1 (z := z) (f := f1) ?_ (fun hf1 => ?_) <;> [subst f1; try clear_value f1])
    | ((try lift_lets -underBinder); intro f1; refine have_fun2 (z := z) (f := f1) ?_ (fun hf1 => ?_) <;> [subst f1; try clear_value f1])
    | ((try lift_lets -underBinder); intro f1; refine have_fun3 (z := z) (f := f1) ?_ (fun hf1 => ?_) <;> [subst f1; try clear_value f1])
    | ((try lift_lets -underBinder); intro x1; first | (have f1 : ∀ _, _ := x1; clear f1) | clear_value x1)
    | with_reducible apply hf1
    | with_reducible apply State.sectSend_good
    | with_reducible apply State.sectWritten_good
    | with_reducible apply ite_good
    | with_reducible apply forEach_good
    | with_reducible apply foldl_fst_good
    | with_reducible apply foldl_snd_good
    | with_reducible apply foldl_good
    | split
    | fail_if_no_progress (with_reducible apply good_mk; with_reducible apply good_of)
    | fail_if_no_progress (with_reducible apply good_mk; dsimp only; with_reducible apply good_of)
    | apply ite_good
    | dsimp only

theorem State.ckptTouch_good {z : Lasting} {s : State} (sect : CkptSection) (hs : s.Good z) : (State.ckptTouch s sect).Good z := by
  unfold State.ckptTouch
  repeat' first
    | with_reducible assumption
    | refine fun _ => ?_
    | ((try lift_lets -underBinder); intro s1; refine have_good (z := z) (s := s1) ?_ (fun h1 => ?_) <;> [subst s1; try clear_value s1])
    | ((try lift_lets -underBinder); intro s1; refine have_fst (z := z) (p := s1) ?_ (fun h1 => ?_) <;> [subst s1; try clear_value s1])
    | ((try lift_lets -underBinder); intro s1; refine have_snd (z := z) (p := s1) ?_ (fun h1 => ?_) <;> [subst s1; try clear_value s1])
    | ((try lift_lets -underBinder); intro f1; refine have_fun1 (z := z) (f := f1) ?_ (fun hf1 => ?_) <;> [subst f1; try clear_value f1])
    | ((try lift_lets -underBinder); intro f1; refine have_fun2 (z := z) (f := f1) ?_ (fun hf1 => ?_) <;> [subst f1; try clear_value f1])
    | ((try lift_lets -underBinder); intro f1; refine have_fun3 (z := z) (f := f1) ?_ (fun hf1 => ?_) <;> [subst f1; try clear_value f1])
    | ((try lift_lets -underBinder); intro x1; first | (have f1 : ∀ _, _ := x1; clear f1) | clear_value x1)
    | with_reducible apply hf1
    | with_reducible apply State.ckptHeader_good
    | with_reducible apply State.sectSend_good
    | with_reducible apply State.sectWritten_good
    | with_reducible apply ite_good
    | with_reducible apply forEach_good
    | with_reducible apply foldl_fst_good
    | with_reducible apply foldl_snd_good
    | with_reducible apply foldl_good
    | split
    | fail_if_no_progress (with_reducible apply good_mk; with_reducible apply good_of)
    | fail_if_no_progress (with_reducible apply good_mk; dsimp only; with_reducible apply good_of)
    | apply ite_good
    | dsimp only

end Sys2Proof.Machine
end

