-- ==== Sys2Proof/Laws/GoodEpochs.lean ====
section
/-! SUPPORT. Every operation of Machine/Epochs.lean keeps a sound state sound and, but for those named _ok, the fuses and the
flash as they are. -/

namespace Sys2Proof.Machine

theorem State.sendFrame_good {z : Lasting} {s : State} (f : TFrame) (hs : s.Good z) : (State.sendFrame s f).Good z := by
  unfold State.sendFrame
  repeat' first
    | with_reducible assumption
    | refine fun _ => ?_
    | ((try lift_lets -underBinder); intro s1; refine have_good (z := z) (s := s1) ?_ (fun h1 => ?_) <;> [subst s1; try clear_value s1])
    | ((try lift_lets -underBinder); intro s1; refine have_fst (z := z) (p := s1) ?_ (fun h1 => ?_) <;> [subst s1; try clear_value s1])
    | ((try lift_lets -underBinder); intro s1; refine have_snd (z := z) (p := s1) ?_ (fun h1 => ?_) <;> [subst s1; try clear_value s1])
    | ((try lift_lets -underBinder); intro f1; refine have_fun1 (z := z) (f := f1) ?_ (fun hf1 => ?_) <;> [subst f1; try clear_value f1])
    | ((try lift_lets -underBinder); intro f1; refine have_fun2 (z := z) (f := f1) ?_ (fun hf1 => ?_) <;> [subst f1; try clear_value f1])
    | ((try lift_lets -underBinder); intro f1; refine have_fun3 (z := z) (f := f1) ?_ (fun hf1 => ?_) <;> [subst f1; try clear_value f1])
    | ((try lift_lets -underBinder); intro x1; first | (have f1 : ∀ _, _ := x1; clear f1) | clear_value x1)
    | with_reducible apply hf1
    | with_reducible apply ite_good
    | with_reducible apply forEach_good
    | with_reducible apply foldl_fst_good
    | with_reducible apply foldl_snd_good
    | with_reducible apply foldl_good
    | split
    | fail_if_no_progress (with_reducible apply good_mk; with_reducible apply good_of)
    | fail_if_no_progress (with_reducible apply good_mk; dsimp only; with_reducible apply good_of)
    | apply ite_good
    | dsimp only

theorem State.countFrame_good {z : Lasting} {s : State} (hs : s.Good z) : (State.countFrame s).Good z := by
  unfold State.countFrame
  repeat' first
    | with_reducible assumption
    | refine fun _ => ?_
    | ((try lift_lets -underBinder); intro s1; refine have_good (z := z) (s := s1) ?_ (fun h1 => ?_) <;> [subst s1; try clear_value s1])
    | ((try lift_lets -underBinder); intro s1; refine have_fst (z := z) (p := s1) ?_ (fun h1 => ?_) <;> [subst s1; try clear_value s1])
    | ((try lift_lets -underBinder); intro s1; refine have_snd (z := z) (p := s1) ?_ (fun h1 => ?_) <;> [subst s1; try clear_value s1])
    | ((try lift_lets -underBinder); intro f1; refine have_fun1 (z := z) (f := f1) ?_ (fun hf1 => ?_) <;> [subst f1; try clear_value f1])
    | ((try lift_lets -underBinder); intro f1; refine have_fun2 (z := z) (f := f1) ?_ (fun hf1 => ?_) <;> [subst f1; try clear_value f1])
    | ((try lift_lets -underBinder); intro f1; refine have_fun3 (z := z) (f := f1) ?_ (fun hf1 => ?_) <;> [subst f1; try clear_value f1])
    | ((try lift_lets -underBinder); intro x1; first | (have f1 : ∀ _, _ := x1; clear f1) | clear_value x1)
    | with_reducible apply hf1
    | with_reducible apply ite_good
    | with_reducible apply forEach_good
    | with_reducible apply foldl_fst_good
    | with_reducible apply foldl_snd_good
    | with_reducible apply foldl_good
    | split
    | fail_if_no_progress (with_reducible apply good_mk; with_reducible apply good_of)
    | fail_if_no_progress (with_reducible apply good_mk; dsimp only; with_reducible apply good_of)
    | apply ite_good
    | dsimp only

theorem State.sendCounted_good {z : Lasting} {s : State} (typ : Nat) (cls : Nat) (dst : BitVec 16) (flags : Nat) (e : W32) (ref : W32) (payload : List Byte) (hs : s.Good z) : (State.sendCounted s typ cls dst flags e ref payload).Good z := by
  unfold State.sendCounted
  repeat' first
    | with_reducible assumption
    | refine fun _ => ?_
    | ((try lift_lets -underBinder); intro s1; refine have_good (z := z) (s := s1) ?_ (fun h1 => ?_) <;> [subst s1; try clear_value s1])
    | ((try lift_lets -underBinder); intro s1; refine have_fst (z := z) (p := s1) ?_ (fun h1 => ?_) <;> [subst s1; try clear_value s1])
    | ((try lift_lets -underBinder); intro s1; refine have_snd (z := z) (p := s1) ?_ (fun h1 => ?_) <;> [subst s1; try clear_value s1])
    | ((try lift_lets -underBinder); intro f1; refine have_fun1 (z := z) (f := f1) ?_ (fun hf1 => ?_) <;> [subst f1; try clear_value f1])
    | ((try lift_lets -underBinder); intro f1; refine have_fun2 (z := z) (f := f1) ?_ (fun hf1 => ?_) <;> [subst f1; try clear_value f1])
    | ((try lift_lets -underBinder); intro f1; refine have_fun3 (z := z) (f := f1) ?_ (fun hf1 => ?_) <;> [subst f1; try clear_value f1])
    | ((try lift_lets -underBinder); intro x1; first | (have f1 : ∀ _, _ := x1; clear f1) | clear_value x1)
    | with_reducible apply hf1
    | with_reducible apply State.countFrame_good
    | with_reducible apply State.sendFrame_good
    | with_reducible apply ite_good
    | with_reducible apply forEach_good
    | with_reducible apply foldl_fst_good
    | with_reducible apply foldl_snd_good
    | with_reducible apply foldl_good
    | split
    | fail_if_no_progress (with_reducible apply good_mk; with_reducible apply good_of)
    | fail_if_no_progress (with_reducible apply good_mk; dsimp only; with_reducible apply good_of)
    | apply ite_good
    | dsimp only

theorem State.sendGroup_good {z : Lasting} {s : State} (typ : Nat) (n : NetEpoch) (flags : Nat) (e : W32) (payload : List Byte) (hs : s.Good z) : (State.sendGroup s typ n flags e payload).Good z := by
  unfold State.sendGroup
  repeat' first
    | with_reducible assumption
    | refine fun _ => ?_
    | ((try lift_lets -underBinder); intro s1; refine have_good (z := z) (s := s1) ?_ (fun h1 => ?_) <;> [subst s1; try clear_value s1])
    | ((try lift_lets -underBinder); intro s1; refine have_fst (z := z) (p := s1) ?_ (fun h1 => ?_) <;> [subst s1; try clear_value s1])
    | ((try lift_lets -underBinder); intro s1; refine have_snd (z := z) (p := s1) ?_ (fun h1 => ?_) <;> [subst s1; try clear_value s1])
    | ((try lift_lets -underBinder); intro f1; refine have_fun1 (z := z) (f := f1) ?_ (fun hf1 => ?_) <;> [subst f1; try clear_value f1])
    | ((try lift_lets -underBinder); intro f1; refine have_fun2 (z := z) (f := f1) ?_ (fun hf1 => ?_) <;> [subst f1; try clear_value f1])
    | ((try lift_lets -underBinder); intro f1; refine have_fun3 (z := z) (f := f1) ?_ (fun hf1 => ?_) <;> [subst f1; try clear_value f1])
    | ((try lift_lets -underBinder); intro x1; first | (have f1 : ∀ _, _ := x1; clear f1) | clear_value x1)
    | with_reducible apply hf1
    | with_reducible apply State.sendFrame_good
    | with_reducible apply State.countFrame_good
    | with_reducible apply ite_good
    | with_reducible apply forEach_good
    | with_reducible apply foldl_fst_good
    | with_reducible apply foldl_snd_good
    | with_reducible apply foldl_good
    | split
    | fail_if_no_progress (with_reducible apply good_mk; with_reducible apply good_of)
    | fail_if_no_progress (with_reducible apply good_mk; dsimp only; with_reducible apply good_of)
    | apply ite_good
    | dsimp only

theorem State.rxEnter_good {z : Lasting} {s : State} (q : Nat) (f : TFrame) (hs : s.Good z) : (State.rxEnter s q f).Good z := by
  unfold State.rxEnter
  repeat' first
    | with_reducible assumption
    | refine fun _ => ?_
    | ((try lift_lets -underBinder); intro s1; refine have_good (z := z) (s := s1) ?_ (fun h1 => ?_) <;> [subst s1; try clear_value s1])
    | ((try lift_lets -underBinder); intro s1; refine have_fst (z := z) (p := s1) ?_ (fun h1 => ?_) <;> [subst s1; try clear_value s1])
    | ((try lift_lets -underBinder); intro s1; refine have_snd (z := z) (p := s1) ?_ (fun h1 => ?_) <;> [subst s1; try clear_value s1])
    | ((try lift_lets -underBinder); intro f1; refine have_fun1 (z := z) (f := f1) ?_ (fun hf1 => ?_) <;> [subst f1; try clear_value f1])
    | ((try lift_lets -underBinder); intro f1; refine have_fun2 (z := z) (f := f1) ?_ (fun hf1 => ?_) <;> [subst f1; try clear_value f1])
    | ((try lift_lets -underBinder); intro f1; refine have_fun3 (z := z) (f := f1) ?_ (fun hf1 => ?_) <;> [subst f1; try clear_value f1])
    | ((try lift_lets -underBinder); intro x1; first | (have f1 : ∀ _, _ := x1; clear f1) | clear_value x1)
    | with_reducible apply hf1
    | with_reducible apply State.inc_good
    | with_reducible apply State.fireHook_good
    | with_reducible apply ite_good
    | with_reducible apply forEach_good
    | with_reducible apply foldl_fst_good
    | with_reducible apply foldl_snd_good
    | with_reducible apply foldl_good
    | split
    | fail_if_no_progress (with_reducible apply good_mk; with_reducible apply good_of)
    | fail_if_no_progress (with_reducible apply good_mk; dsimp only; with_reducible apply good_of)
    | apply ite_good
    | dsimp only

theorem State.modEpoch_good {z : Lasting} {s : State} (e : W32) (f : Epoch → Epoch) (hs : s.Good z) : (State.modEpoch s e f).Good z := by
  unfold State.modEpoch
  repeat' first
    | with_reducible assumption
    | refine fun _ => ?_
    | ((try lift_lets -underBinder); intro s1; refine have_good (z := z) (s := s1) ?_ (fun h1 => ?_) <;> [subst s1; try clear_value s1])
    | ((try lift_lets -underBinder); intro s1; refine have_fst (z := z) (p := s1) ?_ (fun h1 => ?_) <;> [subst s1; try clear_value s1])
    | ((try lift_lets -underBinder); intro s1; refine have_snd (z := z) (p := s1) ?_ (fun h1 => ?_) <;> [subst s1; try clear_value s1])
    | ((try lift_lets -underBinder); intro f1; refine have_fun1 (z := z) (f := f1) ?_ (fun hf1 => ?_) <;> [subst f1; try clear_value f1])
    | ((try lift_lets -underBinder); intro f1; refine have_fun2 (z := z) (f := f1) ?_ (fun hf1 => ?_) <;> [subst f1; try clear_value f1])
    | ((try lift_lets -underBinder); intro f1; refine have_fun3 (z := z) (f := f1) ?_ (fun hf1 => ?_) <;> [subst f1; try clear_value f1])
    | ((try lift_lets -underBinder); intro x1; first | (have f1 : ∀ _, _ := x1; clear f1) | clear_value x1)
    | with_reducible apply hf1
    | with_reducible apply ite_good
    | with_reducible apply forEach_good
    | with_reducible apply foldl_fst_good
    | with_reducible apply foldl_snd_good
    | with_reducible apply foldl_good
    | split
    | fail_if_no_progress (with_reducible apply good_mk; with_reducible apply good_of)
    | fail_if_no_progress (with_reducible apply good_mk; dsimp only; with_reducible apply good_of)
    | apply ite_good
    | dsimp only

theorem State.modNet_good {z : Lasting} {s : State} (e : W32) (f : NetEpoch → NetEpoch) (hs : s.Good z) : (State.modNet s e f).Good z := by
  unfold State.modNet
  repeat' first
    | with_reducible assumption
    | refine fun _ => ?_
    | ((try lift_lets -underBinder); intro s1; refine have_good (z := z) (s := s1) ?_ (fun h1 => ?_) <;> [subst s1; try clear_value s1])
    | ((try lift_lets -underBinder); intro s1; refine have_fst (z := z) (p := s1) ?_ (fun h1 => ?_) <;> [subst s1; try clear_value s1])
    | ((try lift_lets -underBinder); intro s1; refine have_snd (z := z) (p := s1) ?_ (fun h1 => ?_) <;> [subst s1; try clear_value s1])
    | ((try lift_lets -underBinder); intro f1; refine have_fun1 (z := z) (f := f1) ?_ (fun hf1 => ?_) <;> [subst f1; try clear_value f1])
    | ((try lift_lets -underBinder); intro f1; refine have_fun2 (z := z) (f := f1) ?_ (fun hf1 => ?_) <;> [subst f1; try clear_value f1])
    | ((try lift_lets -underBinder); intro f1; refine have_fun3 (z := z) (f := f1) ?_ (fun hf1 => ?_) <;> [subst f1; try clear_value f1])
    | ((try lift_lets -underBinder); intro x1; first | (have f1 : ∀ _, _ := x1; clear f1) | clear_value x1)
    | with_reducible apply hf1
    | with_reducible apply State.modEpoch_good
    | with_reducible apply ite_good
    | with_reducible apply forEach_good
    | with_reducible apply foldl_fst_good
    | with_reducible apply foldl_snd_good
    | with_reducible apply foldl_good
    | split
    | fail_if_no_progress (with_reducible apply good_mk; with_reducible apply good_of)
    | fail_if_no_progress (with_reducible apply good_mk; dsimp only; with_reducible apply good_of)
    | apply ite_good
    | dsimp only

theorem State.writeLedger_good {z : Lasting} {s : State} (f : LedgerCopy → LedgerCopy) (hs : s.Good z) : (State.writeLedger s f).Good z := by
  unfold State.writeLedger
  repeat' first
    | with_reducible assumption
    | refine fun _ => ?_
    | ((try lift_lets -underBinder); intro s1; refine have_good (z := z) (s := s1) ?_ (fun h1 => ?_) <;> [subst s1; try clear_value s1])
    | ((try lift_lets -underBinder); intro s1; refine have_fst (z := z) (p := s1) ?_ (fun h1 => ?_) <;> [subst s1; try clear_value s1])
    | ((try lift_lets -underBinder); intro s1; refine have_snd (z := z) (p := s1) ?_ (fun h1 => ?_) <;> [subst s1; try clear_value s1])
    | ((try lift_lets -underBinder); intro f1; refine have_fun1 (z := z) (f := f1) ?_ (fun hf1 => ?_) <;> [subst f1; try clear_value f1])
    | ((try lift_lets -underBinder); intro f1; refine have_fun2 (z := z) (f := f1) ?_ (fun hf1 => ?_) <;> [subst f1; try clear_value f1])
    | ((try lift_lets -underBinder); intro f1; refine have_fun3 (z := z) (f := f1) ?_ (fun hf1 => ?_) <;> [subst f1; try clear_value f1])
    | ((try lift_lets -underBinder); intro x1; first | (have f1 : ∀ _, _ := x1; clear f1) | clear_value x1)
    | with_reducible apply hf1
    | with_reducible apply ite_good
    | with_reducible apply forEach_good
    | with_reducible apply foldl_fst_good
    | with_reducible apply foldl_snd_good
    | with_reducible apply foldl_good
    | split
    | fail_if_no_progress (with_reducible apply good_mk; with_reducible apply good_of)
    | fail_if_no_progress (with_reducible apply good_mk; dsimp only; with_reducible apply good_of)
    | apply ite_good
    | dsimp only

theorem State.ckptLedger_good {z : Lasting} {s : State} (routes : List Route) (hs : s.Good z) : (State.ckptLedger s routes).Good z := by
  unfold State.ckptLedger
  repeat' first
    | with_reducible assumption
    | refine fun _ => ?_
    | ((try lift_lets -underBinder); intro s1; refine have_good (z := z) (s := s1) ?_ (fun h1 => ?_) <;> [subst s1; try clear_value s1])
    | ((try lift_lets -underBinder); intro s1; refine have_fst (z := z) (p := s1) ?_ (fun h1 => ?_) <;> [subst s1; try clear_value s1])
    | ((try lift_lets -underBinder); intro s1; refine have_snd (z := z) (p := s1) ?_ (fun h1 => ?_) <;> [subst s1; try clear_value s1])
    | ((try lift_lets -underBinder); intro f1; refine have_fun1 (z := z) (f := f1) ?_ (fun hf1 => ?_) <;> [subst f1; try clear_value f1])
    | ((try lift_lets -underBinder); intro f1; refine have_fun2 (z := z) (f := f1) ?_ (fun hf1 => ?_) <;> [subst f1; try clear_value f1])
    | ((try lift_lets -underBinder); intro f1; refine have_fun3 (z := z) (f := f1) ?_ (fun hf1 => ?_) <;> [subst f1; try clear_value f1])
    | ((try lift_lets -underBinder); intro x1; first | (have f1 : ∀ _, _ := x1; clear f1) | clear_value x1)
    | with_reducible apply hf1
    | with_reducible apply State.ckptTouch_good
    | with_reducible apply ite_good
    | with_reducible apply forEach_good
    | with_reducible apply foldl_fst_good
    | with_reducible apply foldl_snd_good
    | with_reducible apply foldl_good
    | split
    | fail_if_no_progress (with_reducible apply good_mk; with_reducible apply good_of)
    | fail_if_no_progress (with_reducible apply good_mk; dsimp only; with_reducible apply good_of)
    | apply ite_good
    | dsimp only

theorem State.ckptDefect_good {z : Lasting} {s : State} (hs : s.Good z) : (State.ckptDefect s).Good z := by
  unfold State.ckptDefect
  repeat' first
    | with_reducible assumption
    | refine fun _ => ?_
    | ((try lift_lets -underBinder); intro s1; refine have_good (z := z) (s := s1) ?_ (fun h1 => ?_) <;> [subst s1; try clear_value s1])
    | ((try lift_lets -underBinder); intro s1; refine have_fst (z := z) (p := s1) ?_ (fun h1 => ?_) <;> [subst s1; try clear_value s1])
    | ((try lift_lets -underBinder); intro s1; refine have_snd (z := z) (p := s1) ?_ (fun h1 => ?_) <;> [subst s1; try clear_value s1])
    | ((try lift_lets -underBinder); intro f1; refine have_fun1 (z := z) (f := f1) ?_ (fun hf1 => ?_) <;> [subst f1; try clear_value f1])
    | ((try lift_lets -underBinder); intro f1; refine have_fun2 (z := z) (f := f1) ?_ (fun hf1 => ?_) <;> [subst f1; try clear_value f1])
    | ((try lift_lets -underBinder); intro f1; refine have_fun3 (z := z) (f := f1) ?_ (fun hf1 => ?_) <;> [subst f1; try clear_value f1])
    | ((try lift_lets -underBinder); intro x1; first | (have f1 : ∀ _, _ := x1; clear f1) | clear_value x1)
    | with_reducible apply hf1
    | with_reducible apply State.ckptTouch_good
    | with_reducible apply ite_good
    | with_reducible apply forEach_good
    | with_reducible apply foldl_fst_good
    | with_reducible apply foldl_snd_good
    | with_reducible apply foldl_good
    | split
    | fail_if_no_progress (with_reducible apply good_mk; with_reducible apply good_of)
    | fail_if_no_progress (with_reducible apply good_mk; dsimp only; with_reducible apply good_of)
    | apply ite_good
    | dsimp only

theorem State.freeEntry_good {z : Lasting} {s : State} (i : Nat) (hs : s.Good z) : (State.freeEntry s i).Good z := by
  unfold State.freeEntry
  repeat' first
    | with_reducible assumption
    | refine fun _ => ?_
    | ((try lift_lets -underBinder); intro s1; refine have_good (z := z) (s := s1) ?_ (fun h1 => ?_) <;> [subst s1; try clear_value s1])
    | ((try lift_lets -underBinder); intro s1; refine have_fst (z := z) (p := s1) ?_ (fun h1 => ?_) <;> [subst s1; try clear_value s1])
    | ((try lift_lets -underBinder); intro s1; refine have_snd (z := z) (p := s1) ?_ (fun h1 => ?_) <;> [subst s1; try clear_value s1])
    | ((try lift_lets -underBinder); intro f1; refine have_fun1 (z := z) (f := f1) ?_ (fun hf1 => ?_) <;> [subst f1; try clear_value f1])
    | ((try lift_lets -underBinder); intro f1; refine have_fun2 (z := z) (f := f1) ?_ (fun hf1 => ?_) <;> [subst f1; try clear_value f1])
    | ((try lift_lets -underBinder); intro f1; refine have_fun3 (z := z) (f := f1) ?_ (fun hf1 => ?_) <;> [subst f1; try clear_value f1])
    | ((try lift_lets -underBinder); intro x1; first | (have f1 : ∀ _, _ := x1; clear f1) | clear_value x1)
    | with_reducible apply hf1
    | with_reducible apply ite_good
    | with_reducible apply forEach_good
    | with_reducible apply foldl_fst_good
    | with_reducible apply foldl_snd_good
    | with_reducible apply foldl_good
    | split
    | fail_if_no_progress (with_reducible apply good_mk; with_reducible apply good_of)
    | fail_if_no_progress (with_reducible apply good_mk; dsimp only; with_reducible apply good_of)
    | apply ite_good
    | dsimp only

theorem State.finalEntry_good {z : Lasting} {s : State} (i : Nat) (st : Status) (hs : s.Good z) : (State.finalEntry s i st).Good z := by
  unfold State.finalEntry
  repeat' first
    | with_reducible assumption
    | refine fun _ => ?_
    | ((try lift_lets -underBinder); intro s1; refine have_good (z := z) (s := s1) ?_ (fun h1 => ?_) <;> [subst s1; try clear_value s1])
    | ((try lift_lets -underBinder); intro s1; refine have_fst (z := z) (p := s1) ?_ (fun h1 => ?_) <;> [subst s1; try clear_value s1])
    | ((try lift_lets -underBinder); intro s1; refine have_snd (z := z) (p := s1) ?_ (fun h1 => ?_) <;> [subst s1; try clear_value s1])
    | ((try lift_lets -underBinder); intro f1; refine have_fun1 (z := z) (f := f1) ?_ (fun hf1 => ?_) <;> [subst f1; try clear_value f1])
    | ((try lift_lets -underBinder); intro f1; refine have_fun2 (z := z) (f := f1) ?_ (fun hf1 => ?_) <;> [subst f1; try clear_value f1])
    | ((try lift_lets -underBinder); intro f1; refine have_fun3 (z := z) (f := f1) ?_ (fun hf1 => ?_) <;> [subst f1; try clear_value f1])
    | ((try lift_lets -underBinder); intro x1; first | (have f1 : ∀ _, _ := x1; clear f1) | clear_value x1)
    | with_reducible apply hf1
    | with_reducible apply State.freeEntry_good
    | with_reducible apply State.sendFrame_good
    | with_reducible apply ite_good
    | with_reducible apply forEach_good
    | with_reducible apply foldl_fst_good
    | with_reducible apply foldl_snd_good
    | with_reducible apply foldl_good
    | split
    | fail_if_no_progress (with_reducible apply good_mk; with_reducible apply good_of)
    | fail_if_no_progress (with_reducible apply good_mk; dsimp only; with_reducible apply good_of)
    | apply ite_good
    | dsimp only

theorem State.fileAt_good {z : Lasting} {s : State} (i : Nat) (c : Cmd) (remote : Bool) (hs : s.Good z) : (State.fileAt s i c remote).Good z := by
  unfold State.fileAt
  repeat' first
    | with_reducible assumption
    | refine fun _ => ?_
    | ((try lift_lets -underBinder); intro s1; refine have_good (z := z) (s := s1) ?_ (fun h1 => ?_) <;> [subst s1; try clear_value s1])
    | ((try lift_lets -underBinder); intro s1; refine have_fst (z := z) (p := s1) ?_ (fun h1 => ?_) <;> [subst s1; try clear_value s1])
    | ((try lift_lets -underBinder); intro s1; refine have_snd (z := z) (p := s1) ?_ (fun h1 => ?_) <;> [subst s1; try clear_value s1])
    | ((try lift_lets -underBinder); intro f1; refine have_fun1 (z := z) (f := f1) ?_ (fun hf1 => ?_) <;> [subst f1; try clear_value f1])
    | ((try lift_lets -underBinder); intro f1; refine have_fun2 (z := z) (f := f1) ?_ (fun hf1 => ?_) <;> [subst f1; try clear_value f1])
    | ((try lift_lets -underBinder); intro f1; refine have_fun3 (z := z) (f := f1) ?_ (fun hf1 => ?_) <;> [subst f1; try clear_value f1])
    | ((try lift_lets -underBinder); intro x1; first | (have f1 : ∀ _, _ := x1; clear f1) | clear_value x1)
    | with_reducible apply hf1
    | with_reducible apply State.wr_good
    | with_reducible apply ite_good
    | with_reducible apply forEach_good
    | with_reducible apply foldl_fst_good
    | with_reducible apply foldl_snd_good
    | with_reducible apply foldl_good
    | split
    | fail_if_no_progress (with_reducible apply good_mk; with_reducible apply good_of)
    | fail_if_no_progress (with_reducible apply good_mk; dsimp only; with_reducible apply good_of)
    | apply ite_good
    | dsimp only

theorem State.file_good {z : Lasting} {s : State} (c : Cmd) (remote : Bool) (hs : s.Good z) : (State.file s c remote).1.Good z := by
  unfold State.file
  repeat' first
    | with_reducible assumption
    | refine fun _ => ?_
    | ((try lift_lets -underBinder); intro s1; refine have_good (z := z) (s := s1) ?_ (fun h1 => ?_) <;> [subst s1; try clear_value s1])
    | ((try lift_lets -underBinder); intro s1; refine have_fst (z := z) (p := s1) ?_ (fun h1 => ?_) <;> [subst s1; try clear_value s1])
    | ((try lift_lets -underBinder); intro s1; refine have_snd (z := z) (p := s1) ?_ (fun h1 => ?_) <;> [subst s1; try clear_value s1])
    | ((try lift_lets -underBinder); intro f1; refine have_fun1 (z := z) (f := f1) ?_ (fun hf1 => ?_) <;> [subst f1; try clear_value f1])
    | ((try lift_lets -underBinder); intro f1; refine have_fun2 (z := z) (f := f1) ?_ (fun hf1 => ?_) <;> [subst f1; try clear_value f1])
    | ((try lift_lets -underBinder); intro f1; refine have_fun3 (z := z) (f := f1) ?_ (fun hf1 => ?_) <;> [subst f1; try clear_value f1])
    | ((try lift_lets -underBinder); intro x1; first | (have f1 : ∀ _, _ := x1; clear f1) | clear_value x1)
    | with_reducible apply hf1
    | with_reducible apply State.fileAt_good
    | with_reducible apply ite_fst_good
    | with_reducible apply ite_good
    | with_reducible apply forEach_good
    | with_reducible apply foldl_fst_good
    | with_reducible apply foldl_snd_good
    | with_reducible apply foldl_good
    | split
    | fail_if_no_progress (with_reducible apply good_mk; with_reducible apply good_of)
    | fail_if_no_progress (with_reducible apply good_mk; dsimp only; with_reducible apply good_of)
    | apply ite_good
    | apply ite_fst_good
    | dsimp only

theorem State.openEpoch_good {z : Lasting} {s : State} (e : W32) (layFrame : Nat) (sealFrames : Nat) (net : Option NetEpoch) (hs : s.Good z) : (State.openEpoch s e layFrame sealFrames net).Good z := by
  unfold State.openEpoch
  repeat' first
    | with_reducible assumption
    | refine fun _ => ?_
    | ((try lift_lets -underBinder); intro s1; refine have_good (z := z) (s := s1) ?_ (fun h1 => ?_) <;> [subst s1; try clear_value s1])
    | ((try lift_lets -underBinder); intro s1; refine have_fst (z := z) (p := s1) ?_ (fun h1 => ?_) <;> [subst s1; try clear_value s1])
    | ((try lift_lets -underBinder); intro s1; refine have_snd (z := z) (p := s1) ?_ (fun h1 => ?_) <;> [subst s1; try clear_value s1])
    | ((try lift_lets -underBinder); intro f1; refine have_fun1 (z := z) (f := f1) ?_ (fun hf1 => ?_) <;> [subst f1; try clear_value f1])
    | ((try lift_lets -underBinder); intro f1; refine have_fun2 (z := z) (f := f1) ?_ (fun hf1 => ?_) <;> [subst f1; try clear_value f1])
    | ((try lift_lets -underBinder); intro f1; refine have_fun3 (z := z) (f := f1) ?_ (fun hf1 => ?_) <;> [subst f1; try clear_value f1])
    | ((try lift_lets -underBinder); intro x1; first | (have f1 : ∀ _, _ := x1; clear f1) | clear_value x1)
    | with_reducible apply hf1
    | with_reducible apply State.ckptHeader_good
    | with_reducible apply ite_good
    | with_reducible apply forEach_good
    | with_reducible apply foldl_fst_good
    | with_reducible apply foldl_snd_good
    | with_reducible apply foldl_good
    | split
    | fail_if_no_progress (with_reducible apply good_mk; with_reducible apply good_of)
    | fail_if_no_progress (with_reducible apply good_mk; dsimp only; with_reducible apply good_of)
    | apply ite_good
    | dsimp only

theorem State.openLocal_good {z : Lasting} {s : State} (e : W32) (f : W32) (hs : s.Good z) : (State.openLocal s e f).1.Good z := by
  unfold State.openLocal
  repeat' first
    | with_reducible assumption
    | refine fun _ => ?_
    | ((try lift_lets -underBinder); intro s1; refine have_good (z := z) (s := s1) ?_ (fun h1 => ?_) <;> [subst s1; try clear_value s1])
    | ((try lift_lets -underBinder); intro s1; refine have_fst (z := z) (p := s1) ?_ (fun h1 => ?_) <;> [subst s1; try clear_value s1])
    | ((try lift_lets -underBinder); intro s1; refine have_snd (z := z) (p := s1) ?_ (fun h1 => ?_) <;> [subst s1; try clear_value s1])
    | ((try lift_lets -underBinder); intro f1; refine have_fun1 (z := z) (f := f1) ?_ (fun hf1 => ?_) <;> [subst f1; try clear_value f1])
    | ((try lift_lets -underBinder); intro f1; refine have_fun2 (z := z) (f := f1) ?_ (fun hf1 => ?_) <;> [subst f1; try clear_value f1])
    | ((try lift_lets -underBinder); intro f1; refine have_fun3 (z := z) (f := f1) ?_ (fun hf1 => ?_) <;> [subst f1; try clear_value f1])
    | ((try lift_lets -underBinder); intro x1; first | (have f1 : ∀ _, _ := x1; clear f1) | clear_value x1)
    | with_reducible apply hf1
    | with_reducible apply State.openEpoch_good
    | with_reducible apply ite_fst_good
    | with_reducible apply ite_good
    | with_reducible apply forEach_good
    | with_reducible apply foldl_fst_good
    | with_reducible apply foldl_snd_good
    | with_reducible apply foldl_good
    | split
    | fail_if_no_progress (with_reducible apply good_mk; with_reducible apply good_of)
    | fail_if_no_progress (with_reducible apply good_mk; dsimp only; with_reducible apply good_of)
    | apply ite_good
    | apply ite_fst_good
    | dsimp only

theorem State.setSlot_good {z : Lasting} {s : State} (n : Nat) (st : Nat) (e : W32) (hs : s.Good z) : (State.setSlot s n st e).Good z := by
  unfold State.setSlot
  repeat' first
    | with_reducible assumption
    | refine fun _ => ?_
    | ((try lift_lets -underBinder); intro s1; refine have_good (z := z) (s := s1) ?_ (fun h1 => ?_) <;> [subst s1; try clear_value s1])
    | ((try lift_lets -underBinder); intro s1; refine have_fst (z := z) (p := s1) ?_ (fun h1 => ?_) <;> [subst s1; try clear_value s1])
    | ((try lift_lets -underBinder); intro s1; refine have_snd (z := z) (p := s1) ?_ (fun h1 => ?_) <;> [subst s1; try clear_value s1])
    | ((try lift_lets -underBinder); intro f1; refine have_fun1 (z := z) (f := f1) ?_ (fun hf1 => ?_) <;> [subst f1; try clear_value f1])
    | ((try lift_lets -underBinder); intro f1; refine have_fun2 (z := z) (f := f1) ?_ (fun hf1 => ?_) <;> [subst f1; try clear_value f1])
    | ((try lift_lets -underBinder); intro f1; refine have_fun3 (z := z) (f := f1) ?_ (fun hf1 => ?_) <;> [subst f1; try clear_value f1])
    | ((try lift_lets -underBinder); intro x1; first | (have f1 : ∀ _, _ := x1; clear f1) | clear_value x1)
    | with_reducible apply hf1
    | with_reducible apply State.wr_good
    | with_reducible apply State.st_good
    | with_reducible apply ite_good
    | with_reducible apply forEach_good
    | with_reducible apply foldl_fst_good
    | with_reducible apply foldl_snd_good
    | with_reducible apply foldl_good
    | split
    | fail_if_no_progress (with_reducible apply good_mk; with_reducible apply good_of)
    | fail_if_no_progress (with_reducible apply good_mk; dsimp only; with_reducible apply good_of)
    | apply ite_good
    | dsimp only

theorem State.abortOne_good {z : Lasting} {s : State} (e : W32) (own : Status) (cmds : Entry → Status) (hs : s.Good z) : (State.abortOne s e own cmds).Good z := by
  unfold State.abortOne
  repeat' first
    | with_reducible assumption
    | refine fun _ => ?_
    | ((try lift_lets -underBinder); intro s1; refine have_good (z := z) (s := s1) ?_ (fun h1 => ?_) <;> [subst s1; try clear_value s1])
    | ((try lift_lets -underBinder); intro s1; refine have_fst (z := z) (p := s1) ?_ (fun h1 => ?_) <;> [subst s1; try clear_value s1])
    | ((try lift_lets -underBinder); intro s1; refine have_snd (z := z) (p := s1) ?_ (fun h1 => ?_) <;> [subst s1; try clear_value s1])
    | ((try lift_lets -underBinder); intro f1; refine have_fun1 (z := z) (f := f1) ?_ (fun hf1 => ?_) <;> [subst f1; try clear_value f1])
    | ((try lift_lets -underBinder); intro f1; refine have_fun2 (z := z) (f := f1) ?_ (fun hf1 => ?_) <;> [subst f1; try clear_value f1])
    | ((try lift_lets -underBinder); intro f1; refine have_fun3 (z := z) (f := f1) ?_ (fun hf1 => ?_) <;> [subst f1; try clear_value f1])
    | ((try lift_lets -underBinder); intro x1; first | (have f1 : ∀ _, _ := x1; clear f1) | clear_value x1)
    | with_reducible apply hf1
    | with_reducible apply State.finalEntry_good
    | with_reducible apply State.setSlot_good
    | with_reducible apply State.modEpoch_good
    | with_reducible apply State.solveEnds_good
    | with_reducible apply State.fireHook_good
    | with_reducible apply ite_good
    | with_reducible apply forEach_good
    | with_reducible apply foldl_fst_good
    | with_reducible apply foldl_snd_good
    | with_reducible apply foldl_good
    | split
    | fail_if_no_progress (with_reducible apply good_mk; with_reducible apply good_of)
    | fail_if_no_progress (with_reducible apply good_mk; dsimp only; with_reducible apply good_of)
    | apply ite_good
    | dsimp only

theorem State.reportMissed_good {z : Lasting} {s : State} (x : Epoch) (n : NetEpoch) (own : Status) (hs : s.Good z) : (State.reportMissed s x n own).Good z := by
  unfold State.reportMissed
  repeat' first
    | with_reducible assumption
    | refine fun _ => ?_
    | ((try lift_lets -underBinder); intro s1; refine have_good (z := z) (s := s1) ?_ (fun h1 => ?_) <;> [subst s1; try clear_value s1])
    | ((try lift_lets -underBinder); intro s1; refine have_fst (z := z) (p := s1) ?_ (fun h1 => ?_) <;> [subst s1; try clear_value s1])
    | ((try lift_lets -underBinder); intro s1; refine have_snd (z := z) (p := s1) ?_ (fun h1 => ?_) <;> [subst s1; try clear_value s1])
    | ((try lift_lets -underBinder); intro f1; refine have_fun1 (z := z) (f := f1) ?_ (fun hf1 => ?_) <;> [subst f1; try clear_value f1])
    | ((try lift_lets -underBinder); intro f1; refine have_fun2 (z := z) (f := f1) ?_ (fun hf1 => ?_) <;> [subst f1; try clear_value f1])
    | ((try lift_lets -underBinder); intro f1; refine have_fun3 (z := z) (f := f1) ?_ (fun hf1 => ?_) <;> [subst f1; try clear_value f1])
    | ((try lift_lets -underBinder); intro x1; first | (have f1 : ∀ _, _ := x1; clear f1) | clear_value x1)
    | with_reducible apply hf1
    | with_reducible apply State.sendCounted_good
    | with_reducible apply State.inc_good
    | with_reducible apply State.wr_good
    | with_reducible apply State.raise_good
    | with_reducible apply State.modNet_good
    | with_reducible apply ite_good
    | with_reducible apply forEach_good
    | with_reducible apply foldl_fst_good
    | with_reducible apply foldl_snd_good
    | with_reducible apply foldl_good
    | split
    | fail_if_no_progress (with_reducible apply good_mk; with_reducible apply good_of)
    | fail_if_no_progress (with_reducible apply good_mk; dsimp only; with_reducible apply good_of)
    | apply ite_good
    | dsimp only

theorem State.failReady_good {z : Lasting} {s : State} (e : W32) (parent : BitVec 16) (st : Status) (hs : s.Good z) : (State.failReady s e parent st).Good z := by
  unfold State.failReady
  repeat' first
    | with_reducible assumption
    | refine fun _ => ?_
    | ((try lift_lets -underBinder); intro s1; refine have_good (z := z) (s := s1) ?_ (fun h1 => ?_) <;> [subst s1; try clear_value s1])
    | ((try lift_lets -underBinder); intro s1; refine have_fst (z := z) (p := s1) ?_ (fun h1 => ?_) <;> [subst s1; try clear_value s1])
    | ((try lift_lets -underBinder); intro s1; refine have_snd (z := z) (p := s1) ?_ (fun h1 => ?_) <;> [subst s1; try clear_value s1])
    | ((try lift_lets -underBinder); intro f1; refine have_fun1 (z := z) (f := f1) ?_ (fun hf1 => ?_) <;> [subst f1; try clear_value f1])
    | ((try lift_lets -underBinder); intro f1; refine have_fun2 (z := z) (f := f1) ?_ (fun hf1 => ?_) <;> [subst f1; try clear_value f1])
    | ((try lift_lets -underBinder); intro f1; refine have_fun3 (z := z) (f := f1) ?_ (fun hf1 => ?_) <;> [subst f1; try clear_value f1])
    | ((try lift_lets -underBinder); intro x1; first | (have f1 : ∀ _, _ := x1; clear f1) | clear_value x1)
    | with_reducible apply hf1
    | with_reducible apply State.sendCounted_good
    | with_reducible apply ite_good
    | with_reducible apply forEach_good
    | with_reducible apply foldl_fst_good
    | with_reducible apply foldl_snd_good
    | with_reducible apply foldl_good
    | split
    | fail_if_no_progress (with_reducible apply good_mk; with_reducible apply good_of)
    | fail_if_no_progress (with_reducible apply good_mk; dsimp only; with_reducible apply good_of)
    | apply ite_good
    | dsimp only

theorem State.sendReady_good {z : Lasting} {s : State} (e : W32) (n : NetEpoch) (st : Status) (hs : s.Good z) : (State.sendReady s e n st).Good z := by
  unfold State.sendReady
  repeat' first
    | with_reducible assumption
    | refine fun _ => ?_
    | ((try lift_lets -underBinder); intro s1; refine have_good (z := z) (s := s1) ?_ (fun h1 => ?_) <;> [subst s1; try clear_value s1])
    | ((try lift_lets -underBinder); intro s1; refine have_fst (z := z) (p := s1) ?_ (fun h1 => ?_) <;> [subst s1; try clear_value s1])
    | ((try lift_lets -underBinder); intro s1; refine have_snd (z := z) (p := s1) ?_ (fun h1 => ?_) <;> [subst s1; try clear_value s1])
    | ((try lift_lets -underBinder); intro f1; refine have_fun1 (z := z) (f := f1) ?_ (fun hf1 => ?_) <;> [subst f1; try clear_value f1])
    | ((try lift_lets -underBinder); intro f1; refine have_fun2 (z := z) (f := f1) ?_ (fun hf1 => ?_) <;> [subst f1; try clear_value f1])
    | ((try lift_lets -underBinder); intro f1; refine have_fun3 (z := z) (f := f1) ?_ (fun hf1 => ?_) <;> [subst f1; try clear_value f1])
    | ((try lift_lets -underBinder); intro x1; first | (have f1 : ∀ _, _ := x1; clear f1) | clear_value x1)
    | with_reducible apply hf1
    | with_reducible apply State.sendCounted_good
    | with_reducible apply ite_good
    | with_reducible apply forEach_good
    | with_reducible apply foldl_fst_good
    | with_reducible apply foldl_snd_good
    | with_reducible apply foldl_good
    | split
    | fail_if_no_progress (with_reducible apply good_mk; with_reducible apply good_of)
    | fail_if_no_progress (with_reducible apply good_mk; dsimp only; with_reducible apply good_of)
    | apply ite_good
    | dsimp only

theorem State.sendAbort_good {z : Lasting} {s : State} (e : W32) (n : NetEpoch) (origin : BitVec 16) (st : Status) (hs : s.Good z) : (State.sendAbort s e n origin st).Good z := by
  unfold State.sendAbort
  repeat' first
    | with_reducible assumption
    | refine fun _ => ?_
    | ((try lift_lets -underBinder); intro s1; refine have_good (z := z) (s := s1) ?_ (fun h1 => ?_) <;> [subst s1; try clear_value s1])
    | ((try lift_lets -underBinder); intro s1; refine have_fst (z := z) (p := s1) ?_ (fun h1 => ?_) <;> [subst s1; try clear_value s1])
    | ((try lift_lets -underBinder); intro s1; refine have_snd (z := z) (p := s1) ?_ (fun h1 => ?_) <;> [subst s1; try clear_value s1])
    | ((try lift_lets -underBinder); intro f1; refine have_fun1 (z := z) (f := f1) ?_ (fun hf1 => ?_) <;> [subst f1; try clear_value f1])
    | ((try lift_lets -underBinder); intro f1; refine have_fun2 (z := z) (f := f1) ?_ (fun hf1 => ?_) <;> [subst f1; try clear_value f1])
    | ((try lift_lets -underBinder); intro f1; refine have_fun3 (z := z) (f := f1) ?_ (fun hf1 => ?_) <;> [subst f1; try clear_value f1])
    | ((try lift_lets -underBinder); intro x1; first | (have f1 : ∀ _, _ := x1; clear f1) | clear_value x1)
    | with_reducible apply hf1
    | with_reducible apply State.sendGroup_good
    | with_reducible apply ite_good
    | with_reducible apply forEach_good
    | with_reducible apply foldl_fst_good
    | with_reducible apply foldl_snd_good
    | with_reducible apply foldl_good
    | split
    | fail_if_no_progress (with_reducible apply good_mk; with_reducible apply good_of)
    | fail_if_no_progress (with_reducible apply good_mk; dsimp only; with_reducible apply good_of)
    | apply ite_good
    | dsimp only

theorem State.netEnded_good {z : Lasting} {s : State} (x : Epoch) (own : Status) (quiet : Bool) (hs : s.Good z) : (State.netEnded s x own quiet).Good z := by
  unfold State.netEnded
  repeat' first
    | with_reducible assumption
    | refine fun _ => ?_
    | ((try lift_lets -underBinder); intro s1; refine have_good (z := z) (s := s1) ?_ (fun h1 => ?_) <;> [subst s1; try clear_value s1])
    | ((try lift_lets -underBinder); intro s1; refine have_fst (z := z) (p := s1) ?_ (fun h1 => ?_) <;> [subst s1; try clear_value s1])
    | ((try lift_lets -underBinder); intro s1; refine have_snd (z := z) (p := s1) ?_ (fun h1 => ?_) <;> [subst s1; try clear_value s1])
    | ((try lift_lets -underBinder); intro f1; refine have_fun1 (z := z) (f := f1) ?_ (fun hf1 => ?_) <;> [subst f1; try clear_value f1])
    | ((try lift_lets -underBinder); intro f1; refine have_fun2 (z := z) (f := f1) ?_ (fun hf1 => ?_) <;> [subst f1; try clear_value f1])
    | ((try lift_lets -underBinder); intro f1; refine have_fun3 (z := z) (f := f1) ?_ (fun hf1 => ?_) <;> [subst f1; try clear_value f1])
    | ((try lift_lets -underBinder); intro x1; first | (have f1 : ∀ _, _ := x1; clear f1) | clear_value x1)
    | with_reducible apply hf1
    | with_reducible apply State.reportMissed_good
    | with_reducible apply State.modNet_good
    | with_reducible apply State.sendAbort_good
    | with_reducible apply State.sendReady_good
    | with_reducible apply ite_good
    | with_reducible apply forEach_good
    | with_reducible apply foldl_fst_good
    | with_reducible apply foldl_snd_good
    | with_reducible apply foldl_good
    | split
    | fail_if_no_progress (with_reducible apply good_mk; with_reducible apply good_of)
    | fail_if_no_progress (with_reducible apply good_mk; dsimp only; with_reducible apply good_of)
    | apply ite_good
    | dsimp only

theorem State.cascade_good {z : Lasting} {s : State} (e : W32) (hs : s.Good z) : (State.cascade s e).Good z := by
  unfold State.cascade
  repeat' first
    | with_reducible assumption
    | refine fun _ => ?_
    | ((try lift_lets -underBinder); intro s1; refine have_good (z := z) (s := s1) ?_ (fun h1 => ?_) <;> [subst s1; try clear_value s1])
    | ((try lift_lets -underBinder); intro s1; refine have_fst (z := z) (p := s1) ?_ (fun h1 => ?_) <;> [subst s1; try clear_value s1])
    | ((try lift_lets -underBinder); intro s1; refine have_snd (z := z) (p := s1) ?_ (fun h1 => ?_) <;> [subst s1; try clear_value s1])
    | ((try lift_lets -underBinder); intro f1; refine have_fun1 (z := z) (f := f1) ?_ (fun hf1 => ?_) <;> [subst f1; try clear_value f1])
    | ((try lift_lets -underBinder); intro f1; refine have_fun2 (z := z) (f := f1) ?_ (fun hf1 => ?_) <;> [subst f1; try clear_value f1])
    | ((try lift_lets -underBinder); intro f1; refine have_fun3 (z := z) (f := f1) ?_ (fun hf1 => ?_) <;> [subst f1; try clear_value f1])
    | ((try lift_lets -underBinder); intro x1; first | (have f1 : ∀ _, _ := x1; clear f1) | clear_value x1)
    | with_reducible apply hf1
    | with_reducible apply State.netEnded_good
    | with_reducible apply State.abortOne_good
    | with_reducible apply ite_good
    | with_reducible apply forEach_good
    | with_reducible apply foldl_fst_good
    | with_reducible apply foldl_snd_good
    | with_reducible apply foldl_good
    | split
    | fail_if_no_progress (with_reducible apply good_mk; with_reducible apply good_of)
    | fail_if_no_progress (with_reducible apply good_mk; dsimp only; with_reducible apply good_of)
    | apply ite_good
    | dsimp only

theorem State.reportLost_good {z : Lasting} {s : State} (e : W32) (hs : s.Good z) : (State.reportLost s e).Good z := by
  unfold State.reportLost
  repeat' first
    | with_reducible assumption
    | refine fun _ => ?_
    | ((try lift_lets -underBinder); intro s1; refine have_good (z := z) (s := s1) ?_ (fun h1 => ?_) <;> [subst s1; try clear_value s1])
    | ((try lift_lets -underBinder); intro s1; refine have_fst (z := z) (p := s1) ?_ (fun h1 => ?_) <;> [subst s1; try clear_value s1])
    | ((try lift_lets -underBinder); intro s1; refine have_snd (z := z) (p := s1) ?_ (fun h1 => ?_) <;> [subst s1; try clear_value s1])
    | ((try lift_lets -underBinder); intro f1; refine have_fun1 (z := z) (f := f1) ?_ (fun hf1 => ?_) <;> [subst f1; try clear_value f1])
    | ((try lift_lets -underBinder); intro f1; refine have_fun2 (z := z) (f := f1) ?_ (fun hf1 => ?_) <;> [subst f1; try clear_value f1])
    | ((try lift_lets -underBinder); intro f1; refine have_fun3 (z := z) (f := f1) ?_ (fun hf1 => ?_) <;> [subst f1; try clear_value f1])
    | ((try lift_lets -underBinder); intro x1; first | (have f1 : ∀ _, _ := x1; clear f1) | clear_value x1)
    | with_reducible apply hf1
    | with_reducible apply State.reportMissed_good
    | with_reducible apply ite_good
    | with_reducible apply forEach_good
    | with_reducible apply foldl_fst_good
    | with_reducible apply foldl_snd_good
    | with_reducible apply foldl_good
    | split
    | fail_if_no_progress (with_reducible apply good_mk; with_reducible apply good_of)
    | fail_if_no_progress (with_reducible apply good_mk; dsimp only; with_reducible apply good_of)
    | apply ite_good
    | dsimp only

theorem State.abortCore_good {z : Lasting} {s : State} (e : W32) (own : Status) (cmds : Entry → Status) (quiet : Bool) (hs : s.Good z) : (State.abortCore s e own cmds quiet).Good z := by
  unfold State.abortCore
  repeat' first
    | with_reducible assumption
    | refine fun _ => ?_
    | ((try lift_lets -underBinder); intro s1; refine have_good (z := z) (s := s1) ?_ (fun h1 => ?_) <;> [subst s1; try clear_value s1])
    | ((try lift_lets -underBinder); intro s1; refine have_fst (z := z) (p := s1) ?_ (fun h1 => ?_) <;> [subst s1; try clear_value s1])
    | ((try lift_lets -underBinder); intro s1; refine have_snd (z := z) (p := s1) ?_ (fun h1 => ?_) <;> [subst s1; try clear_value s1])
    | ((try lift_lets -underBinder); intro f1; refine have_fun1 (z := z) (f := f1) ?_ (fun hf1 => ?_) <;> [subst f1; try clear_value f1])
    | ((try lift_lets -underBinder); intro f1; refine have_fun2 (z := z) (f := f1) ?_ (fun hf1 => ?_) <;> [subst f1; try clear_value f1])
    | ((try lift_lets -underBinder); intro f1; refine have_fun3 (z := z) (f := f1) ?_ (fun hf1 => ?_) <;> [subst f1; try clear_value f1])
    | ((try lift_lets -underBinder); intro x1; first | (have f1 : ∀ _, _ := x1; clear f1) | clear_value x1)
    | with_reducible apply hf1
    | with_reducible apply State.cascade_good
    | with_reducible apply State.netEnded_good
    | with_reducible apply State.abortOne_good
    | with_reducible apply State.reportLost_good
    | with_reducible apply ite_good
    | with_reducible apply forEach_good
    | with_reducible apply foldl_fst_good
    | with_reducible apply foldl_snd_good
    | with_reducible apply foldl_good
    | split
    | fail_if_no_progress (with_reducible apply good_mk; with_reducible apply good_of)
    | fail_if_no_progress (with_reducible apply good_mk; dsimp only; with_reducible apply good_of)
    | apply ite_good
    | dsimp only

theorem State.openNetRoot_good {z : Lasting} {s : State} (e : W32) (layFrame : Nat) (sl : Nat) (tree : Nat) (win : Nat) (sNet : Nat) (corrective : Bool) (target : W32) (hs : s.Good z) : (State.openNetRoot s e layFrame sl tree win sNet corrective target).Good z := by
  unfold State.openNetRoot
  repeat' first
    | with_reducible assumption
    | refine fun _ => ?_
    | ((try lift_lets -underBinder); intro s1; refine have_good (z := z) (s := s1) ?_ (fun h1 => ?_) <;> [subst s1; try clear_value s1])
    | ((try lift_lets -underBinder); intro s1; refine have_fst (z := z) (p := s1) ?_ (fun h1 => ?_) <;> [subst s1; try clear_value s1])
    | ((try lift_lets -underBinder); intro s1; refine have_snd (z := z) (p := s1) ?_ (fun h1 => ?_) <;> [subst s1; try clear_value s1])
    | ((try lift_lets -underBinder); intro f1; refine have_fun1 (z := z) (f := f1) ?_ (fun hf1 => ?_) <;> [subst f1; try clear_value f1])
    | ((try lift_lets -underBinder); intro f1; refine have_fun2 (z := z) (f := f1) ?_ (fun hf1 => ?_) <;> [subst f1; try clear_value f1])
    | ((try lift_lets -underBinder); intro f1; refine have_fun3 (z := z) (f := f1) ?_ (fun hf1 => ?_) <;> [subst f1; try clear_value f1])
    | ((try lift_lets -underBinder); intro x1; first | (have f1 : ∀ _, _ := x1; clear f1) | clear_value x1)
    | with_reducible apply hf1
    | with_reducible apply State.openEpoch_good
    | with_reducible apply State.sendGroup_good
    | with_reducible apply ite_good
    | with_reducible apply forEach_good
    | with_reducible apply foldl_fst_good
    | with_reducible apply foldl_snd_good
    | with_reducible apply foldl_good
    | split
    | fail_if_no_progress (with_reducible apply good_mk; with_reducible apply good_of)
    | fail_if_no_progress (with_reducible apply good_mk; dsimp only; with_reducible apply good_of)
    | apply ite_good
    | dsimp only

theorem State.openCorrective_good {z : Lasting} {s : State} (hs : s.Good z) : (State.openCorrective s).Good z := by
  unfold State.openCorrective
  repeat' first
    | with_reducible assumption
    | refine fun _ => ?_
    | ((try lift_lets -underBinder); intro s1; refine have_good (z := z) (s := s1) ?_ (fun h1 => ?_) <;> [subst s1; try clear_value s1])
    | ((try lift_lets -underBinder); intro s1; refine have_fst (z := z) (p := s1) ?_ (fun h1 => ?_) <;> [subst s1; try clear_value s1])
    | ((try lift_lets -underBinder); intro s1; refine have_snd (z := z) (p := s1) ?_ (fun h1 => ?_) <;> [subst s1; try clear_value s1])
    | ((try lift_lets -underBinder); intro f1; refine have_fun1 (z := z) (f := f1) ?_ (fun hf1 => ?_) <;> [subst f1; try clear_value f1])
    | ((try lift_lets -underBinder); intro f1; refine have_fun2 (z := z) (f := f1) ?_ (fun hf1 => ?_) <;> [subst f1; try clear_value f1])
    | ((try lift_lets -underBinder); intro f1; refine have_fun3 (z := z) (f := f1) ?_ (fun hf1 => ?_) <;> [subst f1; try clear_value f1])
    | ((try lift_lets -underBinder); intro x1; first | (have f1 : ∀ _, _ := x1; clear f1) | clear_value x1)
    | with_reducible apply hf1
    | with_reducible apply State.openNetRoot_good
    | with_reducible apply ite_good
    | with_reducible apply forEach_good
    | with_reducible apply foldl_fst_good
    | with_reducible apply foldl_snd_good
    | with_reducible apply foldl_good
    | split
    | fail_if_no_progress (with_reducible apply good_mk; with_reducible apply good_of)
    | fail_if_no_progress (with_reducible apply good_mk; dsimp only; with_reducible apply good_of)
    | apply ite_good
    | dsimp only

theorem State.missedReport_good {z : Lasting} {s : State} (e : W32) (dev : BitVec 16) (hs : s.Good z) : (State.missedReport s e dev).Good z := by
  unfold State.missedReport
  repeat' first
    | with_reducible assumption
    | refine fun _ => ?_
    | ((try lift_lets -underBinder); intro s1; refine have_good (z := z) (s := s1) ?_ (fun h1 => ?_) <;> [subst s1; try clear_value s1])
    | ((try lift_lets -underBinder); intro s1; refine have_fst (z := z) (p := s1) ?_ (fun h1 => ?_) <;> [subst s1; try clear_value s1])
    | ((try lift_lets -underBinder); intro s1; refine have_snd (z := z) (p := s1) ?_ (fun h1 => ?_) <;> [subst s1; try clear_value s1])
    | ((try lift_lets -underBinder); intro f1; refine have_fun1 (z := z) (f := f1) ?_ (fun hf1 => ?_) <;> [subst f1; try clear_value f1])
    | ((try lift_lets -underBinder); intro f1; refine have_fun2 (z := z) (f := f1) ?_ (fun hf1 => ?_) <;> [subst f1; try clear_value f1])
    | ((try lift_lets -underBinder); intro f1; refine have_fun3 (z := z) (f := f1) ?_ (fun hf1 => ?_) <;> [subst f1; try clear_value f1])
    | ((try lift_lets -underBinder); intro x1; first | (have f1 : ∀ _, _ := x1; clear f1) | clear_value x1)
    | with_reducible apply hf1
    | with_reducible apply State.inc_good
    | with_reducible apply State.wr_good
    | with_reducible apply State.abortCore_good
    | with_reducible apply State.modNet_good
    | with_reducible apply State.sendAbort_good
    | with_reducible apply State.openCorrective_good
    | with_reducible apply State.wrB_good
    | with_reducible apply ite_good
    | with_reducible apply forEach_good
    | with_reducible apply foldl_fst_good
    | with_reducible apply foldl_snd_good
    | with_reducible apply foldl_good
    | split
    | fail_if_no_progress (with_reducible apply good_mk; with_reducible apply good_of)
    | fail_if_no_progress (with_reducible apply good_mk; dsimp only; with_reducible apply good_of)
    | apply ite_good
    | dsimp only

theorem State.abortEpoch_good {z : Lasting} {s : State} (e : W32) (own : Status) (cmds : Entry → Status) (quiet : Bool) (hs : s.Good z) : (State.abortEpoch s e own cmds quiet).Good z := by
  unfold State.abortEpoch
  repeat' first
    | with_reducible assumption
    | refine fun _ => ?_
    | ((try lift_lets -underBinder); intro s1; refine have_good (z := z) (s := s1) ?_ (fun h1 => ?_) <;> [subst s1; try clear_value s1])
    | ((try lift_lets -underBinder); intro s1; refine have_fst (z := z) (p := s1) ?_ (fun h1 => ?_) <;> [subst s1; try clear_value s1])
    | ((try lift_lets -underBinder); intro s1; refine have_snd (z := z) (p := s1) ?_ (fun h1 => ?_) <;> [subst s1; try clear_value s1])
    | ((try lift_lets -underBinder); intro f1; refine have_fun1 (z := z) (f := f1) ?_ (fun hf1 => ?_) <;> [subst f1; try clear_value f1])
    | ((try lift_lets -underBinder); intro f1; refine have_fun2 (z := z) (f := f1) ?_ (fun hf1 => ?_) <;> [subst f1; try clear_value f1])
    | ((try lift_lets -underBinder); intro f1; refine have_fun3 (z := z) (f := f1) ?_ (fun hf1 => ?_) <;> [subst f1; try clear_value f1])
    | ((try lift_lets -underBinder); intro x1; first | (have f1 : ∀ _, _ := x1; clear f1) | clear_value x1)
    | with_reducible apply hf1
    | with_reducible apply State.abortCore_good
    | with_reducible apply State.missedReport_good
    | with_reducible apply State.raise_good
    | with_reducible apply State.wrB_good
    | with_reducible apply State.openCorrective_good
    | with_reducible apply ite_good
    | with_reducible apply forEach_good
    | with_reducible apply foldl_fst_good
    | with_reducible apply foldl_snd_good
    | with_reducible apply foldl_good
    | split
    | fail_if_no_progress (with_reducible apply good_mk; with_reducible apply good_of)
    | fail_if_no_progress (with_reducible apply good_mk; dsimp only; with_reducible apply good_of)
    | apply ite_good
    | dsimp only

theorem State.abortPlain_good {z : Lasting} {s : State} (e : W32) (st : Status) (hs : s.Good z) : (State.abortPlain s e st).Good z := by
  unfold State.abortPlain
  repeat' first
    | with_reducible assumption
    | refine fun _ => ?_
    | ((try lift_lets -underBinder); intro s1; refine have_good (z := z) (s := s1) ?_ (fun h1 => ?_) <;> [subst s1; try clear_value s1])
    | ((try lift_lets -underBinder); intro s1; refine have_fst (z := z) (p := s1) ?_ (fun h1 => ?_) <;> [subst s1; try clear_value s1])
    | ((try lift_lets -underBinder); intro s1; refine have_snd (z := z) (p := s1) ?_ (fun h1 => ?_) <;> [subst s1; try clear_value s1])
    | ((try lift_lets -underBinder); intro f1; refine have_fun1 (z := z) (f := f1) ?_ (fun hf1 => ?_) <;> [subst f1; try clear_value f1])
    | ((try lift_lets -underBinder); intro f1; refine have_fun2 (z := z) (f := f1) ?_ (fun hf1 => ?_) <;> [subst f1; try clear_value f1])
    | ((try lift_lets -underBinder); intro f1; refine have_fun3 (z := z) (f := f1) ?_ (fun hf1 => ?_) <;> [subst f1; try clear_value f1])
    | ((try lift_lets -underBinder); intro x1; first | (have f1 : ∀ _, _ := x1; clear f1) | clear_value x1)
    | with_reducible apply hf1
    | with_reducible apply State.abortEpoch_good
    | with_reducible apply ite_good
    | with_reducible apply forEach_good
    | with_reducible apply foldl_fst_good
    | with_reducible apply foldl_snd_good
    | with_reducible apply foldl_good
    | split
    | fail_if_no_progress (with_reducible apply good_mk; with_reducible apply good_of)
    | fail_if_no_progress (with_reducible apply good_mk; dsimp only; with_reducible apply good_of)
    | apply ite_good
    | dsimp only

theorem State.advanceStable_good {z : Lasting} {s : State} (routes : List Route) (hs : s.Good z) : (State.advanceStable s routes).Good z := by
  unfold State.advanceStable
  repeat' first
    | with_reducible assumption
    | refine fun _ => ?_
    | ((try lift_lets -underBinder); intro s1; refine have_good (z := z) (s := s1) ?_ (fun h1 => ?_) <;> [subst s1; try clear_value s1])
    | ((try lift_lets -underBinder); intro s1; refine have_fst (z := z) (p := s1) ?_ (fun h1 => ?_) <;> [subst s1; try clear_value s1])
    | ((try lift_lets -underBinder); intro s1; refine have_snd (z := z) (p := s1) ?_ (fun h1 => ?_) <;> [subst s1; try clear_value s1])
    | ((try lift_lets -underBinder); intro f1; refine have_fun1 (z := z) (f := f1) ?_ (fun hf1 => ?_) <;> [subst f1; try clear_value f1])
    | ((try lift_lets -underBinder); intro f1; refine have_fun2 (z := z) (f := f1) ?_ (fun hf1 => ?_) <;> [subst f1; try clear_value f1])
    | ((try lift_lets -underBinder); intro f1; refine have_fun3 (z := z) (f := f1) ?_ (fun hf1 => ?_) <;> [subst f1; try clear_value f1])
    | ((try lift_lets -underBinder); intro x1; first | (have f1 : ∀ _, _ := x1; clear f1) | clear_value x1)
    | with_reducible apply hf1
    | with_reducible apply State.writeLedger_good
    | with_reducible apply State.ckptLedger_good
    | with_reducible apply State.fireHook_good
    | with_reducible apply ite_good
    | with_reducible apply forEach_good
    | with_reducible apply foldl_fst_good
    | with_reducible apply foldl_snd_good
    | with_reducible apply foldl_good
    | split
    | fail_if_no_progress (with_reducible apply good_mk; with_reducible apply good_of)
    | fail_if_no_progress (with_reducible apply good_mk; dsimp only; with_reducible apply good_of)
    | apply ite_good
    | dsimp only

theorem State.confirmStable_good {z : Lasting} {s : State} (e : W32) (hs : s.Good z) : (State.confirmStable s e).Good z := by
  unfold State.confirmStable
  repeat' first
    | with_reducible assumption
    | refine fun _ => ?_
    | ((try lift_lets -underBinder); intro s1; refine have_good (z := z) (s := s1) ?_ (fun h1 => ?_) <;> [subst s1; try clear_value s1])
    | ((try lift_lets -underBinder); intro s1; refine have_fst (z := z) (p := s1) ?_ (fun h1 => ?_) <;> [subst s1; try clear_value s1])
    | ((try lift_lets -underBinder); intro s1; refine have_snd (z := z) (p := s1) ?_ (fun h1 => ?_) <;> [subst s1; try clear_value s1])
    | ((try lift_lets -underBinder); intro f1; refine have_fun1 (z := z) (f := f1) ?_ (fun hf1 => ?_) <;> [subst f1; try clear_value f1])
    | ((try lift_lets -underBinder); intro f1; refine have_fun2 (z := z) (f := f1) ?_ (fun hf1 => ?_) <;> [subst f1; try clear_value f1])
    | ((try lift_lets -underBinder); intro f1; refine have_fun3 (z := z) (f := f1) ?_ (fun hf1 => ?_) <;> [subst f1; try clear_value f1])
    | ((try lift_lets -underBinder); intro x1; first | (have f1 : ∀ _, _ := x1; clear f1) | clear_value x1)
    | with_reducible apply hf1
    | with_reducible apply State.wrB_good
    | with_reducible apply ite_good
    | with_reducible apply forEach_good
    | with_reducible apply foldl_fst_good
    | with_reducible apply foldl_snd_good
    | with_reducible apply foldl_good
    | split
    | fail_if_no_progress (with_reducible apply good_mk; with_reducible apply good_of)
    | fail_if_no_progress (with_reducible apply good_mk; dsimp only; with_reducible apply good_of)
    | apply ite_good
    | dsimp only

theorem State.netLanded_good {z : Lasting} {s : State} (e : W32) (hs : s.Good z) : (State.netLanded s e).Good z := by
  unfold State.netLanded
  repeat' first
    | with_reducible assumption
    | refine fun _ => ?_
    | ((try lift_lets -underBinder); intro s1; refine have_good (z := z) (s := s1) ?_ (fun h1 => ?_) <;> [subst s1; try clear_value s1])
    | ((try lift_lets -underBinder); intro s1; refine have_fst (z := z) (p := s1) ?_ (fun h1 => ?_) <;> [subst s1; try clear_value s1])
    | ((try lift_lets -underBinder); intro s1; refine have_snd (z := z) (p := s1) ?_ (fun h1 => ?_) <;> [subst s1; try clear_value s1])
    | ((try lift_lets -underBinder); intro f1; refine have_fun1 (z := z) (f := f1) ?_ (fun hf1 => ?_) <;> [subst f1; try clear_value f1])
    | ((try lift_lets -underBinder); intro f1; refine have_fun2 (z := z) (f := f1) ?_ (fun hf1 => ?_) <;> [subst f1; try clear_value f1])
    | ((try lift_lets -underBinder); intro f1; refine have_fun3 (z := z) (f := f1) ?_ (fun hf1 => ?_) <;> [subst f1; try clear_value f1])
    | ((try lift_lets -underBinder); intro x1; first | (have f1 : ∀ _, _ := x1; clear f1) | clear_value x1)
    | with_reducible apply hf1
    | with_reducible apply State.modNet_good
    | with_reducible apply State.confirmStable_good
    | with_reducible apply State.sendGroup_good
    | with_reducible apply State.sendCounted_good
    | with_reducible apply ite_good
    | with_reducible apply forEach_good
    | with_reducible apply foldl_fst_good
    | with_reducible apply foldl_snd_good
    | with_reducible apply foldl_good
    | split
    | fail_if_no_progress (with_reducible apply good_mk; with_reducible apply good_of)
    | fail_if_no_progress (with_reducible apply good_mk; dsimp only; with_reducible apply good_of)
    | apply ite_good
    | dsimp only

theorem State.landEpoch_good {z : Lasting} {s : State} (e : W32) (codes : List (Nat × Nat)) (routes : List Route) (hs : s.Good z) : (State.landEpoch s e codes routes).Good z := by
  unfold State.landEpoch
  repeat' first
    | with_reducible assumption
    | refine fun _ => ?_
    | ((try lift_lets -underBinder); intro s1; refine have_good (z := z) (s := s1) ?_ (fun h1 => ?_) <;> [subst s1; try clear_value s1])
    | ((try lift_lets -underBinder); intro s1; refine have_fst (z := z) (p := s1) ?_ (fun h1 => ?_) <;> [subst s1; try clear_value s1])
    | ((try lift_lets -underBinder); intro s1; refine have_snd (z := z) (p := s1) ?_ (fun h1 => ?_) <;> [subst s1; try clear_value s1])
    | ((try lift_lets -underBinder); intro f1; refine have_fun1 (z := z) (f := f1) ?_ (fun hf1 => ?_) <;> [subst f1; try clear_value f1])
    | ((try lift_lets -underBinder); intro f1; refine have_fun2 (z := z) (f := f1) ?_ (fun hf1 => ?_) <;> [subst f1; try clear_value f1])
    | ((try lift_lets -underBinder); intro f1; refine have_fun3 (z := z) (f := f1) ?_ (fun hf1 => ?_) <;> [subst f1; try clear_value f1])
    | ((try lift_lets -underBinder); intro x1; first | (have f1 : ∀ _, _ := x1; clear f1) | clear_value x1)
    | with_reducible apply hf1
    | with_reducible apply State.writeLedger_good
    | with_reducible apply State.finalEntry_good
    | with_reducible apply State.modEpoch_good
    | with_reducible apply State.setSlot_good
    | with_reducible apply State.fireHook_good
    | with_reducible apply State.advanceStable_good
    | with_reducible apply State.netLanded_good
    | with_reducible apply State.ckptLedger_good
    | with_reducible apply ite_good
    | with_reducible apply forEach_good
    | with_reducible apply foldl_fst_good
    | with_reducible apply foldl_snd_good
    | with_reducible apply foldl_good
    | split
    | fail_if_no_progress (with_reducible apply good_mk; with_reducible apply good_of)
    | fail_if_no_progress (with_reducible apply good_mk; dsimp only; with_reducible apply good_of)
    | apply ite_good
    | dsimp only

end Sys2Proof.Machine
end

