-- ==== Sys2Proof/Laws/GoodWeaves.lean ====
section
/-! SUPPORT. Every operation of Machine/Weaves.lean keeps a sound state sound and, but for those named _ok, the fuses and the
flash as they are. -/

namespace Sys2Proof.Machine

theorem State.mapRecs_good {z : Lasting} {s : State} (base size n : Nat) (f : Nat → List Host.Cell → List Host.Cell) (hs : s.Good z) :
    (s.mapRecs base size n f).Good z := good_mk (good_mem hs (memSplice_wf (Nat.le_add_right _ _) (good_wf hs)))

theorem State.putWeave_good {z : Lasting} {s : State} (slot : Nat) (slotState : Nat) (w : Weave) (hs : s.Good z) :
    (State.putWeave s slot slotState w).Good z := good_mk (good_mem hs (memSplice_wf (Nat.le_add_right _ _) (good_wf hs)))

end Sys2Proof.Machine
end

