-- ==== Sys2Proof/Laws/GoodCells.lean ====
section
/-! SUPPORT. Every operation of Machine/Cells.lean keeps a sound state sound and, but for those named _ok, the fuses and the
flash as they are. -/

namespace Sys2Proof.Machine

theorem State.monEnter_good {z : Lasting} {s : State} (u : Nat) (x : Int) (hs : s.Good z) : (State.monEnter s u x).Good z := by
  unfold State.monEnter
  repeat' first
    | with_reducible assumption
    | ((try lift_lets -underBinder); intro x1; first | (have f1 : ∀ _, _ := x1; clear f1) | clear_value x1)
    | with_reducible apply State.inc_good
    | with_reducible apply ite_good
    | fail_if_no_progress (with_reducible apply good_mk; with_reducible apply good_of)

theorem State.monOffer_good {z : Lasting} {s : State} (src : Nat) (sel : Nat) (x : Int) (hs : s.Good z) : (State.monOffer s src sel x).Good z := by
  unfold State.monOffer
  repeat' first
    | with_reducible assumption
    | refine fun _ => ?_
    | ((try lift_lets -underBinder); intro s1; refine have_good (z := z) (s := s1) ?_ (fun h1 => ?_) <;> [subst s1; try clear_value s1])
    | with_reducible apply State.monEnter_good
    | with_reducible apply ite_good
    | with_reducible apply forEach_good

theorem State.setCw_good {z : Lasting} {s : State} (c : Nat) (off : Nat) (v : W32) (hs : s.Good z) : (State.setCw s c off v).Good z := by
  unfold State.setCw
  repeat' first
    | with_reducible assumption
    | with_reducible apply State.stW_good

theorem State.setCCtrl_good {z : Lasting} {s : State} (c : Nat) (l : Nat) (w : Nat) (v : Nat) (hs : s.Good z) : (State.setCCtrl s c l w v).Good z := by
  unfold State.setCCtrl
  repeat' first
    | with_reducible assumption
    | with_reducible apply State.stBits_good

theorem State.setCStat_good {z : Lasting} {s : State} (c : Nat) (l : Nat) (w : Nat) (v : Nat) (hs : s.Good z) : (State.setCStat s c l w v).Good z := by
  unfold State.setCStat
  repeat' first
    | with_reducible assumption
    | with_reducible apply State.stBits_good

theorem State.setCCal_good {z : Lasting} {s : State} (c : Nat) (l : Nat) (w : Nat) (v : Nat) (hs : s.Good z) : (State.setCCal s c l w v).Good z := by
  unfold State.setCCal
  repeat' first
    | with_reducible assumption
    | with_reducible apply State.stBits_good

theorem State.setDCtrl_good {z : Lasting} {s : State} (ch : Nat) (l : Nat) (w : Nat) (v : Nat) (hs : s.Good z) : (State.setDCtrl s ch l w v).Good z := by
  unfold State.setDCtrl
  repeat' first
    | with_reducible assumption
    | with_reducible apply State.stBits_good

theorem State.setDw_good {z : Lasting} {s : State} (ch : Nat) (off : Nat) (v : W32) (hs : s.Good z) : (State.setDw s ch off v).Good z := by
  unfold State.setDw
  repeat' first
    | with_reducible assumption
    | with_reducible apply State.stW_good

theorem State.setDI16_good {z : Lasting} {s : State} (ch : Nat) (off : Nat) (v : Int) (hs : s.Good z) : (State.setDI16 s ch off v).Good z := by
  unfold State.setDI16
  repeat' first
    | with_reducible assumption
    | with_reducible apply State.st_good

theorem State.toRest_good {z : Lasting} {s : State} (ch : Nat) (hs : s.Good z) : (State.toRest s ch).Good z := by
  unfold State.toRest
  repeat' first
    | with_reducible assumption
    | ((try lift_lets -underBinder); intro s1; refine have_good (z := z) (s := s1) ?_ (fun h1 => ?_) <;> [subst s1; try clear_value s1])
    | ((try lift_lets -underBinder); intro x1; first | (have f1 : ∀ _, _ := x1; clear f1) | clear_value x1)
    | with_reducible apply State.setDCtrl_good
    | with_reducible apply State.setDI16_good
    | with_reducible apply State.st_good
    | fail_if_no_progress (with_reducible apply good_mk; with_reducible apply good_of)

theorem State.loadAct_good {z : Lasting} {s : State} (ch : Nat) (code : Int) (hs : s.Good z) : (State.loadAct s ch code).Good z := by
  unfold State.loadAct
  repeat' first
    | with_reducible assumption
    | ((try lift_lets -underBinder); intro s1; refine have_good (z := z) (s := s1) ?_ (fun h1 => ?_) <;> [subst s1; try clear_value s1])
    | ((try lift_lets -underBinder); intro x1; first | (have f1 : ∀ _, _ := x1; clear f1) | clear_value x1)
    | with_reducible apply State.setDCtrl_good
    | with_reducible apply State.setDI16_good
    | with_reducible apply State.st_good
    | with_reducible apply ite_good

theorem State.setCmd_good {z : Lasting} {s : State} (c : Nat) (v : W32) (hs : s.Good z) : (State.setCmd s c v).Good z := by
  unfold State.setCmd
  repeat' first
    | with_reducible assumption
    | with_reducible apply State.setDw_good

theorem State.leavePowerUp_good {z : Lasting} {s : State} (chs : List Nat) (hs : s.Good z) : (State.leavePowerUp s chs).Good z := by
  unfold State.leavePowerUp
  repeat' first
    | with_reducible assumption
    | ((try lift_lets -underBinder); intro x1; first | (have f1 : ∀ _, _ := x1; clear f1) | clear_value x1)
    | fail_if_no_progress (with_reducible apply good_mk; with_reducible apply good_of)

theorem State.closeShutter_good {z : Lasting} {s : State} (ch : Nat) (hs : s.Good z) : (State.closeShutter s ch).Good z := by
  unfold State.closeShutter
  repeat' first
    | with_reducible assumption
    | with_reducible apply State.toRest_good
    | with_reducible apply State.setDCtrl_good
    | with_reducible apply State.leavePowerUp_good

theorem State.openShutter_good {z : Lasting} {s : State} (ch : Nat) (hs : s.Good z) : (State.openShutter s ch).Good z := by
  unfold State.openShutter
  repeat' first
    | with_reducible assumption
    | ((try lift_lets -underBinder); intro s1; refine have_good (z := z) (s := s1) ?_ (fun h1 => ?_) <;> [subst s1; try clear_value s1])
    | ((try lift_lets -underBinder); intro x1; first | (have f1 : ∀ _, _ := x1; clear f1) | clear_value x1)
    | with_reducible apply State.leavePowerUp_good
    | with_reducible apply State.loadAct_good
    | with_reducible apply State.setDI16_good
    | with_reducible apply State.setDCtrl_good
    | with_reducible apply ite_good

theorem State.restIdle_good {z : Lasting} {s : State} (hs : s.Good z) : (State.restIdle s).Good z := by
  unfold State.restIdle
  repeat' first
    | with_reducible assumption
    | refine fun _ => ?_
    | with_reducible apply State.toRest_good
    | with_reducible apply forEach_good

theorem State.restClosed_good {z : Lasting} {s : State} (hs : s.Good z) : (State.restClosed s).Good z := by
  unfold State.restClosed
  repeat' first
    | with_reducible assumption
    | refine fun _ => ?_
    | with_reducible apply State.toRest_good
    | with_reducible apply forEach_good

theorem State.setSCtrl_good {z : Lasting} {s : State} (ch : Nat) (l : Nat) (w : Nat) (v : Nat) (hs : s.Good z) : (State.setSCtrl s ch l w v).Good z := by
  unfold State.setSCtrl
  repeat' first
    | with_reducible assumption
    | with_reducible apply State.stBits_good

theorem State.setSw_good {z : Lasting} {s : State} (ch : Nat) (off : Nat) (v : W32) (hs : s.Good z) : (State.setSw s ch off v).Good z := by
  unfold State.setSw
  repeat' first
    | with_reducible assumption
    | with_reducible apply State.stW_good

theorem State.markTap_good {z : Lasting} {s : State} (ch : Nat) (hs : s.Good z) : (State.markTap s ch).Good z := by
  unfold State.markTap
  repeat' first
    | with_reducible assumption
    | ((try lift_lets -underBinder); intro s1; refine have_good (z := z) (s := s1) ?_ (fun h1 => ?_) <;> [subst s1; try clear_value s1])
    | ((try lift_lets -underBinder); intro x1; first | (have f1 : ∀ _, _ := x1; clear f1) | clear_value x1)
    | with_reducible apply State.setSCtrl_good
    | with_reducible apply State.setCCtrl_good
    | with_reducible apply ite_good
    | fail_if_no_progress (with_reducible apply good_mk; with_reducible apply good_of)

theorem State.forceDmap_good {z : Lasting} {s : State} (dm : List DmapEntry) (hs : s.Good z) : (State.forceDmap s dm).Good z := by
  unfold State.forceDmap
  repeat' first
    | with_reducible assumption
    | refine fun _ => ?_
    | ((try lift_lets -underBinder); intro x1; first | (have f1 : ∀ _, _ := x1; clear f1) | clear_value x1)
    | with_reducible apply State.markTap_good
    | with_reducible apply forEach_good
    | fail_if_no_progress (with_reducible apply good_mk; with_reducible apply good_of)

theorem State.nsRound_good {z : Lasting} {s : State} (x : Nat) (hs : s.Good z) : (State.nsRound s x).2.Good z := by
  unfold State.nsRound
  repeat' first
    | with_reducible assumption
    | ((try lift_lets -underBinder); intro s1; refine have_snd (z := z) (p := s1) ?_ (fun h1 => ?_) <;> [subst s1; try clear_value s1])
    | with_reducible apply State.draw_good
    | with_reducible apply ite_snd_good

theorem State.wearCheck_good {z : Lasting} {s : State} (c : Nat) (hs : s.Good z) : (State.wearCheck s c).Good z := by
  unfold State.wearCheck
  repeat' first
    | with_reducible assumption
    | ((try lift_lets -underBinder); intro s1; refine have_good (z := z) (s := s1) ?_ (fun h1 => ?_) <;> [subst s1; try clear_value s1])
    | ((try lift_lets -underBinder); intro x1; first | (have f1 : ∀ _, _ := x1; clear f1) | clear_value x1)
    | with_reducible apply State.raise_good
    | with_reducible apply ite_good
    | split
    | fail_if_no_progress (with_reducible apply good_mk; with_reducible apply good_of)

theorem State.setWear_good {z : Lasting} {s : State} (c : Nat) (n : Nat) (hs : s.Good z) : (State.setWear s c n).Good z := by
  unfold State.setWear
  repeat' first
    | with_reducible assumption
    | ((try lift_lets -underBinder); intro s1; refine have_good (z := z) (s := s1) ?_ (fun h1 => ?_) <;> [subst s1; try clear_value s1])
    | ((try lift_lets -underBinder); intro x1; first | (have f1 : ∀ _, _ := x1; clear f1) | clear_value x1)
    | with_reducible apply State.setCw_good
    | with_reducible apply ite_good
    | fail_if_no_progress (with_reducible apply good_mk; with_reducible apply good_of)

theorem State.carryWear_good {z : Lasting} {s : State} (deltas : List (Nat × Nat)) (hs : s.Good z) : (State.carryWear s deltas).Good z := by
  unfold State.carryWear
  repeat' first
    | with_reducible assumption
    | refine fun _ => ?_
    | ((try lift_lets -underBinder); intro x1; first | (have f1 : ∀ _, _ := x1; clear f1) | clear_value x1)
    | with_reducible apply State.wearCheck_good
    | with_reducible apply State.setWear_good
    | with_reducible apply ite_good
    | with_reducible apply forEach_good

theorem State.setSnap_good {z : Lasting} {s : State} (l : List (Nat × Nat)) (hs : s.Good z) : (State.setSnap s l).Good z := by
  unfold State.setSnap
  repeat' first
    | with_reducible assumption
    | ((try lift_lets -underBinder); intro x1; first | (have f1 : ∀ _, _ := x1; clear f1) | clear_value x1)
    | with_reducible apply State.mapRecs_good
    | fail_if_no_progress (with_reducible apply good_mk; with_reducible apply good_of)

theorem State.actuate_good {z : Lasting} {s : State} (c : Nat) (k : Nat) (hs : s.Good z) : (State.actuate s c k).Good z := by
  unfold State.actuate
  repeat' first
    | with_reducible assumption
    | ((try lift_lets -underBinder); intro s1; refine have_good (z := z) (s := s1) ?_ (fun h1 => ?_) <;> [subst s1; try clear_value s1])
    | with_reducible apply State.setCw_good
    | with_reducible apply State.wearCheck_good

end Sys2Proof.Machine
end

