-- ==== Sys2Proof/Laws/GoodLoopOps.lean ====
section
/-! SUPPORT. Every operation of Machine/LoopOps.lean keeps a sound state sound and, but for those named _ok, the fuses and the
flash as they are. -/

namespace Sys2Proof.Machine

theorem State.loopFaultRec_good {z : Lasting} {s : State} (loopNo : Nat) (stage : Nat) (hs : s.Good z) : (State.loopFaultRec s loopNo stage).Good z := by
  unfold State.loopFaultRec
  repeat' first
    | with_reducible assumption
    | ((try lift_lets -underBinder); intro s1; refine have_good (z := z) (s := s1) ?_ (fun h1 => ?_) <;> [subst s1; try clear_value s1])
    | with_reducible apply State.wrB_good
    | with_reducible apply State.wr_good
    | with_reducible apply State.raise_good
    | with_reducible apply ite_good

theorem State.calMissing_good {z : Lasting} {s : State} (c : Nat) (hs : s.Good z) : (State.calMissing s c).Good z := by
  unfold State.calMissing
  repeat' first
    | with_reducible assumption
    | ((try lift_lets -underBinder); intro x1; first | (have f1 : ∀ _, _ := x1; clear f1) | clear_value x1)
    | with_reducible apply State.raise_good
    | with_reducible apply ite_good
    | fail_if_no_progress (with_reducible apply good_mk; with_reducible apply good_of)

theorem State.cellFault_good {z : Lasting} {s : State} (c : Nat) (stage : Nat) (hs : s.Good z) : (State.cellFault s c stage).Good z := by
  unfold State.cellFault
  repeat' first
    | with_reducible assumption
    | with_reducible apply State.loopFaultRec_good
    | with_reducible apply State.setCStat_good

theorem State.auxFault_good {z : Lasting} {s : State} (a : Nat) (stage : Nat) (hs : s.Good z) : (State.auxFault s a stage).Good z := by
  unfold State.auxFault
  repeat' first
    | with_reducible assumption
    | with_reducible apply State.loopFaultRec_good
    | with_reducible apply State.wr_good
    | with_reducible apply State.wrB_good

theorem State.setCellInj_good {z : Lasting} {s : State} (c : Nat) (x2 : Option Inj) (hs : s.Good z) : (State.setCellInj s c x2).Good z := by
  unfold State.setCellInj
  repeat' first
    | with_reducible assumption
    | with_reducible apply State.stZero_good
    | with_reducible apply State.setCw_good
    | split

theorem State.setInj_good {z : Lasting} {s : State} (l : Nat) (i : Option Inj) (hs : s.Good z) : (State.setInj s l i).Good z := by
  unfold State.setInj
  repeat' first
    | with_reducible assumption
    | ((try lift_lets -underBinder); intro x1; first | (have f1 : ∀ _, _ := x1; clear f1) | clear_value x1)
    | with_reducible apply State.setCellInj_good
    | with_reducible apply ite_good
    | split
    | fail_if_no_progress (with_reducible apply good_mk; with_reducible apply good_of)

theorem State.injStep_good {z : Lasting} {s : State} (l : Nat) (hs : s.Good z) : (State.injStep s l).Good z := by
  unfold State.injStep
  repeat' first
    | with_reducible assumption
    | ((try lift_lets -underBinder); intro x1; first | (have f1 : ∀ _, _ := x1; clear f1) | clear_value x1)
    | with_reducible apply State.setInj_good
    | with_reducible apply ite_good
    | split

theorem State.noteStep_good {z : Lasting} {s : State} (c : Nat) (hs : s.Good z) : (State.noteStep s c).Good z := by
  unfold State.noteStep
  repeat' first
    | with_reducible assumption
    | ((try lift_lets -underBinder); intro x1; first | (have f1 : ∀ _, _ := x1; clear f1) | clear_value x1)
    | fail_if_no_progress (with_reducible apply good_mk; with_reducible apply good_of)

theorem State.presetCell_good {z : Lasting} {s : State} (c : Nat) (u : W32) (e : W32) (hs : s.Good z) : (State.presetCell s c u e).Good z := by
  unfold State.presetCell
  repeat' first
    | with_reducible assumption
    | ((try lift_lets -underBinder); intro s1; refine have_good (z := z) (s := s1) ?_ (fun h1 => ?_) <;> [subst s1; try clear_value s1])
    | ((try lift_lets -underBinder); intro x1; first | (have f1 : ∀ _, _ := x1; clear f1) | clear_value x1)
    | with_reducible apply State.cellFault_good
    | with_reducible apply State.calMissing_good
    | with_reducible apply State.noteStep_good
    | with_reducible apply State.setCw_good
    | with_reducible apply State.stBits_good
    | with_reducible apply State.st_good
    | with_reducible apply State.setCStat_good
    | with_reducible apply State.setCmd_good
    | with_reducible apply ite_good
    | fail_if_no_progress (with_reducible apply good_mk; with_reducible apply good_of)

theorem State.setAuxS_good {z : Lasting} {s : State} (a : Nat) (j : Nat) (v : W32) (hs : s.Good z) : (State.setAuxS s a j v).Good z := by
  unfold State.setAuxS
  repeat' first
    | with_reducible assumption
    | with_reducible apply State.wr_good

theorem State.presetAux_good {z : Lasting} {s : State} (a : Nat) (u : W32) (hs : s.Good z) : (State.presetAux s a u).Good z := by
  unfold State.presetAux
  repeat' first
    | with_reducible assumption
    | ((try lift_lets -underBinder); intro s1; refine have_good (z := z) (s := s1) ?_ (fun h1 => ?_) <;> [subst s1; try clear_value s1])
    | ((try lift_lets -underBinder); intro x1; first | (have f1 : ∀ _, _ := x1; clear f1) | clear_value x1)
    | with_reducible apply State.auxFault_good
    | with_reducible apply State.setAuxS_good
    | with_reducible apply State.wrB_good
    | with_reducible apply ite_good
    | fail_if_no_progress (with_reducible apply good_mk; with_reducible apply good_of)

theorem State.capEnd_good {z : Lasting} {s : State} (ch : Nat) (hs : s.Good z) : (State.capEnd s ch).Good z := by
  unfold State.capEnd
  repeat' first
    | with_reducible assumption
    | ((try lift_lets -underBinder); intro s1; refine have_good (z := z) (s := s1) ?_ (fun h1 => ?_) <;> [subst s1; try clear_value s1])
    | ((try lift_lets -underBinder); intro x1; first | (have f1 : ∀ _, _ := x1; clear f1) | clear_value x1)
    | with_reducible apply State.wrB_good
    | fail_if_no_progress (with_reducible apply good_mk; with_reducible apply good_of)

theorem State.capOne_good {z : Lasting} {s : State} (vals : CapVals) (m0 : Bool) (P : Nat) (p : Nat × Capture) (hs : s.Good z) : (State.capOne s vals m0 P p).Good z := by
  unfold State.capOne
  repeat' first
    | with_reducible assumption
    | ((try lift_lets -underBinder); intro s1; refine have_good (z := z) (s := s1) ?_ (fun h1 => ?_) <;> [subst s1; try clear_value s1])
    | ((try lift_lets -underBinder); intro s1; refine have_snd (z := z) (p := s1) ?_ (fun h1 => ?_) <;> [subst s1; try clear_value s1])
    | ((try lift_lets -underBinder); intro x1; first | (have f1 : ∀ _, _ := x1; clear f1) | clear_value x1)
    | with_reducible apply State.draw_good
    | with_reducible apply State.wr_good
    | with_reducible apply State.stW_good
    | with_reducible apply State.capEnd_good
    | with_reducible apply ite_good
    | fail_if_no_progress (with_reducible apply good_mk; with_reducible apply good_of)

theorem State.capLoop_good {z : Lasting} {s : State} (l : Nat) (vals : CapVals) (inj : Option Inj) (P : Nat) (hs : s.Good z) : (State.capLoop s l vals inj P).Good z := by
  unfold State.capLoop
  repeat' first
    | with_reducible assumption
    | refine fun _ => ?_
    | ((try lift_lets -underBinder); intro x1; first | (have f1 : ∀ _, _ := x1; clear f1) | clear_value x1)
    | with_reducible apply State.capOne_good
    | with_reducible apply forEach_good

theorem State.iterCell_good {z : Lasting} {s : State} (c : Nat) (beta : W32) (safe : Bool) (hs : s.Good z) : (State.iterCell s c beta safe).1.Good z := by
  unfold State.iterCell
  repeat' first
    | with_reducible assumption
    | ((try lift_lets -underBinder); intro x1; first | (have f1 : ∀ _, _ := x1; clear f1) | clear_value x1)
    | with_reducible apply State.cellFault_good
    | with_reducible apply State.setCStat_good
    | with_reducible apply State.calMissing_good
    | with_reducible apply State.setCw_good
    | with_reducible apply State.st_good
    | with_reducible apply ite_fst_good
    | with_reducible apply ite_good
    | fail_if_no_progress (with_reducible apply good_mk; with_reducible apply good_of)

theorem State.keepFormed_good {z : Lasting} {s : State} (l : Nat) (vals : CapVals) (hs : s.Good z) : (State.keepFormed s l vals).Good z := by
  unfold State.keepFormed
  repeat' first
    | with_reducible assumption
    | ((try lift_lets -underBinder); intro x1; first | (have f1 : ∀ _, _ := x1; clear f1) | clear_value x1)
    | with_reducible apply ite_good
    | fail_if_no_progress (with_reducible apply good_mk; with_reducible apply good_of)

theorem State.runCell_good {z : Lasting} {s : State} (c : Nat) (P : Nat) (beta : W32) (safe : Bool) (hs : s.Good z) : (State.runCell s c P beta safe).Good z := by
  unfold State.runCell
  repeat' first
    | with_reducible assumption
    | ((try lift_lets -underBinder); intro s1; refine have_fst (z := z) (p := s1) ?_ (fun h1 => ?_) <;> [subst s1; try clear_value s1])
    | ((try lift_lets -underBinder); intro x1; first | (have f1 : ∀ _, _ := x1; clear f1) | clear_value x1)
    | with_reducible apply State.iterCell_good
    | with_reducible apply State.capLoop_good
    | with_reducible apply State.injStep_good
    | with_reducible apply State.keepFormed_good

theorem State.setPm_good {z : Lasting} {s : State} (n : Nat) (m : PwmModule) (hs : s.Good z) : (State.setPm s n m).Good z := by
  unfold State.setPm
  repeat' first
    | with_reducible assumption
    | fail_if_no_progress (with_reducible apply good_mk; with_reducible apply good_of)

theorem State.lateWrite_good {z : Lasting} {s : State} (n : Nat) (hs : s.Good z) : (State.lateWrite s n).Good z := by
  unfold State.lateWrite
  repeat' first
    | with_reducible assumption
    | with_reducible apply State.wrB_good
    | with_reducible apply ite_good

theorem State.setDuty_good {z : Lasting} {s : State} (n : Nat) (u : W32) (hs : s.Good z) : (State.setDuty s n u).Good z := by
  unfold State.setDuty
  repeat' first
    | with_reducible assumption
    | ((try lift_lets -underBinder); intro x1; first | (have f1 : ∀ _, _ := x1; clear f1) | clear_value x1)
    | with_reducible apply State.lateWrite_good
    | with_reducible apply State.wr_good

theorem State.auxWrite_good {z : Lasting} {s : State} (a : Nat) (u : W32) (hs : s.Good z) : (State.auxWrite s a u).Good z := by
  unfold State.auxWrite
  repeat' first
    | with_reducible assumption
    | ((try lift_lets -underBinder); intro s1; refine have_good (z := z) (s := s1) ?_ (fun h1 => ?_) <;> [subst s1; try clear_value s1])
    | ((try lift_lets -underBinder); intro x1; first | (have f1 : ∀ _, _ := x1; clear f1) | clear_value x1)
    | with_reducible apply State.wrB_good
    | with_reducible apply State.setDuty_good
    | with_reducible apply State.stW_good
    | with_reducible apply ite_good

theorem State.iterAux_good {z : Lasting} {s : State} {s0 : State} (a : Nat) (P : Nat) (hs : s.Good z) (hs0 : s0.Good z) : (State.iterAux s s0 a P).1.Good z := by
  unfold State.iterAux
  repeat' first
    | with_reducible assumption
    | ((try lift_lets -underBinder); intro s1; refine have_good (z := z) (s := s1) ?_ (fun h1 => ?_) <;> [subst s1; try clear_value s1])
    | ((try lift_lets -underBinder); intro x1; first | (have f1 : ∀ _, _ := x1; clear f1) | clear_value x1)
    | with_reducible apply State.auxFault_good
    | with_reducible apply State.setAuxS_good
    | with_reducible apply State.auxWrite_good
    | with_reducible apply State.wr_good
    | with_reducible apply ite_fst_good
    | split
    | fail_if_no_progress (with_reducible apply good_mk; with_reducible apply good_of)

theorem State.runAux_good {z : Lasting} {s : State} {s0 : State} (a : Nat) (P : Nat) (hs : s.Good z) (hs0 : s0.Good z) : (State.runAux s s0 a P).Good z := by
  unfold State.runAux
  repeat' first
    | with_reducible assumption
    | ((try lift_lets -underBinder); intro s1; refine have_fst (z := z) (p := s1) ?_ (fun h1 => ?_) <;> [subst s1; try clear_value s1])
    | ((try lift_lets -underBinder); intro x1; first | (have f1 : ∀ _, _ := x1; clear f1) | clear_value x1)
    | with_reducible apply State.iterAux_good
    | with_reducible apply State.capLoop_good
    | with_reducible apply State.injStep_good
    | with_reducible apply State.keepFormed_good

theorem State.wakeCell_good {z : Lasting} {s : State} (c : Nat) (hs : s.Good z) : (State.wakeCell s c).Good z := by
  unfold State.wakeCell
  repeat' first
    | with_reducible assumption
    | ((try lift_lets -underBinder); intro x1; first | (have f1 : ∀ _, _ := x1; clear f1) | clear_value x1)
    | with_reducible apply State.setCStat_good
    | with_reducible apply ite_good
    | fail_if_no_progress (with_reducible apply good_mk; with_reducible apply good_of)

theorem State.blockTest_good {z : Lasting} {s : State} (c : Nat) (g : W32) (hs : s.Good z) : (State.blockTest s c g).Good z := by
  unfold State.blockTest
  repeat' first
    | with_reducible assumption
    | ((try lift_lets -underBinder); intro s1; refine have_good (z := z) (s := s1) ?_ (fun h1 => ?_) <;> [subst s1; try clear_value s1])
    | ((try lift_lets -underBinder); intro x1; first | (have f1 : ∀ _, _ := x1; clear f1) | clear_value x1)
    | with_reducible apply State.monOffer_good
    | with_reducible apply State.setCStat_good
    | with_reducible apply State.wakeCell_good
    | with_reducible apply ite_good
    | fail_if_no_progress (with_reducible apply good_mk; with_reducible apply good_of)

theorem State.demodCell_good {z : Lasting} {s : State} (q : Nat) (peaks : Array Nat) (c : Nat) (hs : s.Good z) : (State.demodCell s q peaks c).Good z := by
  unfold State.demodCell
  repeat' first
    | with_reducible assumption
    | refine fun _ => ?_
    | ((try lift_lets -underBinder); intro s1; refine have_good (z := z) (s := s1) ?_ (fun h1 => ?_) <;> [subst s1; try clear_value s1])
    | ((try lift_lets -underBinder); intro f1; refine have_fun2 (z := z) (f := f1) ?_ (fun hf1 => ?_) <;> [subst f1; try clear_value f1])
    | ((try lift_lets -underBinder); intro x1; first | (have f1 : ∀ _, _ := x1; clear f1) | clear_value x1)
    | with_reducible apply hf1
    | with_reducible apply State.stBits_good
    | with_reducible apply State.setCStat_good
    | with_reducible apply State.setCw_good
    | with_reducible apply State.wakeCell_good
    | with_reducible apply State.blockTest_good
    | with_reducible apply State.st_good
    | with_reducible apply ite_good
    | fail_if_no_progress (with_reducible apply good_mk; with_reducible apply good_of)

theorem State.demodulate_good {z : Lasting} {s : State} (P : Nat) (hs : s.Good z) : (State.demodulate s P).Good z := by
  unfold State.demodulate
  repeat' first
    | with_reducible assumption
    | refine fun _ => ?_
    | ((try lift_lets -underBinder); intro s1; refine have_good (z := z) (s := s1) ?_ (fun h1 => ?_) <;> [subst s1; try clear_value s1])
    | ((try lift_lets -underBinder); intro x1; first | (have f1 : ∀ _, _ := x1; clear f1) | clear_value x1)
    | with_reducible apply State.demodCell_good
    | with_reducible apply ite_good
    | with_reducible apply forEach_good
    | fail_if_no_progress (with_reducible apply good_mk; with_reducible apply good_of)

theorem State.budgetLoop_good {z : Lasting} {s : State} (cells : List Nat) (hs : s.Good z) : (State.budgetLoop s cells).Good z := by
  unfold State.budgetLoop
  repeat' first
    | with_reducible assumption
    | ((try lift_lets -underBinder); intro s1; refine have_good (z := z) (s := s1) ?_ (fun h1 => ?_) <;> [subst s1; try clear_value s1])
    | ((try lift_lets -underBinder); intro x1; first | (have f1 : ∀ _, _ := x1; clear f1) | clear_value x1)
    | with_reducible apply State.wr_good
    | with_reducible apply State.loopFaultRec_good
    | with_reducible apply ite_good
    | split

theorem State.blendStep_good {z : Lasting} {s : State} (b : Blend) (hs : s.Good z) : (State.blendStep s b).1.Good z := by
  unfold State.blendStep
  repeat' first
    | with_reducible assumption
    | refine fun _ => ?_
    | ((try lift_lets -underBinder); intro s1; refine have_good (z := z) (s := s1) ?_ (fun h1 => ?_) <;> [subst s1; try clear_value s1])
    | ((try lift_lets -underBinder); intro f1; refine have_fun2 (z := z) (f := f1) ?_ (fun hf1 => ?_) <;> [subst f1; try clear_value f1])
    | ((try lift_lets -underBinder); intro x1; first | (have f1 : ∀ _, _ := x1; clear f1) | clear_value x1)
    | with_reducible apply State.stW_good
    | with_reducible apply State.setCCal_good
    | with_reducible apply ite_fst_good
    | with_reducible apply forEach_good

theorem State.blendAll_good {z : Lasting} {s : State} (hs : s.Good z) : (State.blendAll s).Good z := by
  unfold State.blendAll
  repeat' first
    | with_reducible assumption
    | refine fun _ => ?_
    | ((try lift_lets -underBinder); intro s1; refine have_good (z := z) (s := s1) ?_ (fun h1 => ?_) <;> [subst s1; try clear_value s1])
    | ((try lift_lets -underBinder); intro s1; refine have_fst (z := z) (p := s1) ?_ (fun h1 => ?_) <;> [subst s1; try clear_value s1])
    | ((try lift_lets -underBinder); intro x1; first | (have f1 : ∀ _, _ := x1; clear f1) | clear_value x1)
    | with_reducible apply State.blendStep_good
    | with_reducible apply State.setCCal_good
    | with_reducible apply forEach_good
    | with_reducible apply foldl_fst_good
    | fail_if_no_progress (with_reducible apply good_mk; with_reducible apply good_of)

theorem State.periodBegins_good {z : Lasting} {s : State} (hs : s.Good z) : (State.periodBegins s).Good z := by
  unfold State.periodBegins
  repeat' first
    | with_reducible assumption
    | ((try lift_lets -underBinder); intro s1; refine have_good (z := z) (s := s1) ?_ (fun h1 => ?_) <;> [subst s1; try clear_value s1])
    | ((try lift_lets -underBinder); intro x1; first | (have f1 : ∀ _, _ := x1; clear f1) | clear_value x1)
    | with_reducible apply State.blendAll_good
    | fail_if_no_progress (with_reducible apply good_mk; with_reducible apply good_of)

theorem State.retireCore_good {z : Lasting} {s : State} (n : Nat) (hs : s.Good z) : (State.retireCore s n).Good z := by
  unfold State.retireCore
  repeat' first
    | with_reducible assumption
    | ((try lift_lets -underBinder); intro x1; first | (have f1 : ∀ _, _ := x1; clear f1) | clear_value x1)
    | with_reducible apply State.wr_good
    | with_reducible apply ite_good

theorem State.iterations_good {z : Lasting} {s : State} (P : Nat) (hs : s.Good z) : (State.iterations s P).Good z := by
  unfold State.iterations
  repeat' first
    | with_reducible assumption
    | refine fun _ => ?_
    | ((try lift_lets -underBinder); intro s1; refine have_good (z := z) (s := s1) ?_ (fun h1 => ?_) <;> [subst s1; try clear_value s1])
    | ((try lift_lets -underBinder); intro x1; first | (have f1 : ∀ _, _ := x1; clear f1) | clear_value x1)
    | with_reducible apply State.setCStat_good
    | with_reducible apply State.budgetLoop_good
    | with_reducible apply State.runCell_good
    | with_reducible apply State.runAux_good
    | with_reducible apply State.wr_good
    | with_reducible apply State.inc_good
    | with_reducible apply State.raise_good
    | with_reducible apply ite_good
    | with_reducible apply forEach_good
    | fail_if_no_progress (with_reducible apply good_mk; with_reducible apply good_of)

theorem State.loopPeriod_good {z : Lasting} {s : State} (hs : s.Good z) : (State.loopPeriod s).Good z := by
  unfold State.loopPeriod
  repeat' first
    | with_reducible assumption
    | refine fun _ => ?_
    | ((try lift_lets -underBinder); intro s1; refine have_good (z := z) (s := s1) ?_ (fun h1 => ?_) <;> [subst s1; try clear_value s1])
    | ((try lift_lets -underBinder); intro x1; first | (have f1 : ∀ _, _ := x1; clear f1) | clear_value x1)
    | with_reducible apply State.retireCore_good
    | with_reducible apply State.throttleSource_good
    | with_reducible apply State.wr_good
    | with_reducible apply State.demodulate_good
    | with_reducible apply State.iterations_good
    | with_reducible apply ite_good
    | with_reducible apply forEach_good
    | fail_if_no_progress (with_reducible apply good_mk; with_reducible apply good_of)

end Sys2Proof.Machine
end

