-- ==== Sys2Proof/Laws/GoodSenseOps.lean ====
section
/-! SUPPORT. Every operation of Machine/SenseOps.lean keeps a sound state sound and, but for those named _ok, the fuses and the
flash as they are. -/

namespace Sys2Proof.Machine

theorem State.setFresh_good {z : Lasting} {s : State} (p : SensePath) (l : List Nat) (hs : s.Good z) : (State.setFresh s p l).Good z := by
  unfold State.setFresh
  repeat' first
    | with_reducible assumption
    | ((try lift_lets -underBinder); intro x1; first | (have f1 : ∀ _, _ := x1; clear f1) | clear_value x1)
    | split
    | fail_if_no_progress (with_reducible apply good_mk; with_reducible apply good_of)

theorem State.noteOvr_good {z : Lasting} {s : State} (ch : Nat) (path : Nat) (cause : Nat) (hs : s.Good z) : (State.noteOvr s ch path cause).Good z := by
  unfold State.noteOvr
  repeat' first
    | with_reducible assumption
    | ((try lift_lets -underBinder); intro s1; refine have_good (z := z) (s := s1) ?_ (fun h1 => ?_) <;> [subst s1; try clear_value s1])
    | with_reducible apply State.setSCtrl_good
    | with_reducible apply State.inc_good
    | with_reducible apply State.wrB_good
    | with_reducible apply State.wr_good
    | with_reducible apply ite_good

theorem State.setCorr_good {z : Lasting} {s : State} (ch : Nat) (ofs : W32) (gain : W32) (hs : s.Good z) : (State.setCorr s ch ofs gain).Good z := by
  unfold State.setCorr
  repeat' first
    | with_reducible assumption
    | ((try lift_lets -underBinder); intro x1; first | (have f1 : ∀ _, _ := x1; clear f1) | clear_value x1)
    | with_reducible apply State.setSw_good
    | fail_if_no_progress (with_reducible apply good_mk; with_reducible apply good_of)

theorem State.sample_good {z : Lasting} {s : State} (p : SensePath) (ch : Nat) (hs : s.Good z) : (State.sample s p ch).1.Good z := by
  unfold State.sample
  repeat' first
    | with_reducible assumption
    | ((try lift_lets -underBinder); intro s1; refine have_good (z := z) (s := s1) ?_ (fun h1 => ?_) <;> [subst s1; try clear_value s1])
    | ((try lift_lets -underBinder); intro x1; first | (have f1 : ∀ _, _ := x1; clear f1) | clear_value x1)
    | with_reducible apply State.setSCtrl_good
    | with_reducible apply State.noteOvr_good
    | with_reducible apply State.setSw_good
    | with_reducible apply State.monOffer_good
    | with_reducible apply ite_fst_good
    | with_reducible apply ite_good
    | split
    | fail_if_no_progress (with_reducible apply good_mk; with_reducible apply good_of)

theorem State.normalise_good {z : Lasting} {s : State} (p : SensePath) (fresh : Array Bool) (c : Nat) (tap : Nat) (hs : s.Good z) : (State.normalise s p fresh c tap).Good z := by
  unfold State.normalise
  repeat' first
    | with_reducible assumption
    | ((try lift_lets -underBinder); intro s1; refine have_good (z := z) (s := s1) ?_ (fun h1 => ?_) <;> [subst s1; try clear_value s1])
    | ((try lift_lets -underBinder); intro x1; first | (have f1 : ∀ _, _ := x1; clear f1) | clear_value x1)
    | with_reducible apply State.setSw_good
    | with_reducible apply State.noteOvr_good
    | with_reducible apply State.setSCtrl_good
    | with_reducible apply ite_good

theorem State.rephase_good {z : Lasting} {s : State} (ch : Nat) (frame : Nat) (hs : s.Good z) : (State.rephase s ch frame).Good z := by
  unfold State.rephase
  repeat' first
    | with_reducible assumption
    | ((try lift_lets -underBinder); intro s1; refine have_good (z := z) (s := s1) ?_ (fun h1 => ?_) <;> [subst s1; try clear_value s1])
    | ((try lift_lets -underBinder); intro x1; first | (have f1 : ∀ _, _ := x1; clear f1) | clear_value x1)
    | with_reducible apply State.setSCtrl_good
    | with_reducible apply ite_good
    | fail_if_no_progress (with_reducible apply good_mk; with_reducible apply good_of)

theorem State.samplePath_good {z : Lasting} {s : State} (p : SensePath) (chans : List Nat) (hs : s.Good z) : (State.samplePath s p chans).Good z := by
  unfold State.samplePath
  repeat' first
    | with_reducible assumption
    | refine fun _ => ?_
    | ((try lift_lets -underBinder); intro s1; refine have_good (z := z) (s := s1) ?_ (fun h1 => ?_) <;> [subst s1; try clear_value s1])
    | ((try lift_lets -underBinder); intro s1; refine have_fst (z := z) (p := s1) ?_ (fun h1 => ?_) <;> [subst s1; try clear_value s1])
    | ((try lift_lets -underBinder); intro x1; first | (have f1 : ∀ _, _ := x1; clear f1) | clear_value x1)
    | with_reducible apply State.sample_good
    | with_reducible apply State.setFresh_good
    | with_reducible apply State.normalise_good
    | with_reducible apply ite_good
    | with_reducible apply forEach_good
    | with_reducible apply foldl_fst_good

theorem State.postOut_good {z : Lasting} {s : State} (o : Nat) (expect : Nat) (conn : Bool) (r : VfyOut) (hs : s.Good z) : (State.postOut s o expect conn r).Good z := by
  unfold State.postOut
  repeat' first
    | with_reducible assumption
    | with_reducible apply State.st_good

theorem State.postCounts_good {z : Lasting} {s : State} (m : Nat) (f : Nat) (u : Nat) (i : Nat) (k : Nat) (p : Nat) (hs : s.Good z) : (State.postCounts s m f u i k p).Good z := by
  unfold State.postCounts
  repeat' first
    | with_reducible assumption
    | ((try lift_lets -underBinder); intro s1; refine have_good (z := z) (s := s1) ?_ (fun h1 => ?_) <;> [subst s1; try clear_value s1])
    | with_reducible apply State.st_good
    | with_reducible apply State.wr_good

theorem State.beginPass_good {z : Lasting} {s : State} (v : VfyPass) (hs : s.Good z) : (State.beginPass s v).Good z := by
  unfold State.beginPass
  repeat' first
    | with_reducible assumption
    | ((try lift_lets -underBinder); intro s1; refine have_good (z := z) (s := s1) ?_ (fun h1 => ?_) <;> [subst s1; try clear_value s1])
    | ((try lift_lets -underBinder); intro x1; first | (have f1 : ∀ _, _ := x1; clear f1) | clear_value x1)
    | with_reducible apply State.wrB_good
    | with_reducible apply State.wr_good
    | with_reducible apply State.st_good
    | fail_if_no_progress (with_reducible apply good_mk; with_reducible apply good_of)

theorem State.startPass_good {z : Lasting} {s : State} (frame : Nat) (count : Nat) (j : Nat) (hs : s.Good z) : (State.startPass s frame count j).Good z := by
  unfold State.startPass
  repeat' first
    | with_reducible assumption
    | ((try lift_lets -underBinder); intro x1; first | (have f1 : ∀ _, _ := x1; clear f1) | clear_value x1)
    | with_reducible apply State.beginPass_good
    | with_reducible apply State.wrB_good
    | with_reducible apply ite_good
    | split
    | fail_if_no_progress (with_reducible apply good_mk; with_reducible apply good_of)

theorem State.touchPass_good {z : Lasting} {s : State} (outs : List Nat) (hs : s.Good z) : (State.touchPass s outs).Good z := by
  unfold State.touchPass
  repeat' first
    | with_reducible assumption
    | ((try lift_lets -underBinder); intro x1; first | (have f1 : ∀ _, _ := x1; clear f1) | clear_value x1)
    | fail_if_no_progress (with_reducible apply good_mk; with_reducible apply good_of)

theorem State.passEnding_good {z : Lasting} {s : State} (hs : s.Good z) : (State.passEnding s).Good z := by
  unfold State.passEnding
  repeat' first
    | with_reducible assumption
    | ((try lift_lets -underBinder); intro x1; first | (have f1 : ∀ _, _ := x1; clear f1) | clear_value x1)
    | fail_if_no_progress (with_reducible apply good_mk; with_reducible apply good_of)

theorem State.requestPass_good {z : Lasting} {s : State} (hs : s.Good z) : (State.requestPass s).1.Good z := by
  unfold State.requestPass
  repeat' first
    | with_reducible assumption
    | ((try lift_lets -underBinder); intro x1; first | (have f1 : ∀ _, _ := x1; clear f1) | clear_value x1)
    | with_reducible apply State.wrB_good
    | with_reducible apply ite_fst_good
    | fail_if_no_progress (with_reducible apply good_mk; with_reducible apply good_of)

theorem State.closePass_good {z : Lasting} {s : State} (v : VfyPass) (state : Nat) (fails : Nat) (hs : s.Good z) : (State.closePass s v state fails).Good z := by
  unfold State.closePass
  repeat' first
    | with_reducible assumption
    | ((try lift_lets -underBinder); intro s1; refine have_good (z := z) (s := s1) ?_ (fun h1 => ?_) <;> [subst s1; try clear_value s1])
    | ((try lift_lets -underBinder); intro x1; first | (have f1 : ∀ _, _ := x1; clear f1) | clear_value x1)
    | with_reducible apply State.st_good
    | with_reducible apply State.wrB_good
    | with_reducible apply State.wr_good
    | with_reducible apply State.fireHook_good
    | split
    | fail_if_no_progress (with_reducible apply good_mk; with_reducible apply good_of)

theorem State.endPass_good {z : Lasting} {s : State} (hs : s.Good z) : (State.endPass s).Good z := by
  unfold State.endPass
  repeat' first
    | with_reducible assumption
    | refine fun _ => ?_
    | ((try lift_lets -underBinder); intro s1; refine have_good (z := z) (s := s1) ?_ (fun h1 => ?_) <;> [subst s1; try clear_value s1])
    | with_reducible apply State.st_good
    | with_reducible apply State.postOut_good
    | with_reducible apply State.closePass_good
    | with_reducible apply State.postCounts_good
    | with_reducible apply forEach_good
    | split

theorem State.passBit_good {z : Lasting} {s : State} (frame : Nat) (count : Nat) (j : Nat) (look : List (Nat × Bool)) (hs : s.Good z) : (State.passBit s frame count j look).Good z := by
  unfold State.passBit
  repeat' first
    | with_reducible assumption
    | ((try lift_lets -underBinder); intro s1; refine have_good (z := z) (s := s1) ?_ (fun h1 => ?_) <;> [subst s1; try clear_value s1])
    | ((try lift_lets -underBinder); intro x1; first | (have f1 : ∀ _, _ := x1; clear f1) | clear_value x1)
    | with_reducible apply State.startPass_good
    | with_reducible apply State.endPass_good
    | with_reducible apply ite_good
    | split
    | fail_if_no_progress (with_reducible apply good_mk; with_reducible apply good_of)

theorem State.passFrame_good {z : Lasting} {s : State} (f : FrameLight) (hs : s.Good z) : (State.passFrame s f).Good z := by
  unfold State.passFrame
  repeat' first
    | with_reducible assumption
    | refine fun _ => ?_
    | ((try lift_lets -underBinder); intro s1; refine have_good (z := z) (s := s1) ?_ (fun h1 => ?_) <;> [subst s1; try clear_value s1])
    | ((try lift_lets -underBinder); intro x1; first | (have f1 : ∀ _, _ := x1; clear f1) | clear_value x1)
    | with_reducible apply State.passBit_good
    | with_reducible apply ite_good
    | with_reducible apply forEach_good

theorem State.shutFailed_good {z : Lasting} {s : State} (o : Nat) (hs : s.Good z) : (State.shutFailed s o).Good z := by
  unfold State.shutFailed
  repeat' first
    | with_reducible assumption
    | ((try lift_lets -underBinder); intro x1; first | (have f1 : ∀ _, _ := x1; clear f1) | clear_value x1)
    | with_reducible apply State.closeShutter_good
    | with_reducible apply ite_good
    | fail_if_no_progress (with_reducible apply good_mk; with_reducible apply good_of)

theorem State.postPass_good {z : Lasting} {s : State} (v : VfyPass) (d : Desc) (hs : s.Good z) : (State.postPass s v d).Good z := by
  unfold State.postPass
  repeat' first
    | with_reducible assumption
    | refine fun _ => ?_
    | ((try lift_lets -underBinder); intro s1; refine have_good (z := z) (s := s1) ?_ (fun h1 => ?_) <;> [subst s1; try clear_value s1])
    | ((try lift_lets -underBinder); intro x1; first | (have f1 : ∀ _, _ := x1; clear f1) | clear_value x1)
    | with_reducible apply State.st_good
    | with_reducible apply State.postOut_good
    | with_reducible apply State.postCounts_good
    | with_reducible apply State.raise_good
    | with_reducible apply State.shutFailed_good
    | with_reducible apply State.closePass_good
    | with_reducible apply ite_good
    | with_reducible apply forEach_good

theorem State.senseFrame_good {z : Lasting} {s : State} (count : Nat) (frame : Nat) (bits : List (Nat × BitVec 3)) (hs : s.Good z) : (State.senseFrame s count frame bits).Good z := by
  unfold State.senseFrame
  repeat' first
    | with_reducible assumption
    | ((try lift_lets -underBinder); intro s1; refine have_good (z := z) (s := s1) ?_ (fun h1 => ?_) <;> [subst s1; try clear_value s1])
    | ((try lift_lets -underBinder); intro x1; first | (have f1 : ∀ _, _ := x1; clear f1) | clear_value x1)
    | with_reducible apply State.samplePath_good
    | with_reducible apply State.wrB_good
    | with_reducible apply State.wr_good
    | with_reducible apply State.passFrame_good
    | with_reducible apply ite_good
    | fail_if_no_progress (with_reducible apply good_mk; with_reducible apply good_of)

end Sys2Proof.Machine
end

