-- ==== Sys2Proof/Laws/GoodCalOps.lean ====
section
/-! SUPPORT. Every operation of Machine/CalOps.lean keeps a sound state sound and, but for those named _ok, the fuses and the
flash as they are. -/

namespace Sys2Proof.Machine

theorem State.calResult_good {z : Lasting} {s : State} (r : CalReq) (outcome : Nat) (slot : Nat) (temp : W32) (hs : s.Good z) : (State.calResult s r outcome slot temp).Good z := by
  unfold State.calResult
  repeat' first
    | with_reducible assumption
    | ((try lift_lets -underBinder); intro s1; refine have_good (z := z) (s := s1) ?_ (fun h1 => ?_) <;> [subst s1; try clear_value s1])
    | ((try lift_lets -underBinder); intro x1; first | (have f1 : ∀ _, _ := x1; clear f1) | clear_value x1)
    | with_reducible apply State.wr_good
    | with_reducible apply State.wrB_good

theorem State.calEnd_good {z : Lasting} {s : State} (r : CalReq) (outcome : Nat) (hs : s.Good z) : (State.calEnd s r outcome).Good z := by
  unfold State.calEnd
  repeat' first
    | with_reducible assumption
    | ((try lift_lets -underBinder); intro s1; refine have_good (z := z) (s := s1) ?_ (fun h1 => ?_) <;> [subst s1; try clear_value s1])
    | ((try lift_lets -underBinder); intro s1; refine have_snd (z := z) (p := s1) ?_ (fun h1 => ?_) <;> [subst s1; try clear_value s1])
    | with_reducible apply State.setCCal_good
    | with_reducible apply State.draw_good
    | with_reducible apply State.calResult_good
    | with_reducible apply ite_good

theorem State.senseInput_good {z : Lasting} {s : State} (ch : Nat) (k : Nat) (hs : s.Good z) : (State.senseInput s ch k).Good z := by
  unfold State.senseInput
  repeat' first
    | with_reducible assumption
    | ((try lift_lets -underBinder); intro x1; first | (have f1 : ∀ _, _ := x1; clear f1) | clear_value x1)
    | fail_if_no_progress (with_reducible apply good_mk; with_reducible apply good_of)

theorem State.restArms_good {z : Lasting} {s : State} (c : Nat) (hs : s.Good z) : (State.restArms s c).Good z := by
  unfold State.restArms
  repeat' first
    | with_reducible assumption
    | with_reducible apply State.toRest_good

theorem State.calRelease_good {z : Lasting} {s : State} (r : CalReq) (hs : s.Good z) : (State.calRelease s r).Good z := by
  unfold State.calRelease
  repeat' first
    | with_reducible assumption
    | ((try lift_lets -underBinder); intro s1; refine have_good (z := z) (s := s1) ?_ (fun h1 => ?_) <;> [subst s1; try clear_value s1])
    | ((try lift_lets -underBinder); intro x1; first | (have f1 : ∀ _, _ := x1; clear f1) | clear_value x1)
    | with_reducible apply State.setSCtrl_good
    | with_reducible apply State.presetCell_good
    | with_reducible apply State.restArms_good
    | with_reducible apply ite_good
    | fail_if_no_progress (with_reducible apply good_mk; with_reducible apply good_of)

theorem State.rampsEnd_good {z : Lasting} {s : State} (hs : s.Good z) : (State.rampsEnd s).Good z := by
  unfold State.rampsEnd
  repeat' first
    | with_reducible assumption
    | refine fun _ => ?_
    | ((try lift_lets -underBinder); intro s1; refine have_good (z := z) (s := s1) ?_ (fun h1 => ?_) <;> [subst s1; try clear_value s1])
    | ((try lift_lets -underBinder); intro x1; first | (have f1 : ∀ _, _ := x1; clear f1) | clear_value x1)
    | with_reducible apply State.presetCell_good
    | with_reducible apply State.setCw_good
    | with_reducible apply ite_good
    | with_reducible apply forEach_good
    | fail_if_no_progress (with_reducible apply good_mk; with_reducible apply good_of)

theorem State.calStop_good {z : Lasting} {s : State} (outcome : Nat) (release : Bool) (p : CalRun → Bool) (hs : s.Good z) : (State.calStop s outcome release p).Good z := by
  unfold State.calStop
  repeat' first
    | with_reducible assumption
    | refine fun _ => ?_
    | ((try lift_lets -underBinder); intro s1; refine have_good (z := z) (s := s1) ?_ (fun h1 => ?_) <;> [subst s1; try clear_value s1])
    | ((try lift_lets -underBinder); intro x1; first | (have f1 : ∀ _, _ := x1; clear f1) | clear_value x1)
    | with_reducible apply State.senseInput_good
    | with_reducible apply State.calRelease_good
    | with_reducible apply State.restArms_good
    | with_reducible apply State.calEnd_good
    | with_reducible apply ite_good
    | with_reducible apply forEach_good
    | fail_if_no_progress (with_reducible apply good_mk; with_reducible apply good_of)

theorem State.acceptSet_good {z : Lasting} {s : State} (c : Nat) (n : Nat) (new : List W32) (hs : s.Good z) : (State.acceptSet s c n new).Good z := by
  unfold State.acceptSet
  repeat' first
    | with_reducible assumption
    | ((try lift_lets -underBinder); intro s1; refine have_good (z := z) (s := s1) ?_ (fun h1 => ?_) <;> [subst s1; try clear_value s1])
    | ((try lift_lets -underBinder); intro x1; first | (have f1 : ∀ _, _ := x1; clear f1) | clear_value x1)
    | with_reducible apply State.setCCal_good
    | with_reducible apply State.setCw_good
    | with_reducible apply State.wr_good
    | with_reducible apply State.wrB_good
    | with_reducible apply State.ckptTouch_good
    | fail_if_no_progress (with_reducible apply good_mk; with_reducible apply good_of)

theorem State.acceptSense_good {z : Lasting} {s : State} (ch : Nat) (ofs : W32) (gain : W32) (hs : s.Good z) : (State.acceptSense s ch ofs gain).Good z := by
  unfold State.acceptSense
  repeat' first
    | with_reducible assumption
    | ((try lift_lets -underBinder); intro s1; refine have_good (z := z) (s := s1) ?_ (fun h1 => ?_) <;> [subst s1; try clear_value s1])
    | ((try lift_lets -underBinder); intro x1; first | (have f1 : ∀ _, _ := x1; clear f1) | clear_value x1)
    | with_reducible apply State.setCorr_good
    | with_reducible apply State.wr_good
    | with_reducible apply State.wrB_good
    | with_reducible apply State.ckptTouch_good
    | fail_if_no_progress (with_reducible apply good_mk; with_reducible apply good_of)

theorem State.calBegin_good {z : Lasting} {s : State} (r : CalReq) (hs : s.Good z) : (State.calBegin s r).Good z := by
  unfold State.calBegin
  repeat' first
    | with_reducible assumption
    | ((try lift_lets -underBinder); intro s1; refine have_good (z := z) (s := s1) ?_ (fun h1 => ?_) <;> [subst s1; try clear_value s1])
    | ((try lift_lets -underBinder); intro x1; first | (have f1 : ∀ _, _ := x1; clear f1) | clear_value x1)
    | with_reducible apply State.senseInput_good
    | with_reducible apply State.setSCtrl_good
    | with_reducible apply State.actuate_good
    | with_reducible apply ite_good
    | fail_if_no_progress (with_reducible apply good_mk; with_reducible apply good_of)

theorem State.modRun_good {z : Lasting} {s : State} (obj : Nat) (sense : Bool) (f : CalRun → CalRun) (hs : s.Good z) : (State.modRun s obj sense f).Good z := by
  unfold State.modRun
  repeat' first
    | with_reducible assumption
    | ((try lift_lets -underBinder); intro x1; first | (have f1 : ∀ _, _ := x1; clear f1) | clear_value x1)
    | fail_if_no_progress (with_reducible apply good_mk; with_reducible apply good_of)

theorem State.calDwell_good {z : Lasting} {s : State} (c : Nat) (hs : s.Good z) : (State.calDwell s c).Good z := by
  unfold State.calDwell
  repeat' first
    | with_reducible assumption
    | ((try lift_lets -underBinder); intro s1; refine have_good (z := z) (s := s1) ?_ (fun h1 => ?_) <;> [subst s1; try clear_value s1])
    | ((try lift_lets -underBinder); intro x1; first | (have f1 : ∀ _, _ := x1; clear f1) | clear_value x1)
    | with_reducible apply State.modRun_good
    | with_reducible apply ite_good
    | split
    | fail_if_no_progress (with_reducible apply good_mk; with_reducible apply good_of)

theorem State.calJudge_good {z : Lasting} {s : State} (req : CalReq) (res : List W32 × W32 × Bool) (hs : s.Good z) : (State.calJudge s req res).Good z := by
  unfold State.calJudge
  repeat' first
    | with_reducible assumption
    | ((try lift_lets -underBinder); intro s1; refine have_good (z := z) (s := s1) ?_ (fun h1 => ?_) <;> [subst s1; try clear_value s1])
    | ((try lift_lets -underBinder); intro x1; first | (have f1 : ∀ _, _ := x1; clear f1) | clear_value x1)
    | with_reducible apply State.calResult_good
    | with_reducible apply State.calRelease_good
    | with_reducible apply State.setCCal_good
    | with_reducible apply State.acceptSense_good
    | with_reducible apply State.acceptSet_good
    | with_reducible apply State.setCorr_good
    | with_reducible apply State.raise_good
    | with_reducible apply ite_good
    | split
    | fail_if_no_progress (with_reducible apply good_mk; with_reducible apply good_of)

theorem State.calRunEnd_good {z : Lasting} {s : State} (c : Nat) (hs : s.Good z) : (State.calRunEnd s c).Good z := by
  unfold State.calRunEnd
  repeat' first
    | with_reducible assumption
    | ((try lift_lets -underBinder); intro s1; refine have_good (z := z) (s := s1) ?_ (fun h1 => ?_) <;> [subst s1; try clear_value s1])
    | ((try lift_lets -underBinder); intro x1; first | (have f1 : ∀ _, _ := x1; clear f1) | clear_value x1)
    | with_reducible apply State.restArms_good
    | with_reducible apply State.calJudge_good
    | with_reducible apply ite_good
    | split
    | fail_if_no_progress (with_reducible apply good_mk; with_reducible apply good_of)

theorem State.senseStep_good {z : Lasting} {s : State} (ch : Nat) (hs : s.Good z) : (State.senseStep s ch).Good z := by
  unfold State.senseStep
  repeat' first
    | with_reducible assumption
    | ((try lift_lets -underBinder); intro s1; refine have_good (z := z) (s := s1) ?_ (fun h1 => ?_) <;> [subst s1; try clear_value s1])
    | ((try lift_lets -underBinder); intro x1; first | (have f1 : ∀ _, _ := x1; clear f1) | clear_value x1)
    | with_reducible apply State.modRun_good
    | with_reducible apply State.senseInput_good
    | with_reducible apply ite_good
    | split

theorem State.senseRunEnd_good {z : Lasting} {s : State} (ch : Nat) (hs : s.Good z) : (State.senseRunEnd s ch).Good z := by
  unfold State.senseRunEnd
  repeat' first
    | with_reducible assumption
    | ((try lift_lets -underBinder); intro s1; refine have_good (z := z) (s := s1) ?_ (fun h1 => ?_) <;> [subst s1; try clear_value s1])
    | ((try lift_lets -underBinder); intro x1; first | (have f1 : ∀ _, _ := x1; clear f1) | clear_value x1)
    | with_reducible apply State.calJudge_good
    | with_reducible apply State.senseInput_good
    | with_reducible apply ite_good
    | split
    | fail_if_no_progress (with_reducible apply good_mk; with_reducible apply good_of)

theorem State.passiveClear_good {z : Lasting} {s : State} (c : Nat) (hs : s.Good z) : (State.passiveClear s c).Good z := by
  unfold State.passiveClear
  repeat' first
    | with_reducible assumption
    | with_reducible apply State.setCCal_good

theorem State.passiveCell_good {z : Lasting} {s : State} (c : Nat) (hs : s.Good z) : (State.passiveCell s c).Good z := by
  unfold State.passiveCell
  repeat' first
    | with_reducible assumption
    | ((try lift_lets -underBinder); intro s1; refine have_good (z := z) (s := s1) ?_ (fun h1 => ?_) <;> [subst s1; try clear_value s1])
    | ((try lift_lets -underBinder); intro x1; first | (have f1 : ∀ _, _ := x1; clear f1) | clear_value x1)
    | with_reducible apply State.passiveClear_good
    | with_reducible apply State.setCCal_good
    | with_reducible apply State.setCw_good
    | with_reducible apply State.acceptSet_good
    | with_reducible apply ite_good
    | split
    | fail_if_no_progress (with_reducible apply good_mk; with_reducible apply good_of)

theorem State.passiveAll_good {z : Lasting} {s : State} (hs : s.Good z) : (State.passiveAll s).Good z := by
  unfold State.passiveAll
  repeat' first
    | with_reducible assumption
    | refine fun _ => ?_
    | with_reducible apply State.passiveCell_good
    | with_reducible apply ite_good
    | with_reducible apply forEach_good

theorem State.calSubmit_good {z : Lasting} {s : State} (obj : Nat) (sense : Bool) (hs : s.Good z) : (State.calSubmit s obj sense).Good z := by
  unfold State.calSubmit
  repeat' first
    | with_reducible assumption
    | ((try lift_lets -underBinder); intro s1; refine have_good (z := z) (s := s1) ?_ (fun h1 => ?_) <;> [subst s1; try clear_value s1])
    | ((try lift_lets -underBinder); intro x1; first | (have f1 : ∀ _, _ := x1; clear f1) | clear_value x1)
    | with_reducible apply State.wr_good
    | with_reducible apply ite_good
    | fail_if_no_progress (with_reducible apply good_mk; with_reducible apply good_of)

theorem State.calDrop_good {z : Lasting} {s : State} (r : CalReq) (outcome : Nat) (hs : s.Good z) : (State.calDrop s r outcome).Good z := by
  unfold State.calDrop
  repeat' first
    | with_reducible assumption
    | with_reducible apply State.calEnd_good
    | with_reducible apply State.calRelease_good
    | with_reducible apply ite_good

theorem State.calStart_good {z : Lasting} {s : State} (hs : s.Good z) : (State.calStart s).Good z := by
  unfold State.calStart
  repeat' first
    | with_reducible assumption
    | ((try lift_lets -underBinder); intro x1; first | (have f1 : ∀ _, _ := x1; clear f1) | clear_value x1)
    | with_reducible apply State.calDrop_good
    | with_reducible apply State.calBegin_good
    | with_reducible apply ite_good
    | split
    | fail_if_no_progress (with_reducible apply good_mk; with_reducible apply good_of)

theorem State.calAbortAll_good {z : Lasting} {s : State} (hs : s.Good z) : (State.calAbortAll s).Good z := by
  unfold State.calAbortAll
  repeat' first
    | with_reducible assumption
    | refine fun _ => ?_
    | ((try lift_lets -underBinder); intro s1; refine have_good (z := z) (s := s1) ?_ (fun h1 => ?_) <;> [subst s1; try clear_value s1])
    | ((try lift_lets -underBinder); intro x1; first | (have f1 : ∀ _, _ := x1; clear f1) | clear_value x1)
    | with_reducible apply State.calStop_good
    | with_reducible apply State.calDrop_good
    | with_reducible apply forEach_good
    | fail_if_no_progress (with_reducible apply good_mk; with_reducible apply good_of)

theorem State.blendStart_good {z : Lasting} {s : State} (hs : s.Good z) : (State.blendStart s).Good z := by
  unfold State.blendStart
  repeat' first
    | with_reducible assumption
    | ((try lift_lets -underBinder); intro x1; first | (have f1 : ∀ _, _ := x1; clear f1) | clear_value x1)
    | with_reducible apply ite_good
    | split
    | fail_if_no_progress (with_reducible apply good_mk; with_reducible apply good_of)

end Sys2Proof.Machine
end

