-- ==== Sys2Proof/Laws/GoodDriveOps.lean ====
section
/-! SUPPORT. Every operation of Machine/DriveOps.lean keeps a sound state sound and, but for those named _ok, the fuses and the
flash as they are. -/

namespace Sys2Proof.Machine

theorem State.driveFault_good {z : Lasting} {s : State} (ch : Nat) (cause : Nat) (hs : s.Good z) : (State.driveFault s ch cause).Good z := by
  unfold State.driveFault
  repeat' first
    | with_reducible assumption
    | ((try lift_lets -underBinder); intro s1; refine have_good (z := z) (s := s1) ?_ (fun h1 => ?_) <;> [subst s1; try clear_value s1])
    | with_reducible apply State.wrB_good
    | with_reducible apply State.wr_good
    | with_reducible apply State.raise_good
    | with_reducible apply ite_good

theorem State.driveHold_good {z : Lasting} {s : State} (ch : Nat) (cause : Nat) (hs : s.Good z) : (State.driveHold s ch cause).Good z := by
  unfold State.driveHold
  repeat' first
    | with_reducible assumption
    | ((try lift_lets -underBinder); intro s1; refine have_good (z := z) (s := s1) ?_ (fun h1 => ?_) <;> [subst s1; try clear_value s1])
    | with_reducible apply State.setDCtrl_good
    | with_reducible apply State.wr_good
    | with_reducible apply State.driveFault_good
    | with_reducible apply ite_good

theorem State.driveOk_good {z : Lasting} {s : State} (ch : Nat) (hs : s.Good z) : (State.driveOk s ch).Good z := by
  unfold State.driveOk
  repeat' first
    | with_reducible assumption
    | with_reducible apply State.wr_good
    | with_reducible apply State.setDCtrl_good
    | with_reducible apply ite_good

theorem State.reseed_good {z : Lasting} {s : State} (ch : Nat) (hs : s.Good z) : (State.reseed s ch).Good z := by
  unfold State.reseed
  repeat' first
    | with_reducible assumption
    | with_reducible apply State.st_good
    | with_reducible apply State.setDI16_good

theorem State.modulate_good {z : Lasting} {s : State} (ch : Nat) (hs : s.Good z) : (State.modulate s ch).Good z := by
  unfold State.modulate
  repeat' first
    | with_reducible assumption
    | ((try lift_lets -underBinder); intro s1; refine have_good (z := z) (s := s1) ?_ (fun h1 => ?_) <;> [subst s1; try clear_value s1])
    | with_reducible apply State.st_good
    | with_reducible apply State.setDw_good
    | with_reducible apply State.reseed_good
    | with_reducible apply State.driveFault_good
    | with_reducible apply State.setDI16_good
    | with_reducible apply State.inc_good
    | with_reducible apply ite_good
    | split

theorem State.keepWrite_good {z : Lasting} {s : State} {u : State} (ch : Nat) (hs : s.Good z) (hu : u.Good z) : (State.keepWrite s u ch).Good z := by
  unfold State.keepWrite
  repeat' first
    | with_reducible assumption
    | ((try lift_lets -underBinder); intro x1; first | (have f1 : ∀ _, _ := x1; clear f1) | clear_value x1)
    | with_reducible apply ite_good
    | fail_if_no_progress (with_reducible apply good_mk; with_reducible apply good_of)

theorem State.armStage_good {z : Lasting} {s : State} (ch : Nat) (a : ArmOut) (hs : s.Good z) : (State.armStage s ch a).Good z := by
  unfold State.armStage
  repeat' first
    | with_reducible assumption
    | ((try lift_lets -underBinder); intro s1; refine have_good (z := z) (s := s1) ?_ (fun h1 => ?_) <;> [subst s1; try clear_value s1])
    | ((try lift_lets -underBinder); intro x1; first | (have f1 : ∀ _, _ := x1; clear f1) | clear_value x1)
    | with_reducible apply State.driveHold_good
    | with_reducible apply State.driveOk_good
    | with_reducible apply State.inc_good
    | with_reducible apply State.st_good
    | with_reducible apply State.setDI16_good
    | with_reducible apply State.setDw_good
    | with_reducible apply State.loadAct_good
    | with_reducible apply ite_good
    | split

theorem State.cellStages_good {z : Lasting} {s : State} (c : Nat) (P : Nat) (hs : s.Good z) : (State.cellStages s c P).Good z := by
  unfold State.cellStages
  repeat' first
    | with_reducible assumption
    | ((try lift_lets -underBinder); intro s1; refine have_good (z := z) (s := s1) ?_ (fun h1 => ?_) <;> [subst s1; try clear_value s1])
    | ((try lift_lets -underBinder); intro x1; first | (have f1 : ∀ _, _ := x1; clear f1) | clear_value x1)
    | with_reducible apply State.setDw_good
    | with_reducible apply State.driveFault_good
    | with_reducible apply State.setCmd_good
    | with_reducible apply State.armStage_good
    | with_reducible apply ite_good

theorem State.toFault_good {z : Lasting} {s : State} (ch : Nat) (hs : s.Good z) : (State.toFault s ch).Good z := by
  unfold State.toFault
  repeat' first
    | with_reducible assumption
    | ((try lift_lets -underBinder); intro x1; first | (have f1 : ∀ _, _ := x1; clear f1) | clear_value x1)
    | with_reducible apply State.toRest_good
    | with_reducible apply State.st_good
    | with_reducible apply ite_good

theorem State.strobesPast_good {z : Lasting} {s : State} (hs : s.Good z) : (State.strobesPast s).Good z := by
  unfold State.strobesPast
  repeat' first
    | with_reducible assumption
    | ((try lift_lets -underBinder); intro x1; first | (have f1 : ∀ _, _ := x1; clear f1) | clear_value x1)
    | fail_if_no_progress (with_reducible apply good_mk; with_reducible apply good_of)

theorem State.takeSetpoints_good {z : Lasting} {s : State} (hs : s.Good z) : (State.takeSetpoints s).Good z := by
  unfold State.takeSetpoints
  repeat' first
    | with_reducible assumption
    | ((try lift_lets -underBinder); intro x1; first | (have f1 : ∀ _, _ := x1; clear f1) | clear_value x1)
    | fail_if_no_progress (with_reducible apply good_mk; with_reducible apply good_of)

theorem State.cellFrame_good {z : Lasting} {s : State} (P : Nat) (strobing : List Nat) (c : Nat) (hs : s.Good z) : (State.cellFrame s P strobing c).Good z := by
  unfold State.cellFrame
  repeat' first
    | with_reducible assumption
    | ((try lift_lets -underBinder); intro s1; refine have_good (z := z) (s := s1) ?_ (fun h1 => ?_) <;> [subst s1; try clear_value s1])
    | with_reducible apply State.cellStages_good
    | with_reducible apply State.modulate_good
    | with_reducible apply ite_good

theorem State.shutterFrame_good {z : Lasting} {s : State} (ch : Nat) (hs : s.Good z) : (State.shutterFrame s ch).Good z := by
  unfold State.shutterFrame
  repeat' first
    | with_reducible assumption
    | ((try lift_lets -underBinder); intro s1; refine have_good (z := z) (s := s1) ?_ (fun h1 => ?_) <;> [subst s1; try clear_value s1])
    | ((try lift_lets -underBinder); intro x1; first | (have f1 : ∀ _, _ := x1; clear f1) | clear_value x1)
    | with_reducible apply State.setDI16_good
    | with_reducible apply State.modulate_good
    | with_reducible apply State.loadAct_good
    | with_reducible apply ite_good

theorem State.driveFrame_good {z : Lasting} {s : State} (num : Nat) (hs : s.Good z) : (State.driveFrame s num).Good z := by
  unfold State.driveFrame
  repeat' first
    | with_reducible assumption
    | refine fun _ => ?_
    | ((try lift_lets -underBinder); intro s1; refine have_good (z := z) (s := s1) ?_ (fun h1 => ?_) <;> [subst s1; try clear_value s1])
    | ((try lift_lets -underBinder); intro x1; first | (have f1 : ∀ _, _ := x1; clear f1) | clear_value x1)
    | with_reducible apply State.strobesPast_good
    | with_reducible apply State.toFault_good
    | with_reducible apply State.takeSetpoints_good
    | with_reducible apply State.cellFrame_good
    | with_reducible apply State.rampsEnd_good
    | with_reducible apply State.shutterFrame_good
    | with_reducible apply ite_good
    | with_reducible apply forEach_good

theorem State.driveRebuild_good {z : Lasting} {s : State} (ch : Nat) (hs : s.Good z) : (State.driveRebuild s ch).Good z := by
  unfold State.driveRebuild
  repeat' first
    | with_reducible assumption
    | ((try lift_lets -underBinder); intro s1; refine have_good (z := z) (s := s1) ?_ (fun h1 => ?_) <;> [subst s1; try clear_value s1])
    | ((try lift_lets -underBinder); intro x1; first | (have f1 : ∀ _, _ := x1; clear f1) | clear_value x1)
    | with_reducible apply State.stZero_good
    | with_reducible apply State.driveOk_good
    | with_reducible apply State.st_good
    | with_reducible apply State.setDw_good
    | with_reducible apply State.armStage_good
    | with_reducible apply State.toRest_good
    | with_reducible apply State.loadAct_good
    | with_reducible apply State.setDI16_good
    | with_reducible apply State.setDCtrl_good
    | with_reducible apply ite_good
    | fail_if_no_progress (with_reducible apply good_mk; with_reducible apply good_of)

end Sys2Proof.Machine
end

