-- ==== Sys2Proof/Laws/GoodLayOps.lean ====
section
/-! SUPPORT. Every operation of Machine/LayOps.lean keeps a sound state sound and, but for those named _ok, the fuses and the
flash as they are. -/

namespace Sys2Proof.Machine

theorem State.layRecord_good {z : Lasting} {s : State} (r : LayRec) (hs : s.Good z) : (State.layRecord s r).Good z := by
  unfold State.layRecord
  repeat' first
    | with_reducible assumption
    | ((try lift_lets -underBinder); intro s1; refine have_good (z := z) (s := s1) ?_ (fun h1 => ?_) <;> [subst s1; try clear_value s1])
    | ((try lift_lets -underBinder); intro x1; first | (have f1 : ∀ _, _ := x1; clear f1) | clear_value x1)
    | with_reducible apply State.wrB_good
    | with_reducible apply State.wr_good
    | with_reducible apply State.monOffer_good
    | with_reducible apply ite_good
    | fail_if_no_progress (with_reducible apply good_mk; with_reducible apply good_of)

theorem State.markTo_good {z : Lasting} {s : State} (state : Nat) (hs : s.Good z) : (State.markTo s state).Good z := by
  unfold State.markTo
  repeat' first
    | with_reducible assumption
    | ((try lift_lets -underBinder); intro x1; first | (have f1 : ∀ _, _ := x1; clear f1) | clear_value x1)
    | with_reducible apply State.ckptTouch_good
    | fail_if_no_progress (with_reducible apply good_mk; with_reducible apply good_of)

theorem State.markStaged_good {z : Lasting} {s : State} (x : Epoch) (st : StagedLay) (hs : s.Good z) : (State.markStaged s x st).Good z := by
  unfold State.markStaged
  repeat' first
    | with_reducible assumption
    | ((try lift_lets -underBinder); intro x1; first | (have f1 : ∀ _, _ := x1; clear f1) | clear_value x1)
    | with_reducible apply State.markTo_good
    | with_reducible apply State.ckptTouch_good
    | fail_if_no_progress (with_reducible apply good_mk; with_reducible apply good_of)

theorem State.markNext_good {z : Lasting} {s : State} (hs : s.Good z) : (State.markNext s).Good z := by
  unfold State.markNext
  repeat' first
    | with_reducible assumption
    | with_reducible apply State.markStaged_good
    | with_reducible apply ite_good
    | split

theorem State.markState_good {z : Lasting} {s : State} (e : W32) (state : Nat) (hs : s.Good z) : (State.markState s e state).Good z := by
  unfold State.markState
  repeat' first
    | with_reducible assumption
    | ((try lift_lets -underBinder); intro s1; refine have_good (z := z) (s := s1) ?_ (fun h1 => ?_) <;> [subst s1; try clear_value s1])
    | with_reducible apply State.markTo_good
    | with_reducible apply State.markNext_good
    | with_reducible apply ite_good

theorem State.armCells_good {z : Lasting} {s : State} (m : List Host.Cell) (t : W32) (cells : List (Nat × Nat)) (hs : s.Good z) : (State.armCells s m t cells).Good z := by
  unfold State.armCells
  repeat' first
    | with_reducible assumption
    | refine fun _ => ?_
    | ((try lift_lets -underBinder); intro f1; refine have_fun3 (z := z) (f := f1) ?_ (fun hf1 => ?_) <;> [subst f1; try clear_value f1])
    | ((try lift_lets -underBinder); intro x1; first | (have f1 : ∀ _, _ := x1; clear f1) | clear_value x1)
    | with_reducible apply hf1
    | with_reducible apply State.setDCtrl_good
    | with_reducible apply State.setDI16_good
    | with_reducible apply ite_good
    | with_reducible apply forEach_good

theorem State.disarmCells_good {z : Lasting} {s : State} (cells : List Nat) (hs : s.Good z) : (State.disarmCells s cells).Good z := by
  unfold State.disarmCells
  repeat' first
    | with_reducible assumption
    | refine fun _ => ?_
    | with_reducible apply State.setDCtrl_good
    | with_reducible apply forEach_good

theorem State.layRefuse_good {z : Lasting} {s : State} (x : Epoch) (cmds : Status) (outcome : Nat) (detail : Nat) (hs : s.Good z) : (State.layRefuse s x cmds outcome detail).Good z := by
  unfold State.layRefuse
  repeat' first
    | with_reducible assumption
    | with_reducible apply State.abortEpoch_good
    | with_reducible apply State.layRecord_good

theorem State.stage_good {z : Lasting} {s : State} (x : Epoch) (slot : Fin 16) (hs : s.Good z) : (State.stage s x slot).Good z := by
  unfold State.stage
  repeat' first
    | with_reducible assumption
    | refine fun _ => ?_
    | ((try lift_lets -underBinder); intro s1; refine have_good (z := z) (s := s1) ?_ (fun h1 => ?_) <;> [subst s1; try clear_value s1])
    | ((try lift_lets -underBinder); intro x1; first | (have f1 : ∀ _, _ := x1; clear f1) | clear_value x1)
    | with_reducible apply State.layRefuse_good
    | with_reducible apply State.setSlot_good
    | with_reducible apply State.modEpoch_good
    | with_reducible apply State.setCw_good
    | with_reducible apply State.calStop_good
    | with_reducible apply State.markNext_good
    | with_reducible apply State.armCells_good
    | with_reducible apply ite_good
    | with_reducible apply forEach_good
    | fail_if_no_progress (with_reducible apply good_mk; with_reducible apply good_of)

theorem State.latency_good {z : Lasting} {s : State} (before : List (Nat × Nat × Int)) (hs : s.Good z) : (State.latency s before).2.Good z := by
  unfold State.latency
  repeat' first
    | with_reducible assumption
    | ((try lift_lets -underBinder); intro x1; first | (have f1 : ∀ _, _ := x1; clear f1) | clear_value x1)
    | with_reducible apply State.nsRound_good
    | split

theorem State.setLay_good {z : Lasting} {s : State} (l : Lay) (hs : s.Good z) : (State.setLay s l).Good z := by
  unfold State.setLay
  repeat' first
    | with_reducible assumption
    | ((try lift_lets -underBinder); intro x1; first | (have f1 : ∀ _, _ := x1; clear f1) | clear_value x1)
    | fail_if_no_progress (with_reducible apply good_mk; with_reducible apply good_of)

theorem State.dispatchF0_good {z : Lasting} {s : State} (l : Lay) (close : List Nat) (opens : List Nat) (wasOpen : List Nat) (hs : s.Good z) : (State.dispatchF0 s l close opens wasOpen).Good z := by
  unfold State.dispatchF0
  repeat' first
    | with_reducible assumption
    | refine fun _ => ?_
    | ((try lift_lets -underBinder); intro s1; refine have_good (z := z) (s := s1) ?_ (fun h1 => ?_) <;> [subst s1; try clear_value s1])
    | ((try lift_lets -underBinder); intro s1; refine have_snd (z := z) (p := s1) ?_ (fun h1 => ?_) <;> [subst s1; try clear_value s1])
    | ((try lift_lets -underBinder); intro x1; first | (have f1 : ∀ _, _ := x1; clear f1) | clear_value x1)
    | with_reducible apply State.closeShutter_good
    | with_reducible apply State.openShutter_good
    | with_reducible apply State.latency_good
    | with_reducible apply State.wr_good
    | with_reducible apply State.setLay_good
    | with_reducible apply forEach_good

theorem State.beginLay_good {z : Lasting} {s : State} (x : Epoch) (st : StagedLay) (hs : s.Good z) : (State.beginLay s x st).Good z := by
  unfold State.beginLay
  repeat' first
    | with_reducible assumption
    | ((try lift_lets -underBinder); intro s1; refine have_good (z := z) (s := s1) ?_ (fun h1 => ?_) <;> [subst s1; try clear_value s1])
    | ((try lift_lets -underBinder); intro x1; first | (have f1 : ∀ _, _ := x1; clear f1) | clear_value x1)
    | with_reducible apply State.touchPass_good
    | with_reducible apply State.modEpoch_good
    | with_reducible apply State.dispatchF0_good
    | fail_if_no_progress (with_reducible apply good_mk; with_reducible apply good_of)

theorem State.strobeCell_good {z : Lasting} {s : State} (m : List Host.Cell) (t : W32) (frame : Nat) (c : Nat × Nat) (hs : s.Good z) : (State.strobeCell s m t frame c).Good z := by
  unfold State.strobeCell
  repeat' first
    | with_reducible assumption
    | refine fun _ => ?_
    | ((try lift_lets -underBinder); intro s1; refine have_good (z := z) (s := s1) ?_ (fun h1 => ?_) <;> [subst s1; try clear_value s1])
    | ((try lift_lets -underBinder); intro x1; first | (have f1 : ∀ _, _ := x1; clear f1) | clear_value x1)
    | with_reducible apply State.actuate_good
    | with_reducible apply State.noteStep_good
    | with_reducible apply State.setCCtrl_good
    | with_reducible apply State.leavePowerUp_good
    | with_reducible apply State.rephase_good
    | with_reducible apply State.disarmCells_good
    | with_reducible apply State.driveHold_good
    | with_reducible apply State.loadAct_good
    | with_reducible apply State.setDw_good
    | with_reducible apply State.setDI16_good
    | with_reducible apply State.driveOk_good
    | with_reducible apply State.setCmd_good
    | with_reducible apply State.toRest_good
    | with_reducible apply State.setCStat_good
    | with_reducible apply State.setCellInj_good
    | with_reducible apply State.capEnd_good
    | with_reducible apply ite_good
    | with_reducible apply forEach_good
    | split
    | fail_if_no_progress (with_reducible apply good_mk; with_reducible apply good_of)
    | dsimp only

theorem State.strobe_good {z : Lasting} {s : State} (l : Lay) (hs : s.Good z) : (State.strobe s l).Good z := by
  unfold State.strobe
  repeat' first
    | with_reducible assumption
    | refine fun _ => ?_
    | ((try lift_lets -underBinder); intro s1; refine have_good (z := z) (s := s1) ?_ (fun h1 => ?_) <;> [subst s1; try clear_value s1])
    | ((try lift_lets -underBinder); intro s1; refine have_snd (z := z) (p := s1) ?_ (fun h1 => ?_) <;> [subst s1; try clear_value s1])
    | ((try lift_lets -underBinder); intro x1; first | (have f1 : ∀ _, _ := x1; clear f1) | clear_value x1)
    | with_reducible apply State.setLay_good
    | with_reducible apply State.strobeCell_good
    | with_reducible apply State.restIdle_good
    | with_reducible apply State.armCells_good
    | with_reducible apply State.latency_good
    | with_reducible apply State.markState_good
    | with_reducible apply ite_good
    | with_reducible apply forEach_good
    | fail_if_no_progress (with_reducible apply good_mk; with_reducible apply good_of)

theorem State.setMode_good {z : Lasting} {s : State} (c : Nat) (m : Nat) (hs : s.Good z) : (State.setMode s c m).Good z := by
  unfold State.setMode
  repeat' first
    | with_reducible assumption
    | ((try lift_lets -underBinder); intro s1; refine have_good (z := z) (s := s1) ?_ (fun h1 => ?_) <;> [subst s1; try clear_value s1])
    | ((try lift_lets -underBinder); intro x1; first | (have f1 : ∀ _, _ := x1; clear f1) | clear_value x1)
    | with_reducible apply State.setCCtrl_good
    | with_reducible apply State.presetCell_good
    | with_reducible apply State.setCStat_good
    | with_reducible apply ite_good

theorem State.presetInstr_good {z : Lasting} {s : State} (c : Nat) (fb : Option W32) (hs : s.Good z) : (State.presetInstr s c fb).Good z := by
  unfold State.presetInstr
  repeat' first
    | with_reducible assumption
    | ((try lift_lets -underBinder); intro s1; refine have_good (z := z) (s := s1) ?_ (fun h1 => ?_) <;> [subst s1; try clear_value s1])
    | with_reducible apply State.presetCell_good
    | with_reducible apply State.setCw_good
    | with_reducible apply ite_good
    | split

theorem State.applyDeferred_good {z : Lasting} {s : State} (d : DeferredInstr) (hs : s.Good z) : (State.applyDeferred s d).Good z := by
  unfold State.applyDeferred
  repeat' first
    | with_reducible assumption
    | with_reducible apply State.setMode_good
    | with_reducible apply State.presetInstr_good
    | with_reducible apply State.setCellInj_good
    | split

theorem State.flushDeferred_good {z : Lasting} {s : State} (hs : s.Good z) : (State.flushDeferred s).Good z := by
  unfold State.flushDeferred
  repeat' first
    | with_reducible assumption
    | refine fun _ => ?_
    | ((try lift_lets -underBinder); intro s1; refine have_good (z := z) (s := s1) ?_ (fun h1 => ?_) <;> [subst s1; try clear_value s1])
    | ((try lift_lets -underBinder); intro x1; first | (have f1 : ∀ _, _ := x1; clear f1) | clear_value x1)
    | with_reducible apply State.applyDeferred_good
    | with_reducible apply forEach_good
    | fail_if_no_progress (with_reducible apply good_mk; with_reducible apply good_of)

theorem State.handBack_good {z : Lasting} {s : State} (l : Lay) (hs : s.Good z) : (State.handBack s l).Good z := by
  unfold State.handBack
  repeat' first
    | with_reducible assumption
    | refine fun _ => ?_
    | ((try lift_lets -underBinder); intro s1; refine have_good (z := z) (s := s1) ?_ (fun h1 => ?_) <;> [subst s1; try clear_value s1])
    | ((try lift_lets -underBinder); intro x1; first | (have f1 : ∀ _, _ := x1; clear f1) | clear_value x1)
    | with_reducible apply State.setLay_good
    | with_reducible apply State.setCellInj_good
    | with_reducible apply State.setCCtrl_good
    | with_reducible apply State.presetCell_good
    | with_reducible apply State.setCStat_good
    | with_reducible apply State.flushDeferred_good
    | with_reducible apply forEach_good

theorem State.settleCheck_good {z : Lasting} {s : State} (l : Lay) (hs : s.Good z) : (State.settleCheck s l).Good z := by
  unfold State.settleCheck
  repeat' first
    | with_reducible assumption
    | refine fun _ => ?_
    | ((try lift_lets -underBinder); intro s1; refine have_good (z := z) (s := s1) ?_ (fun h1 => ?_) <;> [subst s1; try clear_value s1])
    | ((try lift_lets -underBinder); intro x1; first | (have f1 : ∀ _, _ := x1; clear f1) | clear_value x1)
    | with_reducible apply State.monOffer_good
    | with_reducible apply State.setLay_good
    | with_reducible apply State.raise_good
    | with_reducible apply ite_good
    | with_reducible apply forEach_good

theorem State.breakToMake_good {z : Lasting} {s : State} (c : Nat × Nat) (n : Nat) (hs : s.Good z) : (State.breakToMake s c n).2.Good z := by
  unfold State.breakToMake
  repeat' first
    | with_reducible assumption
    | ((try lift_lets -underBinder); intro x1; first | (have f1 : ∀ _, _ := x1; clear f1) | clear_value x1)
    | with_reducible apply State.nsRound_good

theorem State.unblank_good {z : Lasting} {s : State} (l : Lay) (hs : s.Good z) : (State.unblank s l).Good z := by
  unfold State.unblank
  repeat' first
    | with_reducible assumption
    | refine fun _ => ?_
    | ((try lift_lets -underBinder); intro s1; refine have_good (z := z) (s := s1) ?_ (fun h1 => ?_) <;> [subst s1; try clear_value s1])
    | ((try lift_lets -underBinder); intro s1; refine have_snd (z := z) (p := s1) ?_ (fun h1 => ?_) <;> [subst s1; try clear_value s1])
    | ((try lift_lets -underBinder); intro x1; first | (have f1 : ∀ _, _ := x1; clear f1) | clear_value x1)
    | with_reducible apply State.breakToMake_good
    | with_reducible apply State.openShutter_good
    | with_reducible apply State.monOffer_good
    | with_reducible apply State.setLay_good
    | with_reducible apply ite_good
    | with_reducible apply forEach_good
    | split

theorem State.safeEnds_good {z : Lasting} {s : State} (hs : s.Good z) : (State.safeEnds s).Good z := by
  unfold State.safeEnds
  repeat' first
    | with_reducible assumption
    | ((try lift_lets -underBinder); intro x1; first | (have f1 : ∀ _, _ := x1; clear f1) | clear_value x1)
    | with_reducible apply ite_good
    | fail_if_no_progress (with_reducible apply good_mk; with_reducible apply good_of)

theorem State.completeLay_good {z : Lasting} {s : State} (l : Lay) (M : Nat) (hs : s.Good z) : (State.completeLay s l M).Good z := by
  unfold State.completeLay
  repeat' first
    | with_reducible assumption
    | ((try lift_lets -underBinder); intro s1; refine have_good (z := z) (s := s1) ?_ (fun h1 => ?_) <;> [subst s1; try clear_value s1])
    | ((try lift_lets -underBinder); intro x1; first | (have f1 : ∀ _, _ := x1; clear f1) | clear_value x1)
    | with_reducible apply State.layRecord_good
    | with_reducible apply State.landEpoch_good
    | with_reducible apply State.markState_good
    | with_reducible apply State.endPass_good
    | with_reducible apply State.fireHook_good
    | with_reducible apply State.safeEnds_good
    | with_reducible apply ite_good
    | split
    | fail_if_no_progress (with_reducible apply good_mk; with_reducible apply good_of)

theorem State.finishLay_good {z : Lasting} {s : State} (l : Lay) (hs : s.Good z) : (State.finishLay s l).Good z := by
  unfold State.finishLay
  repeat' first
    | with_reducible assumption
    | ((try lift_lets -underBinder); intro s1; refine have_good (z := z) (s := s1) ?_ (fun h1 => ?_) <;> [subst s1; try clear_value s1])
    | with_reducible apply State.unblank_good
    | with_reducible apply State.passTo_good
    | with_reducible apply State.completeLay_good
    | split

theorem State.layDue_good {z : Lasting} {s : State} (hs : s.Good z) : (State.layDue s).Good z := by
  unfold State.layDue
  repeat' first
    | with_reducible assumption
    | ((try lift_lets -underBinder); intro s1; refine have_good (z := z) (s := s1) ?_ (fun h1 => ?_) <;> [subst s1; try clear_value s1])
    | with_reducible apply State.strobe_good
    | with_reducible apply State.finishLay_good
    | with_reducible apply ite_good
    | split

theorem State.laggingCheck_good {z : Lasting} {s : State} (f : Nat) (hs : s.Good z) : (State.laggingCheck s f).Good z := by
  unfold State.laggingCheck
  repeat' first
    | with_reducible assumption
    | refine fun _ => ?_
    | ((try lift_lets -underBinder); intro s1; refine have_good (z := z) (s := s1) ?_ (fun h1 => ?_) <;> [subst s1; try clear_value s1])
    | ((try lift_lets -underBinder); intro x1; first | (have f1 : ∀ _, _ := x1; clear f1) | clear_value x1)
    | with_reducible apply State.monOffer_good
    | with_reducible apply forEach_good
    | fail_if_no_progress (with_reducible apply good_mk; with_reducible apply good_of)

theorem State.laggingOpen_good {z : Lasting} {s : State} (frame : Nat) (hs : s.Good z) : (State.laggingOpen s frame).Good z := by
  unfold State.laggingOpen
  repeat' first
    | with_reducible assumption
    | refine fun _ => ?_
    | ((try lift_lets -underBinder); intro s1; refine have_good (z := z) (s := s1) ?_ (fun h1 => ?_) <;> [subst s1; try clear_value s1])
    | ((try lift_lets -underBinder); intro s1; refine have_snd (z := z) (p := s1) ?_ (fun h1 => ?_) <;> [subst s1; try clear_value s1])
    | ((try lift_lets -underBinder); intro x1; first | (have f1 : ∀ _, _ := x1; clear f1) | clear_value x1)
    | with_reducible apply State.openShutter_good
    | with_reducible apply State.breakToMake_good
    | with_reducible apply State.monOffer_good
    | with_reducible apply ite_good
    | with_reducible apply forEach_good
    | fail_if_no_progress (with_reducible apply good_mk; with_reducible apply good_of)

theorem State.withdrawLay_good {z : Lasting} {s : State} (l : Lay) (outcome : Nat) (detail : Nat) (hs : s.Good z) : (State.withdrawLay s l outcome detail).Good z := by
  unfold State.withdrawLay
  repeat' first
    | with_reducible assumption
    | refine fun _ => ?_
    | ((try lift_lets -underBinder); intro s1; refine have_good (z := z) (s := s1) ?_ (fun h1 => ?_) <;> [subst s1; try clear_value s1])
    | ((try lift_lets -underBinder); intro x1; first | (have f1 : ∀ _, _ := x1; clear f1) | clear_value x1)
    | with_reducible apply State.openShutter_good
    | with_reducible apply State.flushDeferred_good
    | with_reducible apply State.disarmCells_good
    | with_reducible apply State.fireHook_good
    | with_reducible apply State.layRecord_good
    | with_reducible apply State.markState_good
    | with_reducible apply State.abortEpoch_good
    | with_reducible apply forEach_good
    | fail_if_no_progress (with_reducible apply good_mk; with_reducible apply good_of)

theorem State.interruptLay_good {z : Lasting} {s : State} (stream : Bool) (lane : Bool) (hs : s.Good z) : (State.interruptLay s stream lane).Good z := by
  unfold State.interruptLay
  repeat' first
    | with_reducible assumption
    | ((try lift_lets -underBinder); intro s1; refine have_good (z := z) (s := s1) ?_ (fun h1 => ?_) <;> [subst s1; try clear_value s1])
    | ((try lift_lets -underBinder); intro x1; first | (have f1 : ∀ _, _ := x1; clear f1) | clear_value x1)
    | with_reducible apply State.layDue_good
    | with_reducible apply State.disarmCells_good
    | with_reducible apply State.fireHook_good
    | with_reducible apply State.layRecord_good
    | with_reducible apply State.abortPlain_good
    | with_reducible apply State.markState_good
    | with_reducible apply State.flushDeferred_good
    | with_reducible apply State.raise_good
    | with_reducible apply ite_good
    | split
    | fail_if_no_progress (with_reducible apply good_mk; with_reducible apply good_of)

theorem State.noteLayEn_good {z : Lasting} {s : State} (was : Bool) (hs : s.Good z) : (State.noteLayEn s was).Good z := by
  unfold State.noteLayEn
  repeat' first
    | with_reducible assumption
    | ((try lift_lets -underBinder); intro x1; first | (have f1 : ∀ _, _ := x1; clear f1) | clear_value x1)
    | with_reducible apply ite_good
    | fail_if_no_progress (with_reducible apply good_mk; with_reducible apply good_of)

theorem State.beginRecovery_good {z : Lasting} {s : State} (r : Recovery) (hs : s.Good z) : (State.beginRecovery s r).Good z := by
  unfold State.beginRecovery
  repeat' first
    | with_reducible assumption
    | ((try lift_lets -underBinder); intro s1; refine have_good (z := z) (s := s1) ?_ (fun h1 => ?_) <;> [subst s1; try clear_value s1])
    | ((try lift_lets -underBinder); intro x1; first | (have f1 : ∀ _, _ := x1; clear f1) | clear_value x1)
    | with_reducible apply State.touchPass_good
    | with_reducible apply State.dispatchF0_good
    | with_reducible apply State.armCells_good
    | with_reducible apply State.disarmCells_good
    | fail_if_no_progress (with_reducible apply good_mk; with_reducible apply good_of)

theorem State.flushLays_good {z : Lasting} {s : State} (hs : s.Good z) : (State.flushLays s).Good z := by
  unfold State.flushLays
  repeat' first
    | with_reducible assumption
    | refine fun _ => ?_
    | ((try lift_lets -underBinder); intro s1; refine have_good (z := z) (s := s1) ?_ (fun h1 => ?_) <;> [subst s1; try clear_value s1])
    | ((try lift_lets -underBinder); intro x1; first | (have f1 : ∀ _, _ := x1; clear f1) | clear_value x1)
    | with_reducible apply State.layDue_good
    | with_reducible apply State.layRefuse_good
    | with_reducible apply State.withdrawLay_good
    | with_reducible apply State.inc_good
    | with_reducible apply ite_good
    | with_reducible apply forEach_good
    | split

end Sys2Proof.Machine
end

