-- ==== Sys2Proof/Laws/GoodStrandOps.lean ====
section
/-! SUPPORT. Every operation of Machine/StrandOps.lean keeps a sound state sound and, but for those named _ok, the fuses and the
flash as they are. -/

namespace Sys2Proof.Machine

theorem State.setLane_good {z : Lasting} {s : State} (n : Nat) (role : Nat) (logical : Nat) (hs : s.Good z) : (State.setLane s n role logical).Good z := by
  unfold State.setLane
  repeat' first
    | with_reducible assumption
    | with_reducible apply State.wr_good

theorem State.initLanes_good {z : Lasting} {s : State} (hs : s.Good z) : (State.initLanes s).Good z := by
  unfold State.initLanes
  repeat' first
    | with_reducible assumption
    | refine fun _ => ?_
    | ((try lift_lets -underBinder); intro s1; refine have_good (z := z) (s := s1) ?_ (fun h1 => ?_) <;> [subst s1; try clear_value s1])
    | with_reducible apply State.setLane_good
    | with_reducible apply State.wr_good
    | with_reducible apply ite_good
    | with_reducible apply forEach_good

theorem State.laneStatus_good {z : Lasting} {s : State} (hs : s.Good z) : (State.laneStatus s).Good z := by
  unfold State.laneStatus
  repeat' first
    | with_reducible assumption
    | ((try lift_lets -underBinder); intro s1; refine have_good (z := z) (s := s1) ?_ (fun h1 => ?_) <;> [subst s1; try clear_value s1])
    | with_reducible apply State.wrB_good
    | with_reducible apply State.wr_good
    | with_reducible apply State.levelEnd_good
    | with_reducible apply ite_good

theorem State.mgmtPush_good {z : Lasting} {s : State} (c : MgmtCmd) (hs : s.Good z) : (State.mgmtPush s c).Good z := by
  unfold State.mgmtPush
  repeat' first
    | with_reducible assumption
    | ((try lift_lets -underBinder); intro x1; first | (have f1 : ∀ _, _ := x1; clear f1) | clear_value x1)
    | fail_if_no_progress (with_reducible apply good_mk; with_reducible apply good_of)

theorem State.portCmd_good {z : Lasting} {s : State} (req : Bool) (hs : s.Good z) : (State.portCmd s req).Good z := by
  unfold State.portCmd
  repeat' first
    | with_reducible assumption
    | with_reducible apply State.mgmtPush_good

theorem State.mgmtReturn_good {z : Lasting} {s : State} (n : Nat) (hs : s.Good z) : (State.mgmtReturn s n).Good z := by
  unfold State.mgmtReturn
  repeat' first
    | with_reducible assumption
    | ((try lift_lets -underBinder); intro x1; first | (have f1 : ∀ _, _ := x1; clear f1) | clear_value x1)
    | fail_if_no_progress (with_reducible apply good_mk; with_reducible apply good_of)

theorem State.failLane_good {z : Lasting} {s : State} (n : Nat) (hs : s.Good z) : (State.failLane s n).Good z := by
  unfold State.failLane
  repeat' first
    | with_reducible assumption
    | ((try lift_lets -underBinder); intro s1; refine have_good (z := z) (s := s1) ?_ (fun h1 => ?_) <;> [subst s1; try clear_value s1])
    | ((try lift_lets -underBinder); intro x1; first | (have f1 : ∀ _, _ := x1; clear f1) | clear_value x1)
    | with_reducible apply State.setLane_good
    | with_reducible apply State.raise_good
    | with_reducible apply State.laneStatus_good
    | with_reducible apply State.mgmtReturn_good
    | with_reducible apply State.interruptLay_good
    | with_reducible apply ite_good
    | split
    | fail_if_no_progress (with_reducible apply good_mk; with_reducible apply good_of)

theorem State.assignLanes_good {z : Lasting} {s : State} (frame : Nat) (count : Nat) (hs : s.Good z) : (State.assignLanes s frame count).Good z := by
  unfold State.assignLanes
  repeat' first
    | with_reducible assumption
    | refine fun _ => ?_
    | ((try lift_lets -underBinder); intro s1; refine have_good (z := z) (s := s1) ?_ (fun h1 => ?_) <;> [subst s1; try clear_value s1])
    | ((try lift_lets -underBinder); intro x1; first | (have f1 : ∀ _, _ := x1; clear f1) | clear_value x1)
    | with_reducible apply State.raise_good
    | with_reducible apply ite_good
    | with_reducible apply forEach_good
    | fail_if_no_progress (with_reducible apply good_mk; with_reducible apply good_of)

theorem State.applySwitch_good {z : Lasting} {s : State} (x : LaneSwitch) (hs : s.Good z) : (State.applySwitch s x).Good z := by
  unfold State.applySwitch
  repeat' first
    | with_reducible assumption
    | refine fun _ => ?_
    | ((try lift_lets -underBinder); intro s1; refine have_good (z := z) (s := s1) ?_ (fun h1 => ?_) <;> [subst s1; try clear_value s1])
    | ((try lift_lets -underBinder); intro x1; first | (have f1 : ∀ _, _ := x1; clear f1) | clear_value x1)
    | with_reducible apply State.setLane_good
    | with_reducible apply State.wr_good
    | with_reducible apply ite_good
    | with_reducible apply forEach_good
    | split
    | fail_if_no_progress (with_reducible apply good_mk; with_reducible apply good_of)

theorem State.applySwitches_good {z : Lasting} {s : State} (count : Nat) (frame : Nat) (hs : s.Good z) : (State.applySwitches s count frame).Good z := by
  unfold State.applySwitches
  repeat' first
    | with_reducible assumption
    | refine fun _ => ?_
    | ((try lift_lets -underBinder); intro s1; refine have_good (z := z) (s := s1) ?_ (fun h1 => ?_) <;> [subst s1; try clear_value s1])
    | ((try lift_lets -underBinder); intro x1; first | (have f1 : ∀ _, _ := x1; clear f1) | clear_value x1)
    | with_reducible apply State.laneStatus_good
    | with_reducible apply State.applySwitch_good
    | with_reducible apply ite_good
    | with_reducible apply forEach_good
    | fail_if_no_progress (with_reducible apply good_mk; with_reducible apply good_of)

theorem State.mgmtSend_good {z : Lasting} {s : State} (n : Nat) (tag : Nat) (c : MgmtCmd) (hs : s.Good z) : (State.mgmtSend s n tag c).Good z := by
  unfold State.mgmtSend
  repeat' first
    | with_reducible assumption
    | ((try lift_lets -underBinder); intro s1; refine have_good (z := z) (s := s1) ?_ (fun h1 => ?_) <;> [subst s1; try clear_value s1])
    | ((try lift_lets -underBinder); intro x1; first | (have f1 : ∀ _, _ := x1; clear f1) | clear_value x1)
    | with_reducible apply State.wr_good
    | with_reducible apply ite_good
    | split
    | fail_if_no_progress (with_reducible apply good_mk; with_reducible apply good_of)

theorem State.mgmtPick_good {z : Lasting} {s : State} {n : Nat} {first : Bool} {p : MgmtCmd × State} (hs : s.Good z)
    (h : s.mgmtPick n first = some p) : p.2.Good z := by
  unfold State.mgmtPick at h
  dsimp only at h
  split at h
  · exact Option.some.inj h ▸ good_mk (good_of hs)
  · split at h
    · obtain ⟨a, _, ha⟩ := Option.map_eq_some_iff.mp h
      exact ha ▸ good_mk (good_of hs)
    · nomatch h

theorem State.mgmtFrame_good {z : Lasting} {s : State} (hs : s.Good z) : (State.mgmtFrame s).1.Good z := by
  unfold State.mgmtFrame
  dsimp only
  split
  · refine foldl_fst_good (by split; exacts [good_mk (good_of hs), hs]) fun p n hp => ?_
    split
    · exact hp
    · exact State.mgmtSend_good _ _ _ hp
  · refine foldl_fst_good hs fun p n hp => ?_
    split
    · exact hp
    · split
      · exact hp
      · rename_i p' e
        exact State.mgmtSend_good _ _ _ (State.mgmtPick_good hp e)


theorem State.emitFrame_good {z : Lasting} {s : State} (frame : Nat) (count : Nat) (hs : s.Good z) : (State.emitFrame s frame count).Good z := by
  unfold State.emitFrame
  repeat' first
    | with_reducible assumption
    | ((try lift_lets -underBinder); intro s1; refine have_good (z := z) (s := s1) ?_ (fun h1 => ?_) <;> [subst s1; try clear_value s1])
    | ((try lift_lets -underBinder); intro s1; refine have_fst (z := z) (p := s1) ?_ (fun h1 => ?_) <;> [subst s1; try clear_value s1])
    | ((try lift_lets -underBinder); intro x1; first | (have f1 : ∀ _, _ := x1; clear f1) | clear_value x1)
    | with_reducible apply State.mgmtFrame_good
    | fail_if_no_progress (with_reducible apply good_mk; with_reducible apply good_of)

theorem State.frameBegins_good {z : Lasting} {s : State} (hs : s.Good z) : (State.frameBegins s).Good z := by
  unfold State.frameBegins
  repeat' first
    | with_reducible assumption
    | with_reducible apply State.passTo_good
    | with_reducible apply State.passToCycle_good
    | with_reducible apply ite_good

theorem State.sendStrandFrame_good {z : Lasting} {s : State} (hs : s.Good z) : (State.sendStrandFrame s).Good z := by
  unfold State.sendStrandFrame
  repeat' first
    | with_reducible assumption
    | ((try lift_lets -underBinder); intro s1; refine have_good (z := z) (s := s1) ?_ (fun h1 => ?_) <;> [subst s1; try clear_value s1])
    | with_reducible apply State.frameBegins_good
    | with_reducible apply State.applySwitches_good
    | with_reducible apply State.assignLanes_good
    | with_reducible apply State.beginRecovery_good
    | with_reducible apply State.periodBegins_good
    | with_reducible apply State.driveFrame_good
    | with_reducible apply State.laggingOpen_good
    | with_reducible apply State.wrB_good
    | with_reducible apply State.wr_good
    | with_reducible apply State.emitFrame_good
    | with_reducible apply ite_good
    | split
    | fail_if_no_progress (with_reducible apply good_mk; with_reducible apply good_of)

theorem State.wbFlag_good {z : Lasting} {s : State} (kind : Nat) (c : Nat) (hs : s.Good z) : (State.wbFlag s kind c).Good z := by
  unfold State.wbFlag
  repeat' first
    | with_reducible assumption
    | ((try lift_lets -underBinder); intro x1; first | (have f1 : ∀ _, _ := x1; clear f1) | clear_value x1)
    | split
    | fail_if_no_progress (with_reducible apply good_mk; with_reducible apply good_of)

theorem State.wbDefer_good {z : Lasting} {s : State} (hs : s.Good z) : (State.wbDefer s).Good z := by
  unfold State.wbDefer
  repeat' first
    | with_reducible assumption
    | ((try lift_lets -underBinder); intro s1; refine have_good (z := z) (s := s1) ?_ (fun h1 => ?_) <;> [subst s1; try clear_value s1])
    | ((try lift_lets -underBinder); intro x1; first | (have f1 : ∀ _, _ := x1; clear f1) | clear_value x1)
    | with_reducible apply State.inc_good
    | with_reducible apply State.raise_good
    | with_reducible apply ite_good
    | fail_if_no_progress (with_reducible apply good_mk; with_reducible apply good_of)

theorem State.wbBegin_good {z : Lasting} {s : State} (hs : s.Good z) : (State.wbBegin s).Good z := by
  unfold State.wbBegin
  repeat' first
    | with_reducible assumption
    | ((try lift_lets -underBinder); intro x1; first | (have f1 : ∀ _, _ := x1; clear f1) | clear_value x1)
    | with_reducible apply State.wbDefer_good
    | with_reducible apply ite_good
    | split
    | fail_if_no_progress (with_reducible apply good_mk; with_reducible apply good_of)

theorem State.wbAnswer_good {z : Lasting} {s : State} (ok : Bool) (hs : s.Good z) : (State.wbAnswer s ok).Good z := by
  unfold State.wbAnswer
  repeat' first
    | with_reducible assumption
    | ((try lift_lets -underBinder); intro s1; refine have_good (z := z) (s := s1) ?_ (fun h1 => ?_) <;> [subst s1; try clear_value s1])
    | ((try lift_lets -underBinder); intro x1; first | (have f1 : ∀ _, _ := x1; clear f1) | clear_value x1)
    | with_reducible apply State.wbFlag_good
    | with_reducible apply State.ckptTouch_good
    | with_reducible apply State.wbBegin_good
    | with_reducible apply ite_good
    | split
    | fail_if_no_progress (with_reducible apply good_mk; with_reducible apply good_of)

theorem State.writeBack_good {z : Lasting} {s : State} (hs : s.Good z) : (State.writeBack s).Good z := by
  unfold State.writeBack
  repeat' first
    | with_reducible assumption
    | ((try lift_lets -underBinder); intro s1; refine have_good (z := z) (s := s1) ?_ (fun h1 => ?_) <;> [subst s1; try clear_value s1])
    | ((try lift_lets -underBinder); intro x1; first | (have f1 : ∀ _, _ := x1; clear f1) | clear_value x1)
    | with_reducible apply State.wrB_good
    | with_reducible apply State.wbBegin_good
    | with_reducible apply State.wbDefer_good
    | with_reducible apply ite_good
    | fail_if_no_progress (with_reducible apply good_mk; with_reducible apply good_of)

theorem State.mgmtDone_good {z : Lasting} {s : State} (c : MgmtCmd) (st : Nat) (data : Nat) (hs : s.Good z) : (State.mgmtDone s c st data).Good z := by
  unfold State.mgmtDone
  repeat' first
    | with_reducible assumption
    | ((try lift_lets -underBinder); intro s1; refine have_good (z := z) (s := s1) ?_ (fun h1 => ?_) <;> [subst s1; try clear_value s1])
    | with_reducible apply State.wr_good
    | with_reducible apply State.wbAnswer_good
    | with_reducible apply ite_good
    | split

theorem State.laneItem_good {z : Lasting} {s : State} (r : LaneRx) (hs : s.Good z) : (State.laneItem s r).Good z := by
  unfold State.laneItem
  repeat' first
    | with_reducible assumption
    | ((try lift_lets -underBinder); intro s1; refine have_good (z := z) (s := s1) ?_ (fun h1 => ?_) <;> [subst s1; try clear_value s1])
    | ((try lift_lets -underBinder); intro x1; first | (have f1 : ∀ _, _ := x1; clear f1) | clear_value x1)
    | with_reducible apply State.mgmtDone_good
    | with_reducible apply ite_good
    | split
    | fail_if_no_progress (with_reducible apply good_mk; with_reducible apply good_of)

theorem State.laneAlign_good {z : Lasting} {s : State} (r : LaneRx) (hs : s.Good z) : (State.laneAlign s r).Good z := by
  unfold State.laneAlign
  repeat' first
    | with_reducible assumption
    | ((try lift_lets -underBinder); intro s1; refine have_good (z := z) (s := s1) ?_ (fun h1 => ?_) <;> [subst s1; try clear_value s1])
    | ((try lift_lets -underBinder); intro x1; first | (have f1 : ∀ _, _ := x1; clear f1) | clear_value x1)
    | with_reducible apply State.wrB_good
    | with_reducible apply State.wr_good
    | with_reducible apply State.mgmtPush_good
    | with_reducible apply ite_good

theorem State.lanePort_good {z : Lasting} {s : State} (count : Nat) (r : LaneRx) (hs : s.Good z) : (State.lanePort s count r).Good z := by
  unfold State.lanePort
  repeat' first
    | with_reducible assumption
    | ((try lift_lets -underBinder); intro s1; refine have_good (z := z) (s := s1) ?_ (fun h1 => ?_) <;> [subst s1; try clear_value s1])
    | ((try lift_lets -underBinder); intro x1; first | (have f1 : ∀ _, _ := x1; clear f1) | clear_value x1)
    | with_reducible apply State.wrB_good
    | with_reducible apply ite_good
    | fail_if_no_progress (with_reducible apply good_mk; with_reducible apply good_of)

theorem State.laneCount_good {z : Lasting} {s : State} (valid : Bool) (r : LaneRx) (hs : s.Good z) : (State.laneCount s valid r).Good z := by
  unfold State.laneCount
  repeat' first
    | with_reducible assumption
    | ((try lift_lets -underBinder); intro s1; refine have_good (z := z) (s := s1) ?_ (fun h1 => ?_) <;> [subst s1; try clear_value s1])
    | ((try lift_lets -underBinder); intro x1; first | (have f1 : ∀ _, _ := x1; clear f1) | clear_value x1)
    | with_reducible apply State.inc_good
    | with_reducible apply ite_good
    | fail_if_no_progress (with_reducible apply good_mk; with_reducible apply good_of)

theorem State.echoPreset_good {z : Lasting} {s : State} (c : Nat) (hs : s.Good z) : (State.echoPreset s c).Good z := by
  unfold State.echoPreset
  repeat' first
    | with_reducible assumption
    | ((try lift_lets -underBinder); intro x1; first | (have f1 : ∀ _, _ := x1; clear f1) | clear_value x1)
    | with_reducible apply State.presetCell_good
    | with_reducible apply State.leavePowerUp_good
    | split

theorem State.echoWaits_good {z : Lasting} {s : State} (new : List Echo) (hs : s.Good z) : (State.echoWaits s new).Good z := by
  unfold State.echoWaits
  repeat' first
    | with_reducible assumption
    | refine fun _ => ?_
    | ((try lift_lets -underBinder); intro s1; refine have_good (z := z) (s := s1) ?_ (fun h1 => ?_) <;> [subst s1; try clear_value s1])
    | ((try lift_lets -underBinder); intro x1; first | (have f1 : ∀ _, _ := x1; clear f1) | clear_value x1)
    | with_reducible apply State.echoPreset_good
    | with_reducible apply ite_good
    | with_reducible apply forEach_good
    | fail_if_no_progress (with_reducible apply good_mk; with_reducible apply good_of)

theorem State.laneError_good {z : Lasting} {s : State} (hs : s.Good z) : (State.laneError s).Good z := by
  unfold State.laneError
  repeat' first
    | with_reducible assumption
    | ((try lift_lets -underBinder); intro s1; refine have_good (z := z) (s := s1) ?_ (fun h1 => ?_) <;> [subst s1; try clear_value s1])
    | ((try lift_lets -underBinder); intro x1; first | (have f1 : ∀ _, _ := x1; clear f1) | clear_value x1)
    | with_reducible apply State.wrB_good
    | with_reducible apply State.raise_good
    | with_reducible apply ite_good
    | fail_if_no_progress (with_reducible apply good_mk; with_reducible apply good_of)

theorem State.prbsCheck_good {z : Lasting} {s : State} (n : Nat) (hs : s.Good z) : (State.prbsCheck s n).Good z := by
  unfold State.prbsCheck
  repeat' first
    | with_reducible assumption
    | with_reducible apply State.laneError_good
    | with_reducible apply State.inc_good
    | with_reducible apply ite_good

theorem State.recvStrandFrame_good {z : Lasting} {s : State} (e : InFlight) (rxs : List LaneRx) (hs : s.Good z) : (State.recvStrandFrame s e rxs).Good z := by
  unfold State.recvStrandFrame
  repeat' first
    | with_reducible assumption
    | refine fun _ => ?_
    | ((try lift_lets -underBinder); intro s1; refine have_good (z := z) (s := s1) ?_ (fun h1 => ?_) <;> [subst s1; try clear_value s1])
    | ((try lift_lets -underBinder); intro x1; first | (have f1 : ∀ _, _ := x1; clear f1) | clear_value x1)
    | with_reducible apply State.passTo_good
    | with_reducible apply State.laneAlign_good
    | with_reducible apply State.laneCount_good
    | with_reducible apply State.prbsCheck_good
    | with_reducible apply State.laneError_good
    | with_reducible apply State.lanePort_good
    | with_reducible apply State.echoWaits_good
    | with_reducible apply State.laneItem_good
    | with_reducible apply State.senseFrame_good
    | with_reducible apply State.failLane_good
    | with_reducible apply ite_good
    | with_reducible apply forEach_good
    | split
    | fail_if_no_progress (with_reducible apply good_mk; with_reducible apply good_of)

theorem State.takeInbound_good {z : Lasting} {s : State} (e : InFlight) (rxs : List LaneRx) (hs : s.Good z) : (State.takeInbound s e rxs).Good z := by
  unfold State.takeInbound
  repeat' first
    | with_reducible assumption
    | ((try lift_lets -underBinder); intro s1; refine have_good (z := z) (s := s1) ?_ (fun h1 => ?_) <;> [subst s1; try clear_value s1])
    | ((try lift_lets -underBinder); intro x1; first | (have f1 : ∀ _, _ := x1; clear f1) | clear_value x1)
    | with_reducible apply State.recvStrandFrame_good
    | with_reducible apply ite_good
    | fail_if_no_progress (with_reducible apply good_mk; with_reducible apply good_of)

theorem State.inbound_good {z : Lasting} {s : State} (rxs : List LaneRx) (hs : s.Good z) : (State.inbound s rxs).Good z := by
  unfold State.inbound
  repeat' first
    | with_reducible assumption
    | ((try lift_lets -underBinder); intro x1; first | (have f1 : ∀ _, _ := x1; clear f1) | clear_value x1)
    | with_reducible apply State.takeInbound_good
    | with_reducible apply ite_good
    | split
    | fail_if_no_progress (with_reducible apply good_mk; with_reducible apply good_of)

theorem State.inboundHeld_good {z : Lasting} {s : State} (hs : s.Good z) : (State.inboundHeld s).Good z := by
  unfold State.inboundHeld
  repeat' first
    | with_reducible assumption
    | ((try lift_lets -underBinder); intro x1; first | (have f1 : ∀ _, _ := x1; clear f1) | clear_value x1)
    | with_reducible apply State.inbound_good
    | split
    | fail_if_no_progress (with_reducible apply good_mk; with_reducible apply good_of)

theorem State.streamOn_good {z : Lasting} {s : State} (hs : s.Good z) : (State.streamOn s).Good z := by
  unfold State.streamOn
  repeat' first
    | with_reducible assumption
    | ((try lift_lets -underBinder); intro s1; refine have_good (z := z) (s := s1) ?_ (fun h1 => ?_) <;> [subst s1; try clear_value s1])
    | ((try lift_lets -underBinder); intro x1; first | (have f1 : ∀ _, _ := x1; clear f1) | clear_value x1)
    | with_reducible apply State.wr_good
    | fail_if_no_progress (with_reducible apply good_mk; with_reducible apply good_of)

theorem State.streamOff_good {z : Lasting} {s : State} (hs : s.Good z) : (State.streamOff s).Good z := by
  unfold State.streamOff
  repeat' first
    | with_reducible assumption
    | ((try lift_lets -underBinder); intro s1; refine have_good (z := z) (s := s1) ?_ (fun h1 => ?_) <;> [subst s1; try clear_value s1])
    | ((try lift_lets -underBinder); intro x1; first | (have f1 : ∀ _, _ := x1; clear f1) | clear_value x1)
    | with_reducible apply State.wr_good
    | with_reducible apply State.interruptLay_good
    | with_reducible apply ite_good
    | fail_if_no_progress (with_reducible apply good_mk; with_reducible apply good_of)

theorem State.dropEpochs_good {z : Lasting} {s : State} (hs : s.Good z) : (State.dropEpochs s).Good z := by
  unfold State.dropEpochs
  repeat' first
    | with_reducible assumption
    | refine fun _ => ?_
    | ((try lift_lets -underBinder); intro s1; refine have_good (z := z) (s := s1) ?_ (fun h1 => ?_) <;> [subst s1; try clear_value s1])
    | ((try lift_lets -underBinder); intro x1; first | (have f1 : ∀ _, _ := x1; clear f1) | clear_value x1)
    | with_reducible apply State.abortOne_good
    | with_reducible apply State.setSlot_good
    | with_reducible apply forEach_good
    | fail_if_no_progress (with_reducible apply good_mk; with_reducible apply good_of)

theorem State.imageInForce_good {z : Lasting} {s : State} (im : CkptImage) (hs : s.Good z) : (State.imageInForce s im).Good z := by
  unfold State.imageInForce
  repeat' first
    | with_reducible assumption
    | refine fun _ => ?_
    | ((try lift_lets -underBinder); intro s1; refine have_good (z := z) (s := s1) ?_ (fun h1 => ?_) <;> [subst s1; try clear_value s1])
    | ((try lift_lets -underBinder); intro x1; first | (have f1 : ∀ _, _ := x1; clear f1) | clear_value x1)
    | with_reducible apply State.dropEpochs_good
    | with_reducible apply State.putWeave_good
    | with_reducible apply State.wr_good
    | with_reducible apply State.carryWear_good
    | with_reducible apply State.forceDmap_good
    | with_reducible apply State.setCCtrl_good
    | with_reducible apply State.setDCtrl_good
    | with_reducible apply State.restClosed_good
    | with_reducible apply State.restIdle_good
    | with_reducible apply ite_good
    | with_reducible apply forEach_good
    | fail_if_no_progress (with_reducible apply good_mk; with_reducible apply good_of)

theorem State.rollForward_good {z : Lasting} {s : State} (im : CkptImage) (hs : s.Good z) : (State.rollForward s im).Good z := by
  unfold State.rollForward
  repeat' first
    | with_reducible assumption
    | refine fun _ => ?_
    | ((try lift_lets -underBinder); intro s1; refine have_good (z := z) (s := s1) ?_ (fun h1 => ?_) <;> [subst s1; try clear_value s1])
    | ((try lift_lets -underBinder); intro x1; first | (have f1 : ∀ _, _ := x1; clear f1) | clear_value x1)
    | with_reducible apply State.setSlot_good
    | with_reducible apply State.putWeave_good
    | with_reducible apply State.noteStep_good
    | with_reducible apply State.setCCtrl_good
    | with_reducible apply State.rephase_good
    | with_reducible apply State.setCStat_good
    | with_reducible apply State.echoPreset_good
    | with_reducible apply State.setCellInj_good
    | with_reducible apply State.toRest_good
    | with_reducible apply State.setLay_good
    | with_reducible apply ite_good
    | with_reducible apply forEach_good
    | split
    | fail_if_no_progress (with_reducible apply good_mk; with_reducible apply good_of)

theorem State.completeMark_good {z : Lasting} {s : State} (im : CkptImage) (hs : s.Good z) : (State.completeMark s im).Good z := by
  unfold State.completeMark
  repeat' first
    | with_reducible assumption
    | ((try lift_lets -underBinder); intro s1; refine have_good (z := z) (s := s1) ?_ (fun h1 => ?_) <;> [subst s1; try clear_value s1])
    | ((try lift_lets -underBinder); intro x1; first | (have f1 : ∀ _, _ := x1; clear f1) | clear_value x1)
    | with_reducible apply State.rollForward_good
    | with_reducible apply State.fireHook_good
    | with_reducible apply State.markState_good
    | with_reducible apply ite_good
    | fail_if_no_progress (with_reducible apply good_mk; with_reducible apply good_of)

theorem State.startFromImage_good {z : Lasting} {s : State} (im : CkptImage) (hs : s.Good z) : (State.startFromImage s im).Good z := by
  unfold State.startFromImage
  repeat' first
    | with_reducible assumption
    | refine fun _ => ?_
    | ((try lift_lets -underBinder); intro s1; refine have_good (z := z) (s := s1) ?_ (fun h1 => ?_) <;> [subst s1; try clear_value s1])
    | ((try lift_lets -underBinder); intro x1; first | (have f1 : ∀ _, _ := x1; clear f1) | clear_value x1)
    | with_reducible apply State.echoPreset_good
    | with_reducible apply State.closeShutter_good
    | with_reducible apply State.openShutter_good
    | with_reducible apply State.streamOn_good
    | with_reducible apply State.completeMark_good
    | with_reducible apply forEach_good
    | fail_if_no_progress (with_reducible apply good_mk; with_reducible apply good_of)

theorem State.restartPass_good {z : Lasting} {s : State} (hs : s.Good z) : (State.restartPass s).Good z := by
  unfold State.restartPass
  repeat' first
    | with_reducible assumption
    | ((try lift_lets -underBinder); intro s1; refine have_good (z := z) (s := s1) ?_ (fun h1 => ?_) <;> [subst s1; try clear_value s1])
    | ((try lift_lets -underBinder); intro x1; first | (have f1 : ∀ _, _ := x1; clear f1) | clear_value x1)
    | with_reducible apply State.endPass_good
    | split
    | fail_if_no_progress (with_reducible apply good_mk; with_reducible apply good_of)

theorem State.startRecords_good {z : Lasting} {s : State} (hs : s.Good z) : (State.startRecords s).Good z := by
  unfold State.startRecords
  repeat' first
    | with_reducible assumption
    | ((try lift_lets -underBinder); intro s1; refine have_good (z := z) (s := s1) ?_ (fun h1 => ?_) <;> [subst s1; try clear_value s1])
    | ((try lift_lets -underBinder); intro x1; first | (have f1 : ∀ _, _ := x1; clear f1) | clear_value x1)
    | with_reducible apply State.mapRecs_good
    | fail_if_no_progress (with_reducible apply good_mk; with_reducible apply good_of)

theorem State.mgmtRestart_good {z : Lasting} {s : State} (hs : s.Good z) : (State.mgmtRestart s).Good z := by
  unfold State.mgmtRestart
  repeat' first
    | with_reducible assumption
    | ((try lift_lets -underBinder); intro s1; refine have_good (z := z) (s := s1) ?_ (fun h1 => ?_) <;> [subst s1; try clear_value s1])
    | ((try lift_lets -underBinder); intro x1; first | (have f1 : ∀ _, _ := x1; clear f1) | clear_value x1)
    | with_reducible apply State.wbFlag_good
    | split
    | fail_if_no_progress (with_reducible apply good_mk; with_reducible apply good_of)

theorem State.startLink_good {z : Lasting} {s : State} (hs : s.Good z) : (State.startLink s).Good z := by
  unfold State.startLink
  repeat' first
    | with_reducible assumption
    | ((try lift_lets -underBinder); intro s1; refine have_good (z := z) (s := s1) ?_ (fun h1 => ?_) <;> [subst s1; try clear_value s1])
    | ((try lift_lets -underBinder); intro x1; first | (have f1 : ∀ _, _ := x1; clear f1) | clear_value x1)
    | with_reducible apply State.mgmtRestart_good
    | with_reducible apply State.streamOff_good
    | with_reducible apply State.initLanes_good
    | with_reducible apply State.wrB_good
    | with_reducible apply State.wr_good
    | with_reducible apply State.restartPass_good
    | with_reducible apply State.laneStatus_good
    | with_reducible apply State.startRecords_good
    | fail_if_no_progress (with_reducible apply good_mk; with_reducible apply good_of)

theorem State.followDmap_good {z : Lasting} {s : State} (dm : List DmapEntry) (hs : s.Good z) : (State.followDmap s dm).Good z := by
  unfold State.followDmap
  repeat' first
    | with_reducible assumption
    | ((try lift_lets -underBinder); intro x1; first | (have f1 : ∀ _, _ := x1; clear f1) | clear_value x1)
    | fail_if_no_progress (with_reducible apply good_mk; with_reducible apply good_of)

theorem foldl_memPut_wf {β : Type} {f : β → Nat × Nat × Nat} : ∀ {l : List β} {m : List Host.Cell}, Memory.wf m = true →
    Memory.wf (l.foldl (fun r p => memPut r (f p).1 (f p).2.1 (f p).2.2) m) = true
  | [], _, h => h
  | _ :: l, _, h => foldl_memPut_wf (l := l) (memPut_wf h)

theorem State.loadCal_good {z : Lasting} {s : State} (c : Nat) (ws : List W32) (hs : s.Good z) : (s.loadCal c ws).Good z := by
  refine good_mk (good_mem hs ?_)
  unfold loadCalArea
  exact memPut_wf (foldl_memPut_wf (f := fun (p : W32 × Nat) => (cellRec c + 0x40 + 4 * p.2, 4, p.1.toNat)) (clear_wf (good_wf hs)))

theorem State.shutterCode_good {z : Lasting} {s : State} (v : W32) (hs : s.Good z) : (State.shutterCode s v).Good z := by
  unfold State.shutterCode
  repeat' first
    | with_reducible assumption
    | with_reducible apply State.wr_good
    | with_reducible apply State.raise_good
    | with_reducible apply ite_good

theorem State.judgeAuth_good {z : Lasting} {s : State} (hs : s.Good z) : (State.judgeAuth s).Good z := by
  unfold State.judgeAuth
  repeat' first
    | with_reducible assumption
    | ((try lift_lets -underBinder); intro x1; first | (have f1 : ∀ _, _ := x1; clear f1) | clear_value x1)
    | with_reducible apply State.wrB_good
    | with_reducible apply State.raise_good
    | with_reducible apply ite_good

theorem State.markOverflow_good {z : Lasting} {s : State} (im : CkptImage) (hs : s.Good z) : (State.markOverflow s im).Good z := by
  unfold State.markOverflow
  repeat' first
    | with_reducible assumption
    | refine fun _ => ?_
    | ((try lift_lets -underBinder); intro x1; first | (have f1 : ∀ _, _ := x1; clear f1) | clear_value x1)
    | with_reducible apply State.setCCal_good
    | with_reducible apply forEach_good

theorem State.loadCartridge_good {z : Lasting} {s : State} (id : IdentityLoad) (im : CkptImage) (hs : s.Good z) : (State.loadCartridge s id im).Good z := by
  unfold State.loadCartridge
  repeat' first
    | with_reducible assumption
    | refine fun _ => ?_
    | ((try lift_lets -underBinder); intro s1; refine have_good (z := z) (s := s1) ?_ (fun h1 => ?_) <;> [subst s1; try clear_value s1])
    | ((try lift_lets -underBinder); intro x1; first | (have f1 : ∀ _, _ := x1; clear f1) | clear_value x1)
    | with_reducible apply State.mapRecs_good
    | with_reducible apply State.markTap_good
    | with_reducible apply State.wearCheck_good
    | with_reducible apply State.calMissing_good
    | with_reducible apply State.setSnap_good
    | with_reducible apply ite_good
    | with_reducible apply forEach_good
    | split
    | fail_if_no_progress (with_reducible apply good_mk; with_reducible apply good_of)

theorem State.identify_good {z : Lasting} {s : State} (id : IdentityLoad) (hs : s.Good z) : (State.identify s id).Good z := by
  unfold State.identify
  repeat' first
    | with_reducible assumption
    | refine fun _ => ?_
    | ((try lift_lets -underBinder); intro s1; refine have_good (z := z) (s := s1) ?_ (fun h1 => ?_) <;> [subst s1; try clear_value s1])
    | ((try lift_lets -underBinder); intro x1; first | (have f1 : ∀ _, _ := x1; clear f1) | clear_value x1)
    | with_reducible apply State.wr_good
    | with_reducible apply State.judgeAuth_good
    | with_reducible apply State.wrB_good
    | with_reducible apply State.setLane_good
    | with_reducible apply State.laneStatus_good
    | with_reducible apply State.shutterCode_good
    | with_reducible apply State.loadCartridge_good
    | with_reducible apply State.markOverflow_good
    | with_reducible apply State.raise_good
    | with_reducible apply ite_good
    | with_reducible apply forEach_good
    | fail_if_no_progress (with_reducible apply good_mk; with_reducible apply good_of)

end Sys2Proof.Machine
end

