-- ==== Sys2Proof/Laws/GoodRedundOps.lean ====
section
/-! SUPPORT. Every operation of Machine/RedundOps.lean keeps a sound state sound and, but for those named _ok, the fuses and the
flash as they are. -/

namespace Sys2Proof.Machine

theorem State.peerHook_good {z : Lasting} {s : State} (code : Nat) (hs : s.Good z) : (State.peerHook s code).Good z := by
  unfold State.peerHook
  repeat' first
    | with_reducible assumption
    | with_reducible apply State.fireHook_good

theorem State.ifOpen_good {z : Lasting} {s : State} (d : Nat) {t : State} (hs : s.Good z) (ht : t.Good z) : (State.ifOpen s d t).Good z := by
  unfold State.ifOpen
  repeat' first
    | with_reducible assumption
    | with_reducible apply ite_good

theorem State.pwrFollow_good {z : Lasting} {s : State} (hs : s.Good z) : (State.pwrFollow s).Good z := by
  unfold State.pwrFollow
  repeat' first
    | with_reducible assumption
    | with_reducible apply State.wrB_good

theorem State.setRole_good {z : Lasting} {s : State} (r : Nat) (hs : s.Good z) : (State.setRole s r).Good z := by
  unfold State.setRole
  repeat' first
    | with_reducible assumption
    | with_reducible apply State.pwrFollow_good
    | with_reducible apply State.wr_good

theorem State.enterStandby_good {z : Lasting} {s : State} (hs : s.Good z) : (State.enterStandby s).Good z := by
  unfold State.enterStandby
  repeat' first
    | with_reducible assumption
    | ((try lift_lets -underBinder); intro s1; refine have_good (z := z) (s := s1) ?_ (fun h1 => ?_) <;> [subst s1; try clear_value s1])
    | ((try lift_lets -underBinder); intro x1; first | (have f1 : ∀ _, _ := x1; clear f1) | clear_value x1)
    | with_reducible apply State.wrB_good
    | with_reducible apply State.setRole_good
    | with_reducible apply State.peerHook_good
    | fail_if_no_progress (with_reducible apply good_mk; with_reducible apply good_of)

theorem State.fence_good {z : Lasting} {s : State} (hs : s.Good z) : (State.fence s).Good z := by
  unfold State.fence
  repeat' first
    | with_reducible assumption
    | ((try lift_lets -underBinder); intro s1; refine have_good (z := z) (s := s1) ?_ (fun h1 => ?_) <;> [subst s1; try clear_value s1])
    | ((try lift_lets -underBinder); intro x1; first | (have f1 : ∀ _, _ := x1; clear f1) | clear_value x1)
    | with_reducible apply State.enterStandby_good
    | with_reducible apply State.portCmd_good
    | with_reducible apply State.streamOff_good
    | with_reducible apply ite_good
    | fail_if_no_progress (with_reducible apply good_mk; with_reducible apply good_of)

theorem State.fenceAfterFrame_good {z : Lasting} {s : State} (hs : s.Good z) : (State.fenceAfterFrame s).Good z := by
  unfold State.fenceAfterFrame
  repeat' first
    | with_reducible assumption
    | with_reducible apply State.portCmd_good
    | with_reducible apply State.streamOff_good
    | with_reducible apply ite_good

theorem State.sendHeartbeat_good {z : Lasting} {s : State} (surrender : Bool) (hs : s.Good z) : (State.sendHeartbeat s surrender).Good z := by
  unfold State.sendHeartbeat
  repeat' first
    | with_reducible assumption
    | ((try lift_lets -underBinder); intro x1; first | (have f1 : ∀ _, _ := x1; clear f1) | clear_value x1)
    | split
    | fail_if_no_progress (with_reducible apply good_mk; with_reducible apply good_of)

theorem State.surrender_good {z : Lasting} {s : State} (hs : s.Good z) : (State.surrender s).Good z := by
  unfold State.surrender
  repeat' first
    | with_reducible assumption
    | with_reducible apply State.fence_good
    | with_reducible apply State.sendHeartbeat_good
    | with_reducible apply ite_good

theorem State.declareLost_good {z : Lasting} {s : State} (bySurrender : Bool) (hs : s.Good z) : (State.declareLost s bySurrender).Good z := by
  unfold State.declareLost
  repeat' first
    | with_reducible assumption
    | ((try lift_lets -underBinder); intro s1; refine have_good (z := z) (s := s1) ?_ (fun h1 => ?_) <;> [subst s1; try clear_value s1])
    | ((try lift_lets -underBinder); intro x1; first | (have f1 : ∀ _, _ := x1; clear f1) | clear_value x1)
    | with_reducible apply State.wrB_good
    | with_reducible apply State.raise_good
    | with_reducible apply State.levelEnd_good
    | with_reducible apply State.portCmd_good
    | with_reducible apply State.peerHook_good
    | with_reducible apply State.setRole_good
    | split
    | fail_if_no_progress (with_reducible apply good_mk; with_reducible apply good_of)

theorem State.recordTransfer_good {z : Lasting} {s : State} (kind : Nat) (im : CkptImage) (mark : Nat) (hitless : Bool) (lost : Bool) (hs : s.Good z) : (State.recordTransfer s kind im mark hitless lost).Good z := by
  unfold State.recordTransfer
  repeat' first
    | with_reducible assumption
    | ((try lift_lets -underBinder); intro s1; refine have_good (z := z) (s := s1) ?_ (fun h1 => ?_) <;> [subst s1; try clear_value s1])
    | ((try lift_lets -underBinder); intro x1; first | (have f1 : ∀ _, _ := x1; clear f1) | clear_value x1)
    | with_reducible apply State.wr_good
    | with_reducible apply State.wrB_good
    | with_reducible apply State.monOffer_good

theorem State.markMissed_good {z : Lasting} {s : State} (im : CkptImage) (st : Status) (hs : s.Good z) : (State.markMissed s im st).Good z := by
  unfold State.markMissed
  repeat' first
    | with_reducible assumption
    | with_reducible apply State.sendCounted_good
    | with_reducible apply ite_good
    | split

theorem State.putLoops_good {z : Lasting} {s : State} (p : Nat × List W32) (hs : s.Good z) : (State.putLoops s p).Good z := by
  unfold State.putLoops
  repeat' first
    | with_reducible assumption
    | ((try lift_lets -underBinder); intro s1; refine have_good (z := z) (s := s1) ?_ (fun h1 => ?_) <;> [subst s1; try clear_value s1])
    | with_reducible apply State.setCCtrl_good
    | with_reducible apply State.setCw_good
    | split

theorem State.putAux_good {z : Lasting} {s : State} (p : Nat × List W32) (hs : s.Good z) : (State.putAux s p).Good z := by
  unfold State.putAux
  repeat' first
    | with_reducible assumption
    | refine fun _ => ?_
    | ((try lift_lets -underBinder); intro s1; refine have_good (z := z) (s := s1) ?_ (fun h1 => ?_) <;> [subst s1; try clear_value s1])
    | ((try lift_lets -underBinder); intro x1; first | (have f1 : ∀ _, _ := x1; clear f1) | clear_value x1)
    | with_reducible apply State.wr_good
    | with_reducible apply forEach_good

theorem State.putImageLoops_good {z : Lasting} {s : State} (im : CkptImage) (hs : s.Good z) : (State.putImageLoops s im).Good z := by
  unfold State.putImageLoops
  repeat' first
    | with_reducible assumption
    | refine fun _ => ?_
    | with_reducible apply State.putAux_good
    | with_reducible apply State.putLoops_good
    | with_reducible apply forEach_good

theorem State.rollLoops_good {z : Lasting} {s : State} (hs : s.Good z) : (State.rollLoops s).Good z := by
  unfold State.rollLoops
  repeat' first
    | with_reducible assumption
    | ((try lift_lets -underBinder); intro x1; first | (have f1 : ∀ _, _ := x1; clear f1) | clear_value x1)
    | with_reducible apply State.ckptTouch_good
    | fail_if_no_progress (with_reducible apply good_mk; with_reducible apply good_of)

theorem State.rollWear_good {z : Lasting} {s : State} (hs : s.Good z) : (State.rollWear s).Good z := by
  unfold State.rollWear
  repeat' first
    | with_reducible assumption
    | ((try lift_lets -underBinder); intro x1; first | (have f1 : ∀ _, _ := x1; clear f1) | clear_value x1)
    | with_reducible apply State.ckptTouch_good
    | fail_if_no_progress (with_reducible apply good_mk; with_reducible apply good_of)

theorem State.resendImage_good {z : Lasting} {s : State} (hs : s.Good z) : (State.resendImage s).Good z := by
  unfold State.resendImage
  repeat' first
    | with_reducible assumption
    | refine fun _ => ?_
    | with_reducible apply State.sectSend_good
    | with_reducible apply foldl_good

theorem State.resident_good {z : Lasting} {s : State} (sect : CkptSection) (hs : s.Good z) : (State.resident s sect).Good z := by
  unfold State.resident
  repeat' first
    | with_reducible assumption
    | refine fun _ => ?_
    | ((try lift_lets -underBinder); intro x1; first | (have f1 : ∀ _, _ := x1; clear f1) | clear_value x1)
    | with_reducible apply State.writeLedger_good
    | with_reducible apply State.followDmap_good
    | with_reducible apply State.carryWear_good
    | with_reducible apply State.putLoops_good
    | with_reducible apply State.setCorr_good
    | with_reducible apply State.setCCal_good
    | with_reducible apply State.loadCal_good
    | with_reducible apply forEach_good
    | split

theorem State.shadowCompare_good {z : Lasting} {s : State} (data : List W32) (hs : s.Good z) : (State.shadowCompare s data).Good z := by
  unfold State.shadowCompare
  repeat' first
    | with_reducible assumption
    | ((try lift_lets -underBinder); intro s1; refine have_good (z := z) (s := s1) ?_ (fun h1 => ?_) <;> [subst s1; try clear_value s1])
    | ((try lift_lets -underBinder); intro x1; first | (have f1 : ∀ _, _ := x1; clear f1) | clear_value x1)
    | with_reducible apply State.wr_good
    | with_reducible apply State.inc_good
    | with_reducible apply State.raise_good
    | with_reducible apply State.wrB_good
    | with_reducible apply ite_good
    | split
    | fail_if_no_progress (with_reducible apply good_mk; with_reducible apply good_of)

theorem State.applyRecord_good {z : Lasting} {s : State} (r : CkptRecord) (hs : s.Good z) : (State.applyRecord s r).Good z := by
  unfold State.applyRecord
  repeat' first
    | with_reducible assumption
    | ((try lift_lets -underBinder); intro x1; first | (have f1 : ∀ _, _ := x1; clear f1) | clear_value x1)
    | with_reducible apply State.shadowCompare_good
    | with_reducible apply State.resident_good
    | split
    | fail_if_no_progress (with_reducible apply good_mk; with_reducible apply good_of)

theorem State.takeTurn_good {z : Lasting} {s : State} (r : CkptRecord) (hs : s.Good z) : (State.takeTurn s r).Good z := by
  unfold State.takeTurn
  repeat' first
    | with_reducible assumption
    | ((try lift_lets -underBinder); intro s1; refine have_good (z := z) (s := s1) ?_ (fun h1 => ?_) <;> [subst s1; try clear_value s1])
    | ((try lift_lets -underBinder); intro x1; first | (have f1 : ∀ _, _ := x1; clear f1) | clear_value x1)
    | with_reducible apply State.wr_good
    | with_reducible apply State.applyRecord_good
    | with_reducible apply ite_good
    | fail_if_no_progress (with_reducible apply good_mk; with_reducible apply good_of)

theorem State.drainRecords_good {z : Lasting} (x0 : Nat) {x1 : State} (hx1 : x1.Good z) : (State.drainRecords x0 x1).Good z := by
  induction x0 generalizing x1 with
  | zero =>
    rw [State.drainRecords]
    repeat' first
      | with_reducible assumption
  | succ k ih =>
    rw [State.drainRecords]
    repeat' first
      | with_reducible assumption
      | with_reducible apply ih
      | with_reducible apply State.takeTurn_good
      | split


theorem State.applyMarks_good {z : Lasting} {s : State} (hs : s.Good z) : (State.applyMarks s).Good z := by
  unfold State.applyMarks
  repeat' first
    | with_reducible assumption
    | refine fun _ => ?_
    | ((try lift_lets -underBinder); intro s1; refine have_good (z := z) (s := s1) ?_ (fun h1 => ?_) <;> [subst s1; try clear_value s1])
    | ((try lift_lets -underBinder); intro x1; first | (have f1 : ∀ _, _ := x1; clear f1) | clear_value x1)
    | with_reducible apply State.applyRecord_good
    | with_reducible apply forEach_good
    | fail_if_no_progress (with_reducible apply good_mk; with_reducible apply good_of)

theorem State.recvRecord_good {z : Lasting} {s : State} (r : CkptRecord) (hs : s.Good z) : (State.recvRecord s r).Good z := by
  unfold State.recvRecord
  repeat' first
    | with_reducible assumption
    | ((try lift_lets -underBinder); intro s1; refine have_good (z := z) (s := s1) ?_ (fun h1 => ?_) <;> [subst s1; try clear_value s1])
    | ((try lift_lets -underBinder); intro x1; first | (have f1 : ∀ _, _ := x1; clear f1) | clear_value x1)
    | with_reducible apply State.wr_good
    | with_reducible apply State.takeTurn_good
    | with_reducible apply State.applyMarks_good
    | with_reducible apply State.drainRecords_good
    | with_reducible apply ite_good
    | split
    | fail_if_no_progress (with_reducible apply good_mk; with_reducible apply good_of)

theorem State.resyncDone_good {z : Lasting} {s : State} (hs : s.Good z) : (State.resyncDone s).Good z := by
  unfold State.resyncDone
  repeat' first
    | with_reducible assumption
    | refine fun _ => ?_
    | ((try lift_lets -underBinder); intro s1; refine have_good (z := z) (s := s1) ?_ (fun h1 => ?_) <;> [subst s1; try clear_value s1])
    | ((try lift_lets -underBinder); intro x1; first | (have f1 : ∀ _, _ := x1; clear f1) | clear_value x1)
    | with_reducible apply State.takeTurn_good
    | with_reducible apply State.wrB_good
    | with_reducible apply forEach_good
    | fail_if_no_progress (with_reducible apply good_mk; with_reducible apply good_of)

theorem State.takeImage_good {z : Lasting} {s : State} (hs : s.Good z) : (State.takeImage s).Good z := by
  unfold State.takeImage
  repeat' first
    | with_reducible assumption
    | ((try lift_lets -underBinder); intro s1; refine have_good (z := z) (s := s1) ?_ (fun h1 => ?_) <;> [subst s1; try clear_value s1])
    | ((try lift_lets -underBinder); intro x1; first | (have f1 : ∀ _, _ := x1; clear f1) | clear_value x1)
    | with_reducible apply State.imageInForce_good
    | with_reducible apply State.putImageLoops_good
    | with_reducible apply State.wrB_good
    | with_reducible apply State.levelEnd_good
    | with_reducible apply ite_good
    | fail_if_no_progress (with_reducible apply good_mk; with_reducible apply good_of)

end Sys2Proof.Machine
end

