-- ==== Sys2Proof/Laws/GoodLedgerOps.lean ====
section
/-! SUPPORT. Every operation of Machine/LedgerOps.lean keeps a sound state sound and, but for those named _ok, the fuses and the
flash as they are. -/

namespace Sys2Proof.Machine

theorem State.startThread_good {z : Lasting} {s : State} (q : Nat) (h : Nat) (arg : W32) (hs : s.Good z) : (State.startThread s q h arg).Good z := by
  unfold State.startThread
  repeat' first
    | with_reducible assumption
    | ((try lift_lets -underBinder); intro s1; refine have_good (z := z) (s := s1) ?_ (fun h1 => ?_) <;> [subst s1; try clear_value s1])
    | ((try lift_lets -underBinder); intro x1; first | (have f1 : ∀ _, _ := x1; clear f1) | clear_value x1)
    | with_reducible apply State.wrB_good
    | with_reducible apply State.setSq_good
    | fail_if_no_progress (with_reducible apply good_mk; with_reducible apply good_of)

theorem State.endThread_good {z : Lasting} {s : State} (q : Nat) (st : SqState) (hs : s.Good z) : (State.endThread s q st).Good z := by
  unfold State.endThread
  repeat' first
    | with_reducible assumption
    | ((try lift_lets -underBinder); intro s1; refine have_good (z := z) (s := s1) ?_ (fun h1 => ?_) <;> [subst s1; try clear_value s1])
    | ((try lift_lets -underBinder); intro x1; first | (have f1 : ∀ _, _ := x1; clear f1) | clear_value x1)
    | with_reducible apply State.setSq_good
    | fail_if_no_progress (with_reducible apply good_mk; with_reducible apply good_of)

theorem State.sqStop_good {z : Lasting} {s : State} (q : Nat) (hs : s.Good z) : (State.sqStop s q).Good z := by
  unfold State.sqStop
  repeat' first
    | with_reducible assumption
    | with_reducible apply State.endThread_good
    | with_reducible apply ite_good

theorem State.sqEnable_good {z : Lasting} {s : State} (mask : Nat) (hs : s.Good z) : (State.sqEnable s mask).Good z := by
  unfold State.sqEnable
  repeat' first
    | with_reducible assumption
    | refine fun _ => ?_
    | ((try lift_lets -underBinder); intro s1; refine have_good (z := z) (s := s1) ?_ (fun h1 => ?_) <;> [subst s1; try clear_value s1])
    | ((try lift_lets -underBinder); intro x1; first | (have f1 : ∀ _, _ := x1; clear f1) | clear_value x1)
    | with_reducible apply State.wr_good
    | with_reducible apply State.setSq_good
    | with_reducible apply ite_good
    | with_reducible apply forEach_good

theorem State.trapClear_good {z : Lasting} {s : State} (q : Nat) (hs : s.Good z) : (State.trapClear s q).Good z := by
  unfold State.trapClear
  repeat' first
    | with_reducible assumption
    | ((try lift_lets -underBinder); intro x1; first | (have f1 : ∀ _, _ := x1; clear f1) | clear_value x1)
    | with_reducible apply State.setSq_good
    | with_reducible apply ite_good

theorem State.sealHealth_good {z : Lasting} {s : State} (hs : s.Good z) : (State.sealHealth s).Good z := by
  unfold State.sealHealth
  repeat' first
    | with_reducible assumption
    | ((try lift_lets -underBinder); intro s1; refine have_good (z := z) (s := s1) ?_ (fun h1 => ?_) <;> [subst s1; try clear_value s1])
    | ((try lift_lets -underBinder); intro x1; first | (have f1 : ∀ _, _ := x1; clear f1) | clear_value x1)
    | with_reducible apply State.wr_good
    | with_reducible apply State.setSnap_good
    | with_reducible apply State.forceDmap_good
    | split
    | fail_if_no_progress (with_reducible apply good_mk; with_reducible apply good_of)

theorem State.takeSlot_good {z : Lasting} {s : State} (e : W32) (hs : s.Good z) : (State.takeSlot s e).Good z := by
  unfold State.takeSlot
  repeat' first
    | with_reducible assumption
    | with_reducible apply State.setSlot_good
    | with_reducible apply State.modEpoch_good
    | split

theorem State.judgePending_good {z : Lasting} {s : State} (x : Epoch) (hs : s.Good z) : (State.judgePending s x).Good z := by
  unfold State.judgePending
  repeat' first
    | with_reducible assumption
    | ((try lift_lets -underBinder); intro s1; refine have_good (z := z) (s := s1) ?_ (fun h1 => ?_) <;> [subst s1; try clear_value s1])
    | ((try lift_lets -underBinder); intro x1; first | (have f1 : ∀ _, _ := x1; clear f1) | clear_value x1)
    | with_reducible apply State.modEpoch_good
    | with_reducible apply State.ckptDefect_good
    | with_reducible apply ite_good
    | split
    | fail_if_no_progress (with_reducible apply good_mk; with_reducible apply good_of)

theorem State.evaluate_good {z : Lasting} {s : State} (e : W32) (hs : s.Good z) : (State.evaluate s e).Good z := by
  unfold State.evaluate
  repeat' first
    | with_reducible assumption
    | refine fun _ => ?_
    | ((try lift_lets -underBinder); intro s1; refine have_good (z := z) (s := s1) ?_ (fun h1 => ?_) <;> [subst s1; try clear_value s1])
    | ((try lift_lets -underBinder); intro x1; first | (have f1 : ∀ _, _ := x1; clear f1) | clear_value x1)
    | with_reducible apply State.judgePending_good
    | with_reducible apply State.finalEntry_good
    | with_reducible apply State.modEpoch_good
    | with_reducible apply forEach_good
    | split

theorem State.solveClock_good {z : Lasting} {s : State} (x : Epoch) (hs : s.Good z) : (State.solveClock s x).Good z := by
  unfold State.solveClock
  repeat' first
    | with_reducible assumption
    | ((try lift_lets -underBinder); intro x1; first | (have f1 : ∀ _, _ := x1; clear f1) | clear_value x1)
    | with_reducible apply State.wr_good
    | with_reducible apply State.wrB_good

theorem State.throttleStart_good {z : Lasting} {s : State} (e : W32) (hs : s.Good z) : (State.throttleStart s e).Good z := by
  unfold State.throttleStart
  repeat' first
    | with_reducible assumption
    | ((try lift_lets -underBinder); intro x1; first | (have f1 : ∀ _, _ := x1; clear f1) | clear_value x1)
    | with_reducible apply State.throttleSource_good
    | fail_if_no_progress (with_reducible apply good_mk; with_reducible apply good_of)

theorem State.nextSolve_good {z : Lasting} {s : State} (hs : s.Good z) : (State.nextSolve s).Good z := by
  unfold State.nextSolve
  repeat' first
    | with_reducible assumption
    | with_reducible apply State.throttleStart_good
    | with_reducible apply State.solveClock_good
    | with_reducible apply ite_good
    | split

theorem State.finishSolve_good {z : Lasting} {s : State} (x : Epoch) (slot : Fin 16) (hs : s.Good z) : (State.finishSolve s x slot).Good z := by
  unfold State.finishSolve
  repeat' first
    | with_reducible assumption
    | refine fun _ => ?_
    | ((try lift_lets -underBinder); intro s1; refine have_good (z := z) (s := s1) ?_ (fun h1 => ?_) <;> [subst s1; try clear_value s1])
    | ((try lift_lets -underBinder); intro x1; first | (have f1 : ∀ _, _ := x1; clear f1) | clear_value x1)
    | with_reducible apply State.solveEnds_good
    | with_reducible apply State.nextSolve_good
    | with_reducible apply State.fireHook_good
    | with_reducible apply State.abortPlain_good
    | with_reducible apply State.setSlot_good
    | with_reducible apply State.putWeave_good
    | with_reducible apply State.finalEntry_good
    | with_reducible apply State.modEpoch_good
    | with_reducible apply State.wr_good
    | with_reducible apply State.raise_good
    | with_reducible apply ite_good
    | with_reducible apply forEach_good
    | fail_if_no_progress (with_reducible apply good_mk; with_reducible apply good_of)

theorem State.sealEpoch_good {z : Lasting} {s : State} (x : Epoch) (hs : s.Good z) : (State.sealEpoch s x).Good z := by
  unfold State.sealEpoch
  repeat' first
    | with_reducible assumption
    | ((try lift_lets -underBinder); intro s1; refine have_good (z := z) (s := s1) ?_ (fun h1 => ?_) <;> [subst s1; try clear_value s1])
    | ((try lift_lets -underBinder); intro x1; first | (have f1 : ∀ _, _ := x1; clear f1) | clear_value x1)
    | with_reducible apply State.sealHealth_good
    | with_reducible apply State.passTo_good
    | with_reducible apply State.modEpoch_good
    | with_reducible apply State.fireHook_good
    | with_reducible apply State.takeSlot_good
    | with_reducible apply State.abortPlain_good
    | with_reducible apply State.nextSolve_good
    | with_reducible apply State.evaluate_good
    | with_reducible apply ite_good
    | split

theorem State.abortRequest_good {z : Lasting} {s : State} (e : W32) (hs : s.Good z) : (State.abortRequest s e).1.Good z := by
  unfold State.abortRequest
  repeat' first
    | with_reducible assumption
    | ((try lift_lets -underBinder); intro s1; refine have_good (z := z) (s := s1) ?_ (fun h1 => ?_) <;> [subst s1; try clear_value s1])
    | with_reducible apply State.layDue_good
    | with_reducible apply State.withdrawLay_good
    | with_reducible apply State.nextSolve_good
    | with_reducible apply State.abortPlain_good
    | with_reducible apply ite_fst_good
    | with_reducible apply ite_good
    | split

theorem State.hostFile_good {z : Lasting} {s : State} (op : CmdOp) (h : HostCmd) (hs : s.Good z) : (State.hostFile s op h).Good z := by
  unfold State.hostFile
  repeat' first
    | with_reducible assumption
    | ((try lift_lets -underBinder); intro s1; refine have_fst (z := z) (p := s1) ?_ (fun h1 => ?_) <;> [subst s1; try clear_value s1])
    | ((try lift_lets -underBinder); intro x1; first | (have f1 : ∀ _, _ := x1; clear f1) | clear_value x1)
    | with_reducible apply State.file_good
    | with_reducible apply State.wr_good

theorem State.entryRead_good {z : Lasting} {s : State} (i : Nat) (hs : s.Good z) : (State.entryRead s i).Good z := by
  unfold State.entryRead
  repeat' first
    | with_reducible assumption
    | with_reducible apply State.freeEntry_good
    | with_reducible apply ite_good
    | split

theorem State.slotMended_good {z : Lasting} {s : State} (n : Nat) (hs : s.Good z) : (State.slotMended s n).Good z := by
  unfold State.slotMended
  repeat' first
    | with_reducible assumption
    | ((try lift_lets -underBinder); intro x1; first | (have f1 : ∀ _, _ := x1; clear f1) | clear_value x1)
    | fail_if_no_progress (with_reducible apply good_mk; with_reducible apply good_of)

theorem State.resolveSlot_good {z : Lasting} (x0 : Nat) {x1 : State} (x2 : Fin 16) (hx1 : x1.Good z) : (State.resolveSlot x0 x1 x2).Good z := by
  induction x0 generalizing x1 x2 with
  | zero =>
    rw [State.resolveSlot]
    repeat' first
      | with_reducible assumption
  | succ k ih =>
    rw [State.resolveSlot]
    repeat' first
      | with_reducible assumption
      | with_reducible apply ih
      | ((try lift_lets -underBinder); intro s1; refine have_good (z := z) (s := s1) ?_ (fun h1 => ?_) <;> [subst s1; try clear_value s1])
      | with_reducible apply State.putWeave_good
      | with_reducible apply State.slotMended_good
      | with_reducible apply ite_good
      | split


theorem State.respond_good {z : Lasting} {s : State} (m : Nat) (ok : Bool) (data : BitVec 64) (hs : s.Good z) : (State.respond s m ok data).Good z := by
  unfold State.respond
  repeat' first
    | with_reducible assumption
    | ((try lift_lets -underBinder); intro x1; first | (have f1 : ∀ _, _ := x1; clear f1) | clear_value x1)
    | fail_if_no_progress (with_reducible apply good_mk; with_reducible apply good_of)

theorem State.dmapChanged_good {z : Lasting} {s : State} (dm : List DmapEntry) (hs : s.Good z) : (State.dmapChanged s dm).Good z := by
  unfold State.dmapChanged
  repeat' first
    | with_reducible assumption
    | ((try lift_lets -underBinder); intro x1; first | (have f1 : ∀ _, _ := x1; clear f1) | clear_value x1)
    | with_reducible apply State.ckptDefect_good
    | with_reducible apply State.wr_good
    | fail_if_no_progress (with_reducible apply good_mk; with_reducible apply good_of)

theorem State.dmapAdd_good {z : Lasting} {s : State} (w : W32) (hs : s.Good z) : (State.dmapAdd s w).Good z := by
  unfold State.dmapAdd
  repeat' first
    | with_reducible assumption
    | ((try lift_lets -underBinder); intro s1; refine have_good (z := z) (s := s1) ?_ (fun h1 => ?_) <;> [subst s1; try clear_value s1])
    | ((try lift_lets -underBinder); intro x1; first | (have f1 : ∀ _, _ := x1; clear f1) | clear_value x1)
    | with_reducible apply State.dmapChanged_good
    | with_reducible apply State.wr_good
    | with_reducible apply ite_good
    | fail_if_no_progress (with_reducible apply good_mk; with_reducible apply good_of)

theorem State.dmapRemove_good {z : Lasting} {s : State} (w : W32) (hs : s.Good z) : (State.dmapRemove s w).Good z := by
  unfold State.dmapRemove
  repeat' first
    | with_reducible assumption
    | ((try lift_lets -underBinder); intro s1; refine have_good (z := z) (s := s1) ?_ (fun h1 => ?_) <;> [subst s1; try clear_value s1])
    | ((try lift_lets -underBinder); intro x1; first | (have f1 : ∀ _, _ := x1; clear f1) | clear_value x1)
    | with_reducible apply State.dmapChanged_good
    | with_reducible apply State.wr_good
    | with_reducible apply ite_good
    | split

end Sys2Proof.Machine
end

