-- ==== Sys2Proof/Laws/GoodSwitchOps.lean ====
section
/-! SUPPORT. Every operation of Machine/SwitchOps.lean keeps a sound state sound and, but for those named _ok, the fuses and the
flash as they are. -/

namespace Sys2Proof.Machine

theorem State.setOutQ_good {z : Lasting} {s : State} (q : OutQueue) (hs : s.Good z) : (State.setOutQ s q).Good z := by
  unfold State.setOutQ
  repeat' first
    | with_reducible assumption
    | ((try lift_lets -underBinder); intro x1; first | (have f1 : ∀ _, _ := x1; clear f1) | clear_value x1)
    | split
    | fail_if_no_progress (with_reducible apply good_mk; with_reducible apply good_of)

theorem State.setFree_good {z : Lasting} {s : State} (n : Nat) (hs : s.Good z) : (State.setFree s n).Good z := by
  unfold State.setFree
  repeat' first
    | with_reducible assumption
    | ((try lift_lets -underBinder); intro s1; refine have_good (z := z) (s := s1) ?_ (fun h1 => ?_) <;> [subst s1; try clear_value s1])
    | with_reducible apply State.wr_good
    | with_reducible apply ite_good

theorem State.releaseCopy_good {z : Lasting} {s : State} (id : Nat) (hs : s.Good z) : (State.releaseCopy s id).Good z := by
  unfold State.releaseCopy
  repeat' first
    | with_reducible assumption
    | ((try lift_lets -underBinder); intro x1; first | (have f1 : ∀ _, _ := x1; clear f1) | clear_value x1)
    | with_reducible apply State.setFree_good
    | with_reducible apply ite_good
    | split
    | fail_if_no_progress (with_reducible apply good_mk; with_reducible apply good_of)

theorem State.setCopies_good {z : Lasting} {s : State} (o : Nat) (c : Nat) (l : List QCopy) (hs : s.Good z) : (State.setCopies s o c l).Good z := by
  unfold State.setCopies
  repeat' first
    | with_reducible assumption
    | ((try lift_lets -underBinder); intro x1; first | (have f1 : ∀ _, _ := x1; clear f1) | clear_value x1)
    | with_reducible apply State.setOutQ_good

theorem State.evictFor_good {z : Lasting} {o c u : Nat} : ∀ {n : Nat} {s t : State}, s.Good z →
    State.evictFor o c u n s = some t → t.Good z
  | 0, s, t, hs, h => by
    rw [State.evictFor] at h
    split at h
    · exact Option.some.inj h ▸ hs
    · nomatch h
  | n + 1, s, t, hs, h => by
    rw [State.evictFor] at h
    split at h
    · exact Option.some.inj h ▸ hs
    · split at h
      · nomatch h
      · dsimp only at h
        split at h
        · nomatch h
        · exact State.evictFor_good (State.inc_good _ _ _ _ _ (State.releaseCopy_good _ (State.setCopies_good _ _ _ hs))) h

theorem State.dropCopy_good {z : Lasting} {s : State} (o : Nat) (c : Nat) (hs : s.Good z) : (State.dropCopy s o c).Good z := by
  unfold State.dropCopy
  repeat' first
    | with_reducible assumption
    | with_reducible apply State.inc_good

theorem State.enqueue_good {z : Lasting} {s : State} (o : Nat) (c : Nat) (inPort : Nat) (x : QCopy) (hs : s.Good z) : (State.enqueue s o c inPort x).Good z := by
  unfold State.enqueue
  repeat' first
    | with_reducible assumption
    | ((try lift_lets -underBinder); intro x1; first | (have f1 : ∀ _, _ := x1; clear f1) | clear_value x1)
    | with_reducible apply State.setCopies_good

theorem State.enterBuffer_good {z : Lasting} {s : State} (f : SwFrame) (outs : List (Nat × Bool)) (hs : s.Good z) : (State.enterBuffer s f outs).Good z := by
  have drop : ∀ {l : List (Nat × Bool)} {s : State}, s.Good z → (forEach l (fun s p => s.dropCopy p.1 f.cls) s).Good z :=
    fun h => forEach_good h fun _ _ h => State.dropCopy_good _ _ h
  unfold State.enterBuffer
  lift_lets -underBinder
  intro c s1 o1 fits s2 o2
  have h2 : s2.Good z := drop (drop hs)
  clear_value s2
  clear_value o2 fits
  intro tryOut
  refine ite_good h2 ?_
  split
  · exact drop h2
  · rename_i t h
    have ht : t.Good z := by
      split at h
      · exact Option.some.inj h ▸ h2
      · obtain ⟨p, _, hp⟩ := List.exists_of_findSome?_eq_some h
        exact State.evictFor_good h2 hp
    exact forEach_good (good_mk (good_of (State.setFree_good _ ht))) fun _ _ h => State.setCopies_good _ _ _ h

theorem State.swEnter_good {z : Lasting} {s : State} (inp : Nat) (b : List Byte) (host : Option (Nat × Option Nat)) (ts : Option W64) (tsReq : Nat) (hs : s.Good z) : (State.swEnter s inp b host ts tsReq).Good z := by
  unfold State.swEnter
  repeat' first
    | with_reducible assumption
    | ((try lift_lets -underBinder); intro s1; refine have_good (z := z) (s := s1) ?_ (fun h1 => ?_) <;> [subst s1; try clear_value s1])
    | ((try lift_lets -underBinder); intro x1; first | (have f1 : ∀ _, _ := x1; clear f1) | clear_value x1)
    | with_reducible apply State.inc_good
    | with_reducible apply State.enterBuffer_good
    | with_reducible apply ite_good
    | split

theorem State.enterLedger_good {z : Lasting} {s : State} (hs : s.Good z) : (State.enterLedger s).Good z := by
  unfold State.enterLedger
  repeat' first
    | with_reducible assumption
    | refine fun _ => ?_
    | ((try lift_lets -underBinder); intro x1; first | (have f1 : ∀ _, _ := x1; clear f1) | clear_value x1)
    | with_reducible apply State.swEnter_good
    | with_reducible apply forEach_good
    | fail_if_no_progress (with_reducible apply good_mk; with_reducible apply good_of)

theorem State.enterMgmt_good {z : Lasting} {s : State} (hs : s.Good z) : (State.enterMgmt s).Good z := by
  unfold State.enterMgmt
  repeat' first
    | with_reducible assumption
    | refine fun _ => ?_
    | ((try lift_lets -underBinder); intro x1; first | (have f1 : ∀ _, _ := x1; clear f1) | clear_value x1)
    | with_reducible apply State.swEnter_good
    | with_reducible apply forEach_good
    | fail_if_no_progress (with_reducible apply good_mk; with_reducible apply good_of)

theorem State.takeMgmt_good {z : Lasting} {s : State} (m : MgmtOut) (hs : s.Good z) : (State.takeMgmt s m).Good z := by
  unfold State.takeMgmt
  repeat' first
    | with_reducible assumption
    | ((try lift_lets -underBinder); intro x1; first | (have f1 : ∀ _, _ := x1; clear f1) | clear_value x1)
    | fail_if_no_progress (with_reducible apply good_mk; with_reducible apply good_of)

theorem State.lagHeal_good {z : Lasting} {s : State} (g : Nat) (hs : s.Good z) : (State.lagHeal s g).Good z := by
  unfold State.lagHeal
  repeat' first
    | with_reducible assumption
    | ((try lift_lets -underBinder); intro x1; first | (have f1 : ∀ _, _ := x1; clear f1) | clear_value x1)
    | with_reducible apply State.wr_good
    | with_reducible apply ite_good

theorem State.lagDeal_good {z : Lasting} {s : State} (g : Nat) (hs : s.Good z) : (State.lagDeal s g).Good z := by
  unfold State.lagDeal
  repeat' first
    | with_reducible assumption
    | ((try lift_lets -underBinder); intro x1; first | (have f1 : ∀ _, _ := x1; clear f1) | clear_value x1)
    | with_reducible apply State.wr_good

theorem State.creditSync_good {z : Lasting} {s : State} (o : Nat) (c : Nat) (hs : s.Good z) : (State.creditSync s o c).Good z := by
  unfold State.creditSync
  repeat' first
    | with_reducible assumption
    | ((try lift_lets -underBinder); intro x1; first | (have f1 : ∀ _, _ := x1; clear f1) | clear_value x1)
    | with_reducible apply State.setOutQ_good

theorem State.holdShaper_good {z : Lasting} {s : State} (o : Nat) (c : Nat) (hs : s.Good z) : (State.holdShaper s o c).Good z := by
  unfold State.holdShaper
  repeat' first
    | with_reducible assumption
    | ((try lift_lets -underBinder); intro s1; refine have_good (z := z) (s := s1) ?_ (fun h1 => ?_) <;> [subst s1; try clear_value s1])
    | ((try lift_lets -underBinder); intro x1; first | (have f1 : ∀ _, _ := x1; clear f1) | clear_value x1)
    | with_reducible apply State.creditSync_good
    | with_reducible apply State.setOutQ_good
    | with_reducible apply ite_good

theorem State.stopSending_good {z : Lasting} {s : State} (t : Transmit) (hs : s.Good z) : (State.stopSending s t).Good z := by
  unfold State.stopSending
  repeat' first
    | with_reducible assumption
    | refine fun _ => ?_
    | ((try lift_lets -underBinder); intro s1; refine have_good (z := z) (s := s1) ?_ (fun h1 => ?_) <;> [subst s1; try clear_value s1])
    | ((try lift_lets -underBinder); intro x1; first | (have f1 : ∀ _, _ := x1; clear f1) | clear_value x1)
    | with_reducible apply State.creditSync_good
    | with_reducible apply State.setOutQ_good
    | with_reducible apply forEach_good
    | fail_if_no_progress (with_reducible apply good_mk; with_reducible apply good_of)

theorem State.cutSend_good {z : Lasting} {s : State} (t : Transmit) (hs : s.Good z) : (State.cutSend s t).Good z := by
  unfold State.cutSend
  repeat' first
    | with_reducible assumption
    | ((try lift_lets -underBinder); intro s1; refine have_good (z := z) (s := s1) ?_ (fun h1 => ?_) <;> [subst s1; try clear_value s1])
    | ((try lift_lets -underBinder); intro x1; first | (have f1 : ∀ _, _ := x1; clear f1) | clear_value x1)
    | with_reducible apply State.stopSending_good
    | with_reducible apply ite_good
    | fail_if_no_progress (with_reducible apply good_mk; with_reducible apply good_of)

theorem State.linkDown_good {z : Lasting} {s : State} (p : Nat) (hs : s.Good z) : (State.linkDown s p).Good z := by
  unfold State.linkDown
  repeat' first
    | with_reducible assumption
    | with_reducible apply State.wrB_good

theorem State.flushPorts_good {z : Lasting} {s : State} (hs : s.Good z) : (State.flushPorts s).Good z := by
  unfold State.flushPorts
  repeat' first
    | with_reducible assumption
    | refine fun _ => ?_
    | ((try lift_lets -underBinder); intro s1; refine have_good (z := z) (s := s1) ?_ (fun h1 => ?_) <;> [subst s1; try clear_value s1])
    | ((try lift_lets -underBinder); intro x1; first | (have f1 : ∀ _, _ := x1; clear f1) | clear_value x1)
    | with_reducible apply State.linkDown_good
    | with_reducible apply State.dropCopy_good
    | with_reducible apply State.releaseCopy_good
    | with_reducible apply State.setCopies_good
    | with_reducible apply State.wr_good
    | with_reducible apply State.cutSend_good
    | with_reducible apply State.lagHeal_good
    | with_reducible apply forEach_good

theorem State.setDrr_good {z : Lasting} {s : State} (o : Nat) (c : Nat) (added : Bool) (hs : s.Good z) : (State.setDrr s o c added).Good z := by
  unfold State.setDrr
  repeat' first
    | with_reducible assumption
    | ((try lift_lets -underBinder); intro x1; first | (have f1 : ∀ _, _ := x1; clear f1) | clear_value x1)
    | fail_if_no_progress (with_reducible apply good_mk; with_reducible apply good_of)

theorem State.drrPick_good {z : Lasting} (o : Nat) (x1 : Nat) {x2 : State} (hx2 : x2.Good z) : (State.drrPick o x1 x2).2.Good z := by
  induction x1 generalizing x2 with
  | zero =>
    rw [State.drrPick]
    repeat' first
      | with_reducible assumption
  | succ k ih =>
    rw [State.drrPick]
    repeat' first
      | with_reducible assumption
      | with_reducible apply ih
      | ((try lift_lets -underBinder); intro x1; first | (have f1 : ∀ _, _ := x1; clear f1) | clear_value x1)
      | with_reducible apply State.setDrr_good
      | with_reducible apply State.setOutQ_good
      | with_reducible apply ite_snd_good


theorem State.pickClass_good {z : Lasting} {s : State} (o : Nat) (hs : s.Good z) : (State.pickClass s o).2.Good z := by
  unfold State.pickClass
  repeat' first
    | with_reducible assumption
    | with_reducible apply State.drrPick_good
    | with_reducible apply ite_snd_good
    | split

theorem State.stamp_good {z : Lasting} {s : State} (p : Nat) (back : Int) (lat : Int) (hs : s.Good z) : (State.stamp s p back lat).2.Good z := by
  unfold State.stamp
  repeat' first
    | with_reducible assumption
    | ((try lift_lets -underBinder); intro s1; refine have_snd (z := z) (p := s1) ?_ (fun h1 => ?_) <;> [subst s1; try clear_value s1])
    | ((try lift_lets -underBinder); intro x1; first | (have f1 : ∀ _, _ := x1; clear f1) | clear_value x1)
    | with_reducible apply State.jitter_good

theorem State.egressStamp_good {z : Lasting} {s : State} (o : Nat) (f : SwFrame) (hs : s.Good z) : (State.egressStamp s o f).Good z := by
  unfold State.egressStamp
  repeat' first
    | with_reducible assumption
    | ((try lift_lets -underBinder); intro s1; refine have_good (z := z) (s := s1) ?_ (fun h1 => ?_) <;> [subst s1; try clear_value s1])
    | ((try lift_lets -underBinder); intro s1; refine have_snd (z := z) (p := s1) ?_ (fun h1 => ?_) <;> [subst s1; try clear_value s1])
    | ((try lift_lets -underBinder); intro x1; first | (have f1 : ∀ _, _ := x1; clear f1) | clear_value x1)
    | with_reducible apply State.stamp_good
    | with_reducible apply State.wrB_good
    | with_reducible apply State.wr_good
    | with_reducible apply ite_good
    | fail_if_no_progress (with_reducible apply good_mk; with_reducible apply good_of)

theorem State.startFrame_good {z : Lasting} {s : State} (o : Nat) (c : Nat) (hs : s.Good z) : (State.startFrame s o c).Good z := by
  unfold State.startFrame
  repeat' first
    | with_reducible assumption
    | ((try lift_lets -underBinder); intro s1; refine have_good (z := z) (s := s1) ?_ (fun h1 => ?_) <;> [subst s1; try clear_value s1])
    | ((try lift_lets -underBinder); intro x1; first | (have f1 : ∀ _, _ := x1; clear f1) | clear_value x1)
    | with_reducible apply State.setCopies_good
    | with_reducible apply State.creditSync_good
    | with_reducible apply State.monOffer_good
    | with_reducible apply State.egressStamp_good
    | split
    | fail_if_no_progress (with_reducible apply good_mk; with_reducible apply good_of)

theorem State.hostArrive_good {z : Lasting} {s : State} (f : SwFrame) (hs : s.Good z) : (State.hostArrive s f).Good z := by
  unfold State.hostArrive
  repeat' first
    | with_reducible assumption
    | ((try lift_lets -underBinder); intro s1; refine have_good (z := z) (s := s1) ?_ (fun h1 => ?_) <;> [subst s1; try clear_value s1])
    | ((try lift_lets -underBinder); intro x1; first | (have f1 : ∀ _, _ := x1; clear f1) | clear_value x1)
    | with_reducible apply State.dropCopy_good
    | with_reducible apply State.sendMsix_good
    | with_reducible apply ite_good
    | fail_if_no_progress (with_reducible apply good_mk; with_reducible apply good_of)

theorem State.ledgerArrive_good {z : Lasting} {s : State} (f : SwFrame) (hs : s.Good z) : (State.ledgerArrive s f).Good z := by
  unfold State.ledgerArrive
  repeat' first
    | with_reducible assumption
    | ((try lift_lets -underBinder); intro x1; first | (have f1 : ∀ _, _ := x1; clear f1) | clear_value x1)
    | with_reducible apply State.inc_good
    | split
    | fail_if_no_progress (with_reducible apply good_mk; with_reducible apply good_of)

theorem State.leave_good {z : Lasting} {s : State} (t : Transmit) (f : SwFrame) (hs : s.Good z) : (State.leave s t f).Good z := by
  unfold State.leave
  repeat' first
    | with_reducible assumption
    | ((try lift_lets -underBinder); intro s1; refine have_good (z := z) (s := s1) ?_ (fun h1 => ?_) <;> [subst s1; try clear_value s1])
    | ((try lift_lets -underBinder); intro x1; first | (have f1 : ∀ _, _ := x1; clear f1) | clear_value x1)
    | with_reducible apply State.hostArrive_good
    | with_reducible apply State.ledgerArrive_good
    | with_reducible apply State.wr_good
    | with_reducible apply ite_good
    | fail_if_no_progress (with_reducible apply good_mk; with_reducible apply good_of)

theorem State.endFrame_good {z : Lasting} {s : State} (t : Transmit) (hs : s.Good z) : (State.endFrame s t).Good z := by
  unfold State.endFrame
  repeat' first
    | with_reducible assumption
    | ((try lift_lets -underBinder); intro s1; refine have_good (z := z) (s := s1) ?_ (fun h1 => ?_) <;> [subst s1; try clear_value s1])
    | with_reducible apply State.stopSending_good
    | with_reducible apply State.passToCycle_good
    | with_reducible apply State.releaseCopy_good
    | with_reducible apply State.leave_good
    | with_reducible apply ite_good
    | split

end Sys2Proof.Machine
end

