-- ==== Sys2Proof/Laws/GoodThermOps.lean ====
section
/-! SUPPORT. Every operation of Machine/ThermOps.lean keeps a sound state sound and, but for those named _ok, the fuses and the
flash as they are. -/

namespace Sys2Proof.Machine

theorem State.hkConv_good {z : Lasting} {s : State} (convs : List HkConv) (i : Nat) (hs : s.Good z) : (State.hkConv s convs i).2.Good z := by
  unfold State.hkConv
  repeat' first
    | with_reducible assumption
    | ((try lift_lets -underBinder); intro s1; refine have_snd (z := z) (p := s1) ?_ (fun h1 => ?_) <;> [subst s1; try clear_value s1])
    | with_reducible apply State.draw_good
    | split

theorem State.hkResult_good {z : Lasting} {s : State} (i : Nat) (v : W32) (ovr : Bool) (last : BitVec 14) (hs : s.Good z) : (State.hkResult s i v ovr last).Good z := by
  unfold State.hkResult
  repeat' first
    | with_reducible assumption
    | ((try lift_lets -underBinder); intro s1; refine have_good (z := z) (s := s1) ?_ (fun h1 => ?_) <;> [subst s1; try clear_value s1])
    | ((try lift_lets -underBinder); intro x1; first | (have f1 : ∀ _, _ := x1; clear f1) | clear_value x1)
    | with_reducible apply State.wr_good
    | with_reducible apply State.wrB_good
    | with_reducible apply State.raise_good
    | with_reducible apply ite_good

theorem State.hkResults_good {z : Lasting} {s : State} (convs : List HkConv) (ins : List Nat) (hs : s.Good z) : (State.hkResults s convs ins).Good z := by
  unfold State.hkResults
  repeat' first
    | with_reducible assumption
    | refine fun _ => ?_
    | ((try lift_lets -underBinder); intro s1; refine have_good (z := z) (s := s1) ?_ (fun h1 => ?_) <;> [subst s1; try clear_value s1])
    | ((try lift_lets -underBinder); intro s1; refine have_snd (z := z) (p := s1) ?_ (fun h1 => ?_) <;> [subst s1; try clear_value s1])
    | ((try lift_lets -underBinder); intro x1; first | (have f1 : ∀ _, _ := x1; clear f1) | clear_value x1)
    | with_reducible apply State.hkConv_good
    | with_reducible apply State.draw_good
    | with_reducible apply State.hkResult_good
    | with_reducible apply forEach_good
    | split

theorem State.deriveTemps_good {z : Lasting} {s : State} (hs : s.Good z) : (State.deriveTemps s).Good z := by
  unfold State.deriveTemps
  repeat' first
    | with_reducible assumption
    | ((try lift_lets -underBinder); intro s1; refine have_good (z := z) (s := s1) ?_ (fun h1 => ?_) <;> [subst s1; try clear_value s1])
    | ((try lift_lets -underBinder); intro x1; first | (have f1 : ∀ _, _ := x1; clear f1) | clear_value x1)
    | with_reducible apply State.wrB_good
    | with_reducible apply State.wr_good
    | with_reducible apply ite_good
    | split

theorem State.hkRemember_good {z : Lasting} {s : State} (hs : s.Good z) : (State.hkRemember s).Good z := by
  unfold State.hkRemember
  repeat' first
    | with_reducible assumption
    | ((try lift_lets -underBinder); intro x1; first | (have f1 : ∀ _, _ := x1; clear f1) | clear_value x1)
    | fail_if_no_progress (with_reducible apply good_mk; with_reducible apply good_of)

theorem State.limOne_good {z : Lasting} {s : State} (st : Fld) (cn : Fld) (en : Fld) (i : Nat) (enter : Bool) (leave : Bool) (hs : s.Good z) : (State.limOne s st cn en i enter leave).Good z := by
  unfold State.limOne
  repeat' first
    | with_reducible assumption
    | ((try lift_lets -underBinder); intro x1; first | (have f1 : ∀ _, _ := x1; clear f1) | clear_value x1)
    | with_reducible apply State.wr_good
    | with_reducible apply State.wrB_good

theorem State.limInput_good {z : Lasting} {s : State} (i : Nat) (hs : s.Good z) : (State.limInput s i).Good z := by
  unfold State.limInput
  repeat' first
    | with_reducible assumption
    | ((try lift_lets -underBinder); intro s1; refine have_good (z := z) (s := s1) ?_ (fun h1 => ?_) <;> [subst s1; try clear_value s1])
    | ((try lift_lets -underBinder); intro x1; first | (have f1 : ∀ _, _ := x1; clear f1) | clear_value x1)
    | with_reducible apply State.limOne_good
    | with_reducible apply ite_good
    | split

theorem State.limSource_good {z : Lasting} {s0 : State} {s : State} (src : Nat) (st : Fld) (hs0 : s0.Good z) (hs : s.Good z) : (State.limSource s0 s src st).Good z := by
  unfold State.limSource
  repeat' first
    | with_reducible assumption
    | ((try lift_lets -underBinder); intro x1; first | (have f1 : ∀ _, _ := x1; clear f1) | clear_value x1)
    | with_reducible apply State.levelEnd_good
    | with_reducible apply State.raise_good
    | split

theorem State.limits_good {z : Lasting} {s : State} (hs : s.Good z) : (State.limits s).Good z := by
  unfold State.limits
  repeat' first
    | with_reducible assumption
    | refine fun _ => ?_
    | ((try lift_lets -underBinder); intro s1; refine have_good (z := z) (s := s1) ?_ (fun h1 => ?_) <;> [subst s1; try clear_value s1])
    | with_reducible apply State.limInput_good
    | with_reducible apply State.limSource_good
    | with_reducible apply forEach_good

theorem State.throttle_good {z : Lasting} {s : State} (hs : s.Good z) : (State.throttle s).Good z := by
  unfold State.throttle
  repeat' first
    | with_reducible assumption
    | ((try lift_lets -underBinder); intro x1; first | (have f1 : ∀ _, _ := x1; clear f1) | clear_value x1)
    | with_reducible apply ite_good
    | fail_if_no_progress (with_reducible apply good_mk; with_reducible apply good_of)

theorem State.writeGates_good {z : Lasting} {s : State} (hs : s.Good z) : (State.writeGates s).Good z := by
  unfold State.writeGates
  repeat' first
    | with_reducible assumption
    | ((try lift_lets -underBinder); intro s1; refine have_good (z := z) (s := s1) ?_ (fun h1 => ?_) <;> [subst s1; try clear_value s1])
    | ((try lift_lets -underBinder); intro x1; first | (have f1 : ∀ _, _ := x1; clear f1) | clear_value x1)
    | with_reducible apply State.wrB_good
    | split
    | fail_if_no_progress (with_reducible apply good_mk; with_reducible apply good_of)

theorem State.hkStart_good {z : Lasting} {s : State} (hs : s.Good z) : (State.hkStart s).Good z := by
  unfold State.hkStart
  repeat' first
    | with_reducible assumption
    | ((try lift_lets -underBinder); intro s1; refine have_good (z := z) (s := s1) ?_ (fun h1 => ?_) <;> [subst s1; try clear_value s1])
    | ((try lift_lets -underBinder); intro x1; first | (have f1 : ∀ _, _ := x1; clear f1) | clear_value x1)
    | with_reducible apply State.passToCycle_good
    | with_reducible apply State.wrB_good
    | with_reducible apply ite_good
    | fail_if_no_progress (with_reducible apply good_mk; with_reducible apply good_of)

theorem State.hkAux_good {z : Lasting} {s : State} (ins : List Nat) (hs : s.Good z) : (State.hkAux s ins).Good z := by
  unfold State.hkAux
  repeat' first
    | with_reducible assumption
    | ((try lift_lets -underBinder); intro x1; first | (have f1 : ∀ _, _ := x1; clear f1) | clear_value x1)
    | fail_if_no_progress (with_reducible apply good_mk; with_reducible apply good_of)

theorem State.hkPublish_good {z : Lasting} {s : State} (convs : List HkConv) (hs : s.Good z) : (State.hkPublish s convs).Good z := by
  unfold State.hkPublish
  repeat' first
    | with_reducible assumption
    | ((try lift_lets -underBinder); intro s1; refine have_good (z := z) (s := s1) ?_ (fun h1 => ?_) <;> [subst s1; try clear_value s1])
    | ((try lift_lets -underBinder); intro x1; first | (have f1 : ∀ _, _ := x1; clear f1) | clear_value x1)
    | with_reducible apply State.passToCycle_good
    | with_reducible apply State.hkResults_good
    | with_reducible apply State.wr_good
    | with_reducible apply State.wrB_good
    | with_reducible apply State.writeGates_good
    | with_reducible apply State.throttle_good
    | with_reducible apply State.limits_good
    | with_reducible apply State.hkRemember_good
    | with_reducible apply State.deriveTemps_good
    | with_reducible apply State.hkAux_good
    | with_reducible apply ite_good
    | split
    | fail_if_no_progress (with_reducible apply good_mk; with_reducible apply good_of)

theorem State.pwmPeriod_good {z : Lasting} {s : State} (n : Nat) (at4 : Nat) (j : Nat) (hs : s.Good z) : (State.pwmPeriod s n at4 j).Good z := by
  unfold State.pwmPeriod
  repeat' first
    | with_reducible assumption
    | ((try lift_lets -underBinder); intro x1; first | (have f1 : ∀ _, _ := x1; clear f1) | clear_value x1)
    | with_reducible apply State.setPm_good

theorem State.pwmSyncOut_good {z : Lasting} {s : State} (n : Nat) (hs : s.Good z) : (State.pwmSyncOut s n).Good z := by
  unfold State.pwmSyncOut
  repeat' first
    | with_reducible assumption
    | ((try lift_lets -underBinder); intro x1; first | (have f1 : ∀ _, _ := x1; clear f1) | clear_value x1)
    | with_reducible apply ite_good
    | fail_if_no_progress (with_reducible apply good_mk; with_reducible apply good_of)

theorem State.pwmReload_good {z : Lasting} {s : State} (n : Nat) (hs : s.Good z) : (State.pwmReload s n).Good z := by
  unfold State.pwmReload
  repeat' first
    | with_reducible assumption
    | ((try lift_lets -underBinder); intro s1; refine have_good (z := z) (s := s1) ?_ (fun h1 => ?_) <;> [subst s1; try clear_value s1])
    | ((try lift_lets -underBinder); intro x1; first | (have f1 : ∀ _, _ := x1; clear f1) | clear_value x1)
    | with_reducible apply State.pwmSyncOut_good
    | with_reducible apply State.passToCycle_good
    | with_reducible apply State.pwmPeriod_good
    | with_reducible apply ite_good

theorem State.pwmEnable_good {z : Lasting} {s : State} (n : Nat) (en : Bool) (hs : s.Good z) : (State.pwmEnable s n en).Good z := by
  unfold State.pwmEnable
  repeat' first
    | with_reducible assumption
    | with_reducible apply State.pwmPeriod_good
    | with_reducible apply State.wrB_good
    | with_reducible apply ite_good

theorem State.pwmGuard_good {z : Lasting} {s : State} (hs : s.Good z) : (State.pwmGuard s).Good z := by
  unfold State.pwmGuard
  repeat' first
    | with_reducible assumption
    | refine fun _ => ?_
    | ((try lift_lets -underBinder); intro x1; first | (have f1 : ∀ _, _ := x1; clear f1) | clear_value x1)
    | with_reducible apply State.setPm_good
    | with_reducible apply ite_good
    | with_reducible apply forEach_good

theorem State.tripLatch_good {z : Lasting} {s : State} (hs : s.Good z) : (State.tripLatch s).Good z := by
  unfold State.tripLatch
  repeat' first
    | with_reducible assumption
    | ((try lift_lets -underBinder); intro s1; refine have_good (z := z) (s := s1) ?_ (fun h1 => ?_) <;> [subst s1; try clear_value s1])
    | ((try lift_lets -underBinder); intro x1; first | (have f1 : ∀ _, _ := x1; clear f1) | clear_value x1)
    | with_reducible apply State.wr_good
    | with_reducible apply State.levelEnd_good
    | with_reducible apply State.raise_good
    | with_reducible apply ite_good

theorem State.tripPins_good {z : Lasting} {s : State} (hs : s.Good z) : (State.tripPins s).Good z := by
  unfold State.tripPins
  repeat' first
    | with_reducible assumption
    | ((try lift_lets -underBinder); intro s1; refine have_snd (z := z) (p := s1) ?_ (fun h1 => ?_) <;> [subst s1; try clear_value s1])
    | with_reducible apply State.draw_good
    | with_reducible apply State.wr_good
    | with_reducible apply ite_good

theorem State.tripClr_good {z : Lasting} {s : State} (mask : Nat) (hs : s.Good z) : (State.tripClr s mask).Good z := by
  unfold State.tripClr
  repeat' first
    | with_reducible assumption
    | ((try lift_lets -underBinder); intro s1; refine have_good (z := z) (s := s1) ?_ (fun h1 => ?_) <;> [subst s1; try clear_value s1])
    | ((try lift_lets -underBinder); intro x1; first | (have f1 : ∀ _, _ := x1; clear f1) | clear_value x1)
    | with_reducible apply State.tripPins_good
    | with_reducible apply State.wr_good
    | with_reducible apply State.levelEnd_good
    | with_reducible apply ite_good

end Sys2Proof.Machine
end

