-- ==== Sys2Proof/Laws/GoodClockOps.lean ====
section
/-! SUPPORT. Every operation of Machine/ClockOps.lean keeps a sound state sound and, but for those named _ok, the fuses and the
flash as they are. -/

namespace Sys2Proof.Machine

theorem State.trap_good {z : Lasting} {s : State} (q : Nat) (cause : Nat) (hs : s.Good z) : (State.trap s q cause).Good z := by
  unfold State.trap
  repeat' first
    | with_reducible assumption
    | ((try lift_lets -underBinder); intro s1; refine have_good (z := z) (s := s1) ?_ (fun h1 => ?_) <;> [subst s1; try clear_value s1])
    | ((try lift_lets -underBinder); intro x1; first | (have f1 : ∀ _, _ := x1; clear f1) | clear_value x1)
    | with_reducible apply State.raise_good
    | with_reducible apply State.setSq_good
    | fail_if_no_progress (with_reducible apply good_mk; with_reducible apply good_of)

theorem State.errFirst_good {z : Lasting} {s : State} (m : Nat) (kind : Nat) (addr : Nat) (hs : s.Good z) : (State.errFirst s m kind addr).Good z := by
  unfold State.errFirst
  repeat' first
    | with_reducible assumption
    | with_reducible apply State.wr_good
    | with_reducible apply State.wrB_good
    | with_reducible apply ite_good

theorem State.errResponse_good {z : Lasting} {s : State} (m : Nat) (write : Bool) (hs : s.Good z) : (State.errResponse s m write).Good z := by
  unfold State.errResponse
  repeat' first
    | with_reducible assumption
    | ((try lift_lets -underBinder); intro x1; first | (have f1 : ∀ _, _ := x1; clear f1) | clear_value x1)
    | with_reducible apply ite_good
    | fail_if_no_progress (with_reducible apply good_mk; with_reducible apply good_of)

theorem State.busError_good {z : Lasting} {s : State} (m : Nat) (kind : Nat) (addr : Nat) (write : Bool) (hs : s.Good z) : (State.busError s m kind addr write).Good z := by
  unfold State.busError
  repeat' first
    | with_reducible assumption
    | with_reducible apply State.errResponse_good
    | with_reducible apply State.raise_good
    | with_reducible apply State.inc_good
    | with_reducible apply State.errFirst_good

theorem State.markPassed_good {z : Lasting} {s : State} (x0 : Nat) (hs : s.Good z) : (State.markPassed s x0).Good z := by
  unfold State.markPassed
  repeat' first
    | with_reducible assumption
    | ((try lift_lets -underBinder); intro x1; first | (have f1 : ∀ _, _ := x1; clear f1) | clear_value x1)
    | fail_if_no_progress (with_reducible apply good_mk; with_reducible apply good_of)

theorem State.clampInc_good {z : Lasting} {s : State} (hs : s.Good z) : (State.clampInc s).Good z := by
  unfold State.clampInc
  repeat' first
    | with_reducible assumption
    | ((try lift_lets -underBinder); intro x1; first | (have f1 : ∀ _, _ := x1; clear f1) | clear_value x1)
    | with_reducible apply State.wrB_good
    | with_reducible apply State.wr_good
    | with_reducible apply ite_good

theorem State.jumpFrames_good {z : Lasting} {s : State} (q : Int) (hs : s.Good z) : (State.jumpFrames s q).Good z := by
  unfold State.jumpFrames
  repeat' first
    | with_reducible assumption
    | ((try lift_lets -underBinder); intro x1; first | (have f1 : ∀ _, _ := x1; clear f1) | clear_value x1)
    | with_reducible apply ite_good
    | fail_if_no_progress (with_reducible apply good_mk; with_reducible apply good_of)

theorem State.adjustBound_good {z : Lasting} {s : State} (a : Int) (hs : s.Good z) : (State.adjustBound s a).Good z := by
  unfold State.adjustBound
  repeat' first
    | with_reducible assumption
    | ((try lift_lets -underBinder); intro x1; first | (have f1 : ∀ _, _ := x1; clear f1) | clear_value x1)
    | with_reducible apply State.markPassed_good
    | with_reducible apply State.jumpFrames_good
    | with_reducible apply State.setTb_good

theorem State.rebind_good {z : Lasting} {s : State} (hs : s.Good z) : (State.rebind s).Good z := by
  unfold State.rebind
  repeat' first
    | with_reducible assumption
    | ((try lift_lets -underBinder); intro s1; refine have_good (z := z) (s := s1) ?_ (fun h1 => ?_) <;> [subst s1; try clear_value s1])
    | ((try lift_lets -underBinder); intro s1; refine have_snd (z := z) (p := s1) ?_ (fun h1 => ?_) <;> [subst s1; try clear_value s1])
    | ((try lift_lets -underBinder); intro x1; first | (have f1 : ∀ _, _ := x1; clear f1) | clear_value x1)
    | with_reducible apply State.clampInc_good
    | with_reducible apply State.draw_good
    | with_reducible apply State.setTb_good
    | with_reducible apply State.adjustBound_good
    | with_reducible apply ite_good
    | fail_if_no_progress (with_reducible apply good_mk; with_reducible apply good_of)

theorem State.bindFollow_good {z : Lasting} {s0 : State} {s : State} (hs0 : s0.Good z) (hs : s.Good z) : (State.bindFollow s0 s).Good z := by
  unfold State.bindFollow
  repeat' first
    | with_reducible assumption
    | ((try lift_lets -underBinder); intro x1; first | (have f1 : ∀ _, _ := x1; clear f1) | clear_value x1)
    | with_reducible apply State.rebind_good
    | with_reducible apply ite_good
    | fail_if_no_progress (with_reducible apply good_mk; with_reducible apply good_of)

theorem State.domMove_good {z : Lasting} {s : State} (fallback : Bool) (d : Nat) (hs : s.Good z) : (State.domMove s fallback d).Good z := by
  unfold State.domMove
  repeat' first
    | with_reducible assumption
    | ((try lift_lets -underBinder); intro s1; refine have_good (z := z) (s := s1) ?_ (fun h1 => ?_) <;> [subst s1; try clear_value s1])
    | ((try lift_lets -underBinder); intro x1; first | (have f1 : ∀ _, _ := x1; clear f1) | clear_value x1)
    | with_reducible apply State.wrB_good
    | with_reducible apply State.bindFollow_good
    | with_reducible apply ite_good
    | fail_if_no_progress (with_reducible apply good_mk; with_reducible apply good_of)

theorem State.switchForced_good {z : Lasting} {s : State} (d : Nat) (hs : s.Good z) : (State.switchForced s d).Good z := by
  unfold State.switchForced
  repeat' first
    | with_reducible assumption
    | ((try lift_lets -underBinder); intro s1; refine have_good (z := z) (s := s1) ?_ (fun h1 => ?_) <;> [subst s1; try clear_value s1])
    | ((try lift_lets -underBinder); intro x1; first | (have f1 : ∀ _, _ := x1; clear f1) | clear_value x1)
    | with_reducible apply State.raise_good
    | with_reducible apply State.passToCycle_good
    | split
    | fail_if_no_progress (with_reducible apply good_mk; with_reducible apply good_of)

theorem State.qualAgain_good {z : Lasting} {s : State} (hs : s.Good z) : (State.qualAgain s).Good z := by
  unfold State.qualAgain
  repeat' first
    | with_reducible assumption
    | ((try lift_lets -underBinder); intro x1; first | (have f1 : ∀ _, _ := x1; clear f1) | clear_value x1)
    | fail_if_no_progress (with_reducible apply good_mk; with_reducible apply good_of)

theorem State.failEffects_good {z : Lasting} {s : State} (code : Nat) (hs : s.Good z) : (State.failEffects s code).Good z := by
  unfold State.failEffects
  repeat' first
    | with_reducible assumption
    | ((try lift_lets -underBinder); intro s1; refine have_good (z := z) (s := s1) ?_ (fun h1 => ?_) <;> [subst s1; try clear_value s1])
    | ((try lift_lets -underBinder); intro x1; first | (have f1 : ∀ _, _ := x1; clear f1) | clear_value x1)
    | with_reducible apply State.qualAgain_good
    | with_reducible apply State.wrB_good
    | with_reducible apply State.wr_good
    | with_reducible apply State.streamOff_good
    | with_reducible apply ite_good
    | split
    | fail_if_no_progress (with_reducible apply good_mk; with_reducible apply good_of)

theorem State.declareClk_good {z : Lasting} {s : State} (code : Nat) (hs : s.Good z) : (State.declareClk s code).Good z := by
  unfold State.declareClk
  repeat' first
    | with_reducible assumption
    | refine fun _ => ?_
    | ((try lift_lets -underBinder); intro s1; refine have_good (z := z) (s := s1) ?_ (fun h1 => ?_) <;> [subst s1; try clear_value s1])
    | ((try lift_lets -underBinder); intro x1; first | (have f1 : ∀ _, _ := x1; clear f1) | clear_value x1)
    | with_reducible apply State.domMove_good
    | with_reducible apply State.wr_good
    | with_reducible apply State.failEffects_good
    | with_reducible apply State.record_good
    | with_reducible apply State.wrB_good
    | with_reducible apply State.setTb_good
    | with_reducible apply ite_good
    | with_reducible apply forEach_good
    | fail_if_no_progress (with_reducible apply good_mk; with_reducible apply good_of)

theorem State.clkPass_good {z : Lasting} {s : State} (codes : List Nat) (hs : s.Good z) : (State.clkPass s codes).Good z := by
  unfold State.clkPass
  repeat' first
    | with_reducible assumption
    | ((try lift_lets -underBinder); intro s1; refine have_good (z := z) (s := s1) ?_ (fun h1 => ?_) <;> [subst s1; try clear_value s1])
    | ((try lift_lets -underBinder); intro x1; first | (have f1 : ∀ _, _ := x1; clear f1) | clear_value x1)
    | with_reducible apply State.wrB_good
    | with_reducible apply State.levelEnd_good
    | with_reducible apply ite_good
    | fail_if_no_progress (with_reducible apply good_mk; with_reducible apply good_of)

theorem State.xrResult_good {z : Lasting} {s : State} (pass : Bool) (hs : s.Good z) : (State.xrResult s pass).Good z := by
  unfold State.xrResult
  repeat' first
    | with_reducible assumption
    | ((try lift_lets -underBinder); intro s1; refine have_good (z := z) (s := s1) ?_ (fun h1 => ?_) <;> [subst s1; try clear_value s1])
    | ((try lift_lets -underBinder); intro x1; first | (have f1 : ∀ _, _ := x1; clear f1) | clear_value x1)
    | with_reducible apply State.clkPass_good
    | with_reducible apply State.declareClk_good
    | with_reducible apply ite_good
    | fail_if_no_progress (with_reducible apply good_mk; with_reducible apply good_of)

theorem State.refRestored_good {z : Lasting} {s : State} (hs : s.Good z) : (State.refRestored s).Good z := by
  unfold State.refRestored
  repeat' first
    | with_reducible assumption
    | ((try lift_lets -underBinder); intro x1; first | (have f1 : ∀ _, _ := x1; clear f1) | clear_value x1)
    | with_reducible apply State.clkPass_good
    | with_reducible apply State.wrB_good
    | fail_if_no_progress (with_reducible apply good_mk; with_reducible apply good_of)

theorem State.refResult_good {z : Lasting} {s : State} (pass : Bool) (hs : s.Good z) : (State.refResult s pass).Good z := by
  unfold State.refResult
  repeat' first
    | with_reducible assumption
    | ((try lift_lets -underBinder); intro s1; refine have_good (z := z) (s := s1) ?_ (fun h1 => ?_) <;> [subst s1; try clear_value s1])
    | ((try lift_lets -underBinder); intro x1; first | (have f1 : ∀ _, _ := x1; clear f1) | clear_value x1)
    | with_reducible apply State.wrB_good
    | with_reducible apply State.clkPass_good
    | with_reducible apply State.refRestored_good
    | with_reducible apply State.declareClk_good
    | with_reducible apply ite_good
    | fail_if_no_progress (with_reducible apply good_mk; with_reducible apply good_of)

theorem State.domReturn_good {z : Lasting} {s : State} (d : Nat) (hs : s.Good z) : (State.domReturn s d).Good z := by
  unfold State.domReturn
  repeat' first
    | with_reducible assumption
    | with_reducible apply State.domMove_good
    | with_reducible apply ite_good

theorem State.xtalQualified_good {z : Lasting} {s : State} (hs : s.Good z) : (State.xtalQualified s).Good z := by
  unfold State.xtalQualified
  repeat' first
    | with_reducible assumption
    | ((try lift_lets -underBinder); intro x1; first | (have f1 : ∀ _, _ := x1; clear f1) | clear_value x1)
    | with_reducible apply State.domReturn_good
    | with_reducible apply State.clkPass_good
    | with_reducible apply State.wrB_good
    | fail_if_no_progress (with_reducible apply good_mk; with_reducible apply good_of)

theorem State.qualWindow_good {z : Lasting} {s : State} (pass : Bool) (hs : s.Good z) : (State.qualWindow s pass).Good z := by
  unfold State.qualWindow
  repeat' first
    | with_reducible assumption
    | ((try lift_lets -underBinder); intro x1; first | (have f1 : ∀ _, _ := x1; clear f1) | clear_value x1)
    | with_reducible apply State.qualAgain_good
    | with_reducible apply State.xtalQualified_good
    | with_reducible apply ite_good
    | fail_if_no_progress (with_reducible apply good_mk; with_reducible apply good_of)

theorem State.monWindow_good {z : Lasting} {s : State} (mon : ClockMon) (n : Nat) (hs : s.Good z) : (State.monWindow s mon n).Good z := by
  unfold State.monWindow
  repeat' first
    | with_reducible assumption
    | ((try lift_lets -underBinder); intro s1; refine have_good (z := z) (s := s1) ?_ (fun h1 => ?_) <;> [subst s1; try clear_value s1])
    | ((try lift_lets -underBinder); intro x1; first | (have f1 : ∀ _, _ := x1; clear f1) | clear_value x1)
    | with_reducible apply State.qualWindow_good
    | with_reducible apply State.xrResult_good
    | with_reducible apply State.wr_good
    | with_reducible apply State.clkPass_good
    | with_reducible apply State.declareClk_good
    | with_reducible apply State.refResult_good
    | with_reducible apply ite_good
    | split
    | fail_if_no_progress (with_reducible apply good_mk; with_reducible apply good_of)

theorem State.clocksReady_good {z : Lasting} {s : State} (hs : s.Good z) : (State.clocksReady s).Good z := by
  unfold State.clocksReady
  repeat' first
    | with_reducible assumption
    | ((try lift_lets -underBinder); intro x1; first | (have f1 : ∀ _, _ := x1; clear f1) | clear_value x1)
    | with_reducible apply State.wr_good
    | fail_if_no_progress (with_reducible apply good_mk; with_reducible apply good_of)

theorem State.domSrc_good {z : Lasting} {s : State} (d : Nat) (fallback : Bool) (hs : s.Good z) : (State.domSrc s d fallback).Good z := by
  unfold State.domSrc
  repeat' first
    | with_reducible assumption
    | ((try lift_lets -underBinder); intro x1; first | (have f1 : ∀ _, _ := x1; clear f1) | clear_value x1)
    | with_reducible apply State.domMove_good
    | with_reducible apply State.wrB_good
    | with_reducible apply ite_good
    | fail_if_no_progress (with_reducible apply good_mk; with_reducible apply good_of)

theorem State.pwrRequest_good {z : Lasting} {s : State} (t : Nat) (hs : s.Good z) : (State.pwrRequest s t).Good z := by
  unfold State.pwrRequest
  repeat' first
    | with_reducible assumption
    | with_reducible apply State.wrB_good
    | with_reducible apply State.pwrFollow_good
    | with_reducible apply State.wr_good
    | with_reducible apply ite_good

theorem State.pwrDone_good {z : Lasting} {s : State} (hs : s.Good z) : (State.pwrDone s).Good z := by
  unfold State.pwrDone
  repeat' first
    | with_reducible assumption
    | ((try lift_lets -underBinder); intro s1; refine have_good (z := z) (s := s1) ?_ (fun h1 => ?_) <;> [subst s1; try clear_value s1])
    | with_reducible apply State.wr_good
    | with_reducible apply State.streamOff_good
    | with_reducible apply State.wrB_good
    | with_reducible apply ite_good

theorem State.endAccess_good {z : Lasting} {s : State} (m : Nat) (write : Bool) (hs : s.Good z) : (State.endAccess s m write).Good z := by
  unfold State.endAccess
  repeat' first
    | with_reducible assumption
    | ((try lift_lets -underBinder); intro s1; refine have_good (z := z) (s := s1) ?_ (fun h1 => ?_) <;> [subst s1; try clear_value s1])
    | with_reducible apply State.errResponse_good
    | with_reducible apply State.trap_good
    | with_reducible apply ite_good

theorem State.passCore_good {z : Lasting} {s : State} (n : Nat) (hs : s.Good z) : (State.passCore s n).Good z := by
  unfold State.passCore
  repeat' first
    | with_reducible assumption
    | with_reducible apply State.passCycles_good

theorem State.targetTimeout_good {z : Lasting} {s : State} (m : Nat) (addr : Nat) (hs : s.Good z) : (State.targetTimeout s m addr).Good z := by
  unfold State.targetTimeout
  repeat' first
    | with_reducible assumption
    | ((try lift_lets -underBinder); intro s1; refine have_good (z := z) (s := s1) ?_ (fun h1 => ?_) <;> [subst s1; try clear_value s1])
    | ((try lift_lets -underBinder); intro s1; refine have_snd (z := z) (p := s1) ?_ (fun h1 => ?_) <;> [subst s1; try clear_value s1])
    | with_reducible apply State.draw_good
    | with_reducible apply State.passCore_good
    | with_reducible apply State.raise_good
    | with_reducible apply State.inc_good
    | with_reducible apply State.errFirst_good
    | with_reducible apply State.endAccess_good

theorem State.masterReset_good {z : Lasting} {s : State} (m : Nat) (hs : s.Good z) : (State.masterReset s m).Good z := by
  unfold State.masterReset
  repeat' first
    | with_reducible assumption
    | ((try lift_lets -underBinder); intro s1; refine have_good (z := z) (s := s1) ?_ (fun h1 => ?_) <;> [subst s1; try clear_value s1])
    | ((try lift_lets -underBinder); intro x1; first | (have f1 : ∀ _, _ := x1; clear f1) | clear_value x1)
    | with_reducible apply State.wrB_good
    | fail_if_no_progress (with_reducible apply good_mk; with_reducible apply good_of)

theorem State.masterDrained_good {z : Lasting} {s : State} (m : Nat) (hs : s.Good z) : (State.masterDrained s m).Good z := by
  unfold State.masterDrained
  repeat' first
    | with_reducible assumption
    | ((try lift_lets -underBinder); intro x1; first | (have f1 : ∀ _, _ := x1; clear f1) | clear_value x1)
    | with_reducible apply State.wrB_good
    | fail_if_no_progress (with_reducible apply good_mk; with_reducible apply good_of)

theorem State.gateForced_good {z : Lasting} {s : State} (block : W32) (hs : s.Good z) : (State.gateForced s block).Good z := by
  unfold State.gateForced
  repeat' first
    | with_reducible assumption
    | ((try lift_lets -underBinder); intro s1; refine have_good (z := z) (s := s1) ?_ (fun h1 => ?_) <;> [subst s1; try clear_value s1])
    | ((try lift_lets -underBinder); intro s1; refine have_snd (z := z) (p := s1) ?_ (fun h1 => ?_) <;> [subst s1; try clear_value s1])
    | ((try lift_lets -underBinder); intro x1; first | (have f1 : ∀ _, _ := x1; clear f1) | clear_value x1)
    | with_reducible apply State.draw_good
    | with_reducible apply State.passCore_good
    | with_reducible apply State.inc_good
    | with_reducible apply State.errFirst_good
    | with_reducible apply State.endAccess_good
    | with_reducible apply State.raise_good

end Sys2Proof.Machine
end

