-- ==== Sys2Proof/Laws/GoodBootOps.lean ====
section
/-! SUPPORT. Every operation of Machine/BootOps.lean keeps a sound state sound and, but for those named _ok, the fuses and the
flash as they are. -/

namespace Sys2Proof.Machine

theorem State.deviceReset_good {z : Lasting} {s : State} (cause : Nat) (hs : s.Good z) : (State.deviceReset s cause).Good z :=
  State.wr_good _ _ _ _ _ ⟨show (Memory.wf State.reset.mem && Sparse.rising 0 State.reset.regs) = true by decide, hs.2⟩

theorem State.bootBegin_good {z : Lasting} {s : State} (hs : s.Good z) : (State.bootBegin s).Good z := by
  unfold State.bootBegin
  repeat' first
    | with_reducible assumption
    | ((try lift_lets -underBinder); intro x1; (have f1 : BootState := x1; clear f1); subst x1)
    | ((try lift_lets -underBinder); intro x1; first | (have f1 : ∀ _, _ := x1; clear f1) | clear_value x1)
    | with_reducible apply State.wr_good
    | fail_if_no_progress (with_reducible apply good_mk; with_reducible apply good_of)

theorem State.warmReset_good {z : Lasting} {s : State} (cause : Nat) (hs : s.Good z) : (State.warmReset s cause).Good z := by
  unfold State.warmReset
  repeat' first
    | with_reducible assumption
    | with_reducible apply State.bootBegin_good
    | with_reducible apply State.deviceReset_good

theorem State.fuseLoad_good {z : Lasting} {s : State} (hs : s.Good z) : (State.fuseLoad s).Good z := by
  unfold State.fuseLoad
  repeat' first
    | with_reducible assumption
    | ((try lift_lets -underBinder); intro s1; refine have_good (z := z) (s := s1) ?_ (fun h1 => ?_) <;> [subst s1; try clear_value s1])
    | ((try lift_lets -underBinder); intro x1; first | (have f1 : ∀ _, _ := x1; clear f1) | clear_value x1)
    | with_reducible apply State.wrB_good
    | with_reducible apply State.wr_good

theorem State.rejectCopy_good {z : Lasting} {s : State} (copy : Nat) (code : Nat) (hs : s.Good z) : (State.rejectCopy s copy code).Good z := by
  unfold State.rejectCopy
  repeat' first
    | with_reducible assumption
    | ((try lift_lets -underBinder); intro x1; (have f1 : BootState := x1; clear f1); subst x1)
    | ((try lift_lets -underBinder); intro s1; refine have_good (z := z) (s := s1) ?_ (fun h1 => ?_) <;> [subst s1; try clear_value s1])
    | with_reducible apply State.wr_good
    | with_reducible apply ite_good
    | fail_if_no_progress (with_reducible apply good_mk; with_reducible apply good_of)

theorem State.bootDiscover_good {z : Lasting} {s : State} (hs : s.Good z) : (State.bootDiscover s).Good z := by
  unfold State.bootDiscover
  repeat' first
    | with_reducible assumption
    | ((try lift_lets -underBinder); intro s1; refine have_good (z := z) (s := s1) ?_ (fun h1 => ?_) <;> [subst s1; try clear_value s1])
    | with_reducible apply State.wr_good
    | with_reducible apply ite_good

theorem State.stageCopy_good {z : Lasting} {s : State} (copy : Nat) (hs : s.Good z) : (State.stageCopy s copy).Good z := by
  unfold State.stageCopy
  repeat' first
    | with_reducible assumption
    | ((try lift_lets -underBinder); intro x1; first | (have f1 : ∀ _, _ := x1; clear f1) | clear_value x1)
    | fail_if_no_progress (with_reducible apply good_mk; with_reducible apply good_of)

theorem State.bootLoad_good {z : Lasting} {s : State} (hs : s.Good z) : (State.bootLoad s).Good z := by
  unfold State.bootLoad
  repeat' first
    | with_reducible assumption
    | ((try lift_lets -underBinder); intro x1; (have f1 : BootState := x1; clear f1); subst x1)
    | ((try lift_lets -underBinder); intro s1; refine have_good (z := z) (s := s1) ?_ (fun h1 => ?_) <;> [subst s1; try clear_value s1])
    | ((try lift_lets -underBinder); intro x1; first | (have f1 : ∀ _, _ := x1; clear f1) | clear_value x1)
    | with_reducible apply State.stageCopy_good
    | with_reducible apply State.rejectCopy_good
    | with_reducible apply State.wr_good
    | split
    | fail_if_no_progress (with_reducible apply good_mk; with_reducible apply good_of)

theorem State.bootVerify_good {z : Lasting} {s : State} (hs : s.Good z) : (State.bootVerify s).Good z := by
  unfold State.bootVerify
  repeat' first
    | with_reducible assumption
    | ((try lift_lets -underBinder); intro x1; (have f1 : BootState := x1; clear f1); subst x1)
    | ((try lift_lets -underBinder); intro s1; refine have_good (z := z) (s := s1) ?_ (fun h1 => ?_) <;> [subst s1; try clear_value s1])
    | with_reducible apply State.wr_good
    | with_reducible apply State.wrB_good
    | with_reducible apply State.rejectCopy_good
    | split
    | fail_if_no_progress (with_reducible apply good_mk; with_reducible apply good_of)

theorem State.bootWipe_good {z : Lasting} {s : State} (hs : s.Good z) : (State.bootWipe s).Good z := by
  unfold State.bootWipe
  repeat' first
    | with_reducible assumption
    | ((try lift_lets -underBinder); intro s1; refine have_good (z := z) (s := s1) ?_ (fun h1 => ?_) <;> [subst s1; try clear_value s1])
    | ((try lift_lets -underBinder); intro x1; first | (have f1 : ∀ _, _ := x1; clear f1) | clear_value x1)
    | with_reducible apply State.wrB_good
    | with_reducible apply State.stZero_good
    | with_reducible apply State.wr_good
    | split
    | fail_if_no_progress (with_reducible apply good_mk; with_reducible apply good_of)

theorem State.applyCompat_good {z : Lasting} {s : State} (l : List Byte) (hs : s.Good z) : (State.applyCompat s l).Good z := by
  unfold State.applyCompat
  repeat' first
    | with_reducible assumption
    | refine fun _ => ?_
    | ((try lift_lets -underBinder); intro s1; refine have_good (z := z) (s := s1) ?_ (fun h1 => ?_) <;> [subst s1; try clear_value s1])
    | ((try lift_lets -underBinder); intro x1; first | (have f1 : ∀ _, _ := x1; clear f1) | clear_value x1)
    | with_reducible apply State.wr_good
    | with_reducible apply State.wrB_good
    | with_reducible apply ite_good
    | with_reducible apply forEach_good

theorem State.eclosion_good {z : Lasting} {s : State} (im : BootImage) (hs : s.Good z) : (State.eclosion s im).Good z := by
  unfold State.eclosion
  repeat' first
    | with_reducible assumption
    | ((try lift_lets -underBinder); intro s1; refine have_good (z := z) (s := s1) ?_ (fun h1 => ?_) <;> [subst s1; try clear_value s1])
    | ((try lift_lets -underBinder); intro x1; first | (have f1 : ∀ _, _ := x1; clear f1) | clear_value x1)
    | with_reducible apply State.wr_good
    | with_reducible apply State.wrB_good
    | fail_if_no_progress (with_reducible apply good_mk; with_reducible apply good_of)

theorem State.flashBegin_good {z : Lasting} {s : State} (op : Nat) (addr : Nat) (data : List Byte) (hs : s.Good z) : (State.flashBegin s op addr data).Good z := by
  unfold State.flashBegin
  repeat' first
    | with_reducible assumption
    | ((try lift_lets -underBinder); intro x1; (have f1 : BootState := x1; clear f1); subst x1)
    | with_reducible apply State.wrB_good
    | fail_if_no_progress (with_reducible apply good_mk; with_reducible apply good_of)

theorem State.flashIssue_good {z : Lasting} {s : State} (hs : s.Good z) : (State.flashIssue s).Good z := by
  unfold State.flashIssue
  repeat' first
    | with_reducible assumption
    | ((try lift_lets -underBinder); intro s1; refine have_good (z := z) (s := s1) ?_ (fun h1 => ?_) <;> [subst s1; try clear_value s1])
    | ((try lift_lets -underBinder); intro x1; first | (have f1 : ∀ _, _ := x1; clear f1) | clear_value x1)
    | with_reducible apply State.flashBegin_good
    | with_reducible apply State.wrB_good
    | with_reducible apply State.wr_good
    | with_reducible apply ite_good
    | split
    | fail_if_no_progress (with_reducible apply good_mk; with_reducible apply good_of)

theorem State.flashSubmit_good {z : Lasting} {s : State} (op : Nat) (address : Nat) (hs : s.Good z) : (State.flashSubmit s op address).Good z := by
  unfold State.flashSubmit
  repeat' first
    | with_reducible assumption
    | ((try lift_lets -underBinder); intro s1; refine have_good (z := z) (s := s1) ?_ (fun h1 => ?_) <;> [subst s1; try clear_value s1])
    | ((try lift_lets -underBinder); intro x1; first | (have f1 : ∀ _, _ := x1; clear f1) | clear_value x1)
    | with_reducible apply State.flashIssue_good
    | with_reducible apply State.wr_good
    | with_reducible apply State.flashBegin_good
    | with_reducible apply State.inc_good
    | with_reducible apply State.wrB_good
    | with_reducible apply State.raise_good
    | with_reducible apply ite_good
    | fail_if_no_progress (with_reducible apply good_mk; with_reducible apply good_of)

theorem State.flashPut_ok {s : State} (a : Nat) (l : List Byte) (hs : s.ok = true) : (State.flashPut s a l).ok = true := ok_mk hs

theorem State.flashSpoil_ok {s : State} (a : Nat) (n : Nat) (hs : s.ok = true) : (State.flashSpoil s a n).ok = true := by
  unfold State.flashSpoil
  repeat' first
    | ((try lift_lets -underBinder); intro x1; first | (have f1 : ∀ _, _ := x1; clear f1) | clear_value x1)
    | with_reducible apply State.flashPut_ok
    | with_reducible exact ok_mk (ok_of (by with_reducible assumption))

theorem State.flashEnd_ok {s : State} (ok : Bool) (hs : s.ok = true) : (State.flashEnd s ok).ok = true := by
  unfold State.flashEnd
  repeat' first
    | with_reducible assumption
    | ((try lift_lets -underBinder); intro s1; refine have_ok (s := s1) ?_ (fun h1 => ?_) <;> [subst s1; try clear_value s1])
    | ((try lift_lets -underBinder); intro x1; (have f1 : BootState := x1; clear f1); subst x1)
    | ((try lift_lets -underBinder); intro x1; first | (have f1 : ∀ _, _ := x1; clear f1) | clear_value x1)
    | with_reducible refine ok_of_good (State.wr_good _ _ _ _ _ (good_self ?_))
    | with_reducible apply State.flashSpoil_ok
    | with_reducible apply State.flashPut_ok
    | with_reducible apply ite_ok
    | split
    | with_reducible exact ok_mk (ok_of (by with_reducible assumption))

theorem State.lcNonce_good {z : Lasting} {s : State} (hs : s.Good z) : (State.lcNonce s).Good z := by
  unfold State.lcNonce
  repeat' first
    | with_reducible assumption
    | refine fun _ => ?_
    | ((try lift_lets -underBinder); intro x1; (have f1 : BootState := x1; clear f1); subst x1)
    | ((try lift_lets -underBinder); intro s1; refine have_good (z := z) (s := s1) ?_ (fun h1 => ?_) <;> [subst s1; try clear_value s1])
    | ((try lift_lets -underBinder); intro x1; first | (have f1 : ∀ _, _ := x1; clear f1) | clear_value x1)
    | with_reducible apply State.wr_good
    | with_reducible apply forEach_good
    | fail_if_no_progress (with_reducible apply good_mk; with_reducible apply good_of)

theorem State.lcGo_ok {s : State} (t : Nat) (hs : s.ok = true) : (State.lcGo s t).ok = true := by
  have res : ∀ {s : State}, s.ok = true → ∀ k, (s.wr F.BOOT_LC_CTRL_RESULT k).ok = true :=
    fun h k => ok_of_good (State.wr_good _ _ _ _ _ (good_self h))
  unfold State.lcGo
  lift_lets -underBinder
  intro code b s1
  have h1 : s1.ok = true := ok_mk (ok_of hs)
  clear_value s1 code b
  refine ite_ok (res h1 _) ?_
  exact ite_ok (res (ok_of_good (State.draw_good (good_self h1))) _) (ok_of_good (State.warmReset_good _ (good_self (ok_mk (ok_of (ok_of_good (State.draw_good (good_self h1))))))))

end Sys2Proof.Machine
end

