-- ==== Sys2Proof/Laws/GoodFinish.lean ====
section
/-! SUPPORT. Every operation of Machine/Finish.lean keeps a sound state sound and, but for those named _ok, the fuses and the
flash as they are. -/

namespace Sys2Proof.Machine

theorem State.reactionStops_good {z : Lasting} {s0 : State} {s : State} (hs : s.Good z) : (State.reactionStops s0 s).Good z := by
  unfold State.reactionStops
  repeat' first
    | with_reducible assumption
    | ((try lift_lets -underBinder); intro s1; refine have_good (z := z) (s := s1) ?_ (fun h1 => ?_) <;> [subst s1; try clear_value s1])
    | ((try lift_lets -underBinder); intro x1; first | (have f1 : ∀ _, _ := x1; clear f1) | clear_value x1)
    | with_reducible apply State.interruptLay_good
    | with_reducible apply State.calStop_good
    | with_reducible apply State.passEnding_good
    | with_reducible apply State.surrender_good
    | with_reducible apply ite_good
    | fail_if_no_progress (with_reducible apply good_mk; with_reducible apply good_of)

theorem State.releaseStaged_good {z : Lasting} {s : State} (gone : List StagedLay) (hs : s.Good z) : (State.releaseStaged s gone).Good z := by
  unfold State.releaseStaged
  repeat' first
    | with_reducible assumption
    | refine fun _ => ?_
    | ((try lift_lets -underBinder); intro s1; refine have_good (z := z) (s := s1) ?_ (fun h1 => ?_) <;> [subst s1; try clear_value s1])
    | ((try lift_lets -underBinder); intro x1; first | (have f1 : ∀ _, _ := x1; clear f1) | clear_value x1)
    | with_reducible apply State.disarmCells_good
    | with_reducible apply State.armCells_good
    | with_reducible apply State.markState_good
    | with_reducible apply forEach_good

theorem State.settlePins_good {z : Lasting} {s : State} (hs : s.Good z) : (State.settlePins s).Good z := by
  unfold State.settlePins
  repeat' first
    | with_reducible assumption
    | ((try lift_lets -underBinder); intro x1; first | (have f1 : ∀ _, _ := x1; clear f1) | clear_value x1)
    | fail_if_no_progress (with_reducible apply good_mk; with_reducible apply good_of)

theorem State.mendLedger_good {z : Lasting} {s0 : State} {s : State} (hs : s.Good z) : (State.mendLedger s0 s).Good z := by
  unfold State.mendLedger
  repeat' first
    | with_reducible assumption
    | ((try lift_lets -underBinder); intro x1; first | (have f1 : ∀ _, _ := x1; clear f1) | clear_value x1)
    | with_reducible apply ite_good
    | fail_if_no_progress (with_reducible apply good_mk; with_reducible apply good_of)

theorem settle_good {z : Lasting} {s0 : State} {s : State} (hs : s.Good z) : (settle s0 s).Good z := by
  unfold settle
  repeat' first
    | with_reducible assumption
    | ((try lift_lets -underBinder); intro s1; refine have_good (z := z) (s := s1) ?_ (fun h1 => ?_) <;> [subst s1; try clear_value s1])
    | with_reducible apply State.mendLedger_good
    | with_reducible apply State.reactionStops_good
    | with_reducible apply State.settlePins_good
    | with_reducible apply State.pwmGuard_good
    | with_reducible apply State.flushPorts_good
    | with_reducible apply State.nextSolve_good
    | with_reducible apply State.releaseStaged_good
    | with_reducible apply ite_good

theorem done_good {z : Lasting} {s0 : State} {s : State} (hs : s.Good z) : Answers z (done s0 s) := by
  unfold done
  repeat' first
    | with_reducible assumption
    | ((try lift_lets -underBinder); intro s1; refine have_good (z := z) (s := s1) ?_ (fun h1 => ?_) <;> [subst s1; try clear_value s1])
    | with_reducible apply settle_good
    | with_reducible apply next_answers
    | fail_if_no_progress (with_reducible apply good_mk; with_reducible apply good_of)

end Sys2Proof.Machine
end

