-- ==== Sys2Proof/Laws/GoodNetOps.lean ====
section
/-! SUPPORT. Every operation of Machine/NetOps.lean keeps a sound state sound and, but for those named _ok, the fuses and the
flash as they are. -/

namespace Sys2Proof.Machine

theorem State.takeInbox_good {z : Lasting} {s : State} (f : TFrame) (hs : s.Good z) : (State.takeInbox s f).Good z := by
  unfold State.takeInbox
  repeat' first
    | with_reducible assumption
    | ((try lift_lets -underBinder); intro x1; first | (have f1 : ∀ _, _ := x1; clear f1) | clear_value x1)
    | fail_if_no_progress (with_reducible apply good_mk; with_reducible apply good_of)

theorem State.cmdStatus_good {z : Lasting} {s : State} (f : TFrame) (handle : W32) (st : Status) (hs : s.Good z) : (State.cmdStatus s f handle st).Good z := by
  unfold State.cmdStatus
  repeat' first
    | with_reducible assumption
    | with_reducible apply State.sendFrame_good

theorem State.noteNetCmd_good {z : Lasting} {s : State} (f : TFrame) (c : Cmd) (st : Status) (hs : s.Good z) : (State.noteNetCmd s f c st).Good z := by
  unfold State.noteNetCmd
  repeat' first
    | with_reducible assumption
    | ((try lift_lets -underBinder); intro x1; first | (have f1 : ∀ _, _ := x1; clear f1) | clear_value x1)
    | with_reducible apply State.modNet_good
    | with_reducible apply ite_good

theorem State.commandFrame_good {z : Lasting} {s : State} (f : TFrame) (hs : s.Good z) : (State.commandFrame s f).Good z := by
  unfold State.commandFrame
  repeat' first
    | with_reducible assumption
    | ((try lift_lets -underBinder); intro s1; refine have_good (z := z) (s := s1) ?_ (fun h1 => ?_) <;> [subst s1; try clear_value s1])
    | ((try lift_lets -underBinder); intro s1; refine have_fst (z := z) (p := s1) ?_ (fun h1 => ?_) <;> [subst s1; try clear_value s1])
    | ((try lift_lets -underBinder); intro x1; first | (have f1 : ∀ _, _ := x1; clear f1) | clear_value x1)
    | with_reducible apply State.cmdStatus_good
    | with_reducible apply State.file_good
    | with_reducible apply State.noteNetCmd_good
    | with_reducible apply State.fireHook_good
    | with_reducible apply ite_good
    | split

theorem State.statusFrame_good {z : Lasting} {s : State} (f : TFrame) (hs : s.Good z) : (State.statusFrame s f).Good z := by
  unfold State.statusFrame
  repeat' first
    | with_reducible assumption
    | ((try lift_lets -underBinder); intro x1; first | (have f1 : ∀ _, _ := x1; clear f1) | clear_value x1)
    | with_reducible apply State.rxEnter_good
    | fail_if_no_progress (with_reducible apply good_mk; with_reducible apply good_of)

theorem State.retransmit_good {z : Lasting} {s : State} (r : Retrans) (hs : s.Good z) : (State.retransmit s r).Good z := by
  unfold State.retransmit
  repeat' first
    | with_reducible assumption
    | ((try lift_lets -underBinder); intro s1; refine have_good (z := z) (s := s1) ?_ (fun h1 => ?_) <;> [subst s1; try clear_value s1])
    | ((try lift_lets -underBinder); intro x1; first | (have f1 : ∀ _, _ := x1; clear f1) | clear_value x1)
    | with_reducible apply State.passToCycle_good
    | with_reducible apply State.sendFrame_good
    | with_reducible apply State.rxEnter_good
    | with_reducible apply State.inc_good
    | with_reducible apply ite_good
    | fail_if_no_progress (with_reducible apply good_mk; with_reducible apply good_of)

theorem State.hear_good {z : Lasting} {s : State} (typ : BitVec 8) (f : TFrame) (hs : s.Good z) : (State.hear s typ f).1.Good z := by
  unfold State.hear
  repeat' first
    | with_reducible assumption
    | ((try lift_lets -underBinder); intro x1; first | (have f1 : ∀ _, _ := x1; clear f1) | clear_value x1)
    | with_reducible apply State.inc_good
    | with_reducible apply ite_fst_good
    | fail_if_no_progress (with_reducible apply good_mk; with_reducible apply good_of)

theorem State.checkSNet_good {z : Lasting} {s : State} (e : W32) (sNet : Nat) (hs : s.Good z) : (State.checkSNet s e sNet).Good z := by
  unfold State.checkSNet
  repeat' first
    | with_reducible assumption
    | with_reducible apply State.abortPlain_good
    | with_reducible apply ite_good

theorem State.netOpen_good {z : Lasting} {s : State} (o : NetOpen) (hs : s.Good z) : (State.netOpen s o).Good z := by
  unfold State.netOpen
  repeat' first
    | with_reducible assumption
    | refine fun _ => ?_
    | ((try lift_lets -underBinder); intro f1; refine have_fun2 (z := z) (f := f1) ?_ (fun hf1 => ?_) <;> [subst f1; try clear_value f1])
    | ((try lift_lets -underBinder); intro x1; first | (have f1 : ∀ _, _ := x1; clear f1) | clear_value x1)
    | with_reducible apply hf1
    | with_reducible apply State.wr_good
    | with_reducible apply State.checkSNet_good
    | with_reducible apply State.openNetRoot_good
    | with_reducible apply ite_good
    | split

theorem State.prepare_good {z : Lasting} {s : State} (f : TFrame) (hs : s.Good z) : (State.prepare s f).Good z := by
  unfold State.prepare
  repeat' first
    | with_reducible assumption
    | ((try lift_lets -underBinder); intro s1; refine have_good (z := z) (s := s1) ?_ (fun h1 => ?_) <;> [subst s1; try clear_value s1])
    | ((try lift_lets -underBinder); intro s1; refine have_fst (z := z) (p := s1) ?_ (fun h1 => ?_) <;> [subst s1; try clear_value s1])
    | ((try lift_lets -underBinder); intro x1; first | (have f1 : ∀ _, _ := x1; clear f1) | clear_value x1)
    | with_reducible apply State.hear_good
    | with_reducible apply State.failReady_good
    | with_reducible apply State.checkSNet_good
    | with_reducible apply State.openEpoch_good
    | with_reducible apply ite_good
    | split

theorem State.abortByNet_good {z : Lasting} {s : State} (x : Epoch) (n : NetEpoch) (origin : BitVec 16) (st : Status) (hs : s.Good z) : (State.abortByNet s x n origin st).Good z := by
  unfold State.abortByNet
  repeat' first
    | with_reducible assumption
    | with_reducible apply State.abortEpoch_good
    | with_reducible apply ite_good

theorem State.sendCommit_good {z : Lasting} {s : State} (x : Epoch) (n : NetEpoch) (hs : s.Good z) : (State.sendCommit s x n).Good z := by
  unfold State.sendCommit
  repeat' first
    | with_reducible assumption
    | ((try lift_lets -underBinder); intro s1; refine have_good (z := z) (s := s1) ?_ (fun h1 => ?_) <;> [subst s1; try clear_value s1])
    | ((try lift_lets -underBinder); intro x1; first | (have f1 : ∀ _, _ := x1; clear f1) | clear_value x1)
    | with_reducible apply State.modNet_good
    | with_reducible apply State.wr_good
    | with_reducible apply State.sendGroup_good
    | fail_if_no_progress (with_reducible apply good_mk; with_reducible apply good_of)

theorem State.decideAbort_good {z : Lasting} {s : State} (x : Epoch) (n : NetEpoch) (origin : BitVec 16) (st : Status) (hs : s.Good z) : (State.decideAbort s x n origin st).Good z := by
  unfold State.decideAbort
  repeat' first
    | with_reducible assumption
    | ((try lift_lets -underBinder); intro s1; refine have_good (z := z) (s := s1) ?_ (fun h1 => ?_) <;> [subst s1; try clear_value s1])
    | with_reducible apply State.modNet_good
    | with_reducible apply State.sendAbort_good
    | with_reducible apply State.abortByNet_good

theorem State.forwardReady_good {z : Lasting} {s : State} (n : NetEpoch) (f : TFrame) (hs : s.Good z) : (State.forwardReady s n f).Good z := by
  unfold State.forwardReady
  repeat' first
    | with_reducible assumption
    | ((try lift_lets -underBinder); intro x1; first | (have f1 : ∀ _, _ := x1; clear f1) | clear_value x1)
    | with_reducible apply State.countFrame_good
    | with_reducible apply State.sendFrame_good

theorem State.forwardUp_good {z : Lasting} {s : State} (x : Epoch) (n : NetEpoch) (f : TFrame) (st : Status) (hs : s.Good z) : (State.forwardUp s x n f st).Good z := by
  unfold State.forwardUp
  repeat' first
    | with_reducible assumption
    | ((try lift_lets -underBinder); intro s1; refine have_good (z := z) (s := s1) ?_ (fun h1 => ?_) <;> [subst s1; try clear_value s1])
    | with_reducible apply State.modNet_good
    | with_reducible apply State.forwardReady_good
    | with_reducible apply State.abortByNet_good

theorem State.failUp_good {z : Lasting} {s : State} (x : Epoch) (n : NetEpoch) (st : Status) (hs : s.Good z) : (State.failUp s x n st).Good z := by
  unfold State.failUp
  repeat' first
    | with_reducible assumption
    | ((try lift_lets -underBinder); intro s1; refine have_good (z := z) (s := s1) ?_ (fun h1 => ?_) <;> [subst s1; try clear_value s1])
    | with_reducible apply State.modNet_good
    | with_reducible apply State.sendReady_good
    | with_reducible apply State.abortByNet_good

theorem State.tryReady_good {z : Lasting} {s : State} (e : W32) (hs : s.Good z) : (State.tryReady s e).Good z := by
  unfold State.tryReady
  repeat' first
    | with_reducible assumption
    | ((try lift_lets -underBinder); intro x1; first | (have f1 : ∀ _, _ := x1; clear f1) | clear_value x1)
    | with_reducible apply State.sendCommit_good
    | with_reducible apply State.decideAbort_good
    | with_reducible apply State.modNet_good
    | with_reducible apply State.sendReady_good
    | with_reducible apply State.failUp_good
    | with_reducible apply ite_good
    | split

theorem State.ready_good {z : Lasting} {s : State} (f : TFrame) (hs : s.Good z) : (State.ready s f).Good z := by
  unfold State.ready
  repeat' first
    | with_reducible assumption
    | ((try lift_lets -underBinder); intro s1; refine have_good (z := z) (s := s1) ?_ (fun h1 => ?_) <;> [subst s1; try clear_value s1])
    | ((try lift_lets -underBinder); intro s1; refine have_fst (z := z) (p := s1) ?_ (fun h1 => ?_) <;> [subst s1; try clear_value s1])
    | ((try lift_lets -underBinder); intro x1; first | (have f1 : ∀ _, _ := x1; clear f1) | clear_value x1)
    | with_reducible apply State.hear_good
    | with_reducible apply State.modNet_good
    | with_reducible apply State.tryReady_good
    | with_reducible apply State.decideAbort_good
    | with_reducible apply State.forwardUp_good
    | with_reducible apply ite_good
    | split

theorem State.readyDeadline_good {z : Lasting} {s : State} (x : Epoch) (n : NetEpoch) (hs : s.Good z) : (State.readyDeadline s x n).Good z := by
  unfold State.readyDeadline
  repeat' first
    | with_reducible assumption
    | ((try lift_lets -underBinder); intro s1; refine have_good (z := z) (s := s1) ?_ (fun h1 => ?_) <;> [subst s1; try clear_value s1])
    | ((try lift_lets -underBinder); intro x1; first | (have f1 : ∀ _, _ := x1; clear f1) | clear_value x1)
    | with_reducible apply State.passTo_good
    | with_reducible apply State.modNet_good
    | with_reducible apply State.sendAbort_good
    | with_reducible apply State.abortEpoch_good

theorem State.commit_good {z : Lasting} {s : State} (f : TFrame) (hs : s.Good z) : (State.commit s f).Good z := by
  unfold State.commit
  repeat' first
    | with_reducible assumption
    | ((try lift_lets -underBinder); intro s1; refine have_good (z := z) (s := s1) ?_ (fun h1 => ?_) <;> [subst s1; try clear_value s1])
    | ((try lift_lets -underBinder); intro s1; refine have_fst (z := z) (p := s1) ?_ (fun h1 => ?_) <;> [subst s1; try clear_value s1])
    | with_reducible apply State.hear_good
    | with_reducible apply State.reportLost_good
    | with_reducible apply State.reportMissed_good
    | with_reducible apply State.modNet_good
    | with_reducible apply ite_good
    | split

theorem State.abortFrame_good {z : Lasting} {s : State} (f : TFrame) (hs : s.Good z) : (State.abortFrame s f).Good z := by
  unfold State.abortFrame
  repeat' first
    | with_reducible assumption
    | ((try lift_lets -underBinder); intro s1; refine have_good (z := z) (s := s1) ?_ (fun h1 => ?_) <;> [subst s1; try clear_value s1])
    | ((try lift_lets -underBinder); intro s1; refine have_fst (z := z) (p := s1) ?_ (fun h1 => ?_) <;> [subst s1; try clear_value s1])
    | with_reducible apply State.hear_good
    | with_reducible apply State.abortByNet_good
    | with_reducible apply ite_good
    | split

theorem State.landed_good {z : Lasting} {s : State} (f : TFrame) (hs : s.Good z) : (State.landed s f).Good z := by
  unfold State.landed
  repeat' first
    | with_reducible assumption
    | ((try lift_lets -underBinder); intro s1; refine have_good (z := z) (s := s1) ?_ (fun h1 => ?_) <;> [subst s1; try clear_value s1])
    | ((try lift_lets -underBinder); intro s1; refine have_fst (z := z) (p := s1) ?_ (fun h1 => ?_) <;> [subst s1; try clear_value s1])
    | with_reducible apply State.hear_good
    | with_reducible apply State.modNet_good
    | with_reducible apply State.advanceStable_good
    | with_reducible apply State.netLanded_good
    | with_reducible apply ite_good
    | split

theorem State.stable_good {z : Lasting} {s : State} (f : TFrame) (hs : s.Good z) : (State.stable s f).Good z := by
  unfold State.stable
  repeat' first
    | with_reducible assumption
    | ((try lift_lets -underBinder); intro s1; refine have_fst (z := z) (p := s1) ?_ (fun h1 => ?_) <;> [subst s1; try clear_value s1])
    | with_reducible apply State.hear_good
    | with_reducible apply State.advanceStable_good
    | with_reducible apply State.confirmStable_good
    | with_reducible apply ite_good

end Sys2Proof.Machine
end

