-- ==== Sys2Proof/Laws/GoodFlags.lean ====
section
/-! SUPPORT. Every operation of Machine/Flags.lean keeps a sound state sound and, but for those named _ok, the fuses and the
flash as they are. -/

namespace Sys2Proof.Machine

theorem execLocal_good {z : Lasting} (opc : Nat) (q : Fin 8) (w : Fields) (f : Seq → Except Nat Seq) {s : State} (hs : s.Good z) : Answers z (execLocal opc q w f s) := by
  unfold execLocal
  repeat' first
    | with_reducible assumption
    | ((try lift_lets -underBinder); intro x1; first | (have f1 : ∀ _, _ := x1; clear f1) | clear_value x1)
    | with_reducible apply done_good
    | with_reducible apply State.trap_good
    | with_reducible apply State.setSq_good
    | with_reducible apply ite_answers
    | with_reducible apply next_answers
    | split

theorem execMem_good {z : Lasting} {opc : Nat} {q : Fin 8} {w : Fields}
    {f : Seq → List Host.Cell → Except Nat (Seq × List Host.Cell)} {s : State}
    (hf : ∀ x m, Memory.wf m = true → MemAllows (f x m)) (hs : s.Good z) : Answers z (execMem opc q w f s) := by
  have h := hf (s.sq q.val) s.mem (good_wf hs)
  unfold execMem
  refine ite_answers hs (ite_answers (done_good (State.trap_good _ _ hs)) (ite_answers (State.setSq_good _ _ hs) ?_))
  split
  · rename_i y e
    rw [e] at h
    exact State.setSq_good _ _ (good_mk (good_mem hs h))
  · exact done_good (State.trap_good _ _ hs)

theorem execEngine_good {z : Lasting} {opc : Nat} {q : Fin 8} {w : Fields} {f : State → Seq → Except Nat State} {s : State}
    (hf : ∀ s x, s.Good z → Allows z (f s x)) (hs : s.Good z) : Answers z (execEngine opc q w f s) := by
  unfold execEngine
  refine ite_answers hs (ite_answers (done_good (State.trap_good _ _ hs)) (ite_answers (State.setSq_good _ _ hs) ?_))
  split
  · rename_i t e
    exact done_good (allows_get (hf _ _ hs) e)
  · exact done_good (State.trap_good _ _ hs)

theorem execEngine_sound {opc : Nat} {q : Fin 8} {w : Fields} {f : State → Seq → Except Nat State} {s : State}
    (hf : ∀ x t, f s x = .ok t → t.ok = true) (hs : s.ok = true) : Sound (execEngine opc q w f s) := by
  have tr : ∀ c, Sound (done s (s.trap q.val c)) :=
    fun c => sound_of_answers (done_good (State.trap_good _ _ (good_self hs)))
  unfold execEngine
  refine ite_sound hs (ite_sound (tr 1) (ite_sound (ok_of_good (State.setSq_good _ _ (good_self hs))) ?_))
  split
  · rename_i t e
    exact sound_of_answers (done_good (good_self (hf _ t e)))
  · exact tr _

theorem State.sqNext_good {z : Lasting} {s : State} (q : Fin 8) (hs : s.Good z) : (State.sqNext s q).Good z := by
  unfold State.sqNext
  repeat' first
    | with_reducible assumption
    | ((try lift_lets -underBinder); intro x1; first | (have f1 : ∀ _, _ := x1; clear f1) | clear_value x1)
    | with_reducible apply State.setSq_good

theorem State.sqRet_good {z : Lasting} {s : State} (q : Fin 8) (n : BitVec 5) (v : W64) (hs : s.Good z) : (State.sqRet s q n v).Good z := by
  unfold State.sqRet
  repeat' first
    | with_reducible assumption
    | ((try lift_lets -underBinder); intro x1; first | (have f1 : ∀ _, _ := x1; clear f1) | clear_value x1)
    | with_reducible apply State.setSq_good

theorem State.sqBlock_good {z : Lasting} {s : State} (q : Fin 8) (w : Wait) (hs : s.Good z) : (State.sqBlock s q w).Good z := by
  unfold State.sqBlock
  repeat' first
    | with_reducible assumption
    | ((try lift_lets -underBinder); intro x1; first | (have f1 : ∀ _, _ := x1; clear f1) | clear_value x1)
    | with_reducible apply State.setSq_good

end Sys2Proof.Machine
end

