-- ==== Sys2Proof/Laws/GoodInteger.lean ====
section
/-! SUPPORT. Every operation of Machine/Integer.lean keeps a sound state sound and, but for those named _ok, the fuses and the
flash as they are. -/

namespace Sys2Proof.Machine

theorem aluRR_good {z : Lasting} (opc : Nat) (q : Fin 8) (w : Fields) (f : W64 → W64 → W64) {s : State} (hs : s.Good z) : Answers z (aluRR opc q w f s) := by
  unfold aluRR
  repeat' first
    | with_reducible assumption
    | with_reducible apply execLocal_good

theorem aluR_good {z : Lasting} (opc : Nat) (q : Fin 8) (w : Fields) (f : W64 → W64) {s : State} (hs : s.Good z) : Answers z (aluR opc q w f s) := by
  unfold aluR
  repeat' first
    | with_reducible assumption
    | with_reducible apply execLocal_good

theorem aluPP_good {z : Lasting} (opc : Nat) (q : Fin 8) (w : Fields) (f : Bool → Bool → Bool) {s : State} (hs : s.Good z) : Answers z (aluPP opc q w f s) := by
  unfold aluPP
  repeat' first
    | with_reducible assumption
    | with_reducible apply execLocal_good

theorem execNop_good {z : Lasting} (q : Fin 8) (w : Fields) {s : State} (hs : s.Good z) : Answers z (execNop q w s) := by
  unfold execNop
  repeat' first
    | with_reducible assumption
    | with_reducible apply execLocal_good

theorem execAdd_good {z : Lasting} (q : Fin 8) (w : Fields) {s : State} (hs : s.Good z) : Answers z (execAdd q w s) := by
  unfold execAdd
  repeat' first
    | with_reducible assumption
    | with_reducible apply aluRR_good

theorem execSub_good {z : Lasting} (q : Fin 8) (w : Fields) {s : State} (hs : s.Good z) : Answers z (execSub q w s) := by
  unfold execSub
  repeat' first
    | with_reducible assumption
    | with_reducible apply aluRR_good

theorem execMul_good {z : Lasting} (q : Fin 8) (w : Fields) {s : State} (hs : s.Good z) : Answers z (execMul q w s) := by
  unfold execMul
  repeat' first
    | with_reducible assumption
    | with_reducible apply aluRR_good

theorem execMulhu_good {z : Lasting} (q : Fin 8) (w : Fields) {s : State} (hs : s.Good z) : Answers z (execMulhu q w s) := by
  unfold execMulhu
  repeat' first
    | with_reducible assumption
    | with_reducible apply aluRR_good

theorem execDivu_good {z : Lasting} (q : Fin 8) (w : Fields) {s : State} (hs : s.Good z) : Answers z (execDivu q w s) := by
  unfold execDivu
  repeat' first
    | with_reducible assumption
    | with_reducible apply aluRR_good

theorem execRemu_good {z : Lasting} (q : Fin 8) (w : Fields) {s : State} (hs : s.Good z) : Answers z (execRemu q w s) := by
  unfold execRemu
  repeat' first
    | with_reducible assumption
    | with_reducible apply aluRR_good

theorem execAnd_good {z : Lasting} (q : Fin 8) (w : Fields) {s : State} (hs : s.Good z) : Answers z (execAnd q w s) := by
  unfold execAnd
  repeat' first
    | with_reducible assumption
    | with_reducible apply aluRR_good

theorem execOr_good {z : Lasting} (q : Fin 8) (w : Fields) {s : State} (hs : s.Good z) : Answers z (execOr q w s) := by
  unfold execOr
  repeat' first
    | with_reducible assumption
    | with_reducible apply aluRR_good

theorem execXor_good {z : Lasting} (q : Fin 8) (w : Fields) {s : State} (hs : s.Good z) : Answers z (execXor q w s) := by
  unfold execXor
  repeat' first
    | with_reducible assumption
    | with_reducible apply aluRR_good

theorem execShl_good {z : Lasting} (q : Fin 8) (w : Fields) {s : State} (hs : s.Good z) : Answers z (execShl q w s) := by
  unfold execShl
  repeat' first
    | with_reducible assumption
    | with_reducible apply aluRR_good

theorem execShr_good {z : Lasting} (q : Fin 8) (w : Fields) {s : State} (hs : s.Good z) : Answers z (execShr q w s) := by
  unfold execShr
  repeat' first
    | with_reducible assumption
    | with_reducible apply aluRR_good

theorem execSar_good {z : Lasting} (q : Fin 8) (w : Fields) {s : State} (hs : s.Good z) : Answers z (execSar q w s) := by
  unfold execSar
  repeat' first
    | with_reducible assumption
    | with_reducible apply aluRR_good

theorem execAddi_good {z : Lasting} (q : Fin 8) (w : Fields) {s : State} (hs : s.Good z) : Answers z (execAddi q w s) := by
  unfold execAddi
  repeat' first
    | with_reducible assumption
    | with_reducible apply aluR_good

theorem execAndi_good {z : Lasting} (q : Fin 8) (w : Fields) {s : State} (hs : s.Good z) : Answers z (execAndi q w s) := by
  unfold execAndi
  repeat' first
    | with_reducible assumption
    | with_reducible apply aluR_good

theorem execOri_good {z : Lasting} (q : Fin 8) (w : Fields) {s : State} (hs : s.Good z) : Answers z (execOri q w s) := by
  unfold execOri
  repeat' first
    | with_reducible assumption
    | with_reducible apply aluR_good

theorem execXori_good {z : Lasting} (q : Fin 8) (w : Fields) {s : State} (hs : s.Good z) : Answers z (execXori q w s) := by
  unfold execXori
  repeat' first
    | with_reducible assumption
    | with_reducible apply aluR_good

theorem execShli_good {z : Lasting} (q : Fin 8) (w : Fields) {s : State} (hs : s.Good z) : Answers z (execShli q w s) := by
  unfold execShli
  repeat' first
    | with_reducible assumption
    | with_reducible apply execLocal_good

theorem execShri_good {z : Lasting} (q : Fin 8) (w : Fields) {s : State} (hs : s.Good z) : Answers z (execShri q w s) := by
  unfold execShri
  repeat' first
    | with_reducible assumption
    | with_reducible apply aluR_good

theorem execSari_good {z : Lasting} (q : Fin 8) (w : Fields) {s : State} (hs : s.Good z) : Answers z (execSari q w s) := by
  unfold execSari
  repeat' first
    | with_reducible assumption
    | with_reducible apply aluR_good

theorem execMovi_good {z : Lasting} (q : Fin 8) (w : Fields) {s : State} (hs : s.Good z) : Answers z (execMovi q w s) := by
  unfold execMovi
  repeat' first
    | with_reducible assumption
    | with_reducible apply execLocal_good

theorem execMovhi_good {z : Lasting} (q : Fin 8) (w : Fields) {s : State} (hs : s.Good z) : Answers z (execMovhi q w s) := by
  unfold execMovhi
  repeat' first
    | with_reducible assumption
    | with_reducible apply execLocal_good

theorem execMin_good {z : Lasting} (q : Fin 8) (w : Fields) {s : State} (hs : s.Good z) : Answers z (execMin q w s) := by
  unfold execMin
  repeat' first
    | with_reducible assumption
    | with_reducible apply aluRR_good

theorem execMax_good {z : Lasting} (q : Fin 8) (w : Fields) {s : State} (hs : s.Good z) : Answers z (execMax q w s) := by
  unfold execMax
  repeat' first
    | with_reducible assumption
    | with_reducible apply aluRR_good

theorem execMinu_good {z : Lasting} (q : Fin 8) (w : Fields) {s : State} (hs : s.Good z) : Answers z (execMinu q w s) := by
  unfold execMinu
  repeat' first
    | with_reducible assumption
    | with_reducible apply aluRR_good

theorem execMaxu_good {z : Lasting} (q : Fin 8) (w : Fields) {s : State} (hs : s.Good z) : Answers z (execMaxu q w s) := by
  unfold execMaxu
  repeat' first
    | with_reducible assumption
    | with_reducible apply aluRR_good

theorem execPopc_good {z : Lasting} (q : Fin 8) (w : Fields) {s : State} (hs : s.Good z) : Answers z (execPopc q w s) := by
  unfold execPopc
  repeat' first
    | with_reducible assumption
    | with_reducible apply aluR_good

theorem execClz_good {z : Lasting} (q : Fin 8) (w : Fields) {s : State} (hs : s.Good z) : Answers z (execClz q w s) := by
  unfold execClz
  repeat' first
    | with_reducible assumption
    | with_reducible apply aluR_good

theorem execBfx_good {z : Lasting} (q : Fin 8) (w : Fields) {s : State} (hs : s.Good z) : Answers z (execBfx q w s) := by
  unfold execBfx
  repeat' first
    | with_reducible assumption
    | with_reducible apply execLocal_good

theorem execBfi_good {z : Lasting} (q : Fin 8) (w : Fields) {s : State} (hs : s.Good z) : Answers z (execBfi q w s) := by
  unfold execBfi
  repeat' first
    | with_reducible assumption
    | with_reducible apply execLocal_good

theorem execCmp_good {z : Lasting} (q : Fin 8) (w : Fields) {s : State} (hs : s.Good z) : Answers z (execCmp q w s) := by
  unfold execCmp
  repeat' first
    | with_reducible assumption
    | with_reducible apply execLocal_good

theorem execCmpi_good {z : Lasting} (q : Fin 8) (w : Fields) {s : State} (hs : s.Good z) : Answers z (execCmpi q w s) := by
  unfold execCmpi
  repeat' first
    | with_reducible assumption
    | with_reducible apply execLocal_good

theorem execPand_good {z : Lasting} (q : Fin 8) (w : Fields) {s : State} (hs : s.Good z) : Answers z (execPand q w s) := by
  unfold execPand
  repeat' first
    | with_reducible assumption
    | with_reducible apply aluPP_good

theorem execPor_good {z : Lasting} (q : Fin 8) (w : Fields) {s : State} (hs : s.Good z) : Answers z (execPor q w s) := by
  unfold execPor
  repeat' first
    | with_reducible assumption
    | with_reducible apply aluPP_good

theorem execPxor_good {z : Lasting} (q : Fin 8) (w : Fields) {s : State} (hs : s.Good z) : Answers z (execPxor q w s) := by
  unfold execPxor
  repeat' first
    | with_reducible assumption
    | with_reducible apply aluPP_good

theorem execPnot_good {z : Lasting} (q : Fin 8) (w : Fields) {s : State} (hs : s.Good z) : Answers z (execPnot q w s) := by
  unfold execPnot
  repeat' first
    | with_reducible assumption
    | with_reducible apply execLocal_good

theorem execPget_good {z : Lasting} (q : Fin 8) (w : Fields) {s : State} (hs : s.Good z) : Answers z (execPget q w s) := by
  unfold execPget
  repeat' first
    | with_reducible assumption
    | with_reducible apply execLocal_good

theorem execPput_good {z : Lasting} (q : Fin 8) (w : Fields) {s : State} (hs : s.Good z) : Answers z (execPput q w s) := by
  unfold execPput
  repeat' first
    | with_reducible assumption
    | with_reducible apply execLocal_good

theorem execSqid_good {z : Lasting} (q : Fin 8) (w : Fields) {s : State} (hs : s.Good z) : Answers z (execSqid q w s) := by
  unfold execSqid
  repeat' first
    | with_reducible assumption
    | with_reducible apply execLocal_good

theorem execRdcyc_good {z : Lasting} (q : Fin 8) (w : Fields) {s : State} (hs : s.Good z) : Answers z (execRdcyc q w s) := by
  unfold execRdcyc
  repeat' first
    | with_reducible assumption
    | with_reducible apply execLocal_good

end Sys2Proof.Machine
end

