-- ==== Sys2Proof/Laws/GoodFloatInstr.lean ====
section
/-! SUPPORT. Every operation of Machine/FloatInstr.lean keeps a sound state sound and, but for those named _ok, the fuses and the
flash as they are. -/

namespace Sys2Proof.Machine

theorem fpuRR_good {z : Lasting} (opc : Nat) (q : Fin 8) (w : Fields) (f : W32 → W32 → W32) {s : State} (hs : s.Good z) : Answers z (fpuRR opc q w f s) := by
  unfold fpuRR
  repeat' first
    | with_reducible assumption
    | with_reducible apply execLocal_good

theorem fpuR_good {z : Lasting} (opc : Nat) (q : Fin 8) (w : Fields) (f : W32 → W32) {s : State} (hs : s.Good z) : Answers z (fpuR opc q w f s) := by
  unfold fpuR
  repeat' first
    | with_reducible assumption
    | with_reducible apply execLocal_good

theorem execFadd_good {z : Lasting} (q : Fin 8) (w : Fields) {s : State} (hs : s.Good z) : Answers z (execFadd q w s) := by
  unfold execFadd
  repeat' first
    | with_reducible assumption
    | with_reducible apply fpuRR_good

theorem execFsub_good {z : Lasting} (q : Fin 8) (w : Fields) {s : State} (hs : s.Good z) : Answers z (execFsub q w s) := by
  unfold execFsub
  repeat' first
    | with_reducible assumption
    | with_reducible apply fpuRR_good

theorem execFmul_good {z : Lasting} (q : Fin 8) (w : Fields) {s : State} (hs : s.Good z) : Answers z (execFmul q w s) := by
  unfold execFmul
  repeat' first
    | with_reducible assumption
    | with_reducible apply fpuRR_good

theorem execFdiv_good {z : Lasting} (q : Fin 8) (w : Fields) {s : State} (hs : s.Good z) : Answers z (execFdiv q w s) := by
  unfold execFdiv
  repeat' first
    | with_reducible assumption
    | with_reducible apply fpuRR_good

theorem execFsqrt_good {z : Lasting} (q : Fin 8) (w : Fields) {s : State} (hs : s.Good z) : Answers z (execFsqrt q w s) := by
  unfold execFsqrt
  repeat' first
    | with_reducible assumption
    | with_reducible apply fpuR_good

theorem execFma_good {z : Lasting} (q : Fin 8) (w : Fields) {s : State} (hs : s.Good z) : Answers z (execFma q w s) := by
  unfold execFma
  repeat' first
    | with_reducible assumption
    | with_reducible apply execLocal_good

theorem execFmin_good {z : Lasting} (q : Fin 8) (w : Fields) {s : State} (hs : s.Good z) : Answers z (execFmin q w s) := by
  unfold execFmin
  repeat' first
    | with_reducible assumption
    | with_reducible apply fpuRR_good

theorem execFmax_good {z : Lasting} (q : Fin 8) (w : Fields) {s : State} (hs : s.Good z) : Answers z (execFmax q w s) := by
  unfold execFmax
  repeat' first
    | with_reducible assumption
    | with_reducible apply fpuRR_good

theorem execFabs_good {z : Lasting} (q : Fin 8) (w : Fields) {s : State} (hs : s.Good z) : Answers z (execFabs q w s) := by
  unfold execFabs
  repeat' first
    | with_reducible assumption
    | with_reducible apply fpuR_good

theorem execFneg_good {z : Lasting} (q : Fin 8) (w : Fields) {s : State} (hs : s.Good z) : Answers z (execFneg q w s) := by
  unfold execFneg
  repeat' first
    | with_reducible assumption
    | with_reducible apply fpuR_good

theorem execFcmp_good {z : Lasting} (q : Fin 8) (w : Fields) {s : State} (hs : s.Good z) : Answers z (execFcmp q w s) := by
  unfold execFcmp
  repeat' first
    | with_reducible assumption
    | with_reducible apply execLocal_good

theorem execFcvtSL_good {z : Lasting} (q : Fin 8) (w : Fields) {s : State} (hs : s.Good z) : Answers z (execFcvtSL q w s) := by
  unfold execFcvtSL
  repeat' first
    | with_reducible assumption
    | with_reducible apply execLocal_good

theorem execFcvtLS_good {z : Lasting} (q : Fin 8) (w : Fields) {s : State} (hs : s.Good z) : Answers z (execFcvtLS q w s) := by
  unfold execFcvtLS
  repeat' first
    | with_reducible assumption
    | with_reducible apply execLocal_good

theorem execFmovi_good {z : Lasting} (q : Fin 8) (w : Fields) {s : State} (hs : s.Good z) : Answers z (execFmovi q w s) := by
  unfold execFmovi
  repeat' first
    | with_reducible assumption
    | with_reducible apply execLocal_good

theorem execFmvgf_good {z : Lasting} (q : Fin 8) (w : Fields) {s : State} (hs : s.Good z) : Answers z (execFmvgf q w s) := by
  unfold execFmvgf
  repeat' first
    | with_reducible assumption
    | with_reducible apply execLocal_good

theorem execFmvfg_good {z : Lasting} (q : Fin 8) (w : Fields) {s : State} (hs : s.Good z) : Answers z (execFmvfg q w s) := by
  unfold execFmvfg
  repeat' first
    | with_reducible assumption
    | with_reducible apply execLocal_good

end Sys2Proof.Machine
end

