-- ==== Sys2Proof/Laws/GoodDataMem.lean ====
section
/-! SUPPORT. Every operation of Machine/DataMem.lean keeps a sound state sound and, but for those named _ok, the fuses and the
flash as they are. -/

namespace Sys2Proof.Machine

theorem execLd_good {z : Lasting} (q : Fin 8) (w : Fields) {s : State} (hs : s.Good z) : Answers z (execLd q w s) := by
  refine execMem_good (fun x m h => ?_) hs
  dsimp only
  split
  · trivial
  · refine memAllows_ok ?_
    exact h

theorem execSt_good {z : Lasting} (q : Fin 8) (w : Fields) {s : State} (hs : s.Good z) : Answers z (execSt q w s) := by
  refine execMem_good (fun x m h => ?_) hs
  dsimp only
  split
  · trivial
  · refine memAllows_ok ?_
    exact memPut_wf h

theorem execFld_good {z : Lasting} (q : Fin 8) (w : Fields) {s : State} (hs : s.Good z) : Answers z (execFld q w s) := by
  refine execMem_good (fun x m h => ?_) hs
  dsimp only
  split
  · trivial
  · refine memAllows_ok ?_
    exact h

theorem execFst_good {z : Lasting} (q : Fin 8) (w : Fields) {s : State} (hs : s.Good z) : Answers z (execFst q w s) := by
  refine execMem_good (fun x m h => ?_) hs
  dsimp only
  split
  · trivial
  · refine memAllows_ok ?_
    exact memPut_wf h

theorem execCas_good {z : Lasting} (q : Fin 8) (w : Fields) {s : State} (hs : s.Good z) : Answers z (execCas q w s) := by
  refine execMem_good (fun x m h => ?_) hs
  dsimp only
  split
  · trivial
  · refine memAllows_ok ?_
    exact ite_wf (memPut_wf h) h

theorem execAadd_good {z : Lasting} (q : Fin 8) (w : Fields) {s : State} (hs : s.Good z) : Answers z (execAadd q w s) := by
  refine execMem_good (fun x m h => ?_) hs
  dsimp only
  split
  · trivial
  · refine memAllows_ok ?_
    exact memPut_wf h

theorem execFence_good {z : Lasting} (q : Fin 8) (w : Fields) {s : State} (hs : s.Good z) : Answers z (execFence q w s) := by
  unfold execFence
  repeat' first
    | with_reducible assumption
    | with_reducible apply execLocal_good

theorem execFenceDone_good {z : Lasting} (q : Fin 8) {s : State} (hs : s.Good z) : Answers z (execFenceDone q s) := by
  unfold execFenceDone
  repeat' first
    | with_reducible assumption
    | with_reducible apply State.sqNext_good
    | with_reducible apply next_answers
    | split

theorem execBr_good {z : Lasting} (q : Fin 8) (w : Fields) {s : State} (hs : s.Good z) : Answers z (execBr q w s) := by
  unfold execBr
  repeat' first
    | with_reducible assumption
    | with_reducible apply execLocal_good

theorem execJmp_good {z : Lasting} (q : Fin 8) (w : Fields) {s : State} (hs : s.Good z) : Answers z (execJmp q w s) := by
  unfold execJmp
  repeat' first
    | with_reducible assumption
    | with_reducible apply execLocal_good

theorem execCall_good {z : Lasting} (q : Fin 8) (w : Fields) {s : State} (hs : s.Good z) : Answers z (execCall q w s) := by
  unfold execCall
  repeat' first
    | with_reducible assumption
    | with_reducible apply execLocal_good

theorem execCallr_good {z : Lasting} (q : Fin 8) (w : Fields) {s : State} (hs : s.Good z) : Answers z (execCallr q w s) := by
  unfold execCallr
  repeat' first
    | with_reducible assumption
    | with_reducible apply execLocal_good

theorem execLoop_good {z : Lasting} (q : Fin 8) (w : Fields) {s : State} (hs : s.Good z) : Answers z (execLoop q w s) := by
  unfold execLoop
  repeat' first
    | with_reducible assumption
    | with_reducible apply execLocal_good

theorem execIllegalOpcode_good {z : Lasting} (q : Fin 8) (word : BitVec 64) {s : State} (hs : s.Good z) : Answers z (execIllegalOpcode q word s) := by
  unfold execIllegalOpcode
  repeat' first
    | with_reducible assumption
    | with_reducible apply done_good
    | with_reducible apply State.trap_good
    | with_reducible apply ite_answers
    | with_reducible apply next_answers

end Sys2Proof.Machine
end

