-- ==== Sys2Proof/Laws/GoodFabric.lean ====
section
/-! SUPPORT. Every operation of Machine/Fabric.lean keeps a sound state sound and, but for those named _ok, the fuses and the
flash as they are. -/

namespace Sys2Proof.Machine

theorem State.fileInstr_good {z : Lasting} {s : State} (q : Fin 8) (op : CmdOp) (w : Fields) (hs : s.Good z) : (State.fileInstr s q op w).Good z := by
  unfold State.fileInstr
  repeat' first
    | with_reducible assumption
    | ((try lift_lets -underBinder); intro s1; refine have_fst (z := z) (p := s1) ?_ (fun h1 => ?_) <;> [subst s1; try clear_value s1])
    | ((try lift_lets -underBinder); intro x1; first | (have f1 : ∀ _, _ := x1; clear f1) | clear_value x1)
    | with_reducible apply State.file_good
    | with_reducible apply State.sqRet_good
    | with_reducible apply State.sqBlock_good
    | split

theorem execUnpin_good {z : Lasting} (q : Fin 8) (w : Fields) {s : State} (hs : s.Good z) : Answers z (execUnpin q w s) := by
  unfold execUnpin
  repeat' first
    | with_reducible assumption
    | refine fun _ => ?_
    | with_reducible apply execEngine_good
    | with_reducible apply State.fileInstr_good
    | with_reducible apply allows_ok

theorem execDisc_good {z : Lasting} (q : Fin 8) (w : Fields) {s : State} (hs : s.Good z) : Answers z (execDisc q w s) := by
  unfold execDisc
  repeat' first
    | with_reducible assumption
    | refine fun _ => ?_
    | with_reducible apply execEngine_good
    | with_reducible apply State.fileInstr_good
    | with_reducible apply allows_ok

theorem execConn_good {z : Lasting} (q : Fin 8) (w : Fields) {s : State} (hs : s.Good z) : Answers z (execConn q w s) := by
  unfold execConn
  repeat' first
    | with_reducible assumption
    | refine fun _ => ?_
    | with_reducible apply execEngine_good
    | with_reducible apply State.fileInstr_good
    | with_reducible apply allows_ok

theorem execPin_good {z : Lasting} (q : Fin 8) (w : Fields) {s : State} (hs : s.Good z) : Answers z (execPin q w s) := by
  unfold execPin
  repeat' first
    | with_reducible assumption
    | refine fun _ => ?_
    | with_reducible apply execEngine_good
    | with_reducible apply State.fileInstr_good
    | with_reducible apply allows_ok

theorem execLedgerStallResume_good {z : Lasting} (q : Fin 8) {s : State} (hs : s.Good z) : Answers z (execLedgerStallResume q s) := by
  unfold execLedgerStallResume
  repeat' first
    | with_reducible assumption
    | with_reducible apply done_good
    | with_reducible apply State.fileInstr_good
    | split

theorem execEpoch_good {z : Lasting} (q : Fin 8) (w : Fields) {s : State} (hs : s.Good z) : Answers z (execEpoch q w s) := by
  unfold execEpoch
  repeat' first
    | with_reducible assumption
    | refine fun _ => ?_
    | ((try lift_lets -underBinder); intro s1; refine have_fst (z := z) (p := s1) ?_ (fun h1 => ?_) <;> [subst s1; try clear_value s1])
    | with_reducible apply execEngine_good
    | with_reducible apply State.openLocal_good
    | with_reducible apply State.sqRet_good
    | with_reducible apply allows_ok

theorem execAbort_good {z : Lasting} (q : Fin 8) (w : Fields) {s : State} (hs : s.Good z) : Answers z (execAbort q w s) := by
  unfold execAbort
  repeat' first
    | with_reducible assumption
    | refine fun _ => ?_
    | ((try lift_lets -underBinder); intro x1; first | (have f1 : ∀ _, _ := x1; clear f1) | clear_value x1)
    | with_reducible apply execEngine_good
    | with_reducible apply State.sqBlock_good
    | with_reducible apply State.sqRet_good
    | with_reducible apply ite_good
    | with_reducible apply allows_ok

theorem execAbortResolved_good {z : Lasting} (q : Fin 8) {s : State} (hs : s.Good z) : Answers z (execAbortResolved q s) := by
  unfold execAbortResolved
  repeat' first
    | with_reducible assumption
    | ((try lift_lets -underBinder); intro s1; refine have_fst (z := z) (p := s1) ?_ (fun h1 => ?_) <;> [subst s1; try clear_value s1])
    | with_reducible apply done_good
    | with_reducible apply State.abortRequest_good
    | with_reducible apply State.sqRet_good
    | split

theorem State.stageInstr_good {z : Lasting} {s : State} (e : W32) (imm : W32) (hs : s.Good z) : (State.stageInstr s e imm).1.Good z := by
  unfold State.stageInstr
  repeat' first
    | with_reducible assumption
    | with_reducible apply State.modEpoch_good
    | with_reducible apply ite_fst_good
    | split

theorem execStage_good {z : Lasting} (q : Fin 8) (w : Fields) {s : State} (hs : s.Good z) : Answers z (execStage q w s) := by
  unfold execStage
  repeat' first
    | with_reducible assumption
    | refine fun _ => ?_
    | ((try lift_lets -underBinder); intro s1; refine have_fst (z := z) (p := s1) ?_ (fun h1 => ?_) <;> [subst s1; try clear_value s1])
    | with_reducible apply execEngine_good
    | with_reducible apply State.stageInstr_good
    | with_reducible apply State.sqRet_good
    | with_reducible exact allows_error
    | with_reducible apply allows_ok
    | with_reducible apply ite_allows

theorem execLay_good {z : Lasting} (q : Fin 8) (w : Fields) {s : State} (hs : s.Good z) : Answers z (execLay q w s) := by
  unfold execLay
  repeat' first
    | with_reducible assumption
    | refine fun _ => ?_
    | ((try lift_lets -underBinder); intro x1; first | (have f1 : ∀ _, _ := x1; clear f1) | clear_value x1)
    | with_reducible apply execEngine_good
    | with_reducible apply State.sqRet_good
    | with_reducible apply State.sqBlock_good
    | with_reducible apply allows_ok
    | split

theorem execLayEpochEnd_good {z : Lasting} (q : Fin 8) {s : State} (hs : s.Good z) : Answers z (execLayEpochEnd q s) := by
  unfold execLayEpochEnd
  repeat' first
    | with_reducible assumption
    | with_reducible apply done_good
    | with_reducible apply State.sqRet_good
    | split

theorem execVerify_good {z : Lasting} (q : Fin 8) (w : Fields) {s : State} (hs : s.Good z) : Answers z (execVerify q w s) := by
  unfold execVerify
  repeat' first
    | with_reducible assumption
    | refine fun _ => ?_
    | ((try lift_lets -underBinder); intro s1; refine have_fst (z := z) (p := s1) ?_ (fun h1 => ?_) <;> [subst s1; try clear_value s1])
    | with_reducible apply execEngine_good
    | with_reducible apply State.requestPass_good
    | with_reducible apply State.sqRet_good
    | with_reducible apply allows_ok

theorem execSolve_good {z : Lasting} (q : Fin 8) (w : Fields) {s : State} (hs : s.Good z) : Answers z (execSolve q w s) := by
  unfold execSolve
  repeat' first
    | with_reducible assumption
    | refine fun _ => ?_
    | ((try lift_lets -underBinder); intro s1; refine have_good (z := z) (s := s1) ?_ (fun h1 => ?_) <;> [subst s1; try clear_value s1])
    | ((try lift_lets -underBinder); intro x1; first | (have f1 : ∀ _, _ := x1; clear f1) | clear_value x1)
    | with_reducible apply execEngine_good
    | with_reducible apply State.takeSolveMode_good
    | with_reducible apply State.sqBlock_good
    | with_reducible apply ite_good
    | with_reducible exact allows_error
    | with_reducible apply allows_ok
    | split
    | fail_if_no_progress (with_reducible apply good_mk; with_reducible apply good_of)

theorem State.writeMoves_good {z : Lasting} {s : State} (buf : Nat) (cap : Nat) (moves : List ConnRec) (hs : s.Good z) : (State.writeMoves s buf cap moves).Good z := by
  unfold State.writeMoves
  repeat' first
    | with_reducible assumption
    | refine fun _ => ?_
    | ((try lift_lets -underBinder); intro s1; refine have_good (z := z) (s := s1) ?_ (fun h1 => ?_) <;> [subst s1; try clear_value s1])
    | with_reducible apply State.st_good
    | with_reducible apply forEach_good

theorem execTrialSolveDone_good {z : Lasting} (q : Fin 8) {s : State} (hs : s.Good z) : Answers z (execTrialSolveDone q s) := by
  unfold execTrialSolveDone
  repeat' first
    | with_reducible assumption
    | ((try lift_lets -underBinder); intro s1; refine have_good (z := z) (s := s1) ?_ (fun h1 => ?_) <;> [subst s1; try clear_value s1])
    | ((try lift_lets -underBinder); intro x1; first | (have f1 : ∀ _, _ := x1; clear f1) | clear_value x1)
    | with_reducible apply done_good
    | with_reducible apply State.takeSolveMode_good
    | with_reducible apply State.writeMoves_good
    | with_reducible apply State.sqRet_good
    | with_reducible apply ite_good
    | split
    | fail_if_no_progress (with_reducible apply good_mk; with_reducible apply good_of)

theorem readView_good {z : Lasting} (mod : BitVec 5) (q : Fin 8) (w : Fields) (width bound : Nat) (view : State → Nat → BitVec 64)
    {s : State} (hs : s.Good z) : Answers z (readView mod q w width bound view s) :=
  execEngine_good (fun s _ h => ite_allows allows_error (allows_ok (State.sqRet_good _ _ _ h))) hs

theorem execReadwIn_good {z : Lasting} (q : Fin 8) (w : Fields) {s : State} (hs : s.Good z) : Answers z (execReadwIn q w s) := by
  unfold execReadwIn
  repeat' first
    | with_reducible assumption
    | with_reducible apply readView_good

theorem execReadwOut_good {z : Lasting} (q : Fin 8) (w : Fields) {s : State} (hs : s.Good z) : Answers z (execReadwOut q w s) := by
  unfold execReadwOut
  repeat' first
    | with_reducible assumption
    | with_reducible apply readView_good

theorem execReadwCell_good {z : Lasting} (q : Fin 8) (w : Fields) {s : State} (hs : s.Good z) : Answers z (execReadwCell q w s) := by
  unfold execReadwCell
  repeat' first
    | with_reducible assumption
    | with_reducible apply readView_good

theorem execReadwStable_good {z : Lasting} (q : Fin 8) (w : Fields) {s : State} (hs : s.Good z) : Answers z (execReadwStable q w s) := by
  unfold execReadwStable
  repeat' first
    | with_reducible assumption
    | refine fun _ => ?_
    | with_reducible apply execEngine_good
    | with_reducible apply State.sqRet_good
    | with_reducible apply allows_ok

theorem State.readStatus_good {z : Lasting} {s : State} (q : Fin 8) (dst : BitVec 5) (h : W32) (hs : s.Good z) : (State.readStatus s q dst h).Good z := by
  unfold State.readStatus
  repeat' first
    | with_reducible assumption
    | with_reducible apply State.sqRet_good
    | with_reducible apply State.sqBlock_good
    | with_reducible apply State.entryRead_good
    | with_reducible apply ite_good
    | split

theorem execReadwSt_good {z : Lasting} (q : Fin 8) (w : Fields) {s : State} (hs : s.Good z) : Answers z (execReadwSt q w s) := by
  unfold execReadwSt
  repeat' first
    | with_reducible assumption
    | refine fun _ => ?_
    | with_reducible apply execEngine_good
    | with_reducible apply State.readStatus_good
    | with_reducible apply allows_ok

theorem execReadwStFinal_good {z : Lasting} (q : Fin 8) {s : State} (hs : s.Good z) : Answers z (execReadwStFinal q s) := by
  unfold execReadwStFinal
  repeat' first
    | with_reducible assumption
    | with_reducible apply done_good
    | with_reducible apply State.readStatus_good
    | split

end Sys2Proof.Machine
end

