-- ==== Sys2Proof/Laws/GoodLoopInstr.lean ====
section
/-! SUPPORT. Every operation of Machine/LoopInstr.lean keeps a sound state sound and, but for those named _ok, the fuses and the
flash as they are. -/

namespace Sys2Proof.Machine

theorem loopInstr_good {z : Lasting} {opc : Nat} {q : Fin 8} {w : Fields} {pre : State → Seq → Nat → Option Nat}
    {eff : State → Seq → Nat → State} {s : State} (he : ∀ s x l, s.Good z → (eff s x l).Good z) (hs : s.Good z) :
    Answers z (loopInstr opc q w pre eff s) := by
  refine execEngine_good (fun s x h => ?_) hs
  refine ite_allows allows_error ?_
  split
  · exact allows_error
  · exact ite_allows (allows_ok (State.sqRet_good _ _ _ h)) (allows_ok (State.sqRet_good _ _ _ (he _ _ _ h)))

theorem State.paramFault_good {z : Lasting} {s : State} (c : Nat) (hs : s.Good z) : (State.paramFault s c).Good z := by
  unfold State.paramFault
  repeat' first
    | with_reducible assumption
    | ((try lift_lets -underBinder); intro x1; first | (have f1 : ∀ _, _ := x1; clear f1) | clear_value x1)
    | fail_if_no_progress (with_reducible apply good_mk; with_reducible apply good_of)

theorem State.setRow_good {z : Lasting} {s : State} (c : Nat) (row : Nat) (hs : s.Good z) : (State.setRow s c row).Good z := by
  unfold State.setRow
  repeat' first
    | with_reducible assumption
    | ((try lift_lets -underBinder); intro x1; first | (have f1 : ∀ _, _ := x1; clear f1) | clear_value x1)
    | with_reducible apply State.setCCtrl_good
    | with_reducible apply State.stBits_good
    | with_reducible apply ite_good
    | fail_if_no_progress (with_reducible apply good_mk; with_reducible apply good_of)

theorem State.lsetCell_good {z : Lasting} {s : State} (c : Nat) (m : Nat) (v : W32) (hs : s.Good z) : (State.lsetCell s c m v).Good z := by
  unfold State.lsetCell
  repeat' first
    | with_reducible assumption
    | ((try lift_lets -underBinder); intro x1; first | (have f1 : ∀ _, _ := x1; clear f1) | clear_value x1)
    | with_reducible apply State.setCw_good
    | with_reducible apply State.paramFault_good
    | with_reducible apply State.setRow_good
    | with_reducible apply State.setCCtrl_good
    | with_reducible apply ite_good
    | split

theorem State.lsetAux_good {z : Lasting} {s : State} (a : Nat) (m : Nat) (v : W32) (hs : s.Good z) : (State.lsetAux s a m v).Good z := by
  unfold State.lsetAux
  repeat' first
    | with_reducible assumption
    | ((try lift_lets -underBinder); intro x1; first | (have f1 : ∀ _, _ := x1; clear f1) | clear_value x1)
    | with_reducible apply State.wr_good

theorem execLset_good {z : Lasting} (q : Fin 8) (w : Fields) {s : State} (hs : s.Good z) : Answers z (execLset q w s) := by
  unfold execLset
  repeat' first
    | with_reducible assumption
    | refine fun _ => ?_
    | with_reducible apply loopInstr_good
    | with_reducible apply State.lsetCell_good
    | with_reducible apply State.lsetAux_good
    | with_reducible apply ite_good

theorem State.cellInstr_good {z : Lasting} {s : State} (d : DeferredInstr) (hs : s.Good z) : (State.cellInstr s d).Good z := by
  unfold State.cellInstr
  repeat' first
    | with_reducible assumption
    | ((try lift_lets -underBinder); intro x1; first | (have f1 : ∀ _, _ := x1; clear f1) | clear_value x1)
    | with_reducible apply State.applyDeferred_good
    | with_reducible apply ite_good
    | fail_if_no_progress (with_reducible apply good_mk; with_reducible apply good_of)

theorem State.setAuxMode_good {z : Lasting} {s : State} (a : Nat) (m : Nat) (hs : s.Good z) : (State.setAuxMode s a m).Good z := by
  unfold State.setAuxMode
  repeat' first
    | with_reducible assumption
    | ((try lift_lets -underBinder); intro s1; refine have_good (z := z) (s := s1) ?_ (fun h1 => ?_) <;> [subst s1; try clear_value s1])
    | ((try lift_lets -underBinder); intro x1; first | (have f1 : ∀ _, _ := x1; clear f1) | clear_value x1)
    | with_reducible apply State.wr_good
    | with_reducible apply State.presetAux_good
    | with_reducible apply State.wrB_good
    | with_reducible apply ite_good

theorem State.presetAuxInstr_good {z : Lasting} {s : State} (a : Nat) (fb : Option W32) (hs : s.Good z) : (State.presetAuxInstr s a fb).Good z := by
  unfold State.presetAuxInstr
  repeat' first
    | with_reducible assumption
    | ((try lift_lets -underBinder); intro s1; refine have_good (z := z) (s := s1) ?_ (fun h1 => ?_) <;> [subst s1; try clear_value s1])
    | with_reducible apply State.presetAux_good
    | with_reducible apply State.wr_good
    | with_reducible apply ite_good
    | split

theorem execLmode_good {z : Lasting} (q : Fin 8) (w : Fields) {s : State} (hs : s.Good z) : Answers z (execLmode q w s) := by
  unfold execLmode
  repeat' first
    | with_reducible assumption
    | refine fun _ => ?_
    | with_reducible apply loopInstr_good
    | with_reducible apply State.cellInstr_good
    | with_reducible apply State.setAuxMode_good
    | with_reducible apply ite_good

theorem execLpreset_good {z : Lasting} (q : Fin 8) (w : Fields) {s : State} (hs : s.Good z) : Answers z (execLpreset q w s) := by
  unfold execLpreset
  repeat' first
    | with_reducible assumption
    | refine fun _ => ?_
    | ((try lift_lets -underBinder); intro x1; first | (have f1 : ∀ _, _ := x1; clear f1) | clear_value x1)
    | with_reducible apply loopInstr_good
    | with_reducible apply State.cellInstr_good
    | with_reducible apply State.presetAuxInstr_good
    | with_reducible apply ite_good

theorem execLinj_good {z : Lasting} (q : Fin 8) (w : Fields) {s : State} (hs : s.Good z) : Answers z (execLinj q w s) := by
  unfold execLinj
  repeat' first
    | with_reducible assumption
    | refine fun _ => ?_
    | ((try lift_lets -underBinder); intro x1; first | (have f1 : ∀ _, _ := x1; clear f1) | clear_value x1)
    | with_reducible apply loopInstr_good
    | with_reducible apply State.cellInstr_good
    | with_reducible apply State.setInj_good
    | with_reducible apply ite_good

theorem State.startCapture_good {z : Lasting} {s : State} (l : Nat) (ch : Nat) (ctl : Nat) (hs : s.Good z) : (State.startCapture s l ch ctl).Good z := by
  unfold State.startCapture
  repeat' first
    | with_reducible assumption
    | ((try lift_lets -underBinder); intro s1; refine have_good (z := z) (s := s1) ?_ (fun h1 => ?_) <;> [subst s1; try clear_value s1])
    | ((try lift_lets -underBinder); intro x1; first | (have f1 : ∀ _, _ := x1; clear f1) | clear_value x1)
    | with_reducible apply State.capEnd_good
    | with_reducible apply State.wr_good
    | with_reducible apply State.wrB_good
    | with_reducible apply ite_good
    | fail_if_no_progress (with_reducible apply good_mk; with_reducible apply good_of)

theorem execLcap_good {z : Lasting} (q : Fin 8) (w : Fields) {s : State} (hs : s.Good z) : Answers z (execLcap q w s) := by
  unfold execLcap
  repeat' first
    | with_reducible assumption
    | refine fun _ => ?_
    | with_reducible apply loopInstr_good
    | with_reducible apply State.startCapture_good

end Sys2Proof.Machine
end

