-- ==== Sys2Proof/Laws/GoodFrameInstr.lean ====
section
/-! SUPPORT. Every operation of Machine/FrameInstr.lean keeps a sound state sound and, but for those named _ok, the fuses and the
flash as they are. -/

namespace Sys2Proof.Machine

theorem State.queueSend_good {z : Lasting} {s : State} (a : Nat) (o : SendOp) (hs : s.Good z) : (State.queueSend s a o).Good z := by
  unfold State.queueSend
  repeat' first
    | with_reducible assumption
    | ((try lift_lets -underBinder); intro s1; refine have_good (z := z) (s := s1) ?_ (fun h1 => ?_) <;> [subst s1; try clear_value s1])
    | ((try lift_lets -underBinder); intro x1; first | (have f1 : ∀ _, _ := x1; clear f1) | clear_value x1)
    | with_reducible apply State.sendFrame_good
    | with_reducible apply State.countFrame_good
    | with_reducible apply ite_good
    | fail_if_no_progress (with_reducible apply good_mk; with_reducible apply good_of)

theorem State.sendInstr_good {z : Lasting} {s : State} (q : Fin 8) (w : Fields) (hs : s.Good z) : Allows z (State.sendInstr s q w) := by
  unfold State.sendInstr
  repeat' first
    | with_reducible assumption
    | ((try lift_lets -underBinder); intro x1; first | (have f1 : ∀ _, _ := x1; clear f1) | clear_value x1)
    | with_reducible apply State.sqRet_good
    | with_reducible apply State.queueSend_good
    | with_reducible apply State.sqBlock_good
    | with_reducible apply ite_good
    | with_reducible exact allows_error
    | with_reducible apply allows_ok
    | split

theorem execSend_good {z : Lasting} (q : Fin 8) (w : Fields) {s : State} (hs : s.Good z) : Answers z (execSend q w s) := by
  unfold execSend
  repeat' first
    | with_reducible assumption
    | refine fun _ => ?_
    | with_reducible apply execEngine_good
    | with_reducible apply State.sendInstr_good

theorem execSendQueueRoom_good {z : Lasting} (q : Fin 8) {s : State} (hs : s.Good z) : Answers z (execSendQueueRoom q s) := by
  refine done_good ?_
  split
  · split
    · rename_i e
      exact allows_get (State.sendInstr_good _ _ hs) e
    · exact State.trap_good _ _ hs
  · exact hs

theorem State.takeFrame_good {z : Lasting} {s : State} (q : Fin 8) (w : Fields) (k : Nat) (r : RxFrame) (rest : List RxFrame) (hs : s.Good z) : Allows z (State.takeFrame s q w k r rest) := by
  unfold State.takeFrame
  repeat' first
    | with_reducible assumption
    | ((try lift_lets -underBinder); intro s1; refine have_good (z := z) (s := s1) ?_ (fun h1 => ?_) <;> [subst s1; try clear_value s1])
    | ((try lift_lets -underBinder); intro x1; first | (have f1 : ∀ _, _ := x1; clear f1) | clear_value x1)
    | with_reducible apply State.sqRet_good
    | with_reducible apply State.stBytes_good
    | with_reducible exact allows_error
    | with_reducible apply allows_ok
    | split
    | fail_if_no_progress (with_reducible apply good_mk; with_reducible apply good_of)

theorem State.recvInstr_good {z : Lasting} {s : State} (q : Fin 8) (w : Fields) (wait : Bool) (hs : s.Good z) : Allows z (State.recvInstr s q w wait) := by
  unfold State.recvInstr
  repeat' first
    | with_reducible assumption
    | ((try lift_lets -underBinder); intro x1; first | (have f1 : ∀ _, _ := x1; clear f1) | clear_value x1)
    | with_reducible apply State.takeFrame_good
    | with_reducible apply State.sqBlock_good
    | with_reducible apply State.sqRet_good
    | with_reducible apply ite_good
    | with_reducible exact allows_error
    | with_reducible apply allows_ok
    | split

theorem execRecv_good {z : Lasting} (q : Fin 8) (w : Fields) {s : State} (hs : s.Good z) : Answers z (execRecv q w s) := by
  unfold execRecv
  repeat' first
    | with_reducible assumption
    | refine fun _ => ?_
    | with_reducible apply execEngine_good
    | with_reducible apply State.recvInstr_good

theorem execRecvN_good {z : Lasting} (q : Fin 8) (w : Fields) {s : State} (hs : s.Good z) : Answers z (execRecvN q w s) := by
  unfold execRecvN
  repeat' first
    | with_reducible assumption
    | refine fun _ => ?_
    | with_reducible apply execEngine_good
    | with_reducible apply State.recvInstr_good

theorem execRecvFrameReady_good {z : Lasting} (q : Fin 8) {s : State} (hs : s.Good z) : Answers z (execRecvFrameReady q s) := by
  refine done_good ?_
  split
  · split
    · rename_i e
      exact allows_get (State.recvInstr_good _ _ _ hs) e
    · exact State.trap_good _ _ hs
  · exact hs

theorem State.ackToken_good {z : Lasting} {s : State} (token : W32) (st : W32) (hs : s.Good z) : (State.ackToken s token st).Good z := by
  unfold State.ackToken
  repeat' first
    | with_reducible assumption
    | ((try lift_lets -underBinder); intro s1; refine have_good (z := z) (s := s1) ?_ (fun h1 => ?_) <;> [subst s1; try clear_value s1])
    | ((try lift_lets -underBinder); intro x1; first | (have f1 : ∀ _, _ := x1; clear f1) | clear_value x1)
    | with_reducible apply State.sendCounted_good
    | split
    | fail_if_no_progress (with_reducible apply good_mk; with_reducible apply good_of)

theorem execAck_good {z : Lasting} (q : Fin 8) (w : Fields) {s : State} (hs : s.Good z) : Answers z (execAck q w s) := by
  unfold execAck
  repeat' first
    | with_reducible assumption
    | refine fun _ => ?_
    | with_reducible apply execEngine_good
    | with_reducible apply State.sqNext_good
    | with_reducible apply State.ackToken_good
    | with_reducible apply allows_ok

end Sys2Proof.Machine
end

