-- ==== Sys2Proof/Laws/GoodSystemInstr.lean ====
section
/-! SUPPORT. Every operation of Machine/SystemInstr.lean keeps a sound state sound and, but for those named _ok, the fuses and the
flash as they are. -/

namespace Sys2Proof.Machine

theorem execWaitt_good {z : Lasting} (q : Fin 8) (w : Fields) {s : State} (hs : s.Good z) : Answers z (execWaitt q w s) := by
  unfold execWaitt
  repeat' first
    | with_reducible assumption
    | refine fun _ => ?_
    | ((try lift_lets -underBinder); intro x1; first | (have f1 : ∀ _, _ := x1; clear f1) | clear_value x1)
    | with_reducible apply execEngine_good
    | with_reducible apply State.sqNext_good
    | with_reducible apply State.sqBlock_good
    | with_reducible apply ite_good
    | with_reducible apply allows_ok

theorem execWaittResume_good {z : Lasting} (q : Fin 8) {s : State} (hs : s.Good z) : Answers z (execWaittResume q s) := by
  unfold execWaittResume
  repeat' first
    | with_reducible assumption
    | ((try lift_lets -underBinder); intro s1; refine have_good (z := z) (s := s1) ?_ (fun h1 => ?_) <;> [subst s1; try clear_value s1])
    | with_reducible apply done_good
    | with_reducible apply State.passBaseTo_good
    | with_reducible apply State.sqNext_good
    | with_reducible apply ite_good
    | split

theorem execWaite_good {z : Lasting} (q : Fin 8) (w : Fields) {s : State} (hs : s.Good z) : Answers z (execWaite q w s) := by
  unfold execWaite
  repeat' first
    | with_reducible assumption
    | refine fun _ => ?_
    | with_reducible apply execEngine_good
    | with_reducible apply State.sqBlock_good
    | with_reducible exact allows_error
    | with_reducible apply allows_ok
    | with_reducible apply ite_allows

theorem execWaiteResume_good {z : Lasting} (q : Fin 8) {s : State} (hs : s.Good z) : Answers z (execWaiteResume q s) := by
  unfold execWaiteResume
  repeat' first
    | with_reducible assumption
    | with_reducible apply done_good
    | with_reducible apply State.sqNext_good
    | split

theorem execTnow_good {z : Lasting} (q : Fin 8) (w : Fields) {s : State} (hs : s.Good z) : Answers z (execTnow q w s) := by
  unfold execTnow
  repeat' first
    | with_reducible assumption
    | refine fun _ => ?_
    | with_reducible apply execEngine_good
    | with_reducible apply State.sqRet_good
    | with_reducible apply allows_ok

theorem execHist_good {z : Lasting} (q : Fin 8) (w : Fields) {s : State} (hs : s.Good z) : Answers z (execHist q w s) := by
  unfold execHist
  repeat' first
    | with_reducible assumption
    | refine fun _ => ?_
    | ((try lift_lets -underBinder); intro s1; refine have_good (z := z) (s := s1) ?_ (fun h1 => ?_) <;> [subst s1; try clear_value s1])
    | ((try lift_lets -underBinder); intro x1; first | (have f1 : ∀ _, _ := x1; clear f1) | clear_value x1)
    | with_reducible apply execEngine_good
    | with_reducible apply State.sqNext_good
    | with_reducible apply State.monEnter_good
    | with_reducible exact allows_error
    | with_reducible apply allows_ok
    | with_reducible apply ite_allows

theorem execFraise_good {z : Lasting} (q : Fin 8) (w : Fields) {s : State} (hs : s.Good z) : Answers z (execFraise q w s) := by
  unfold execFraise
  repeat' first
    | with_reducible assumption
    | refine fun _ => ?_
    | ((try lift_lets -underBinder); intro x1; first | (have f1 : ∀ _, _ := x1; clear f1) | clear_value x1)
    | with_reducible apply execEngine_good
    | with_reducible apply State.inject_good
    | with_reducible apply State.sqNext_good
    | with_reducible exact allows_error
    | with_reducible apply allows_ok
    | with_reducible apply ite_allows

theorem execFack_good {z : Lasting} (q : Fin 8) (w : Fields) {s : State} (hs : s.Good z) : Answers z (execFack q w s) := by
  unfold execFack
  repeat' first
    | with_reducible assumption
    | refine fun _ => ?_
    | ((try lift_lets -underBinder); intro x1; first | (have f1 : ∀ _, _ := x1; clear f1) | clear_value x1)
    | with_reducible apply execEngine_good
    | with_reducible apply State.ackFault_good
    | with_reducible apply State.sqNext_good
    | with_reducible exact allows_error
    | with_reducible apply allows_ok
    | with_reducible apply ite_allows

theorem execHalt_good {z : Lasting} (q : Fin 8) (w : Fields) {s : State} (hs : s.Good z) : Answers z (execHalt q w s) := by
  unfold execHalt
  repeat' first
    | with_reducible assumption
    | refine fun _ => ?_
    | with_reducible apply execEngine_good
    | with_reducible apply State.endThread_good
    | with_reducible apply State.sqNext_good
    | with_reducible apply allows_ok

theorem execSleep_good {z : Lasting} (q : Fin 8) (w : Fields) {s : State} (hs : s.Good z) : Answers z (execSleep q w s) := by
  unfold execSleep
  repeat' first
    | with_reducible assumption
    | refine fun _ => ?_
    | with_reducible apply execEngine_good
    | with_reducible apply State.setSq_good
    | with_reducible exact allows_error
    | with_reducible apply allows_ok
    | with_reducible apply ite_allows

theorem execSleepWake_good {z : Lasting} (q : Fin 8) {s : State} (hs : s.Good z) : Answers z (execSleepWake q s) := by
  unfold execSleepWake
  repeat' first
    | with_reducible assumption
    | with_reducible apply done_good
    | with_reducible apply State.sqNext_good
    | split

theorem execSync_good {z : Lasting} (q : Fin 8) (w : Fields) {s : State} (hs : s.Good z) : Answers z (execSync q w s) := by
  unfold execSync
  repeat' first
    | with_reducible assumption
    | refine fun _ => ?_
    | with_reducible apply execEngine_good
    | with_reducible apply State.fireHook_good
    | with_reducible apply State.sqNext_good
    | with_reducible exact allows_error
    | with_reducible apply allows_ok
    | with_reducible apply ite_allows

theorem execTrap_good {z : Lasting} (q : Fin 8) (w : Fields) {s : State} (hs : s.Good z) : Answers z (execTrap q w s) := by
  unfold execTrap
  repeat' first
    | with_reducible assumption
    | refine fun _ => ?_
    | with_reducible apply execEngine_good
    | with_reducible apply State.trap_good
    | with_reducible exact allows_error
    | with_reducible apply allows_ok
    | with_reducible apply ite_allows

end Sys2Proof.Machine
end

