-- ==== Sys2Proof/Laws/GoodRedund.lean ====
section
/-! SUPPORT. Every operation of Machine/Redund.lean keeps a sound state sound and, but for those named _ok, the fuses and the
flash as they are. -/

namespace Sys2Proof.Machine

theorem execHeartbeatSend_good {z : Lasting} {s : State} (hs : s.Good z) : Answers z (execHeartbeatSend s) := by
  unfold execHeartbeatSend
  repeat' first
    | with_reducible assumption
    | with_reducible apply done_good
    | with_reducible apply State.fence_good
    | with_reducible apply State.sendHeartbeat_good
    | with_reducible apply ite_good

theorem State.peerRoleSeen_good {z : Lasting} {s : State} (hb : Heartbeat) (hs : s.Good z) : (State.peerRoleSeen s hb).Good z := by
  unfold State.peerRoleSeen
  repeat' first
    | with_reducible assumption
    | ((try lift_lets -underBinder); intro s1; refine have_good (z := z) (s := s1) ?_ (fun h1 => ?_) <;> [subst s1; try clear_value s1])
    | ((try lift_lets -underBinder); intro x1; first | (have f1 : ∀ _, _ := x1; clear f1) | clear_value x1)
    | with_reducible apply State.declareLost_good
    | with_reducible apply State.fence_good
    | with_reducible apply State.portCmd_good
    | with_reducible apply State.streamOff_good
    | with_reducible apply State.enterStandby_good
    | with_reducible apply State.peerHook_good
    | with_reducible apply State.setRole_good
    | with_reducible apply ite_good
    | fail_if_no_progress (with_reducible apply good_mk; with_reducible apply good_of)

theorem execHeartbeatFrameRx_good {z : Lasting} (hb : Heartbeat) {s : State} (hs : s.Good z) : Answers z (execHeartbeatFrameRx hb s) := by
  unfold execHeartbeatFrameRx
  repeat' first
    | with_reducible assumption
    | ((try lift_lets -underBinder); intro s1; refine have_good (z := z) (s := s1) ?_ (fun h1 => ?_) <;> [subst s1; try clear_value s1])
    | ((try lift_lets -underBinder); intro x1; first | (have f1 : ∀ _, _ := x1; clear f1) | clear_value x1)
    | with_reducible apply State.takeMgmt_good
    | with_reducible apply done_good
    | with_reducible apply State.wr_good
    | with_reducible apply State.wrB_good
    | with_reducible apply State.levelEnd_good
    | with_reducible apply State.peerHook_good
    | with_reducible apply State.resendImage_good
    | with_reducible apply State.peerRoleSeen_good
    | with_reducible apply ite_good
    | fail_if_no_progress (with_reducible apply good_mk; with_reducible apply good_of)

theorem execHeartbeatPulseIn_good {z : Lasting} (ns : BitVec 16) {s : State} (hs : s.Good z) : Answers z (execHeartbeatPulseIn ns s) := by
  unfold execHeartbeatPulseIn
  repeat' first
    | with_reducible assumption
    | ((try lift_lets -underBinder); intro s1; refine have_good (z := z) (s := s1) ?_ (fun h1 => ?_) <;> [subst s1; try clear_value s1])
    | ((try lift_lets -underBinder); intro x1; first | (have f1 : ∀ _, _ := x1; clear f1) | clear_value x1)
    | with_reducible apply done_good
    | with_reducible apply State.declareLost_good
    | with_reducible apply State.wrB_good
    | with_reducible apply State.levelEnd_good
    | with_reducible apply ite_good
    | fail_if_no_progress (with_reducible apply good_mk; with_reducible apply good_of)

theorem execRedundSurrender_good {z : Lasting} {s : State} (hs : s.Good z) : Answers z (execRedundSurrender s) := by
  unfold execRedundSurrender
  repeat' first
    | with_reducible assumption
    | with_reducible apply done_good
    | with_reducible apply State.surrender_good

theorem execPeerLost_good {z : Lasting} {s : State} (hs : s.Good z) : Answers z (execPeerLost s) := by
  unfold execPeerLost
  repeat' first
    | with_reducible assumption
    | with_reducible apply done_good
    | with_reducible apply State.declareLost_good
    | with_reducible apply State.passToCycle_good
    | with_reducible apply ite_good

theorem execHbPath_good {z : Lasting} {s : State} (hs : s.Good z) : Answers z (execHbPath s) := by
  unfold execHbPath
  repeat' first
    | with_reducible assumption
    | ((try lift_lets -underBinder); intro s1; refine have_good (z := z) (s := s1) ?_ (fun h1 => ?_) <;> [subst s1; try clear_value s1])
    | ((try lift_lets -underBinder); intro x1; first | (have f1 : ∀ _, _ := x1; clear f1) | clear_value x1)
    | with_reducible apply done_good
    | with_reducible apply State.passToCycle_good
    | with_reducible apply State.raise_good
    | with_reducible apply State.wrB_good
    | with_reducible apply ite_good

theorem execFailoverGrant_good {z : Lasting} {s : State} (hs : s.Good z) : Answers z (execFailoverGrant s) := by
  unfold execFailoverGrant
  repeat' first
    | with_reducible assumption
    | ((try lift_lets -underBinder); intro s1; refine have_good (z := z) (s := s1) ?_ (fun h1 => ?_) <;> [subst s1; try clear_value s1])
    | ((try lift_lets -underBinder); intro x1; first | (have f1 : ∀ _, _ := x1; clear f1) | clear_value x1)
    | with_reducible apply done_good
    | with_reducible apply State.wrB_good
    | with_reducible apply State.takeImage_good
    | with_reducible apply ite_good
    | fail_if_no_progress (with_reducible apply good_mk; with_reducible apply good_of)

theorem execFailoverEchoReady_good {z : Lasting} {s : State} (hs : s.Good z) : Answers z (execFailoverEchoReady s) := by
  unfold execFailoverEchoReady
  repeat' first
    | with_reducible assumption
    | ((try lift_lets -underBinder); intro s1; refine have_good (z := z) (s := s1) ?_ (fun h1 => ?_) <;> [subst s1; try clear_value s1])
    | ((try lift_lets -underBinder); intro x1; first | (have f1 : ∀ _, _ := x1; clear f1) | clear_value x1)
    | with_reducible apply done_good
    | with_reducible apply State.startFromImage_good
    | with_reducible apply State.markMissed_good
    | with_reducible apply State.recordTransfer_good
    | with_reducible apply State.peerHook_good
    | with_reducible apply State.setRole_good
    | with_reducible apply ite_good
    | fail_if_no_progress (with_reducible apply good_mk; with_reducible apply good_of)

theorem execFailoverGrantTimeout_good {z : Lasting} {s : State} (hs : s.Good z) : Answers z (execFailoverGrantTimeout s) := by
  unfold execFailoverGrantTimeout
  repeat' first
    | with_reducible assumption
    | ((try lift_lets -underBinder); intro s1; refine have_good (z := z) (s := s1) ?_ (fun h1 => ?_) <;> [subst s1; try clear_value s1])
    | ((try lift_lets -underBinder); intro x1; first | (have f1 : ∀ _, _ := x1; clear f1) | clear_value x1)
    | with_reducible apply done_good
    | with_reducible apply State.passToCycle_good
    | with_reducible apply State.raise_good
    | with_reducible apply State.portCmd_good
    | with_reducible apply State.enterStandby_good
    | with_reducible apply State.peerHook_good
    | with_reducible apply ite_good
    | fail_if_no_progress (with_reducible apply good_mk; with_reducible apply good_of)

theorem State.doRedundWdog_good {z : Lasting} {s : State} (hs : s.Good z) : (State.doRedundWdog s).Good z := by
  unfold State.doRedundWdog
  repeat' first
    | with_reducible assumption
    | ((try lift_lets -underBinder); intro x1; first | (have f1 : ∀ _, _ := x1; clear f1) | clear_value x1)
    | fail_if_no_progress (with_reducible apply good_mk; with_reducible apply good_of)

theorem execRedundWdog_good {z : Lasting} {s : State} (hs : s.Good z) : Answers z (execRedundWdog s) := by
  unfold execRedundWdog
  repeat' first
    | with_reducible assumption
    | with_reducible apply done_good
    | with_reducible apply State.doRedundWdog_good

theorem execWatchdogExpire_good {z : Lasting} {s : State} (hs : s.Good z) : Answers z (execWatchdogExpire s) := by
  unfold execWatchdogExpire
  repeat' first
    | with_reducible assumption
    | with_reducible apply done_good
    | with_reducible apply State.fence_good
    | with_reducible apply State.passToCycle_good
    | with_reducible apply ite_good

theorem execCkptRecordRx_good {z : Lasting} (r : CkptRecord) {s : State} (hs : s.Good z) : Answers z (execCkptRecordRx r s) := by
  unfold execCkptRecordRx
  repeat' first
    | with_reducible assumption
    | ((try lift_lets -underBinder); intro s1; refine have_good (z := z) (s := s1) ?_ (fun h1 => ?_) <;> [subst s1; try clear_value s1])
    | with_reducible apply State.takeMgmt_good
    | with_reducible apply done_good
    | with_reducible apply State.recvRecord_good
    | with_reducible apply ite_good

theorem execCkptGapTimeout_good {z : Lasting} {s : State} (hs : s.Good z) : Answers z (execCkptGapTimeout s) := by
  unfold execCkptGapTimeout
  repeat' first
    | with_reducible assumption
    | ((try lift_lets -underBinder); intro s1; refine have_good (z := z) (s := s1) ?_ (fun h1 => ?_) <;> [subst s1; try clear_value s1])
    | ((try lift_lets -underBinder); intro x1; first | (have f1 : ∀ _, _ := x1; clear f1) | clear_value x1)
    | with_reducible apply done_good
    | with_reducible apply State.passToCycle_good
    | with_reducible apply State.inc_good
    | with_reducible apply State.wrB_good
    | with_reducible apply State.peerHook_good
    | with_reducible apply State.raise_good
    | split
    | fail_if_no_progress (with_reducible apply good_mk; with_reducible apply good_of)

theorem execCkptResyncDone_good {z : Lasting} {s : State} (hs : s.Good z) : Answers z (execCkptResyncDone s) := by
  unfold execCkptResyncDone
  repeat' first
    | with_reducible assumption
    | with_reducible apply done_good
    | with_reducible apply State.resyncDone_good
    | with_reducible apply ite_good

theorem execShadowSend_good {z : Lasting} {s : State} (hs : s.Good z) : Answers z (execShadowSend s) := by
  unfold execShadowSend
  repeat' first
    | with_reducible assumption
    | ((try lift_lets -underBinder); intro s1; refine have_good (z := z) (s := s1) ?_ (fun h1 => ?_) <;> [subst s1; try clear_value s1])
    | ((try lift_lets -underBinder); intro x1; first | (have f1 : ∀ _, _ := x1; clear f1) | clear_value x1)
    | with_reducible apply done_good
    | with_reducible apply State.ckptSend_good
    | with_reducible apply ite_good
    | fail_if_no_progress (with_reducible apply good_mk; with_reducible apply good_of)

theorem execMarchPassEnd_good {z : Lasting} (mismatch : Bool) {s : State} (hs : s.Good z) : Answers z (execMarchPassEnd mismatch s) := by
  unfold execMarchPassEnd
  repeat' first
    | with_reducible assumption
    | ((try lift_lets -underBinder); intro s1; refine have_good (z := z) (s := s1) ?_ (fun h1 => ?_) <;> [subst s1; try clear_value s1])
    | with_reducible apply done_good
    | with_reducible apply State.wr_good
    | with_reducible apply State.wrB_good
    | with_reducible apply State.raise_good
    | with_reducible apply ite_good

theorem State.beginTakeback_good {z : Lasting} {s : State} (hs : s.Good z) : (State.beginTakeback s).Good z := by
  unfold State.beginTakeback
  repeat' first
    | with_reducible assumption
    | ((try lift_lets -underBinder); intro s1; refine have_good (z := z) (s := s1) ?_ (fun h1 => ?_) <;> [subst s1; try clear_value s1])
    | ((try lift_lets -underBinder); intro x1; first | (have f1 : ∀ _, _ := x1; clear f1) | clear_value x1)
    | with_reducible apply State.peerHook_good
    | with_reducible apply State.setRole_good
    | fail_if_no_progress (with_reducible apply good_mk; with_reducible apply good_of)

theorem execTakebackHoldoff_good {z : Lasting} {s : State} (hs : s.Good z) : Answers z (execTakebackHoldoff s) := by
  unfold execTakebackHoldoff
  repeat' first
    | with_reducible assumption
    | ((try lift_lets -underBinder); intro s1; refine have_good (z := z) (s := s1) ?_ (fun h1 => ?_) <;> [subst s1; try clear_value s1])
    | with_reducible apply done_good
    | with_reducible apply State.passToCycle_good
    | with_reducible apply State.beginTakeback_good
    | with_reducible apply State.wr_good
    | with_reducible apply ite_good

theorem State.doRedundTakeback_good {z : Lasting} {s : State} (hs : s.Good z) : (State.doRedundTakeback s).Good z := by
  unfold State.doRedundTakeback
  repeat' first
    | with_reducible assumption
    | ((try lift_lets -underBinder); intro x1; first | (have f1 : ∀ _, _ := x1; clear f1) | clear_value x1)
    | with_reducible apply ite_good
    | fail_if_no_progress (with_reducible apply good_mk; with_reducible apply good_of)

theorem execRedundTakeback_good {z : Lasting} {s : State} (hs : s.Good z) : Answers z (execRedundTakeback s) := by
  unfold execRedundTakeback
  repeat' first
    | with_reducible assumption
    | with_reducible apply done_good
    | with_reducible apply State.doRedundTakeback_good

theorem execTakebackQuiesced_good {z : Lasting} {s : State} (hs : s.Good z) : Answers z (execTakebackQuiesced s) := by
  unfold execTakebackQuiesced
  repeat' first
    | with_reducible assumption
    | ((try lift_lets -underBinder); intro s1; refine have_good (z := z) (s := s1) ?_ (fun h1 => ?_) <;> [subst s1; try clear_value s1])
    | ((try lift_lets -underBinder); intro x1; first | (have f1 : ∀ _, _ := x1; clear f1) | clear_value x1)
    | with_reducible apply done_good
    | with_reducible apply State.rollWear_good
    | with_reducible apply State.rollLoops_good
    | with_reducible apply State.ckptSend_good
    | with_reducible apply ite_good
    | fail_if_no_progress (with_reducible apply good_mk; with_reducible apply good_of)

theorem execHandoverFrame_good {z : Lasting} {s : State} (hs : s.Good z) : Answers z (execHandoverFrame s) := by
  unfold execHandoverFrame
  repeat' first
    | with_reducible assumption
    | ((try lift_lets -underBinder); intro s1; refine have_good (z := z) (s := s1) ?_ (fun h1 => ?_) <;> [subst s1; try clear_value s1])
    | ((try lift_lets -underBinder); intro x1; first | (have f1 : ∀ _, _ := x1; clear f1) | clear_value x1)
    | with_reducible apply done_good
    | with_reducible apply State.passTo_good
    | with_reducible apply State.portCmd_good
    | with_reducible apply State.streamOff_good
    | with_reducible apply State.setRole_good
    | with_reducible apply ite_good
    | split
    | fail_if_no_progress (with_reducible apply good_mk; with_reducible apply good_of)

theorem execTakebackTimeout_good {z : Lasting} {s : State} (hs : s.Good z) : Answers z (execTakebackTimeout s) := by
  unfold execTakebackTimeout
  repeat' first
    | with_reducible assumption
    | ((try lift_lets -underBinder); intro s1; refine have_good (z := z) (s := s1) ?_ (fun h1 => ?_) <;> [subst s1; try clear_value s1])
    | ((try lift_lets -underBinder); intro x1; first | (have f1 : ∀ _, _ := x1; clear f1) | clear_value x1)
    | with_reducible apply done_good
    | with_reducible apply State.passTo_good
    | with_reducible apply State.raise_good
    | with_reducible apply State.portCmd_good
    | with_reducible apply ite_good
    | split
    | fail_if_no_progress (with_reducible apply good_mk; with_reducible apply good_of)

theorem State.doRedundRestore_good {z : Lasting} {s : State} (hs : s.Good z) : (State.doRedundRestore s).Good z := by
  unfold State.doRedundRestore
  repeat' first
    | with_reducible assumption
    | ((try lift_lets -underBinder); intro s1; refine have_good (z := z) (s := s1) ?_ (fun h1 => ?_) <;> [subst s1; try clear_value s1])
    | ((try lift_lets -underBinder); intro x1; first | (have f1 : ∀ _, _ := x1; clear f1) | clear_value x1)
    | with_reducible apply State.wrB_good
    | with_reducible apply ite_good
    | split
    | fail_if_no_progress (with_reducible apply good_mk; with_reducible apply good_of)

theorem execRedundRestore_good {z : Lasting} {s : State} (hs : s.Good z) : Answers z (execRedundRestore s) := by
  unfold execRedundRestore
  repeat' first
    | with_reducible assumption
    | with_reducible apply done_good
    | with_reducible apply State.doRedundRestore_good

theorem execHealthFlagClear_good {z : Lasting} (lane : Bool) {s : State} (hs : s.Good z) : Answers z (execHealthFlagClear lane s) := by
  unfold execHealthFlagClear
  repeat' first
    | with_reducible assumption
    | ((try lift_lets -underBinder); intro s1; refine have_good (z := z) (s := s1) ?_ (fun h1 => ?_) <;> [subst s1; try clear_value s1])
    | ((try lift_lets -underBinder); intro x1; first | (have f1 : ∀ _, _ := x1; clear f1) | clear_value x1)
    | with_reducible apply done_good
    | with_reducible apply State.wrB_good
    | with_reducible apply State.passToCycle_good
    | with_reducible apply ite_good
    | fail_if_no_progress (with_reducible apply good_mk; with_reducible apply good_of)

theorem execCkptRollingUpdate_good {z : Lasting} (wear : Bool) {s : State} (hs : s.Good z) : Answers z (execCkptRollingUpdate wear s) := by
  unfold execCkptRollingUpdate
  repeat' first
    | with_reducible assumption
    | with_reducible apply done_good
    | with_reducible apply State.rollWear_good
    | with_reducible apply State.rollLoops_good
    | with_reducible apply ite_good

end Sys2Proof.Machine
end

