-- ==== Sys2Proof/Laws/GoodTime.lean ====
section
/-! SUPPORT. Every operation of Machine/Time.lean keeps a sound state sound and, but for those named _ok, the fuses and the
flash as they are. -/

namespace Sys2Proof.Machine

theorem State.setInc_good {z : Lasting} {s : State} (t : Nat) (inc : Nat) (hs : s.Good z) : (State.setInc s t inc).Good z := by
  unfold State.setInc
  repeat' first
    | with_reducible assumption
    | with_reducible apply State.wr_good
    | with_reducible apply State.wrB_good
    | with_reducible apply ite_good

theorem execTimeInc_good {z : Lasting} (t : Fin 4) (inc : BitVec 64) {s : State} (hs : s.Good z) : Answers z (execTimeInc t inc s) := by
  unfold execTimeInc
  repeat' first
    | with_reducible assumption
    | with_reducible apply done_good
    | with_reducible apply State.ifOpen_good
    | with_reducible apply State.setInc_good

theorem State.adjust_good {z : Lasting} {s : State} (t : Nat) (a : Int) (hs : s.Good z) : (State.adjust s t a).Good z := by
  unfold State.adjust
  repeat' first
    | with_reducible assumption
    | ((try lift_lets -underBinder); intro s1; refine have_good (z := z) (s := s1) ?_ (fun h1 => ?_) <;> [subst s1; try clear_value s1])
    | ((try lift_lets -underBinder); intro x1; first | (have f1 : ∀ _, _ := x1; clear f1) | clear_value x1)
    | with_reducible apply State.adjustBound_good
    | with_reducible apply State.setTb_good
    | with_reducible apply State.markPassed_good
    | with_reducible apply ite_good
    | fail_if_no_progress (with_reducible apply good_mk; with_reducible apply good_of)

theorem execTimeAdj_good {z : Lasting} (t : Fin 4) (adj : BitVec 64) {s : State} (hs : s.Good z) : Answers z (execTimeAdj t adj s) := by
  unfold execTimeAdj
  repeat' first
    | with_reducible assumption
    | with_reducible apply done_good
    | with_reducible apply State.ifOpen_good
    | with_reducible apply State.adjust_good

theorem execSlewEnd_good {z : Lasting} {s : State} (hs : s.Good z) : Answers z (execSlewEnd s) := by
  unfold execSlewEnd
  repeat' first
    | with_reducible assumption
    | with_reducible apply done_good
    | with_reducible apply State.passCycles_good

theorem State.setLock_good {z : Lasting} {s : State} (t : Nat) (cycles : Nat) (hs : s.Good z) : (State.setLock s t cycles).Good z := by
  unfold State.setLock
  repeat' first
    | with_reducible assumption
    | ((try lift_lets -underBinder); intro x1; first | (have f1 : ∀ _, _ := x1; clear f1) | clear_value x1)
    | with_reducible apply State.setTb_good

theorem execLockAssert_good {z : Lasting} (t : Fin 4) {s : State} (hs : s.Good z) : Answers z (execLockAssert t s) := by
  unfold execLockAssert
  repeat' first
    | with_reducible assumption
    | with_reducible apply done_good
    | with_reducible apply State.ifOpen_good
    | with_reducible apply State.setLock_good

theorem execLockClear_good {z : Lasting} (t : Fin 4) {s : State} (hs : s.Good z) : Answers z (execLockClear t s) := by
  unfold execLockClear
  repeat' first
    | with_reducible assumption
    | with_reducible apply done_good
    | with_reducible apply State.ifOpen_good
    | with_reducible apply State.setLock_good

theorem execLockExpire_good {z : Lasting} (t : Fin 4) {s : State} (hs : s.Good z) : Answers z (execLockExpire t s) := by
  unfold execLockExpire
  repeat' first
    | with_reducible assumption
    | with_reducible apply done_good
    | with_reducible apply State.passCycles_good

theorem State.doCmpArm_good {z : Lasting} {s : State} (n : Fin 16) (target : Option (BitVec 64)) (hs : s.Good z) : (State.doCmpArm s n target).Good z := by
  unfold State.doCmpArm
  repeat' first
    | with_reducible assumption
    | ((try lift_lets -underBinder); intro s1; refine have_good (z := z) (s := s1) ?_ (fun h1 => ?_) <;> [subst s1; try clear_value s1])
    | with_reducible apply State.wr_good
    | with_reducible apply State.wrB_good
    | with_reducible apply ite_good
    | split

theorem execCmpArm_good {z : Lasting} (n : Fin 16) (target : Option (BitVec 64)) {s : State} (hs : s.Good z) : Answers z (execCmpArm n target s) := by
  unfold execCmpArm
  repeat' first
    | with_reducible assumption
    | with_reducible apply done_good
    | with_reducible apply State.ifOpen_good
    | with_reducible apply State.doCmpArm_good

theorem State.doCmpDisarm_good {z : Lasting} {s : State} (n : Fin 16) (hs : s.Good z) : (State.doCmpDisarm s n).Good z := by
  unfold State.doCmpDisarm
  repeat' first
    | with_reducible assumption
    | with_reducible apply State.wrB_good

theorem execCmpDisarm_good {z : Lasting} (n : Fin 16) {s : State} (hs : s.Good z) : Answers z (execCmpDisarm n s) := by
  unfold execCmpDisarm
  repeat' first
    | with_reducible assumption
    | with_reducible apply done_good
    | with_reducible apply State.ifOpen_good
    | with_reducible apply State.doCmpDisarm_good

theorem State.cmpFire_good {z : Lasting} {s : State} (n : Nat) (d : Nat) (hs : s.Good z) : (State.cmpFire s n d).Good z := by
  unfold State.cmpFire
  repeat' first
    | with_reducible assumption
    | ((try lift_lets -underBinder); intro s1; refine have_good (z := z) (s := s1) ?_ (fun h1 => ?_) <;> [subst s1; try clear_value s1])
    | ((try lift_lets -underBinder); intro x1; first | (have f1 : ∀ _, _ := x1; clear f1) | clear_value x1)
    | with_reducible apply State.fireHook_good
    | with_reducible apply State.wrB_good
    | with_reducible apply State.wr_good
    | with_reducible apply State.inc_good
    | with_reducible apply ite_good

theorem execCmpFire_good {z : Lasting} (n : Fin 16) {s : State} (hs : s.Good z) : Answers z (execCmpFire n s) := by
  unfold execCmpFire
  repeat' first
    | with_reducible assumption
    | ((try lift_lets -underBinder); intro s1; refine have_good (z := z) (s := s1) ?_ (fun h1 => ?_) <;> [subst s1; try clear_value s1])
    | ((try lift_lets -underBinder); intro x1; first | (have f1 : ∀ _, _ := x1; clear f1) | clear_value x1)
    | with_reducible apply done_good
    | with_reducible apply State.passBaseTo_good
    | with_reducible apply State.cmpFire_good
    | with_reducible apply ite_good

theorem execPpsOutPulse_good {z : Lasting} {s : State} (hs : s.Good z) : Answers z (execPpsOutPulse s) := by
  unfold execPpsOutPulse
  repeat' first
    | with_reducible assumption
    | ((try lift_lets -underBinder); intro s1; refine have_good (z := z) (s := s1) ?_ (fun h1 => ?_) <;> [subst s1; try clear_value s1])
    | ((try lift_lets -underBinder); intro x1; first | (have f1 : ∀ _, _ := x1; clear f1) | clear_value x1)
    | with_reducible apply done_good
    | with_reducible apply State.passCycles_good
    | with_reducible apply ite_good
    | fail_if_no_progress (with_reducible apply good_mk; with_reducible apply good_of)

theorem execPpsInEdge_good {z : Lasting} {s : State} (hs : s.Good z) : Answers z (execPpsInEdge s) := by
  unfold execPpsInEdge
  repeat' first
    | with_reducible assumption
    | ((try lift_lets -underBinder); intro s1; refine have_good (z := z) (s := s1) ?_ (fun h1 => ?_) <;> [subst s1; try clear_value s1])
    | ((try lift_lets -underBinder); intro s1; refine have_snd (z := z) (p := s1) ?_ (fun h1 => ?_) <;> [subst s1; try clear_value s1])
    | ((try lift_lets -underBinder); intro x1; first | (have f1 : ∀ _, _ := x1; clear f1) | clear_value x1)
    | with_reducible apply done_good
    | with_reducible apply State.inc_good
    | with_reducible apply State.jitter_good
    | with_reducible apply State.wrB_good
    | with_reducible apply State.wr_good
    | with_reducible apply ite_good

theorem State.laySyncRise_good {z : Lasting} {s : State} (c : Nat) (hs : s.Good z) : (State.laySyncRise s c).Good z := by
  unfold State.laySyncRise
  repeat' first
    | with_reducible assumption
    | ((try lift_lets -underBinder); intro x1; first | (have f1 : ∀ _, _ := x1; clear f1) | clear_value x1)
    | with_reducible apply ite_good
    | fail_if_no_progress (with_reducible apply good_mk; with_reducible apply good_of)

theorem execLaySyncOutPulse_good {z : Lasting} {s : State} (hs : s.Good z) : Answers z (execLaySyncOutPulse s) := by
  unfold execLaySyncOutPulse
  repeat' first
    | with_reducible assumption
    | ((try lift_lets -underBinder); intro s1; refine have_good (z := z) (s := s1) ?_ (fun h1 => ?_) <;> [subst s1; try clear_value s1])
    | ((try lift_lets -underBinder); intro x1; first | (have f1 : ∀ _, _ := x1; clear f1) | clear_value x1)
    | with_reducible apply done_good
    | with_reducible apply State.laySyncRise_good
    | with_reducible apply State.passTo_good
    | with_reducible apply ite_good
    | split

theorem execLaySyncInEdge_good {z : Lasting} {s : State} (hs : s.Good z) : Answers z (execLaySyncInEdge s) := by
  unfold execLaySyncInEdge
  repeat' first
    | with_reducible assumption
    | ((try lift_lets -underBinder); intro s1; refine have_good (z := z) (s := s1) ?_ (fun h1 => ?_) <;> [subst s1; try clear_value s1])
    | with_reducible apply done_good
    | with_reducible apply State.inc_good
    | with_reducible apply State.wr_good
    | with_reducible apply State.wrI_good
    | with_reducible apply State.wrB_good
    | with_reducible apply ite_good

theorem idleStep_good {z : Lasting} {s : State} (hs : s.Good z) : Answers z (idleStep s) := by
  unfold idleStep
  repeat' first
    | with_reducible assumption
    | with_reducible apply done_good
    | with_reducible apply State.passCycles_good

end Sys2Proof.Machine
end

