-- ==== Sys2Proof/Laws/GoodRegs.lean ====
section
/-! SUPPORT. Every operation of Machine/Regs.lean keeps a sound state sound and, but for those named _ok, the fuses and the
flash as they are. -/

namespace Sys2Proof.Machine

theorem State.wrFields_good {z : Lasting} {s : State} (h : RegHit) (v : Nat) (skip : List Fld) (hs : s.Good z) : (State.wrFields s h v skip).Good z := by
  unfold State.wrFields
  repeat' first
    | with_reducible assumption
    | refine fun _ => ?_
    | with_reducible apply State.wr_good
    | with_reducible apply ite_good
    | with_reducible apply forEach_good
    | split

theorem State.thenIf_good {z : Lasting} {s : State} {c : Bool} {f : State → State} (hf : ∀ s, s.Good z → (f s).Good z)
    (hs : s.Good z) : (s.thenIf c f).Good z := ite_good (hf _ hs) hs

theorem State.thenIf_ok {s : State} {c : Bool} {f : State → State} (hf : ∀ s, s.ok = true → (f s).ok = true)
    (hs : s.ok = true) : (s.thenIf c f).ok = true := ite_ok (hf _ hs) hs

end Sys2Proof.Machine
end

