-- ==== Sys2Proof/Laws/GoodFaults.lean ====
section
/-! SUPPORT. Every operation of Machine/Faults.lean keeps a sound state sound and, but for those named _ok, the fuses and the
flash as they are. -/

namespace Sys2Proof.Machine

theorem execFaultRaise_good {z : Lasting} (src : Fin 128) (detail : BitVec 32) {s : State} (hs : s.Good z) : Answers z (execFaultRaise src detail s) := by
  unfold execFaultRaise
  repeat' first
    | with_reducible assumption
    | with_reducible apply done_good
    | with_reducible apply State.raise_good

theorem execFaultForce_good {z : Lasting} (src : Fin 128) {s : State} (hs : s.Good z) : Answers z (execFaultForce src s) := by
  unfold execFaultForce
  repeat' first
    | with_reducible assumption
    | with_reducible apply done_good
    | with_reducible apply State.inject_good

theorem execFaultAckWrite_good {z : Lasting} (src : Fin 128) {s : State} (hs : s.Good z) : Answers z (execFaultAckWrite src s) := by
  unfold execFaultAckWrite
  repeat' first
    | with_reducible assumption
    | with_reducible apply done_good
    | with_reducible apply State.ackFault_good

theorem State.relRef_good {z : Lasting} {s : State} (hs : s.Good z) : (State.relRef s).Good z := by
  unfold State.relRef
  repeat' first
    | with_reducible assumption
    | with_reducible apply State.wrB_good

theorem State.holdGone_good {z : Lasting} {s : State} (hs : s.Good z) : (State.holdGone s).Good z := by
  unfold State.holdGone
  repeat' first
    | with_reducible assumption
    | ((try lift_lets -underBinder); intro s1; refine have_good (z := z) (s := s1) ?_ (fun h1 => ?_) <;> [subst s1; try clear_value s1])
    | ((try lift_lets -underBinder); intro x1; first | (have f1 : ∀ _, _ := x1; clear f1) | clear_value x1)
    | with_reducible apply State.wrB_good
    | fail_if_no_progress (with_reducible apply good_mk; with_reducible apply good_of)

theorem State.endHold_good {z : Lasting} {s : State} (hs : s.Good z) : (State.endHold s).Good z := by
  unfold State.endHold
  repeat' first
    | with_reducible assumption
    | refine fun _ => ?_
    | ((try lift_lets -underBinder); intro s1; refine have_good (z := z) (s := s1) ?_ (fun h1 => ?_) <;> [subst s1; try clear_value s1])
    | ((try lift_lets -underBinder); intro x1; first | (have f1 : ∀ _, _ := x1; clear f1) | clear_value x1)
    | with_reducible apply State.holdGone_good
    | with_reducible apply State.presetCell_good
    | with_reducible apply forEach_good
    | fail_if_no_progress (with_reducible apply good_mk; with_reducible apply good_of)

theorem State.endSafe_good {z : Lasting} {s : State} (hs : s.Good z) : (State.endSafe s).Good z := by
  unfold State.endSafe
  repeat' first
    | with_reducible assumption
    | ((try lift_lets -underBinder); intro s1; refine have_good (z := z) (s := s1) ?_ (fun h1 => ?_) <;> [subst s1; try clear_value s1])
    | ((try lift_lets -underBinder); intro x1; first | (have f1 : ∀ _, _ := x1; clear f1) | clear_value x1)
    | with_reducible apply State.wrB_good
    | with_reducible apply State.restClosed_good
    | with_reducible apply State.restIdle_good
    | with_reducible apply ite_good
    | fail_if_no_progress (with_reducible apply good_mk; with_reducible apply good_of)

theorem State.doReleaseFreeze_good {z : Lasting} {s : State} (hs : s.Good z) : (State.doReleaseFreeze s).Good z := by
  unfold State.doReleaseFreeze
  repeat' first
    | with_reducible assumption
    | ((try lift_lets -underBinder); intro x1; first | (have f1 : ∀ _, _ := x1; clear f1) | clear_value x1)
    | with_reducible apply State.relRef_good
    | with_reducible apply ite_good
    | fail_if_no_progress (with_reducible apply good_mk; with_reducible apply good_of)

theorem execReleaseFreeze_good {z : Lasting} {s : State} (hs : s.Good z) : Answers z (execReleaseFreeze s) := by
  unfold execReleaseFreeze
  repeat' first
    | with_reducible assumption
    | with_reducible apply done_good
    | with_reducible apply State.doReleaseFreeze_good

theorem State.doReleaseHold_good {z : Lasting} {s : State} (hs : s.Good z) : (State.doReleaseHold s).Good z := by
  unfold State.doReleaseHold
  repeat' first
    | with_reducible assumption
    | with_reducible apply State.relRef_good
    | with_reducible apply State.endHold_good
    | with_reducible apply ite_good

theorem execReleaseHold_good {z : Lasting} {s : State} (hs : s.Good z) : Answers z (execReleaseHold s) := by
  unfold execReleaseHold
  repeat' first
    | with_reducible assumption
    | with_reducible apply done_good
    | with_reducible apply State.doReleaseHold_good

theorem State.doReleaseSafe_good {z : Lasting} {s : State} (hs : s.Good z) : (State.doReleaseSafe s).Good z := by
  unfold State.doReleaseSafe
  repeat' first
    | with_reducible assumption
    | ((try lift_lets -underBinder); intro s1; refine have_good (z := z) (s := s1) ?_ (fun h1 => ?_) <;> [subst s1; try clear_value s1])
    | with_reducible apply State.relRef_good
    | with_reducible apply State.holdGone_good
    | with_reducible apply State.endSafe_good
    | with_reducible apply ite_good

theorem execReleaseSafe_good {z : Lasting} {s : State} (hs : s.Good z) : Answers z (execReleaseSafe s) := by
  unfold execReleaseSafe
  repeat' first
    | with_reducible assumption
    | with_reducible apply done_good
    | with_reducible apply State.doReleaseSafe_good

theorem execSafeNAssert_good {z : Lasting} {s : State} (hs : s.Good z) : Answers z (execSafeNAssert s) := by
  unfold execSafeNAssert
  repeat' first
    | with_reducible assumption
    | with_reducible apply done_good
    | with_reducible apply State.raise_good
    | with_reducible apply State.wrB_good

theorem execSafeNDeassert_good {z : Lasting} {s : State} (hs : s.Good z) : Answers z (execSafeNDeassert s) := by
  unfold execSafeNDeassert
  repeat' first
    | with_reducible assumption
    | with_reducible apply done_good
    | with_reducible apply State.levelEnd_good
    | with_reducible apply State.wrB_good

theorem State.histTake_good {z : Lasting} {s : State} (e : Nat) (x : Int) (hs : s.Good z) : (State.histTake s e x).Good z := by
  unfold State.histTake
  repeat' first
    | with_reducible assumption
    | ((try lift_lets -underBinder); intro s1; refine have_good (z := z) (s := s1) ?_ (fun h1 => ?_) <;> [subst s1; try clear_value s1])
    | ((try lift_lets -underBinder); intro x1; first | (have f1 : ∀ _, _ := x1; clear f1) | clear_value x1)
    | with_reducible apply State.stW_good
    | with_reducible apply State.inc_good

theorem State.trkTake_good {z : Lasting} {s : State} (k : Nat) (x : Int) (hs : s.Good z) : (State.trkTake s k x).Good z := by
  unfold State.trkTake
  repeat' first
    | with_reducible assumption
    | ((try lift_lets -underBinder); intro x1; first | (have f1 : ∀ _, _ := x1; clear f1) | clear_value x1)
    | with_reducible apply State.wr_good
    | with_reducible apply State.wrI_good
    | with_reducible apply State.inc_good
    | with_reducible apply ite_good

theorem execMonitorSample_good {z : Lasting} {s : State} (hs : s.Good z) : Answers z (execMonitorSample s) := by
  unfold execMonitorSample
  repeat' first
    | with_reducible assumption
    | refine fun _ => ?_
    | ((try lift_lets -underBinder); intro s1; refine have_good (z := z) (s := s1) ?_ (fun h1 => ?_) <;> [subst s1; try clear_value s1])
    | ((try lift_lets -underBinder); intro x1; first | (have f1 : ∀ _, _ := x1; clear f1) | clear_value x1)
    | with_reducible apply done_good
    | with_reducible apply State.histTake_good
    | with_reducible apply State.trkTake_good
    | with_reducible apply ite_good
    | with_reducible apply forEach_good
    | split
    | fail_if_no_progress (with_reducible apply good_mk; with_reducible apply good_of)

theorem State.histClear_good {z : Lasting} {s : State} (e : Nat) (hs : s.Good z) : (State.histClear s e).Good z := by
  unfold State.histClear
  repeat' first
    | with_reducible assumption
    | ((try lift_lets -underBinder); intro s1; refine have_good (z := z) (s := s1) ?_ (fun h1 => ?_) <;> [subst s1; try clear_value s1])
    | ((try lift_lets -underBinder); intro x1; first | (have f1 : ∀ _, _ := x1; clear f1) | clear_value x1)
    | with_reducible apply State.wr_good
    | with_reducible apply State.stZero_good
    | fail_if_no_progress (with_reducible apply good_mk; with_reducible apply good_of)

theorem State.trkClear_good {z : Lasting} {s : State} (k : Nat) (hs : s.Good z) : (State.trkClear s k).Good z := by
  unfold State.trkClear
  repeat' first
    | with_reducible assumption
    | with_reducible apply State.rst_good

theorem State.histSnap_good {z : Lasting} {s : State} (e : Nat) (hs : s.Good z) : (State.histSnap s e).Good z := by
  unfold State.histSnap
  repeat' first
    | with_reducible assumption
    | refine fun _ => ?_
    | ((try lift_lets -underBinder); intro s1; refine have_good (z := z) (s := s1) ?_ (fun h1 => ?_) <;> [subst s1; try clear_value s1])
    | with_reducible apply State.stW_good
    | with_reducible apply State.wr_good
    | with_reducible apply State.histClear_good
    | with_reducible apply forEach_good

theorem State.trkSnap_good {z : Lasting} {s : State} (k : Nat) (hs : s.Good z) : (State.trkSnap s k).Good z := by
  unfold State.trkSnap
  repeat' first
    | with_reducible assumption
    | ((try lift_lets -underBinder); intro s1; refine have_good (z := z) (s := s1) ?_ (fun h1 => ?_) <;> [subst s1; try clear_value s1])
    | with_reducible apply State.wr_good
    | with_reducible apply State.trkClear_good

theorem State.doMonSnap_good {z : Lasting} {s : State} (hists : BitVec 32) (trks : BitVec 16) (hs : s.Good z) : (State.doMonSnap s hists trks).Good z := by
  unfold State.doMonSnap
  repeat' first
    | with_reducible assumption
    | refine fun _ => ?_
    | ((try lift_lets -underBinder); intro s1; refine have_good (z := z) (s := s1) ?_ (fun h1 => ?_) <;> [subst s1; try clear_value s1])
    | with_reducible apply State.histSnap_good
    | with_reducible apply State.trkSnap_good
    | with_reducible apply State.wr_good
    | with_reducible apply forEach_good

theorem execMonSnap_good {z : Lasting} (hists : BitVec 32) (trks : BitVec 16) {s : State} (hs : s.Good z) : Answers z (execMonSnap hists trks s) := by
  unfold execMonSnap
  repeat' first
    | with_reducible assumption
    | with_reducible apply done_good
    | with_reducible apply State.doMonSnap_good

theorem execMonHopIn_good {z : Lasting} (p : Fin 16) (ns : BitVec 32) {s : State} (hs : s.Good z) : Answers z (execMonHopIn p ns s) := by
  unfold execMonHopIn
  repeat' first
    | with_reducible assumption
    | with_reducible apply done_good
    | with_reducible apply State.monOffer_good

theorem State.monFlush_good {z : Lasting} {s : State} (u : Nat) (hs : s.Good z) : (State.monFlush s u).Good z := by
  unfold State.monFlush
  repeat' first
    | with_reducible assumption
    | ((try lift_lets -underBinder); intro x1; first | (have f1 : ∀ _, _ := x1; clear f1) | clear_value x1)
    | fail_if_no_progress (with_reducible apply good_mk; with_reducible apply good_of)

theorem State.histAnew_good {z : Lasting} {s : State} (e : Nat) (hs : s.Good z) : (State.histAnew s e).Good z := by
  unfold State.histAnew
  repeat' first
    | with_reducible assumption
    | with_reducible apply State.monFlush_good
    | with_reducible apply State.histClear_good

theorem State.doHistLo_good {z : Lasting} {s : State} (e : Nat) (v : Nat) (hs : s.Good z) : (State.doHistLo s e v).Good z := by
  unfold State.doHistLo
  repeat' first
    | with_reducible assumption
    | with_reducible apply State.histAnew_good
    | with_reducible apply State.wr_good

theorem State.doHistConfigWrite_good {z : Lasting} {s : State} (e : Fin 32) (word : Fin 4) (value : BitVec 32) (hs : s.Good z) : (State.doHistConfigWrite s e word value).Good z := by
  unfold State.doHistConfigWrite
  repeat' first
    | with_reducible assumption
    | ((try lift_lets -underBinder); intro x1; first | (have f1 : ∀ _, _ := x1; clear f1) | clear_value x1)
    | with_reducible apply State.histAnew_good
    | with_reducible apply State.wr_good
    | with_reducible apply State.doHistLo_good
    | with_reducible apply ite_good
    | split
    | fail_if_no_progress (with_reducible apply good_mk; with_reducible apply good_of)

theorem execHistConfigWrite_good {z : Lasting} (e : Fin 32) (word : Fin 4) (value : BitVec 32) {s : State} (hs : s.Good z) : Answers z (execHistConfigWrite e word value s) := by
  unfold execHistConfigWrite
  repeat' first
    | with_reducible assumption
    | with_reducible apply done_good
    | with_reducible apply State.doHistConfigWrite_good

theorem State.doTrackerConfigWrite_good {z : Lasting} {s : State} (k : Fin 16) (value : BitVec 32) (hs : s.Good z) : (State.doTrackerConfigWrite s k value).Good z := by
  unfold State.doTrackerConfigWrite
  repeat' first
    | with_reducible assumption
    | ((try lift_lets -underBinder); intro s1; refine have_good (z := z) (s := s1) ?_ (fun h1 => ?_) <;> [subst s1; try clear_value s1])
    | ((try lift_lets -underBinder); intro x1; first | (have f1 : ∀ _, _ := x1; clear f1) | clear_value x1)
    | with_reducible apply State.wr_good
    | with_reducible apply State.monFlush_good
    | with_reducible apply State.rst_good
    | with_reducible apply State.trkClear_good

theorem execTrackerConfigWrite_good {z : Lasting} (k : Fin 16) (value : BitVec 32) {s : State} (hs : s.Good z) : Answers z (execTrackerConfigWrite k value s) := by
  unfold execTrackerConfigWrite
  repeat' first
    | with_reducible assumption
    | with_reducible apply done_good
    | with_reducible apply State.doTrackerConfigWrite_good

end Sys2Proof.Machine
end

