-- ==== Sys2Proof/Laws/GoodLedger.lean ====
section
/-! SUPPORT. Every operation of Machine/Ledger.lean keeps a sound state sound and, but for those named _ok, the fuses and the
flash as they are. -/

namespace Sys2Proof.Machine

theorem execHookStart_good {z : Lasting} (q : Fin 8) {s : State} (hs : s.Good z) : Answers z (execHookStart q s) := by
  unfold execHookStart
  repeat' first
    | with_reducible assumption
    | with_reducible apply done_good
    | with_reducible apply State.startThread_good
    | with_reducible apply ite_good
    | split

theorem execSqStop_good {z : Lasting} (mask : BitVec 8) {s : State} (hs : s.Good z) : Answers z (execSqStop mask s) := by
  unfold execSqStop
  repeat' first
    | with_reducible assumption
    | refine fun _ => ?_
    | with_reducible apply done_good
    | with_reducible apply State.sqStop_good
    | with_reducible apply forEach_good

theorem execSqEn_good {z : Lasting} (mask : BitVec 8) {s : State} (hs : s.Good z) : Answers z (execSqEn mask s) := by
  unfold execSqEn
  repeat' first
    | with_reducible assumption
    | with_reducible apply done_good
    | with_reducible apply State.sqEnable_good

theorem execTrapClr_good {z : Lasting} (mask : BitVec 8) {s : State} (hs : s.Good z) : Answers z (execTrapClr mask s) := by
  unfold execTrapClr
  repeat' first
    | with_reducible assumption
    | refine fun _ => ?_
    | with_reducible apply done_good
    | with_reducible apply State.trapClear_good
    | with_reducible apply forEach_good

theorem execSeqDoorbell_good {z : Lasting} (value : BitVec 32) {s : State} (hs : s.Good z) : Answers z (execSeqDoorbell value s) := by
  unfold execSeqDoorbell
  repeat' first
    | with_reducible assumption
    | with_reducible apply done_good
    | with_reducible apply State.fireHook_good

theorem execHcmdUnpin_good {z : Lasting} (h : HostCmd) {s : State} (hs : s.Good z) : Answers z (execHcmdUnpin h s) := by
  unfold execHcmdUnpin
  repeat' first
    | with_reducible assumption
    | with_reducible apply done_good
    | with_reducible apply State.hostFile_good

theorem execHcmdDisc_good {z : Lasting} (h : HostCmd) {s : State} (hs : s.Good z) : Answers z (execHcmdDisc h s) := by
  unfold execHcmdDisc
  repeat' first
    | with_reducible assumption
    | with_reducible apply done_good
    | with_reducible apply State.hostFile_good

theorem execHcmdConn_good {z : Lasting} (h : HostCmd) {s : State} (hs : s.Good z) : Answers z (execHcmdConn h s) := by
  unfold execHcmdConn
  repeat' first
    | with_reducible assumption
    | with_reducible apply done_good
    | with_reducible apply State.hostFile_good

theorem execHcmdPin_good {z : Lasting} (h : HostCmd) {s : State} (hs : s.Good z) : Answers z (execHcmdPin h s) := by
  unfold execHcmdPin
  repeat' first
    | with_reducible assumption
    | with_reducible apply done_good
    | with_reducible apply State.hostFile_good

theorem State.doHcmdOpenEpoch_good {z : Lasting} {s : State} (e : BitVec 32) (frame : BitVec 32) (hs : s.Good z) : (State.doHcmdOpenEpoch s e frame).Good z := by
  unfold State.doHcmdOpenEpoch
  repeat' first
    | with_reducible assumption
    | ((try lift_lets -underBinder); intro s1; refine have_fst (z := z) (p := s1) ?_ (fun h1 => ?_) <;> [subst s1; try clear_value s1])
    | with_reducible apply State.openLocal_good
    | with_reducible apply State.wr_good

theorem execHcmdOpenEpoch_good {z : Lasting} (e : BitVec 32) (frame : BitVec 32) {s : State} (hs : s.Good z) : Answers z (execHcmdOpenEpoch e frame s) := by
  unfold execHcmdOpenEpoch
  repeat' first
    | with_reducible assumption
    | with_reducible apply done_good
    | with_reducible apply State.doHcmdOpenEpoch_good

theorem State.doHcmdAbortEpoch_good {z : Lasting} {s : State} (e : BitVec 32) (hs : s.Good z) : (State.doHcmdAbortEpoch s e).Good z := by
  unfold State.doHcmdAbortEpoch
  repeat' first
    | with_reducible assumption
    | ((try lift_lets -underBinder); intro s1; refine have_fst (z := z) (p := s1) ?_ (fun h1 => ?_) <;> [subst s1; try clear_value s1])
    | with_reducible apply State.abortRequest_good
    | with_reducible apply State.wr_good

theorem execHcmdAbortEpoch_good {z : Lasting} (e : BitVec 32) {s : State} (hs : s.Good z) : Answers z (execHcmdAbortEpoch e s) := by
  unfold execHcmdAbortEpoch
  repeat' first
    | with_reducible assumption
    | with_reducible apply done_good
    | with_reducible apply State.doHcmdAbortEpoch_good

theorem execSeqEntryRead_good {z : Lasting} (m : Master) (i : Fin 2048) {s : State} (hs : s.Good z) : Answers z (execSeqEntryRead m i s) := by
  unfold execSeqEntryRead
  repeat' first
    | with_reducible assumption
    | with_reducible apply done_good
    | with_reducible apply State.entryRead_good
    | with_reducible apply State.respond_good

theorem execEntryDeliveryTimeout_good {z : Lasting} (i : Fin 2048) {s : State} (hs : s.Good z) : Answers z (execEntryDeliveryTimeout i s) := by
  unfold execEntryDeliveryTimeout
  repeat' first
    | with_reducible assumption
    | with_reducible apply done_good
    | with_reducible apply State.freeEntry_good
    | with_reducible apply State.passTo_good
    | with_reducible apply ite_good
    | split

theorem execSeal_good {z : Lasting} (e : BitVec 32) {s : State} (hs : s.Good z) : Answers z (execSeal e s) := by
  unfold execSeal
  repeat' first
    | with_reducible assumption
    | with_reducible apply done_good
    | with_reducible apply State.sealEpoch_good
    | with_reducible apply ite_good
    | split

theorem execEpochEvaluateDeferred_good {z : Lasting} (e : BitVec 32) {s : State} (hs : s.Good z) : Answers z (execEpochEvaluateDeferred e s) := by
  unfold execEpochEvaluateDeferred
  repeat' first
    | with_reducible assumption
    | with_reducible apply done_good
    | with_reducible apply State.nextSolve_good
    | with_reducible apply State.evaluate_good
    | with_reducible apply ite_good
    | split

theorem execSlotFreedSolve_good {z : Lasting} (e : BitVec 32) {s : State} (hs : s.Good z) : Answers z (execSlotFreedSolve e s) := by
  unfold execSlotFreedSolve
  repeat' first
    | with_reducible assumption
    | with_reducible apply done_good
    | with_reducible apply State.nextSolve_good
    | with_reducible apply State.takeSlot_good
    | with_reducible apply ite_good
    | split

theorem execSolveDone_good {z : Lasting} {s : State} (hs : s.Good z) : Answers z (execSolveDone s) := by
  unfold execSolveDone
  repeat' first
    | with_reducible assumption
    | with_reducible apply done_good
    | with_reducible apply State.finishSolve_good
    | split

theorem execWeaveResolve_good {z : Lasting} (slot : Fin 16) {s : State} (hs : s.Good z) : Answers z (execWeaveResolve slot s) := by
  unfold execWeaveResolve
  repeat' first
    | with_reducible assumption
    | with_reducible apply done_good
    | with_reducible apply State.resolveSlot_good

theorem State.doWearFold_good {z : Lasting} {s : State} (hs : s.Good z) : (State.doWearFold s).Good z := by
  unfold State.doWearFold
  repeat' first
    | with_reducible assumption
    | ((try lift_lets -underBinder); intro x1; first | (have f1 : ∀ _, _ := x1; clear f1) | clear_value x1)
    | fail_if_no_progress (with_reducible apply good_mk; with_reducible apply good_of)

theorem execWearFold_good {z : Lasting} {s : State} (hs : s.Good z) : Answers z (execWearFold s) := by
  unfold execWearFold
  repeat' first
    | with_reducible assumption
    | with_reducible apply done_good
    | with_reducible apply State.ifOpen_good
    | with_reducible apply State.doWearFold_good

theorem execDmapAdd_good {z : Lasting} (entry : BitVec 32) {s : State} (hs : s.Good z) : Answers z (execDmapAdd entry s) := by
  unfold execDmapAdd
  repeat' first
    | with_reducible assumption
    | with_reducible apply done_good
    | with_reducible apply State.dmapAdd_good
    | apply ite_good

theorem execDmapRemove_good {z : Lasting} (entry : BitVec 32) {s : State} (hs : s.Good z) : Answers z (execDmapRemove entry s) := by
  unfold execDmapRemove
  repeat' first
    | with_reducible assumption
    | with_reducible apply done_good
    | with_reducible apply State.dmapRemove_good
    | apply ite_good

end Sys2Proof.Machine
end

