-- ==== Sys2Proof/Laws/GoodNet.lean ====
section
/-! SUPPORT. Every operation of Machine/Net.lean keeps a sound state sound and, but for those named _ok, the fuses and the
flash as they are. -/

namespace Sys2Proof.Machine

theorem execCommandFrame_good {z : Lasting} (f : TFrame) {s : State} (hs : s.Good z) : Answers z (execCommandFrame f s) := by
  unfold execCommandFrame
  repeat' first
    | with_reducible assumption
    | with_reducible apply done_good
    | with_reducible apply State.commandFrame_good
    | with_reducible apply State.takeInbox_good

theorem execStatusFrame_good {z : Lasting} (f : TFrame) {s : State} (hs : s.Good z) : Answers z (execStatusFrame f s) := by
  unfold execStatusFrame
  repeat' first
    | with_reducible assumption
    | with_reducible apply done_good
    | with_reducible apply State.statusFrame_good
    | with_reducible apply State.takeInbox_good

theorem execDataFrame_good {z : Lasting} (f : TFrame) {s : State} (hs : s.Good z) : Answers z (execDataFrame f s) := by
  unfold execDataFrame
  repeat' first
    | with_reducible assumption
    | with_reducible apply done_good
    | with_reducible apply State.rxEnter_good
    | with_reducible apply State.takeInbox_good

theorem execAckFrame_good {z : Lasting} (f : TFrame) {s : State} (hs : s.Good z) : Answers z (execAckFrame f s) := by
  unfold execAckFrame
  repeat' first
    | with_reducible assumption
    | with_reducible apply done_good
    | with_reducible apply State.rxEnter_good
    | with_reducible apply State.takeInbox_good

theorem execQuery_good {z : Lasting} (f : TFrame) {s : State} (hs : s.Good z) : Answers z (execQuery f s) := by
  unfold execQuery
  repeat' first
    | with_reducible assumption
    | ((try lift_lets -underBinder); intro s1; refine have_good (z := z) (s := s1) ?_ (fun h1 => ?_) <;> [subst s1; try clear_value s1])
    | with_reducible apply State.takeInbox_good
    | with_reducible apply done_good
    | with_reducible apply State.sendCounted_good

theorem execReply_good {z : Lasting} (f : TFrame) {s : State} (hs : s.Good z) : Answers z (execReply f s) := by
  unfold execReply
  repeat' first
    | with_reducible assumption
    | with_reducible apply done_good
    | with_reducible apply State.rxEnter_good
    | with_reducible apply State.takeInbox_good

theorem execCommandRetransmit_good {z : Lasting} (e : BitVec 32) (op : BitVec 8) (seqnum : BitVec 32) {s : State} (hs : s.Good z) : Answers z (execCommandRetransmit e op seqnum s) := by
  unfold execCommandRetransmit
  repeat' first
    | with_reducible assumption
    | with_reducible apply done_good
    | with_reducible apply State.retransmit_good
    | split

theorem execSeqNetOpen_good {z : Lasting} (o : NetOpen) {s : State} (hs : s.Good z) : Answers z (execSeqNetOpen o s) := by
  unfold execSeqNetOpen
  repeat' first
    | with_reducible assumption
    | with_reducible apply done_good
    | with_reducible apply State.netOpen_good

theorem execPrepare_good {z : Lasting} (f : TFrame) {s : State} (hs : s.Good z) : Answers z (execPrepare f s) := by
  unfold execPrepare
  repeat' first
    | with_reducible assumption
    | with_reducible apply done_good
    | with_reducible apply State.prepare_good
    | with_reducible apply State.takeInbox_good

theorem execReady_good {z : Lasting} (f : TFrame) {s : State} (hs : s.Good z) : Answers z (execReady f s) := by
  unfold execReady
  repeat' first
    | with_reducible assumption
    | with_reducible apply done_good
    | with_reducible apply State.ready_good
    | with_reducible apply State.takeInbox_good

theorem execReadyDeadline_good {z : Lasting} (e : BitVec 32) {s : State} (hs : s.Good z) : Answers z (execReadyDeadline e s) := by
  unfold execReadyDeadline
  repeat' first
    | with_reducible assumption
    | with_reducible apply done_good
    | with_reducible apply State.readyDeadline_good
    | with_reducible apply ite_good
    | split

theorem execCommit_good {z : Lasting} (f : TFrame) {s : State} (hs : s.Good z) : Answers z (execCommit f s) := by
  unfold execCommit
  repeat' first
    | with_reducible assumption
    | with_reducible apply done_good
    | with_reducible apply State.commit_good
    | with_reducible apply State.takeInbox_good

theorem execAbortFrame_good {z : Lasting} (f : TFrame) {s : State} (hs : s.Good z) : Answers z (execAbortFrame f s) := by
  unfold execAbortFrame
  repeat' first
    | with_reducible assumption
    | with_reducible apply done_good
    | with_reducible apply State.abortFrame_good
    | with_reducible apply State.takeInbox_good

theorem execMissed_good {z : Lasting} (f : TFrame) {s : State} (hs : s.Good z) : Answers z (execMissed f s) := by
  unfold execMissed
  repeat' first
    | with_reducible assumption
    | ((try lift_lets -underBinder); intro s1; refine have_fst (z := z) (p := s1) ?_ (fun h1 => ?_) <;> [subst s1; try clear_value s1])
    | with_reducible apply State.hear_good
    | with_reducible apply State.takeInbox_good
    | with_reducible apply done_good
    | with_reducible apply State.missedReport_good
    | with_reducible apply State.rxEnter_good
    | with_reducible apply ite_good

theorem execLanded_good {z : Lasting} (f : TFrame) {s : State} (hs : s.Good z) : Answers z (execLanded f s) := by
  unfold execLanded
  repeat' first
    | with_reducible assumption
    | with_reducible apply done_good
    | with_reducible apply State.landed_good
    | with_reducible apply State.takeInbox_good

theorem execStable_good {z : Lasting} (f : TFrame) {s : State} (hs : s.Good z) : Answers z (execStable f s) := by
  unfold execStable
  repeat' first
    | with_reducible assumption
    | with_reducible apply done_good
    | with_reducible apply State.stable_good
    | with_reducible apply State.takeInbox_good

end Sys2Proof.Machine
end

