-- ==== Sys2Proof/Laws/GoodLay.lean ====
section
/-! SUPPORT. Every operation of Machine/Lay.lean keeps a sound state sound and, but for those named _ok, the fuses and the
flash as they are. -/

namespace Sys2Proof.Machine

theorem execStageWeave_good {z : Lasting} (e : BitVec 32) {s : State} (hs : s.Good z) : Answers z (execStageWeave e s) := by
  unfold execStageWeave
  repeat' first
    | with_reducible assumption
    | with_reducible apply done_good
    | with_reducible apply State.tryReady_good
    | with_reducible apply State.stage_good
    | with_reducible apply ite_good
    | split

theorem State.atDeadline_good {z : Lasting} {s : State} (x : Epoch) (hs : s.Good z) : (State.atDeadline s x).Good z := by
  unfold State.atDeadline
  repeat' first
    | with_reducible assumption
    | with_reducible apply State.fireHook_good
    | with_reducible apply State.abortPlain_good
    | with_reducible apply State.layRefuse_good
    | with_reducible apply State.readyDeadline_good
    | with_reducible apply ite_good
    | split

theorem execStagingDeadline_good {z : Lasting} (e : BitVec 32) {s : State} (hs : s.Good z) : Answers z (execStagingDeadline e s) := by
  unfold execStagingDeadline
  repeat' first
    | with_reducible assumption
    | with_reducible apply done_good
    | with_reducible apply State.atDeadline_good
    | with_reducible apply State.passTo_good
    | split

theorem State.atLayInstant_good {z : Lasting} {s : State} (x : Epoch) (st : StagedLay) (hs : s.Good z) : (State.atLayInstant s x st).Good z := by
  unfold State.atLayInstant
  repeat' first
    | with_reducible assumption
    | with_reducible apply State.abortPlain_good
    | with_reducible apply State.layRefuse_good
    | with_reducible apply State.beginLay_good
    | with_reducible apply ite_good

theorem execLayInstant_good {z : Lasting} (e : BitVec 32) {s : State} (hs : s.Good z) : Answers z (execLayInstant e s) := by
  unfold execLayInstant
  repeat' first
    | with_reducible assumption
    | with_reducible apply done_good
    | with_reducible apply State.atLayInstant_good
    | with_reducible apply State.passTo_good
    | with_reducible apply ite_good
    | split

theorem execLayStrobe_good {z : Lasting} {s : State} (hs : s.Good z) : Answers z (execLayStrobe s) := by
  unfold execLayStrobe
  repeat' first
    | with_reducible assumption
    | with_reducible apply done_good
    | with_reducible apply State.strobe_good
    | with_reducible apply State.passTo_good
    | with_reducible apply ite_good
    | split

theorem execLayHandBack_good {z : Lasting} {s : State} (hs : s.Good z) : Answers z (execLayHandBack s) := by
  unfold execLayHandBack
  repeat' first
    | with_reducible assumption
    | with_reducible apply done_good
    | with_reducible apply State.handBack_good
    | with_reducible apply State.passTo_good
    | with_reducible apply ite_good
    | split

theorem execSettleCheck_good {z : Lasting} {s : State} (hs : s.Good z) : Answers z (execSettleCheck s) := by
  unfold execSettleCheck
  repeat' first
    | with_reducible assumption
    | with_reducible apply done_good
    | with_reducible apply State.settleCheck_good
    | with_reducible apply State.passTo_good
    | with_reducible apply ite_good
    | split

theorem execUnblank_good {z : Lasting} {s : State} (hs : s.Good z) : Answers z (execUnblank s) := by
  unfold execUnblank
  repeat' first
    | with_reducible assumption
    | with_reducible apply done_good
    | with_reducible apply State.unblank_good
    | with_reducible apply State.passTo_good
    | with_reducible apply ite_good
    | split

theorem execLayComplete_good {z : Lasting} {s : State} (hs : s.Good z) : Answers z (execLayComplete s) := by
  unfold execLayComplete
  repeat' first
    | with_reducible assumption
    | with_reducible apply done_good
    | with_reducible apply State.finishLay_good
    | with_reducible apply ite_good
    | split

theorem execLaggingCheck_good {z : Lasting} {s : State} (hs : s.Good z) : Answers z (execLaggingCheck s) := by
  unfold execLaggingCheck
  repeat' first
    | with_reducible assumption
    | with_reducible apply done_good
    | with_reducible apply State.laggingCheck_good
    | with_reducible apply State.passTo_good
    | split

theorem State.doLayReopen_good {z : Lasting} {s : State} (output : BitVec 10) (hs : s.Good z) : (State.doLayReopen s output).Good z := by
  unfold State.doLayReopen
  repeat' first
    | with_reducible assumption
    | ((try lift_lets -underBinder); intro s1; refine have_good (z := z) (s := s1) ?_ (fun h1 => ?_) <;> [subst s1; try clear_value s1])
    | ((try lift_lets -underBinder); intro x1; first | (have f1 : ∀ _, _ := x1; clear f1) | clear_value x1)
    | with_reducible apply State.openShutter_good
    | with_reducible apply ite_good
    | fail_if_no_progress (with_reducible apply good_mk; with_reducible apply good_of)

theorem execLayReopen_good {z : Lasting} (output : BitVec 10) {s : State} (hs : s.Good z) : Answers z (execLayReopen output s) := by
  unfold execLayReopen
  repeat' first
    | with_reducible assumption
    | with_reducible apply done_good
    | with_reducible apply State.doLayReopen_good

theorem execLayEnable_good {z : Lasting} (en : Bool) {s : State} (hs : s.Good z) : Answers z (execLayEnable en s) := by
  unfold execLayEnable
  repeat' first
    | with_reducible assumption
    | with_reducible apply done_good
    | with_reducible apply State.noteLayEn_good
    | with_reducible apply State.wrB_good

theorem execLayFlush_good {z : Lasting} {s : State} (hs : s.Good z) : Answers z (execLayFlush s) := by
  unfold execLayFlush
  repeat' first
    | with_reducible assumption
    | with_reducible apply done_good
    | with_reducible apply State.flushLays_good

theorem execRestoringLayStart_good {z : Lasting} {s : State} (hs : s.Good z) : Answers z (execRestoringLayStart s) := by
  unfold execRestoringLayStart
  repeat' first
    | with_reducible assumption
    | with_reducible apply done_good
    | with_reducible apply State.beginRecovery_good
    | with_reducible apply State.passTo_good
    | with_reducible apply ite_good
    | split

end Sys2Proof.Machine
end

