-- ==== Sys2Proof/Laws/GoodLooper.lean ====
section
/-! SUPPORT. Every operation of Machine/Looper.lean keeps a sound state sound and, but for those named _ok, the fuses and the
flash as they are. -/

namespace Sys2Proof.Machine

theorem execOutboundFrame_good {z : Lasting} {s : State} (hs : s.Good z) : Answers z (execOutboundFrame s) := by
  unfold execOutboundFrame
  repeat' first
    | with_reducible assumption
    | with_reducible apply done_good
    | with_reducible apply State.fenceAfterFrame_good
    | with_reducible apply State.inboundHeld_good
    | with_reducible apply State.sendStrandFrame_good
    | with_reducible apply ite_good

theorem State.doDriveStrobeFire_good {z : Lasting} {s : State} (mask : BitVec 16) (hs : s.Good z) : (State.doDriveStrobeFire s mask).Good z := by
  unfold State.doDriveStrobeFire
  repeat' first
    | with_reducible assumption
    | ((try lift_lets -underBinder); intro x1; first | (have f1 : ∀ _, _ := x1; clear f1) | clear_value x1)
    | fail_if_no_progress (with_reducible apply good_mk; with_reducible apply good_of)

theorem execDriveStrobeFire_good {z : Lasting} (mask : BitVec 16) {s : State} (hs : s.Good z) : Answers z (execDriveStrobeFire mask s) := by
  unfold execDriveStrobeFire
  repeat' first
    | with_reducible assumption
    | with_reducible apply done_good
    | with_reducible apply State.doDriveStrobeFire_good

theorem execDriveRecordRebuild_good {z : Lasting} (ch : Fin 45056) {s : State} (hs : s.Good z) : Answers z (execDriveRecordRebuild ch s) := by
  unfold execDriveRecordRebuild
  repeat' first
    | with_reducible assumption
    | with_reducible apply done_good
    | with_reducible apply State.driveRebuild_good
    | with_reducible apply ite_good

theorem execLoopPeriod_good {z : Lasting} {s : State} (hs : s.Good z) : Answers z (execLoopPeriod s) := by
  unfold execLoopPeriod
  repeat' first
    | with_reducible assumption
    | with_reducible apply done_good
    | with_reducible apply State.loopPeriod_good

theorem execGradientBlock_good {z : Lasting} {s : State} (hs : s.Good z) : Answers z (execGradientBlock s) := by
  unfold execGradientBlock
  repeat' first
    | with_reducible assumption
    | with_reducible apply done_good
    | with_reducible apply State.demodulate_good
    | with_reducible apply ite_good

theorem State.markRetire_good {z : Lasting} {s : State} (n : Nat) (hs : s.Good z) : (State.markRetire s n).Good z := by
  unfold State.markRetire
  repeat' first
    | with_reducible assumption
    | ((try lift_lets -underBinder); intro x1; first | (have f1 : ∀ _, _ := x1; clear f1) | clear_value x1)
    | with_reducible apply ite_good
    | fail_if_no_progress (with_reducible apply good_mk; with_reducible apply good_of)

theorem execKnownAnswerTest_good {z : Lasting} (failed : BitVec 18) {s : State} (hs : s.Good z) : Answers z (execKnownAnswerTest failed s) := by
  unfold execKnownAnswerTest
  repeat' first
    | with_reducible assumption
    | refine fun _ => ?_
    | with_reducible apply done_good
    | with_reducible apply State.markRetire_good
    | with_reducible apply State.raise_good
    | with_reducible apply forEach_good

theorem execLoopCoreRetire_good {z : Lasting} (core : BitVec 5) {s : State} (hs : s.Good z) : Answers z (execLoopCoreRetire core s) := by
  unfold execLoopCoreRetire
  repeat' first
    | with_reducible assumption
    | with_reducible apply done_good
    | with_reducible apply State.ifOpen_good
    | with_reducible apply State.markRetire_good

theorem State.doLoopEnable_good {z : Lasting} {s : State} (en : Bool) (hs : s.Good z) : (State.doLoopEnable s en).Good z := by
  unfold State.doLoopEnable
  repeat' first
    | with_reducible assumption
    | refine fun _ => ?_
    | ((try lift_lets -underBinder); intro s1; refine have_good (z := z) (s := s1) ?_ (fun h1 => ?_) <;> [subst s1; try clear_value s1])
    | ((try lift_lets -underBinder); intro x1; first | (have f1 : ∀ _, _ := x1; clear f1) | clear_value x1)
    | with_reducible apply State.wrB_good
    | with_reducible apply State.presetCell_good
    | with_reducible apply State.presetAux_good
    | with_reducible apply ite_good
    | with_reducible apply forEach_good

theorem execLoopEnable_good {z : Lasting} (en : Bool) {s : State} (hs : s.Good z) : Answers z (execLoopEnable en s) := by
  unfold execLoopEnable
  repeat' first
    | with_reducible assumption
    | with_reducible apply done_good
    | with_reducible apply State.ifOpen_good
    | with_reducible apply State.doLoopEnable_good

theorem State.doLoopCapStop_good {z : Lasting} {s : State} (mask : BitVec 48) (hs : s.Good z) : (State.doLoopCapStop s mask).Good z := by
  unfold State.doLoopCapStop
  repeat' first
    | with_reducible assumption
    | refine fun _ => ?_
    | with_reducible apply State.capEnd_good
    | with_reducible apply forEach_good

theorem execLoopCapStop_good {z : Lasting} (mask : BitVec 48) {s : State} (hs : s.Good z) : Answers z (execLoopCapStop mask s) := by
  unfold execLoopCapStop
  repeat' first
    | with_reducible assumption
    | with_reducible apply done_good
    | with_reducible apply State.ifOpen_good
    | with_reducible apply State.doLoopCapStop_good

theorem execCaptureDone_good {z : Lasting} (ch : Fin 48) {s : State} (hs : s.Good z) : Answers z (execCaptureDone ch s) := by
  unfold execCaptureDone
  repeat' first
    | with_reducible assumption
    | with_reducible apply done_good
    | with_reducible apply State.capEnd_good
    | with_reducible apply ite_good

theorem execInjectionEnd_good {z : Lasting} (loopNo : Fin 21568) {s : State} (hs : s.Good z) : Answers z (execInjectionEnd loopNo s) := by
  unfold execInjectionEnd
  repeat' first
    | with_reducible assumption
    | with_reducible apply done_good
    | with_reducible apply State.setInj_good
    | with_reducible apply ite_good
    | split

theorem State.doAuxLoopEnable_good {z : Lasting} {s : State} (a : Fin 64) (hs : s.Good z) : (State.doAuxLoopEnable s a).Good z := by
  unfold State.doAuxLoopEnable
  repeat' first
    | with_reducible assumption
    | with_reducible apply State.presetAux_good
    | with_reducible apply State.wrB_good
    | with_reducible apply ite_good

theorem execAuxLoopEnable_good {z : Lasting} (a : Fin 64) {s : State} (hs : s.Good z) : Answers z (execAuxLoopEnable a s) := by
  unfold execAuxLoopEnable
  repeat' first
    | with_reducible assumption
    | with_reducible apply done_good
    | with_reducible apply State.doAuxLoopEnable_good
    | apply ite_good

end Sys2Proof.Machine
end

