-- ==== Sys2Proof/Laws/GoodCalib.lean ====
section
/-! SUPPORT. Every operation of Machine/Calib.lean keeps a sound state sound and, but for those named _ok, the fuses and the
flash as they are. -/

namespace Sys2Proof.Machine

theorem State.doSenseVfyReq_good {z : Lasting} {s : State} (hs : s.Good z) : (State.doSenseVfyReq s).Good z := by
  unfold State.doSenseVfyReq
  repeat' first
    | with_reducible assumption
    | ((try lift_lets -underBinder); intro s1; refine have_fst (z := z) (p := s1) ?_ (fun h1 => ?_) <;> [subst s1; try clear_value s1])
    | with_reducible apply State.requestPass_good
    | with_reducible apply State.wrB_good
    | with_reducible apply ite_good

theorem execSenseVfyReq_good {z : Lasting} {s : State} (hs : s.Good z) : Answers z (execSenseVfyReq s) := by
  unfold execSenseVfyReq
  repeat' first
    | with_reducible assumption
    | with_reducible apply done_good
    | with_reducible apply State.doSenseVfyReq_good

theorem execVerifyPassDone_good {z : Lasting} {s : State} (hs : s.Good z) : Answers z (execVerifyPassDone s) := by
  unfold execVerifyPassDone
  repeat' first
    | with_reducible assumption
    | with_reducible apply done_good
    | with_reducible apply State.postPass_good
    | with_reducible apply ite_good
    | split

theorem execCalReq_good {z : Lasting} (object : BitVec 17) (sense : Bool) {s : State} (hs : s.Good z) : Answers z (execCalReq object sense s) := by
  unfold execCalReq
  repeat' first
    | with_reducible assumption
    | with_reducible apply done_good
    | with_reducible apply State.calSubmit_good

theorem execCalRunStart_good {z : Lasting} {s : State} (hs : s.Good z) : Answers z (execCalRunStart s) := by
  unfold execCalRunStart
  repeat' first
    | with_reducible assumption
    | with_reducible apply done_good
    | with_reducible apply State.calStart_good

theorem execCalDwell_good {z : Lasting} (object : BitVec 17) {s : State} (hs : s.Good z) : Answers z (execCalDwell object s) := by
  unfold execCalDwell
  repeat' first
    | with_reducible assumption
    | with_reducible apply done_good
    | with_reducible apply State.calDwell_good

theorem execCalRunEnd_good {z : Lasting} (object : BitVec 17) {s : State} (hs : s.Good z) : Answers z (execCalRunEnd object s) := by
  unfold execCalRunEnd
  repeat' first
    | with_reducible assumption
    | with_reducible apply done_good
    | with_reducible apply State.calRunEnd_good

theorem execSenseCalStep_good {z : Lasting} (object : BitVec 17) {s : State} (hs : s.Good z) : Answers z (execSenseCalStep object s) := by
  unfold execSenseCalStep
  repeat' first
    | with_reducible assumption
    | with_reducible apply done_good
    | with_reducible apply State.senseStep_good

theorem execSenseCalRunEnd_good {z : Lasting} (object : BitVec 17) {s : State} (hs : s.Good z) : Answers z (execSenseCalRunEnd object s) := by
  unfold execSenseCalRunEnd
  repeat' first
    | with_reducible assumption
    | with_reducible apply done_good
    | with_reducible apply State.senseRunEnd_good

theorem execBlendStart_good {z : Lasting} {s : State} (hs : s.Good z) : Answers z (execBlendStart s) := by
  unfold execBlendStart
  repeat' first
    | with_reducible assumption
    | with_reducible apply done_good
    | with_reducible apply State.blendStart_good

theorem execPassiveObservation_good {z : Lasting} {s : State} (hs : s.Good z) : Answers z (execPassiveObservation s) := by
  unfold execPassiveObservation
  repeat' first
    | with_reducible assumption
    | with_reducible apply done_good
    | with_reducible apply State.passiveAll_good

theorem execPassiveExpire_good {z : Lasting} (cell : Fin 21504) {s : State} (hs : s.Good z) : Answers z (execPassiveExpire cell s) := by
  unfold execPassiveExpire
  repeat' first
    | with_reducible assumption
    | ((try lift_lets -underBinder); intro x1; first | (have f1 : ∀ _, _ := x1; clear f1) | clear_value x1)
    | with_reducible apply done_good
    | with_reducible apply State.passiveClear_good
    | with_reducible apply State.passTo_good
    | with_reducible apply ite_good

theorem execCalEnable_good {z : Lasting} (en : Bool) {s : State} (hs : s.Good z) : Answers z (execCalEnable en s) := by
  unfold execCalEnable
  repeat' first
    | with_reducible assumption
    | with_reducible apply done_good
    | with_reducible apply State.wrB_good

theorem execCalAbort_good {z : Lasting} {s : State} (hs : s.Good z) : Answers z (execCalAbort s) := by
  unfold execCalAbort
  repeat' first
    | with_reducible assumption
    | with_reducible apply done_good
    | with_reducible apply State.calAbortAll_good

theorem execCalAreaReload_good {z : Lasting} (cell : Fin 21504) (entry : List (BitVec 32)) {s : State} (hs : s.Good z) : Answers z (execCalAreaReload cell entry s) := by
  unfold execCalAreaReload
  repeat' first
    | with_reducible assumption
    | ((try lift_lets -underBinder); intro s1; refine have_good (z := z) (s := s1) ?_ (fun h1 => ?_) <;> [subst s1; try clear_value s1])
    | ((try lift_lets -underBinder); intro x1; first | (have f1 : ∀ _, _ := x1; clear f1) | clear_value x1)
    | with_reducible apply done_good
    | with_reducible apply State.setCCal_good
    | with_reducible apply State.loadCal_good
    | with_reducible apply ite_good
    | fail_if_no_progress (with_reducible apply good_mk; with_reducible apply good_of)

end Sys2Proof.Machine
end

