-- ==== Sys2Proof/Laws/GoodStrand.lean ====
section
/-! SUPPORT. Every operation of Machine/Strand.lean keeps a sound state sound and, but for those named _ok, the fuses and the
flash as they are. -/

namespace Sys2Proof.Machine

theorem execInboundFrame_good {z : Lasting} (lanes : List LaneRx) {s : State} (hs : s.Good z) : Answers z (execInboundFrame lanes s) := by
  unfold execInboundFrame
  repeat' first
    | with_reducible assumption
    | with_reducible apply done_good
    | with_reducible apply State.inbound_good
    | with_reducible apply ite_good

theorem execLaneFailure_good {z : Lasting} (lane : Fin 96) {s : State} (hs : s.Good z) : Answers z (execLaneFailure lane s) := by
  unfold execLaneFailure
  repeat' first
    | with_reducible assumption
    | with_reducible apply done_good
    | with_reducible apply State.failLane_good
    | with_reducible apply State.wrB_good
    | with_reducible apply ite_good

theorem execSpareSwitch_good {z : Lasting} {s : State} (hs : s.Good z) : Answers z (execSpareSwitch s) := by
  unfold execSpareSwitch
  repeat' first
    | with_reducible assumption
    | with_reducible apply done_good
    | with_reducible apply State.applySwitches_good

theorem State.doStrandLaneTest_good {z : Lasting} {s : State} (lane : BitVec 7) (hs : s.Good z) : (State.doStrandLaneTest s lane).Good z := by
  unfold State.doStrandLaneTest
  repeat' first
    | with_reducible assumption
    | ((try lift_lets -underBinder); intro x1; first | (have f1 : ∀ _, _ := x1; clear f1) | clear_value x1)
    | with_reducible apply State.setLane_good
    | with_reducible apply ite_good
    | fail_if_no_progress (with_reducible apply good_mk; with_reducible apply good_of)

theorem execStrandLaneTest_good {z : Lasting} (lane : BitVec 7) {s : State} (hs : s.Good z) : Answers z (execStrandLaneTest lane s) := by
  unfold execStrandLaneTest
  repeat' first
    | with_reducible assumption
    | with_reducible apply done_good
    | with_reducible apply State.ifOpen_good
    | with_reducible apply State.doStrandLaneTest_good

theorem execLaneTestEnd_good {z : Lasting} (lane : Fin 96) (pass : Bool) {s : State} (hs : s.Good z) : Answers z (execLaneTestEnd lane pass s) := by
  unfold execLaneTestEnd
  repeat' first
    | with_reducible assumption
    | ((try lift_lets -underBinder); intro s1; refine have_good (z := z) (s := s1) ?_ (fun h1 => ?_) <;> [subst s1; try clear_value s1])
    | ((try lift_lets -underBinder); intro x1; first | (have f1 : ∀ _, _ := x1; clear f1) | clear_value x1)
    | with_reducible apply done_good
    | with_reducible apply State.passToCycle_good
    | with_reducible apply State.setLane_good
    | with_reducible apply State.wrB_good
    | with_reducible apply State.laneStatus_good
    | with_reducible apply ite_good
    | split
    | fail_if_no_progress (with_reducible apply good_mk; with_reducible apply good_of)

theorem State.doStrandStart_good {z : Lasting} {s : State} (hs : s.Good z) : (State.doStrandStart s).Good z := by
  unfold State.doStrandStart
  repeat' first
    | with_reducible assumption
    | with_reducible apply State.clampInc_good
    | with_reducible apply State.startLink_good
    | with_reducible apply ite_good

theorem execStrandStart_good {z : Lasting} {s : State} (hs : s.Good z) : Answers z (execStrandStart s) := by
  unfold execStrandStart
  repeat' first
    | with_reducible assumption
    | with_reducible apply done_good
    | with_reducible apply State.ifOpen_good
    | with_reducible apply State.doStrandStart_good

theorem State.laneCoeffs_good {z : Lasting} {s : State} (hs : s.Good z) : (State.laneCoeffs s).Good z := by
  unfold State.laneCoeffs
  repeat' first
    | with_reducible assumption
    | ((try lift_lets -underBinder); intro x1; first | (have f1 : ∀ _, _ := x1; clear f1) | clear_value x1)
    | with_reducible apply State.ckptHeader_good
    | fail_if_no_progress (with_reducible apply good_mk; with_reducible apply good_of)

theorem execLinkTrained_good {z : Lasting} (locked : BitVec 96) {s : State} (hs : s.Good z) : Answers z (execLinkTrained locked s) := by
  unfold execLinkTrained
  repeat' first
    | with_reducible assumption
    | refine fun _ => ?_
    | ((try lift_lets -underBinder); intro s1; refine have_good (z := z) (s := s1) ?_ (fun h1 => ?_) <;> [subst s1; try clear_value s1])
    | with_reducible apply done_good
    | with_reducible apply State.wr_good
    | with_reducible apply State.wrB_good
    | with_reducible apply State.laneCoeffs_good
    | with_reducible apply State.laneStatus_good
    | with_reducible apply State.failLane_good
    | with_reducible apply ite_good
    | with_reducible apply forEach_good

theorem State.challenge_good {z : Lasting} {s : State} (hs : s.Good z) : (State.challenge s).Good z := by
  unfold State.challenge
  repeat' first
    | with_reducible assumption
    | refine fun _ => ?_
    | ((try lift_lets -underBinder); intro s1; refine have_good (z := z) (s := s1) ?_ (fun h1 => ?_) <;> [subst s1; try clear_value s1])
    | ((try lift_lets -underBinder); intro x1; first | (have f1 : ∀ _, _ := x1; clear f1) | clear_value x1)
    | with_reducible apply State.mgmtPush_good
    | with_reducible apply forEach_good
    | fail_if_no_progress (with_reducible apply good_mk; with_reducible apply good_of)

theorem State.alignTo_good {z : Lasting} {s : State} (n : Nat) (adv : BitVec 8) (hs : s.Good z) : (State.alignTo s n adv).Good z := by
  unfold State.alignTo
  repeat' first
    | with_reducible assumption
    | ((try lift_lets -underBinder); intro x1; first | (have f1 : ∀ _, _ := x1; clear f1) | clear_value x1)
    | with_reducible apply State.wr_good
    | with_reducible apply State.mgmtPush_good
    | with_reducible apply ite_good

theorem execLinkAligned_good {z : Lasting} (adv : List (Nat × BitVec 8)) {s : State} (hs : s.Good z) : Answers z (execLinkAligned adv s) := by
  unfold execLinkAligned
  repeat' first
    | with_reducible assumption
    | refine fun _ => ?_
    | ((try lift_lets -underBinder); intro s1; refine have_good (z := z) (s := s1) ?_ (fun h1 => ?_) <;> [subst s1; try clear_value s1])
    | with_reducible apply done_good
    | with_reducible apply State.wrB_good
    | with_reducible apply State.alignTo_good
    | with_reducible apply State.challenge_good
    | with_reducible apply State.wr_good
    | with_reducible apply ite_good
    | with_reducible apply forEach_good

theorem execCartAuthResponse_good {z : Lasting} (sig : BitVec 512) {s : State} (hs : s.Good z) : Answers z (execCartAuthResponse sig s) := by
  unfold execCartAuthResponse
  repeat' first
    | with_reducible assumption
    | ((try lift_lets -underBinder); intro x1; first | (have f1 : ∀ _, _ := x1; clear f1) | clear_value x1)
    | with_reducible apply done_good
    | with_reducible apply ite_good
    | fail_if_no_progress (with_reducible apply good_mk; with_reducible apply good_of)

theorem execLinkIdentified_good {z : Lasting} (id : IdentityLoad) {s : State} (hs : s.Good z) : Answers z (execLinkIdentified id s) := by
  unfold execLinkIdentified
  repeat' first
    | with_reducible assumption
    | ((try lift_lets -underBinder); intro s1; refine have_good (z := z) (s := s1) ?_ (fun h1 => ?_) <;> [subst s1; try clear_value s1])
    | with_reducible apply done_good
    | with_reducible apply State.identify_good
    | with_reducible apply State.portCmd_good
    | with_reducible apply State.setRole_good
    | with_reducible apply ite_good

theorem State.nowActive_good {z : Lasting} {s : State} (hs : s.Good z) : (State.nowActive s).Good z := by
  unfold State.nowActive
  repeat' first
    | with_reducible assumption
    | ((try lift_lets -underBinder); intro s1; refine have_good (z := z) (s := s1) ?_ (fun h1 => ?_) <;> [subst s1; try clear_value s1])
    | ((try lift_lets -underBinder); intro x1; first | (have f1 : ∀ _, _ := x1; clear f1) | clear_value x1)
    | with_reducible apply State.setRole_good
    | with_reducible apply ite_good
    | fail_if_no_progress (with_reducible apply good_mk; with_reducible apply good_of)

theorem State.startStream_good {z : Lasting} {s : State} (presets : Bool) (hs : s.Good z) : (State.startStream s presets).Good z := by
  unfold State.startStream
  repeat' first
    | with_reducible assumption
    | refine fun _ => ?_
    | ((try lift_lets -underBinder); intro s1; refine have_good (z := z) (s := s1) ?_ (fun h1 => ?_) <;> [subst s1; try clear_value s1])
    | ((try lift_lets -underBinder); intro x1; first | (have f1 : ∀ _, _ := x1; clear f1) | clear_value x1)
    | with_reducible apply State.putImageLoops_good
    | with_reducible apply State.imageInForce_good
    | with_reducible apply State.recordTransfer_good
    | with_reducible apply State.startFromImage_good
    | with_reducible apply State.wrB_good
    | with_reducible apply State.levelEnd_good
    | with_reducible apply State.nowActive_good
    | with_reducible apply State.peerHook_good
    | with_reducible apply State.echoPreset_good
    | with_reducible apply State.streamOn_good
    | with_reducible apply ite_good
    | with_reducible apply forEach_good
    | split
    | fail_if_no_progress (with_reducible apply good_mk; with_reducible apply good_of)

theorem State.doStrandStream_good {z : Lasting} {s : State} (hs : s.Good z) : (State.doStrandStream s).Good z := by
  unfold State.doStrandStream
  repeat' first
    | with_reducible assumption
    | ((try lift_lets -underBinder); intro x1; first | (have f1 : ∀ _, _ := x1; clear f1) | clear_value x1)
    | with_reducible apply State.startStream_good
    | with_reducible apply ite_good
    | fail_if_no_progress (with_reducible apply good_mk; with_reducible apply good_of)

theorem execStrandStream_good {z : Lasting} {s : State} (hs : s.Good z) : Answers z (execStrandStream s) := by
  unfold execStrandStream
  repeat' first
    | with_reducible assumption
    | with_reducible apply done_good
    | with_reducible apply State.ifOpen_good
    | with_reducible apply State.doStrandStream_good

theorem execStreamEchoReady_good {z : Lasting} {s : State} (hs : s.Good z) : Answers z (execStreamEchoReady s) := by
  unfold execStreamEchoReady
  repeat' first
    | with_reducible assumption
    | with_reducible apply done_good
    | with_reducible apply State.startStream_good
    | with_reducible apply ite_good

theorem execStrandStop_good {z : Lasting} {s : State} (hs : s.Good z) : Answers z (execStrandStop s) := by
  unfold execStrandStop
  repeat' first
    | with_reducible assumption
    | with_reducible apply done_good
    | with_reducible apply State.ifOpen_good
    | with_reducible apply State.streamOff_good

theorem execPortReq_good {z : Lasting} {s : State} (hs : s.Good z) : Answers z (execPortReq s) := by
  unfold execPortReq
  repeat' first
    | with_reducible assumption
    | with_reducible apply done_good
    | with_reducible apply State.ifOpen_good
    | with_reducible apply State.portCmd_good

theorem execPortRel_good {z : Lasting} {s : State} (hs : s.Good z) : Answers z (execPortRel s) := by
  unfold execPortRel
  repeat' first
    | with_reducible assumption
    | with_reducible apply done_good
    | with_reducible apply State.ifOpen_good
    | with_reducible apply State.portCmd_good

theorem State.idSubmit_good {z : Lasting} {s : State} (c : MgmtCmd) (hs : s.Good z) : (State.idSubmit s c).Good z := by
  unfold State.idSubmit
  repeat' first
    | with_reducible assumption
    | with_reducible apply State.wr_good
    | with_reducible apply State.mgmtPush_good

theorem execIdRead_good {z : Lasting} (waddr : BitVec 22) {s : State} (hs : s.Good z) : Answers z (execIdRead waddr s) := by
  unfold execIdRead
  repeat' first
    | with_reducible assumption
    | with_reducible apply done_good
    | with_reducible apply State.idSubmit_good
    | apply ite_good

theorem execIdWrite_good {z : Lasting} (waddr : BitVec 22) (data : BitVec 32) {s : State} (hs : s.Good z) : Answers z (execIdWrite waddr data s) := by
  unfold execIdWrite
  repeat' first
    | with_reducible assumption
    | with_reducible apply done_good
    | with_reducible apply State.ifOpen_good
    | with_reducible apply State.idSubmit_good

theorem execWriteBack_good {z : Lasting} {s : State} (hs : s.Good z) : Answers z (execWriteBack s) := by
  unfold execWriteBack
  repeat' first
    | with_reducible assumption
    | with_reducible apply done_good
    | with_reducible apply State.writeBack_good

theorem State.hourCell_good {z : Lasting} {s : State} (rating : Nat) (c : Nat) (hs : s.Good z) : (State.hourCell s rating c).Good z := by
  unfold State.hourCell
  repeat' first
    | with_reducible assumption
    | ((try lift_lets -underBinder); intro s1; refine have_good (z := z) (s := s1) ?_ (fun h1 => ?_) <;> [subst s1; try clear_value s1])
    | ((try lift_lets -underBinder); intro x1; first | (have f1 : ∀ _, _ := x1; clear f1) | clear_value x1)
    | with_reducible apply State.setCw_good
    | with_reducible apply ite_good
    | fail_if_no_progress (with_reducible apply good_mk; with_reducible apply good_of)

theorem State.thermalHour_good {z : Lasting} {s : State} (hs : s.Good z) : (State.thermalHour s).Good z := by
  unfold State.thermalHour
  repeat' first
    | with_reducible assumption
    | ((try lift_lets -underBinder); intro x1; first | (have f1 : ∀ _, _ := x1; clear f1) | clear_value x1)
    | fail_if_no_progress (with_reducible apply good_mk; with_reducible apply good_of)

theorem execPoweredHour_good {z : Lasting} {s : State} (hs : s.Good z) : Answers z (execPoweredHour s) := by
  unfold execPoweredHour
  repeat' first
    | with_reducible assumption
    | refine fun _ => ?_
    | ((try lift_lets -underBinder); intro s1; refine have_good (z := z) (s := s1) ?_ (fun h1 => ?_) <;> [subst s1; try clear_value s1])
    | ((try lift_lets -underBinder); intro x1; first | (have f1 : ∀ _, _ := x1; clear f1) | clear_value x1)
    | with_reducible apply done_good
    | with_reducible apply State.hourCell_good
    | with_reducible apply State.thermalHour_good
    | with_reducible apply forEach_good
    | split
    | fail_if_no_progress (with_reducible apply good_mk; with_reducible apply good_of)

end Sys2Proof.Machine
end

