-- ==== Sys2Proof/Laws/GoodSwitch.lean ====
section
/-! SUPPORT. Every operation of Machine/Switch.lean keeps a sound state sound and, but for those named _ok, the fuses and the
flash as they are. -/

namespace Sys2Proof.Machine

theorem State.braidCount_good {z : Lasting} {s : State} (p : Nat) (c : Nat) (n : Nat) (hs : s.Good z) : (State.braidCount s p c n).Good z := by
  unfold State.braidCount
  repeat' first
    | with_reducible assumption
    | with_reducible apply State.wr_good

theorem State.ingressStamp_good {z : Lasting} {s : State} (p : Nat) (b : List Byte) (hs : s.Good z) : (State.ingressStamp s p b).2.Good z := by
  unfold State.ingressStamp
  repeat' first
    | with_reducible assumption
    | ((try lift_lets -underBinder); intro s1; refine have_snd (z := z) (p := s1) ?_ (fun h1 => ?_) <;> [subst s1; try clear_value s1])
    | with_reducible apply State.stamp_good
    | with_reducible apply ite_snd_good

theorem State.braidReceive_good {z : Lasting} {s : State} (p : Nat) (frame : List Byte) (hs : s.Good z) : (State.braidReceive s p frame).Good z := by
  unfold State.braidReceive
  repeat' first
    | with_reducible assumption
    | ((try lift_lets -underBinder); intro x1; first | (have f1 : ∀ _, _ := x1; clear f1) | clear_value x1)
    | with_reducible apply State.braidCount_good
    | with_reducible apply State.ingressStamp_good
    | with_reducible apply State.swEnter_good
    | with_reducible apply ite_good

theorem execBraidFrameRx_good {z : Lasting} (port : Fin 16) (frame : List Byte) {s : State} (hs : s.Good z) : Answers z (execBraidFrameRx port frame s) := by
  unfold execBraidFrameRx
  repeat' first
    | with_reducible assumption
    | with_reducible apply done_good
    | with_reducible apply State.braidReceive_good

theorem State.transmitStart_good {z : Lasting} {s : State} (o : Nat) (hs : s.Good z) : (State.transmitStart s o).Good z := by
  unfold State.transmitStart
  repeat' first
    | with_reducible assumption
    | ((try lift_lets -underBinder); intro s1; refine have_good (z := z) (s := s1) ?_ (fun h1 => ?_) <;> [subst s1; try clear_value s1])
    | ((try lift_lets -underBinder); intro s1; refine have_snd (z := z) (p := s1) ?_ (fun h1 => ?_) <;> [subst s1; try clear_value s1])
    | with_reducible apply State.enterMgmt_good
    | with_reducible apply State.enterLedger_good
    | with_reducible apply State.pickClass_good
    | with_reducible apply State.startFrame_good
    | with_reducible apply ite_good
    | split

theorem execTransmitStart_good {z : Lasting} (port : Fin 19) {s : State} (hs : s.Good z) : Answers z (execTransmitStart port s) := by
  unfold execTransmitStart
  repeat' first
    | with_reducible assumption
    | with_reducible apply done_good
    | with_reducible apply State.transmitStart_good

theorem execTransmitEnd_good {z : Lasting} (port : Fin 19) {s : State} (hs : s.Good z) : Answers z (execTransmitEnd port s) := by
  unfold execTransmitEnd
  repeat' first
    | with_reducible assumption
    | with_reducible apply done_good
    | with_reducible apply State.endFrame_good
    | split

theorem execBraidLinkDown_good {z : Lasting} (port : Fin 16) {s : State} (hs : s.Good z) : Answers z (execBraidLinkDown port s) := by
  unfold execBraidLinkDown
  repeat' first
    | with_reducible assumption
    | with_reducible apply done_good
    | with_reducible apply State.linkDown_good

theorem execBraidLinkUp_good {z : Lasting} (port : Fin 16) {s : State} (hs : s.Good z) : Answers z (execBraidLinkUp port s) := by
  unfold execBraidLinkUp
  repeat' first
    | with_reducible assumption
    | ((try lift_lets -underBinder); intro s1; refine have_good (z := z) (s := s1) ?_ (fun h1 => ?_) <;> [subst s1; try clear_value s1])
    | ((try lift_lets -underBinder); intro x1; first | (have f1 : ∀ _, _ := x1; clear f1) | clear_value x1)
    | with_reducible apply done_good
    | with_reducible apply State.wrB_good
    | with_reducible apply ite_good
    | fail_if_no_progress (with_reducible apply good_mk; with_reducible apply good_of)

theorem State.doLagRejoin_good {z : Lasting} {s : State} (g : Fin 4) (hs : s.Good z) : (State.doLagRejoin s g).Good z := by
  unfold State.doLagRejoin
  repeat' first
    | with_reducible assumption
    | with_reducible apply State.wrB_good
    | with_reducible apply ite_good

theorem execLagRejoin_good {z : Lasting} (g : Fin 4) {s : State} (hs : s.Good z) : Answers z (execLagRejoin g s) := by
  unfold execLagRejoin
  repeat' first
    | with_reducible assumption
    | with_reducible apply done_good
    | with_reducible apply State.ifOpen_good
    | with_reducible apply State.doLagRejoin_good

theorem execLagRejoinDone_good {z : Lasting} (g : Fin 4) {s : State} (hs : s.Good z) : Answers z (execLagRejoinDone g s) := by
  unfold execLagRejoinDone
  repeat' first
    | with_reducible assumption
    | ((try lift_lets -underBinder); intro x1; first | (have f1 : ∀ _, _ := x1; clear f1) | clear_value x1)
    | with_reducible apply done_good
    | with_reducible apply State.wrB_good
    | with_reducible apply State.lagHeal_good
    | with_reducible apply State.lagDeal_good
    | with_reducible apply ite_good

theorem State.gateCommit_good {z : Lasting} {s : State} (p : Nat) (hs : s.Good z) : (State.gateCommit s p).Good z := by
  unfold State.gateCommit
  repeat' first
    | with_reducible assumption
    | ((try lift_lets -underBinder); intro s1; refine have_good (z := z) (s := s1) ?_ (fun h1 => ?_) <;> [subst s1; try clear_value s1])
    | ((try lift_lets -underBinder); intro x1; first | (have f1 : ∀ _, _ := x1; clear f1) | clear_value x1)
    | with_reducible apply State.wrB_good
    | with_reducible apply ite_good
    | fail_if_no_progress (with_reducible apply good_mk; with_reducible apply good_of)

theorem execGateCommit_good {z : Lasting} (port : Fin 16) {s : State} (hs : s.Good z) : Answers z (execGateCommit port s) := by
  unfold execGateCommit
  repeat' first
    | with_reducible assumption
    | with_reducible apply done_good
    | with_reducible apply State.ifOpen_good
    | with_reducible apply State.gateCommit_good

theorem State.gateStart_good {z : Lasting} {s : State} (p : Nat) (g : GateList) (hs : s.Good z) : (State.gateStart s p g).Good z := by
  unfold State.gateStart
  repeat' first
    | with_reducible assumption
    | refine fun _ => ?_
    | ((try lift_lets -underBinder); intro s1; refine have_good (z := z) (s := s1) ?_ (fun h1 => ?_) <;> [subst s1; try clear_value s1])
    | ((try lift_lets -underBinder); intro x1; first | (have f1 : ∀ _, _ := x1; clear f1) | clear_value x1)
    | with_reducible apply State.passCycles_good
    | with_reducible apply State.wr_good
    | with_reducible apply State.wrB_good
    | with_reducible apply forEach_good
    | fail_if_no_progress (with_reducible apply good_mk; with_reducible apply good_of)

theorem execGateListStart_good {z : Lasting} (port : Fin 16) {s : State} (hs : s.Good z) : Answers z (execGateListStart port s) := by
  unfold execGateListStart
  repeat' first
    | with_reducible assumption
    | with_reducible apply done_good
    | with_reducible apply State.gateStart_good
    | split

theorem execGateEntryChange_good {z : Lasting} (port : Fin 16) {s : State} (hs : s.Good z) : Answers z (execGateEntryChange port s) := by
  unfold execGateEntryChange
  repeat' first
    | with_reducible assumption
    | ((try lift_lets -underBinder); intro s1; refine have_good (z := z) (s := s1) ?_ (fun h1 => ?_) <;> [subst s1; try clear_value s1])
    | ((try lift_lets -underBinder); intro x1; first | (have f1 : ∀ _, _ := x1; clear f1) | clear_value x1)
    | with_reducible apply done_good
    | with_reducible apply State.passCycles_good
    | with_reducible apply State.wr_good
    | split

theorem State.sampleQueue_good {z : Lasting} {s : State} (o : Nat) (c : Nat) (hs : s.Good z) : (State.sampleQueue s o c).Good z := by
  unfold State.sampleQueue
  repeat' first
    | with_reducible assumption
    | ((try lift_lets -underBinder); intro s1; refine have_good (z := z) (s := s1) ?_ (fun h1 => ?_) <;> [subst s1; try clear_value s1])
    | ((try lift_lets -underBinder); intro x1; first | (have f1 : ∀ _, _ := x1; clear f1) | clear_value x1)
    | with_reducible apply State.wr_good

theorem State.sampleQueues_good {z : Lasting} {s : State} (hs : s.Good z) : (State.sampleQueues s).Good z := by
  unfold State.sampleQueues
  repeat' first
    | with_reducible assumption
    | refine fun _ => ?_
    | ((try lift_lets -underBinder); intro s1; refine have_good (z := z) (s := s1) ?_ (fun h1 => ?_) <;> [subst s1; try clear_value s1])
    | ((try lift_lets -underBinder); intro x1; first | (have f1 : ∀ _, _ := x1; clear f1) | clear_value x1)
    | with_reducible apply State.passToCycle_good
    | with_reducible apply State.sampleQueue_good
    | with_reducible apply forEach_good
    | fail_if_no_progress (with_reducible apply good_mk; with_reducible apply good_of)

theorem execQueueSample_good {z : Lasting} {s : State} (hs : s.Good z) : Answers z (execQueueSample s) := by
  unfold execQueueSample
  repeat' first
    | with_reducible assumption
    | with_reducible apply done_good
    | with_reducible apply State.sampleQueues_good

theorem State.hostSubmit_good {z : Lasting} {s : State} (v : Nat) (hs : s.Good z) : (State.hostSubmit s v).Good z := by
  unfold State.hostSubmit
  repeat' first
    | with_reducible assumption
    | ((try lift_lets -underBinder); intro s1; refine have_good (z := z) (s := s1) ?_ (fun h1 => ?_) <;> [subst s1; try clear_value s1])
    | ((try lift_lets -underBinder); intro x1; first | (have f1 : ∀ _, _ := x1; clear f1) | clear_value x1)
    | with_reducible apply State.inc_good
    | with_reducible apply State.wrB_good
    | with_reducible apply ite_good
    | split
    | fail_if_no_progress (with_reducible apply good_mk; with_reducible apply good_of)

theorem execSwitchHostTx_good {z : Lasting} (value : BitVec 32) {s : State} (hs : s.Good z) : Answers z (execSwitchHostTx value s) := by
  unfold execSwitchHostTx
  repeat' first
    | with_reducible assumption
    | with_reducible apply done_good
    | with_reducible apply State.ifOpen_good
    | with_reducible apply State.hostSubmit_good

theorem execHostFrameEnter_good {z : Lasting} {s : State} (hs : s.Good z) : Answers z (execHostFrameEnter s) := by
  unfold execHostFrameEnter
  repeat' first
    | with_reducible assumption
    | ((try lift_lets -underBinder); intro s1; refine have_good (z := z) (s := s1) ?_ (fun h1 => ?_) <;> [subst s1; try clear_value s1])
    | ((try lift_lets -underBinder); intro x1; first | (have f1 : ∀ _, _ := x1; clear f1) | clear_value x1)
    | with_reducible apply done_good
    | with_reducible apply State.wrB_good
    | with_reducible apply State.swEnter_good
    | split
    | fail_if_no_progress (with_reducible apply good_mk; with_reducible apply good_of)

theorem State.doHostRxPop_good {z : Lasting} {s : State} (hs : s.Good z) : (State.doHostRxPop s).Good z := by
  unfold State.doHostRxPop
  repeat' first
    | with_reducible assumption
    | ((try lift_lets -underBinder); intro x1; first | (have f1 : ∀ _, _ := x1; clear f1) | clear_value x1)
    | fail_if_no_progress (with_reducible apply good_mk; with_reducible apply good_of)

theorem execHostRxPop_good {z : Lasting} {s : State} (hs : s.Good z) : Answers z (execHostRxPop s) := by
  unfold execHostRxPop
  repeat' first
    | with_reducible assumption
    | with_reducible apply done_good
    | with_reducible apply State.ifOpen_good
    | with_reducible apply State.doHostRxPop_good

theorem execSynceSquelchEnd_good {z : Lasting} (k : Fin 2) {s : State} (hs : s.Good z) : Answers z (execSynceSquelchEnd k s) := by
  unfold execSynceSquelchEnd
  repeat' first
    | with_reducible assumption
    | ((try lift_lets -underBinder); intro s1; refine have_good (z := z) (s := s1) ?_ (fun h1 => ?_) <;> [subst s1; try clear_value s1])
    | ((try lift_lets -underBinder); intro x1; first | (have f1 : ∀ _, _ := x1; clear f1) | clear_value x1)
    | with_reducible apply done_good
    | with_reducible apply State.passToCycle_good
    | with_reducible apply State.wrB_good
    | with_reducible apply ite_good

end Sys2Proof.Machine
end

