-- ==== Sys2Proof/Laws/GoodTherm.lean ====
section
/-! SUPPORT. Every operation of Machine/Therm.lean keeps a sound state sound and, but for those named _ok, the fuses and the
flash as they are. -/

namespace Sys2Proof.Machine

theorem execHkRoundStart_good {z : Lasting} {s : State} (hs : s.Good z) : Answers z (execHkRoundStart s) := by
  unfold execHkRoundStart
  repeat' first
    | with_reducible assumption
    | with_reducible apply done_good
    | with_reducible apply State.hkStart_good

theorem execHkPublish_good {z : Lasting} (convs : List HkConv) {s : State} (hs : s.Good z) : Answers z (execHkPublish convs s) := by
  unfold execHkPublish
  repeat' first
    | with_reducible assumption
    | with_reducible apply done_good
    | with_reducible apply State.hkPublish_good

theorem execPwmReload_good {z : Lasting} (n : Fin 8) {s : State} (hs : s.Good z) : Answers z (execPwmReload n s) := by
  unfold execPwmReload
  repeat' first
    | with_reducible assumption
    | with_reducible apply done_good
    | with_reducible apply State.pwmReload_good

theorem execPwmSyncInEdge_good {z : Lasting} {s : State} (hs : s.Good z) : Answers z (execPwmSyncInEdge s) := by
  unfold execPwmSyncInEdge
  repeat' first
    | with_reducible assumption
    | with_reducible apply done_good
    | with_reducible apply State.pwmPeriod_good
    | with_reducible apply ite_good

theorem execPwmEnable_good {z : Lasting} (n : Fin 8) (en : Bool) {s : State} (hs : s.Good z) : Answers z (execPwmEnable n en s) := by
  unfold execPwmEnable
  repeat' first
    | with_reducible assumption
    | with_reducible apply done_good
    | with_reducible apply State.pwmEnable_good
    | apply ite_good

theorem execTripAssert_good {z : Lasting} (k : Fin 4) {s : State} (hs : s.Good z) : Answers z (execTripAssert k s) := by
  unfold execTripAssert
  repeat' first
    | with_reducible assumption
    | with_reducible apply done_good
    | with_reducible apply State.tripLatch_good
    | with_reducible apply State.wr_good

theorem execTripClr_good {z : Lasting} (mask : BitVec 4) {s : State} (hs : s.Good z) : Answers z (execTripClr mask s) := by
  unfold execTripClr
  repeat' first
    | with_reducible assumption
    | with_reducible apply done_good
    | with_reducible apply State.tripClr_good
    | apply ite_good

end Sys2Proof.Machine
end

