-- ==== Sys2Proof/Laws/GoodClock.lean ====
section
/-! SUPPORT. Every operation of Machine/Clock.lean keeps a sound state sound and, but for those named _ok, the fuses and the
flash as they are. -/

namespace Sys2Proof.Machine

theorem execClockMonitorWindow_good {z : Lasting} (mon : ClockMon) (count : BitVec 32) {s : State} (hs : s.Good z) : Answers z (execClockMonitorWindow mon count s) := by
  unfold execClockMonitorWindow
  repeat' first
    | with_reducible assumption
    | with_reducible apply done_good
    | with_reducible apply State.monWindow_good

theorem execClockDetectorFail_good {z : Lasting} (d : ClockDetector) {s : State} (hs : s.Good z) : Answers z (execClockDetectorFail d s) := by
  unfold execClockDetectorFail
  repeat' first
    | with_reducible assumption
    | with_reducible apply done_good
    | with_reducible apply State.declareClk_good
    | split

theorem execXtalQualified_good {z : Lasting} {s : State} (hs : s.Good z) : Answers z (execXtalQualified s) := by
  unfold execXtalQualified
  repeat' first
    | with_reducible assumption
    | with_reducible apply done_good
    | with_reducible apply State.xtalQualified_good
    | with_reducible apply ite_good

theorem execXtalQualTimeout_good {z : Lasting} (level2 : Bool) {s : State} (hs : s.Good z) : Answers z (execXtalQualTimeout level2 s) := by
  unfold execXtalQualTimeout
  repeat' first
    | with_reducible assumption
    | with_reducible apply done_good
    | with_reducible apply State.clocksReady_good
    | with_reducible apply State.wrB_good
    | with_reducible apply State.declareClk_good
    | with_reducible apply ite_good

theorem execPllLock_good {z : Lasting} (pll : Fin 4) {s : State} (hs : s.Good z) : Answers z (execPllLock pll s) := by
  unfold execPllLock
  repeat' first
    | with_reducible assumption
    | refine fun _ => ?_
    | ((try lift_lets -underBinder); intro s1; refine have_good (z := z) (s := s1) ?_ (fun h1 => ?_) <;> [subst s1; try clear_value s1])
    | ((try lift_lets -underBinder); intro x1; first | (have f1 : ∀ _, _ := x1; clear f1) | clear_value x1)
    | with_reducible apply done_good
    | with_reducible apply State.clkPass_good
    | with_reducible apply State.wr_good
    | with_reducible apply State.domReturn_good
    | with_reducible apply State.clocksReady_good
    | with_reducible apply ite_good
    | with_reducible apply forEach_good

theorem execClkDomSrc_good {z : Lasting} (d : Fin 10) (fallback : Bool) {s : State} (hs : s.Good z) : Answers z (execClkDomSrc d fallback s) := by
  unfold execClkDomSrc
  repeat' first
    | with_reducible assumption
    | with_reducible apply done_good
    | with_reducible apply State.domSrc_good

theorem execClockSwitchTimeout_good {z : Lasting} (d : Fin 10) {s : State} (hs : s.Good z) : Answers z (execClockSwitchTimeout d s) := by
  unfold execClockSwitchTimeout
  repeat' first
    | with_reducible assumption
    | with_reducible apply done_good
    | with_reducible apply State.switchForced_good

theorem execRefclkRestored_good {z : Lasting} {s : State} (hs : s.Good z) : Answers z (execRefclkRestored s) := by
  unfold execRefclkRestored
  repeat' first
    | with_reducible assumption
    | with_reducible apply done_good
    | with_reducible apply State.refRestored_good

theorem execGateForceTimeout_good {z : Lasting} (block : BitVec 32) {s : State} (hs : s.Good z) : Answers z (execGateForceTimeout block s) := by
  unfold execGateForceTimeout
  repeat' first
    | with_reducible assumption
    | with_reducible apply done_good
    | with_reducible apply State.gateForced_good

theorem execPwrCtrl_good {z : Lasting} (target : BitVec 2) {s : State} (hs : s.Good z) : Answers z (execPwrCtrl target s) := by
  unfold execPwrCtrl
  repeat' first
    | with_reducible assumption
    | with_reducible apply done_good
    | with_reducible apply State.pwrRequest_good

theorem execPowerTransitionDone_good {z : Lasting} {s : State} (hs : s.Good z) : Answers z (execPowerTransitionDone s) := by
  unfold execPowerTransitionDone
  repeat' first
    | with_reducible assumption
    | with_reducible apply done_good
    | with_reducible apply State.pwrDone_good

theorem execBusTargetTimeout_good {z : Lasting} (m : Master) (addr : BitVec 32) {s : State} (hs : s.Good z) : Answers z (execBusTargetTimeout m addr s) := by
  unfold execBusTargetTimeout
  repeat' first
    | with_reducible assumption
    | with_reducible apply done_good
    | with_reducible apply State.targetTimeout_good

theorem execBusMasterReset_good {z : Lasting} (m : Master) {s : State} (hs : s.Good z) : Answers z (execBusMasterReset m s) := by
  unfold execBusMasterReset
  repeat' first
    | with_reducible assumption
    | with_reducible apply done_good
    | with_reducible apply State.masterReset_good

theorem execMasterResetDone_good {z : Lasting} (m : Master) {s : State} (hs : s.Good z) : Answers z (execMasterResetDone m s) := by
  unfold execMasterResetDone
  repeat' first
    | with_reducible assumption
    | with_reducible apply done_good
    | with_reducible apply State.masterDrained_good

theorem execPcieFlr_good {z : Lasting} (linkLost : Bool) {s : State} (hs : s.Good z) : Answers z (execPcieFlr linkLost s) := by
  unfold execPcieFlr
  repeat' first
    | with_reducible assumption
    | ((try lift_lets -underBinder); intro x1; (have f1 : BootState := x1; clear f1); subst x1)
    | ((try lift_lets -underBinder); intro s1; refine have_good (z := z) (s := s1) ?_ (fun h1 => ?_) <;> [subst s1; try clear_value s1])
    | with_reducible apply State.masterReset_good
    | with_reducible apply done_good
    | with_reducible apply ite_good
    | fail_if_no_progress (with_reducible apply good_mk; with_reducible apply good_of)

theorem execPcieLinkUp_good {z : Lasting} {s : State} (hs : s.Good z) : Answers z (execPcieLinkUp s) := by
  unfold execPcieLinkUp
  repeat' first
    | with_reducible assumption
    | ((try lift_lets -underBinder); intro x1; (have f1 : BootState := x1; clear f1); subst x1)
    | with_reducible apply done_good
    | with_reducible apply ite_good
    | fail_if_no_progress (with_reducible apply good_mk; with_reducible apply good_of)

end Sys2Proof.Machine
end

