-- ==== Sys2Proof/Laws/GoodRegRead.lean ====
section
/-! SUPPORT. Every operation of Machine/RegRead.lean keeps a sound state sound and, but for those named _ok, the fuses and the
flash as they are. -/

namespace Sys2Proof.Machine

theorem State.viewClk_good {z : Lasting} {s : State} (m : Nat) (h : RegHit) (hs : s.Good z) : (State.viewClk s m h).Good z := by
  unfold State.viewClk
  repeat' first
    | with_reducible assumption
    | ((try lift_lets -underBinder); intro s1; refine have_good (z := z) (s := s1) ?_ (fun h1 => ?_) <;> [subst s1; try clear_value s1])
    | ((try lift_lets -underBinder); intro x1; first | (have f1 : ∀ _, _ := x1; clear f1) | clear_value x1)
    | with_reducible apply State.wr_good
    | with_reducible apply State.wrB_good
    | with_reducible apply ite_good

theorem State.viewFault_good {z : Lasting} {s : State} (h : RegHit) (hs : s.Good z) : (State.viewFault s h).Good z := by
  unfold State.viewFault
  repeat' first
    | with_reducible assumption
    | refine fun _ => ?_
    | ((try lift_lets -underBinder); intro x1; first | (have f1 : ∀ _, _ := x1; clear f1) | clear_value x1)
    | with_reducible apply State.wr_good
    | with_reducible apply State.wrB_good
    | with_reducible apply ite_good
    | with_reducible apply forEach_good

theorem State.viewPwm_good {z : Lasting} {s : State} (h : RegHit) (hs : s.Good z) : (State.viewPwm s h).Good z := by
  unfold State.viewPwm
  repeat' first
    | with_reducible assumption
    | ((try lift_lets -underBinder); intro s1; refine have_good (z := z) (s := s1) ?_ (fun h1 => ?_) <;> [subst s1; try clear_value s1])
    | ((try lift_lets -underBinder); intro x1; first | (have f1 : ∀ _, _ := x1; clear f1) | clear_value x1)
    | with_reducible apply State.wr_good
    | with_reducible apply State.wrB_good
    | with_reducible apply ite_good

theorem State.viewTime_good {z : Lasting} {s : State} (h : RegHit) (hs : s.Good z) : (State.viewTime s h).Good z := by
  unfold State.viewTime
  repeat' first
    | with_reducible assumption
    | ((try lift_lets -underBinder); intro x1; first | (have f1 : ∀ _, _ := x1; clear f1) | clear_value x1)
    | with_reducible apply State.wr_good
    | with_reducible apply State.wrB_good
    | with_reducible apply State.wrI_good
    | with_reducible apply ite_good

theorem State.viewSeq_good {z : Lasting} {s : State} (h : RegHit) (hs : s.Good z) : (State.viewSeq s h).Good z := by
  unfold State.viewSeq
  repeat' first
    | with_reducible assumption
    | ((try lift_lets -underBinder); intro s1; refine have_good (z := z) (s := s1) ?_ (fun h1 => ?_) <;> [subst s1; try clear_value s1])
    | ((try lift_lets -underBinder); intro x1; first | (have f1 : ∀ _, _ := x1; clear f1) | clear_value x1)
    | with_reducible apply State.wr_good
    | with_reducible apply State.wrB_good
    | with_reducible apply ite_good

theorem State.viewSolve_good {z : Lasting} {s : State} (h : RegHit) (hs : s.Good z) : (State.viewSolve s h).Good z := by
  unfold State.viewSolve
  repeat' first
    | with_reducible assumption
    | ((try lift_lets -underBinder); intro s1; refine have_good (z := z) (s := s1) ?_ (fun h1 => ?_) <;> [subst s1; try clear_value s1])
    | ((try lift_lets -underBinder); intro x1; first | (have f1 : ∀ _, _ := x1; clear f1) | clear_value x1)
    | with_reducible apply State.wr_good
    | with_reducible apply State.wrB_good
    | with_reducible apply ite_good

theorem State.viewLoop_good {z : Lasting} {s : State} (h : RegHit) (hs : s.Good z) : (State.viewLoop s h).Good z := by
  unfold State.viewLoop
  repeat' first
    | with_reducible assumption
    | ((try lift_lets -underBinder); intro x1; first | (have f1 : ∀ _, _ := x1; clear f1) | clear_value x1)
    | with_reducible apply State.wr_good
    | with_reducible apply State.wrB_good
    | with_reducible apply ite_good

theorem State.viewStrand_good {z : Lasting} {s : State} (h : RegHit) (hs : s.Good z) : (State.viewStrand s h).Good z := by
  unfold State.viewStrand
  repeat' first
    | with_reducible assumption
    | with_reducible apply State.wrB_good
    | with_reducible apply State.wr_good
    | with_reducible apply ite_good
    | split

theorem State.viewSwitch_good {z : Lasting} {s : State} (h : RegHit) (hs : s.Good z) : (State.viewSwitch s h).Good z := by
  unfold State.viewSwitch
  repeat' first
    | with_reducible assumption
    | ((try lift_lets -underBinder); intro s1; refine have_good (z := z) (s := s1) ?_ (fun h1 => ?_) <;> [subst s1; try clear_value s1])
    | ((try lift_lets -underBinder); intro x1; first | (have f1 : ∀ _, _ := x1; clear f1) | clear_value x1)
    | with_reducible apply State.wrB_good
    | with_reducible apply State.wr_good
    | with_reducible apply State.wrI_good
    | with_reducible apply ite_good
    | split

theorem State.viewRedund_good {z : Lasting} {s : State} (h : RegHit) (hs : s.Good z) : (State.viewRedund s h).Good z := by
  unfold State.viewRedund
  repeat' first
    | with_reducible assumption
    | ((try lift_lets -underBinder); intro x1; first | (have f1 : ∀ _, _ := x1; clear f1) | clear_value x1)
    | with_reducible apply State.wr_good
    | with_reducible apply State.wrB_good
    | with_reducible apply ite_good

theorem State.viewed_good {z : Lasting} {s : State} (m : Nat) (h : RegHit) (hs : s.Good z) : (State.viewed s m h).Good z := by
  unfold State.viewed
  repeat' first
    | with_reducible assumption
    | with_reducible apply State.viewClk_good
    | with_reducible apply State.viewFault_good
    | with_reducible apply State.viewPwm_good
    | with_reducible apply State.viewTime_good
    | with_reducible apply State.viewSeq_good
    | with_reducible apply State.viewSolve_good
    | with_reducible apply State.viewLoop_good
    | with_reducible apply State.viewStrand_good
    | with_reducible apply State.viewSwitch_good
    | with_reducible apply State.viewRedund_good
    | split

theorem State.rcClear_good {z : Lasting} {s : State} (h : RegHit) (lo : Nat) (hi : Nat) (hs : s.Good z) : (State.rcClear s h lo hi).Good z := by
  unfold State.rcClear
  repeat' first
    | with_reducible assumption
    | refine fun _ => ?_
    | with_reducible apply State.wr_good
    | with_reducible apply ite_good
    | with_reducible apply forEach_good

theorem State.readSetup_good {z : Lasting} {s : State} (h : RegHit) (hs : s.Good z) : (State.readSetup s h).Good z := by
  unfold State.readSetup
  repeat' first
    | with_reducible assumption
    | with_reducible apply State.tripPins_good
    | with_reducible apply ite_good

theorem State.readAct_good {z : Lasting} {s : State} (h : RegHit) (hs : s.Good z) : (State.readAct s h).Good z := by
  unfold State.readAct
  repeat' first
    | with_reducible assumption
    | ((try lift_lets -underBinder); intro x1; first | (have f1 : ∀ _, _ := x1; clear f1) | clear_value x1)
    | with_reducible apply State.entryRead_good
    | with_reducible apply ite_good
    | fail_if_no_progress (with_reducible apply good_mk; with_reducible apply good_of)

theorem State.readWord_good {z : Lasting} {s : State} (m : Nat) (h : RegHit) (hs : s.Good z) : (State.readWord s m h).2.Good z := by
  unfold State.readWord
  repeat' first
    | with_reducible assumption
    | ((try lift_lets -underBinder); intro s1; refine have_good (z := z) (s := s1) ?_ (fun h1 => ?_) <;> [subst s1; try clear_value s1])
    | ((try lift_lets -underBinder); intro x1; first | (have f1 : ∀ _, _ := x1; clear f1) | clear_value x1)
    | with_reducible apply State.readSetup_good
    | with_reducible apply State.readAct_good
    | with_reducible apply State.rcClear_good
    | with_reducible apply ite_snd_good
    | split
    | fail_if_no_progress (with_reducible apply good_mk; with_reducible apply good_of)

end Sys2Proof.Machine
end

