-- ==== Sys2Proof/Laws/GoodRegWrite.lean ====
section
/-! SUPPORT. Every operation of Machine/RegWrite.lean keeps a sound state sound and, but for those named _ok, the fuses and the
flash as they are. -/

namespace Sys2Proof.Machine

theorem State.wrBoot_ok {s : State} (h : RegHit) (v : Nat) (hs : s.ok = true) : (s.wrBoot h v).ok = true := by
  unfold State.wrBoot
  refine ite_ok (ite_ok (ok_of_good (State.warmReset_good _ (good_self hs))) hs) (ite_ok ?_ (ite_ok ?_ (ite_ok ?_ ?_)))
  · exact State.thenIf_ok (fun s h => State.lcGo_ok _ h)
      (State.thenIf_ok (fun s h => ok_of_good (State.lcNonce_good (good_self h))) hs)
  · exact forEach_ok hs fun s k h => ok_of_good (State.wr_good _ _ _ _ _ (good_self h))
  · exact ok_of_good (State.flashSubmit_good _ _ (good_self hs))
  · exact ok_of_good (State.wrFields_good _ _ _ (good_self hs))

theorem State.wrClk_good {z : Lasting} {s : State} (h : RegHit) (v : Nat) (hs : s.Good z) : (State.wrClk s h v).Good z := by
  unfold State.wrClk
  repeat' first
    | with_reducible assumption
    | refine fun _ => ?_
    | ((try lift_lets -underBinder); intro x1; first | (have f1 : ∀ _, _ := x1; clear f1) | clear_value x1)
    | with_reducible apply State.wrFields_good
    | with_reducible apply State.domSrc_good
    | with_reducible apply State.pwrRequest_good
    | with_reducible apply State.thenIf_good
    | with_reducible apply State.masterReset_good
    | with_reducible apply State.wrB_good
    | with_reducible apply ite_good

theorem State.wrFault_good {z : Lasting} {s : State} (h : RegHit) (v : Nat) (hs : s.Good z) : (State.wrFault s h v).Good z := by
  unfold State.wrFault
  repeat' first
    | with_reducible assumption
    | refine fun _ => ?_
    | with_reducible apply State.wrFields_good
    | with_reducible apply State.thenIf_good
    | with_reducible apply State.doReleaseSafe_good
    | with_reducible apply State.doReleaseHold_good
    | with_reducible apply State.doReleaseFreeze_good
    | with_reducible apply State.inject_good
    | with_reducible apply State.ackFault_good
    | with_reducible apply State.doMonSnap_good
    | with_reducible apply State.monOffer_good
    | with_reducible apply State.doHistConfigWrite_good
    | with_reducible apply State.doHistLo_good
    | with_reducible apply State.doTrackerConfigWrite_good
    | with_reducible apply ite_good

theorem State.hkDisable_good {z : Lasting} {s : State} (old : Nat) (new : Nat) (hs : s.Good z) : (State.hkDisable s old new).Good z := by
  unfold State.hkDisable
  repeat' first
    | with_reducible assumption
    | refine fun _ => ?_
    | ((try lift_lets -underBinder); intro s1; refine have_good (z := z) (s := s1) ?_ (fun h1 => ?_) <;> [subst s1; try clear_value s1])
    | ((try lift_lets -underBinder); intro x1; first | (have f1 : ∀ _, _ := x1; clear f1) | clear_value x1)
    | with_reducible apply State.wrB_good
    | with_reducible apply forEach_good
    | fail_if_no_progress (with_reducible apply good_mk; with_reducible apply good_of)

theorem State.tripPol_good {z : Lasting} {s : State} (old : Nat) (new : Nat) (hs : s.Good z) : (State.tripPol s old new).Good z := by
  unfold State.tripPol
  repeat' first
    | with_reducible assumption
    | ((try lift_lets -underBinder); intro s1; refine have_good (z := z) (s := s1) ?_ (fun h1 => ?_) <;> [subst s1; try clear_value s1])
    | with_reducible apply State.tripPins_good
    | with_reducible apply State.wr_good
    | with_reducible apply ite_good

theorem State.wrTherm_good {z : Lasting} {s : State} (h : RegHit) (v : Nat) (hs : s.Good z) : (State.wrTherm s h v).Good z := by
  unfold State.wrTherm
  repeat' first
    | with_reducible assumption
    | refine fun _ => ?_
    | ((try lift_lets -underBinder); intro s1; refine have_good (z := z) (s := s1) ?_ (fun h1 => ?_) <;> [subst s1; try clear_value s1])
    | ((try lift_lets -underBinder); intro x1; first | (have f1 : ∀ _, _ := x1; clear f1) | clear_value x1)
    | with_reducible apply State.wrFields_good
    | with_reducible apply State.hkDisable_good
    | with_reducible apply State.pwmEnable_good
    | with_reducible apply State.lateWrite_good
    | with_reducible apply State.tripPol_good
    | with_reducible apply State.thenIf_good
    | with_reducible apply State.tripLatch_good
    | with_reducible apply State.tripClr_good
    | with_reducible apply ite_good
    | fail_if_no_progress (with_reducible apply good_mk; with_reducible apply good_of)

theorem State.wrTime_good {z : Lasting} {s : State} (h : RegHit) (v : Nat) (hs : s.Good z) : (State.wrTime s h v).Good z := by
  unfold State.wrTime
  repeat' first
    | with_reducible assumption
    | ((try lift_lets -underBinder); intro s1; refine have_good (z := z) (s := s1) ?_ (fun h1 => ?_) <;> [subst s1; try clear_value s1])
    | ((try lift_lets -underBinder); intro x1; first | (have f1 : ∀ _, _ := x1; clear f1) | clear_value x1)
    | with_reducible apply State.wrFields_good
    | with_reducible apply State.setInc_good
    | with_reducible apply State.adjust_good
    | with_reducible apply State.setLock_good
    | with_reducible apply State.doCmpArm_good
    | with_reducible apply State.doCmpDisarm_good
    | with_reducible apply ite_good

theorem State.hostCommand_good {z : Lasting} {s : State} (v : Nat) (hs : s.Good z) : (State.hostCommand s v).Good z := by
  unfold State.hostCommand
  repeat' first
    | with_reducible assumption
    | ((try lift_lets -underBinder); intro x1; first | (have f1 : ∀ _, _ := x1; clear f1) | clear_value x1)
    | with_reducible apply State.hostFile_good
    | with_reducible apply State.doHcmdOpenEpoch_good
    | with_reducible apply State.doHcmdAbortEpoch_good
    | with_reducible apply State.wr_good
    | split

theorem State.wrSeq_good {z : Lasting} {s : State} (h : RegHit) (v : Nat) (hs : s.Good z) : (State.wrSeq s h v).Good z := by
  unfold State.wrSeq
  repeat' first
    | with_reducible assumption
    | refine fun _ => ?_
    | ((try lift_lets -underBinder); intro s1; refine have_good (z := z) (s := s1) ?_ (fun h1 => ?_) <;> [subst s1; try clear_value s1])
    | with_reducible apply State.sqEnable_good
    | with_reducible apply State.wrFields_good
    | with_reducible apply State.sqStop_good
    | with_reducible apply State.trapClear_good
    | with_reducible apply State.fireHook_good
    | with_reducible apply State.hostCommand_good
    | with_reducible apply State.netOpen_good
    | with_reducible apply ite_good
    | with_reducible apply forEach_good

theorem State.wrSolve_good {z : Lasting} {s : State} (h : RegHit) (v : Nat) (hs : s.Good z) : (State.wrSolve s h v).Good z := by
  unfold State.wrSolve
  repeat' first
    | with_reducible assumption
    | refine fun _ => ?_
    | with_reducible apply State.thenIf_good
    | with_reducible apply State.wrFields_good
    | with_reducible apply State.doWearFold_good
    | with_reducible apply State.dmapAdd_good
    | with_reducible apply State.dmapRemove_good
    | with_reducible apply State.wr_good
    | with_reducible apply State.noteLayEn_good
    | with_reducible apply State.flushLays_good
    | with_reducible apply State.doLayReopen_good
    | with_reducible apply ite_good
    | split

theorem State.setPol_good {z : Lasting} {s : State} (ch : Nat) (new : Bool) (hs : s.Good z) : (State.setPol s ch new).Good z := by
  unfold State.setPol
  repeat' first
    | with_reducible assumption
    | ((try lift_lets -underBinder); intro s1; refine have_good (z := z) (s := s1) ?_ (fun h1 => ?_) <;> [subst s1; try clear_value s1])
    | ((try lift_lets -underBinder); intro x1; first | (have f1 : ∀ _, _ := x1; clear f1) | clear_value x1)
    | with_reducible apply State.setDCtrl_good
    | with_reducible apply State.wr_good
    | split
    | fail_if_no_progress (with_reducible apply good_mk; with_reducible apply good_of)

theorem State.wrLoop_good {z : Lasting} {s : State} (h : RegHit) (v : Nat) (hs : s.Good z) : (State.wrLoop s h v).Good z := by
  unfold State.wrLoop
  repeat' first
    | with_reducible assumption
    | ((try lift_lets -underBinder); intro s1; refine have_good (z := z) (s := s1) ?_ (fun h1 => ?_) <;> [subst s1; try clear_value s1])
    | ((try lift_lets -underBinder); intro x1; first | (have f1 : ∀ _, _ := x1; clear f1) | clear_value x1)
    | with_reducible apply State.doLoopEnable_good
    | with_reducible apply State.wrFields_good
    | with_reducible apply State.wr_good
    | with_reducible apply State.markRetire_good
    | with_reducible apply State.doLoopCapStop_good
    | with_reducible apply State.doAuxLoopEnable_good
    | with_reducible apply State.wrB_good
    | with_reducible apply State.lsetAux_good
    | with_reducible apply ite_good
    | split

theorem State.wrDrive_good {z : Lasting} {s : State} (h : RegHit) (v : Nat) (hs : s.Good z) : (State.wrDrive s h v).Good z := by
  unfold State.wrDrive
  repeat' first
    | with_reducible assumption
    | refine fun _ => ?_
    | ((try lift_lets -underBinder); intro x1; first | (have f1 : ∀ _, _ := x1; clear f1) | clear_value x1)
    | with_reducible apply State.wrFields_good
    | with_reducible apply State.doDriveStrobeFire_good
    | with_reducible apply State.setPol_good
    | with_reducible apply ite_good
    | with_reducible apply forEach_good

theorem State.wrSense_good {z : Lasting} {s : State} (h : RegHit) (v : Nat) (hs : s.Good z) : (State.wrSense s h v).Good z := by
  unfold State.wrSense
  repeat' first
    | with_reducible assumption
    | refine fun _ => ?_
    | ((try lift_lets -underBinder); intro x1; first | (have f1 : ∀ _, _ := x1; clear f1) | clear_value x1)
    | with_reducible apply State.wrFields_good
    | with_reducible apply State.thenIf_good
    | with_reducible apply State.doSenseVfyReq_good
    | with_reducible apply State.calAbortAll_good
    | with_reducible apply State.calSubmit_good
    | with_reducible apply ite_good

theorem State.wrStrand_good {z : Lasting} {s : State} (h : RegHit) (v : Nat) (hs : s.Good z) : (State.wrStrand s h v).Good z := by
  unfold State.wrStrand
  repeat' first
    | with_reducible assumption
    | refine fun _ => ?_
    | ((try lift_lets -underBinder); intro s1; refine have_good (z := z) (s := s1) ?_ (fun h1 => ?_) <;> [subst s1; try clear_value s1])
    | ((try lift_lets -underBinder); intro x1; first | (have f1 : ∀ _, _ := x1; clear f1) | clear_value x1)
    | with_reducible apply State.thenIf_good
    | with_reducible apply State.wrFields_good
    | with_reducible apply State.doStrandStart_good
    | with_reducible apply State.portCmd_good
    | with_reducible apply State.doStrandStream_good
    | with_reducible apply State.streamOff_good
    | with_reducible apply State.doStrandLaneTest_good
    | with_reducible apply State.idSubmit_good
    | with_reducible apply ite_good

theorem State.badPort_good {z : Lasting} {s : State} (hs : s.Good z) : (State.badPort s).Good z := by
  unfold State.badPort
  repeat' first
    | with_reducible assumption
    | with_reducible apply State.wrB_good

theorem State.wrEntry_good {z : Lasting} {s : State} (h : RegHit) (v : Nat) (ver : Fld) (hs : s.Good z) : (State.wrEntry s h v ver).Good z := by
  unfold State.wrEntry
  repeat' first
    | with_reducible assumption
    | with_reducible apply State.wr_good
    | with_reducible apply State.wrFields_good

theorem State.wrLag_good {z : Lasting} {s : State} (h : RegHit) (v : Nat) (hs : s.Good z) : (State.wrLag s h v).Good z := by
  unfold State.wrLag
  repeat' first
    | with_reducible assumption
    | refine fun _ => ?_
    | ((try lift_lets -underBinder); intro s1; refine have_good (z := z) (s := s1) ?_ (fun h1 => ?_) <;> [subst s1; try clear_value s1])
    | ((try lift_lets -underBinder); intro x1; first | (have f1 : ∀ _, _ := x1; clear f1) | clear_value x1)
    | with_reducible apply State.badPort_good
    | with_reducible apply State.thenIf_good
    | with_reducible apply State.wrEntry_good
    | with_reducible apply State.lagHeal_good
    | with_reducible apply State.lagDeal_good
    | with_reducible apply State.doLagRejoin_good
    | with_reducible apply ite_good

theorem State.wrRoute_good {z : Lasting} {s : State} (h : RegHit) (v : Nat) (hs : s.Good z) : (State.wrRoute s h v).Good z := by
  unfold State.wrRoute
  repeat' first
    | with_reducible assumption
    | ((try lift_lets -underBinder); intro x1; first | (have f1 : ∀ _, _ := x1; clear f1) | clear_value x1)
    | with_reducible apply State.badPort_good
    | with_reducible apply State.wrB_good
    | with_reducible apply State.wrEntry_good
    | with_reducible apply ite_good

theorem State.wrSwitch_good {z : Lasting} {s : State} (h : RegHit) (v : Nat) (hs : s.Good z) : (State.wrSwitch s h v).Good z := by
  unfold State.wrSwitch
  repeat' first
    | with_reducible assumption
    | refine fun _ => ?_
    | ((try lift_lets -underBinder); intro s1; refine have_good (z := z) (s := s1) ?_ (fun h1 => ?_) <;> [subst s1; try clear_value s1])
    | ((try lift_lets -underBinder); intro x1; first | (have f1 : ∀ _, _ := x1; clear f1) | clear_value x1)
    | with_reducible apply State.thenIf_good
    | with_reducible apply State.creditSync_good
    | with_reducible apply State.wrFields_good
    | with_reducible apply State.linkDown_good
    | with_reducible apply State.wr_good
    | with_reducible apply State.hostSubmit_good
    | with_reducible apply State.doHostRxPop_good
    | with_reducible apply State.wrLag_good
    | with_reducible apply State.wrEntry_good
    | with_reducible apply State.badPort_good
    | with_reducible apply State.wrB_good
    | with_reducible apply State.wrRoute_good
    | with_reducible apply ite_good
    | with_reducible apply forEach_good

theorem State.wrSched_good {z : Lasting} {s : State} (h : RegHit) (v : Nat) (hs : s.Good z) : (State.wrSched s h v).Good z := by
  unfold State.wrSched
  repeat' first
    | with_reducible assumption
    | refine fun _ => ?_
    | ((try lift_lets -underBinder); intro s1; refine have_good (z := z) (s := s1) ?_ (fun h1 => ?_) <;> [subst s1; try clear_value s1])
    | ((try lift_lets -underBinder); intro x1; first | (have f1 : ∀ _, _ := x1; clear f1) | clear_value x1)
    | with_reducible apply State.wrFields_good
    | with_reducible apply State.holdShaper_good
    | with_reducible apply State.wr_good
    | with_reducible apply State.thenIf_good
    | with_reducible apply State.gateCommit_good
    | with_reducible apply ite_good

theorem State.pairEnable_good {z : Lasting} {s : State} (was : Bool) (hs : s.Good z) : (State.pairEnable s was).Good z := by
  unfold State.pairEnable
  repeat' first
    | with_reducible assumption
    | with_reducible apply State.nowActive_good
    | with_reducible apply State.portCmd_good
    | with_reducible apply State.setRole_good
    | with_reducible apply ite_good

theorem State.wrRedund_good {z : Lasting} {s : State} (h : RegHit) (v : Nat) (hs : s.Good z) : (State.wrRedund s h v).Good z := by
  unfold State.wrRedund
  repeat' first
    | with_reducible assumption
    | refine fun _ => ?_
    | ((try lift_lets -underBinder); intro s1; refine have_good (z := z) (s := s1) ?_ (fun h1 => ?_) <;> [subst s1; try clear_value s1])
    | with_reducible apply State.pairEnable_good
    | with_reducible apply State.wrFields_good
    | with_reducible apply State.thenIf_good
    | with_reducible apply State.surrender_good
    | with_reducible apply State.doRedundTakeback_good
    | with_reducible apply State.doRedundRestore_good
    | with_reducible apply State.doRedundWdog_good
    | with_reducible apply ite_good

theorem State.regWrite_ok {s : State} (h : RegHit) (v : Nat) (hs : s.ok = true) : (State.regWrite s h v).ok = true := by
  unfold State.regWrite
  split
  exacts [State.wrBoot_ok h v hs, State.wrBoot_ok h v hs, State.wrBoot_ok h v hs,
    ok_of_good (State.wrClk_good h v (good_self hs)), ok_of_good (State.wrClk_good h v (good_self hs)),
    ok_of_good (State.wrClk_good h v (good_self hs)), ok_of_good (State.wrFault_good h v (good_self hs)),
    ok_of_good (State.wrFault_good h v (good_self hs)), ok_of_good (State.wrTherm_good h v (good_self hs)),
    ok_of_good (State.wrTherm_good h v (good_self hs)), ok_of_good (State.wrTherm_good h v (good_self hs)),
    ok_of_good (State.wrTime_good h v (good_self hs)), ok_of_good (State.wrSeq_good h v (good_self hs)),
    ok_of_good (State.wrSolve_good h v (good_self hs)), ok_of_good (State.wrSolve_good h v (good_self hs)),
    ok_of_good (State.wrLoop_good h v (good_self hs)), ok_of_good (State.wrDrive_good h v (good_self hs)),
    ok_of_good (State.wrSense_good h v (good_self hs)), ok_of_good (State.wrSense_good h v (good_self hs)),
    ok_of_good (State.wrStrand_good h v (good_self hs)), ok_of_good (State.wrSwitch_good h v (good_self hs)),
    ok_of_good (State.wrSwitch_good h v (good_self hs)), ok_of_good (State.wrSched_good h v (good_self hs)),
    ok_of_good (State.wrRedund_good h v (good_self hs)), hs]

theorem State.writeWord_ok {s : State} (m : Nat) (h : RegHit) (v : W32) (hs : s.ok = true) : (State.writeWord s m h v).ok = true := by
  unfold State.writeWord
  repeat' first
    | with_reducible assumption
    | with_reducible apply State.regWrite_ok
    | with_reducible apply ite_ok
    | with_reducible exact ok_mk (ok_of (by with_reducible assumption))

end Sys2Proof.Machine
end

