-- ==== Sys2Proof/Laws/GoodGuard.lean ====
section
/-! SUPPORT. Every operation of Machine/Guard.lean keeps a sound state sound and, but for those named _ok, the fuses and the
flash as they are. -/

namespace Sys2Proof.Machine

theorem State.ledgerLost_good {z : Lasting} {s : State} (gen : W32) (hs : s.Good z) : (State.ledgerLost s gen).Good z := by
  unfold State.ledgerLost
  repeat' first
    | with_reducible assumption
    | refine fun _ => ?_
    | ((try lift_lets -underBinder); intro s1; refine have_good (z := z) (s := s1) ?_ (fun h1 => ?_) <;> [subst s1; try clear_value s1])
    | ((try lift_lets -underBinder); intro x1; first | (have f1 : ∀ _, _ := x1; clear f1) | clear_value x1)
    | with_reducible apply State.layDue_good
    | with_reducible apply State.raise_good
    | with_reducible apply State.wrB_good
    | with_reducible apply State.abortPlain_good
    | with_reducible apply State.withdrawLay_good
    | with_reducible apply ite_good
    | with_reducible apply forEach_good
    | split
    | fail_if_no_progress (with_reducible apply good_mk; with_reducible apply good_of)

theorem State.copyFails_good {z : Lasting} {s : State} (b : Bool) (hs : s.Good z) : (State.copyFails s b).Good z := by
  unfold State.copyFails
  repeat' first
    | with_reducible assumption
    | ((try lift_lets -underBinder); intro s1; refine have_good (z := z) (s := s1) ?_ (fun h1 => ?_) <;> [subst s1; try clear_value s1])
    | ((try lift_lets -underBinder); intro x1; first | (have f1 : ∀ _, _ := x1; clear f1) | clear_value x1)
    | with_reducible apply State.ledgerLost_good
    | with_reducible apply ite_good
    | fail_if_no_progress (with_reducible apply good_mk; with_reducible apply good_of)

theorem State.codeFails_good {z : Lasting} {s : State} (c : Nat) (hs : s.Good z) : (State.codeFails s c).Good z := by
  unfold State.codeFails
  repeat' first
    | with_reducible assumption
    | ((try lift_lets -underBinder); intro s1; refine have_good (z := z) (s := s1) ?_ (fun h1 => ?_) <;> [subst s1; try clear_value s1])
    | ((try lift_lets -underBinder); intro x1; first | (have f1 : ∀ _, _ := x1; clear f1) | clear_value x1)
    | with_reducible apply State.raise_good
    | with_reducible apply State.setCCtrl_good
    | with_reducible apply ite_good
    | split
    | fail_if_no_progress (with_reducible apply good_mk; with_reducible apply good_of)

theorem State.loopStateFails_good {z : Lasting} {s : State} (c : Nat) (hs : s.Good z) : (State.loopStateFails s c).Good z := by
  unfold State.loopStateFails
  repeat' first
    | with_reducible assumption
    | ((try lift_lets -underBinder); intro x1; first | (have f1 : ∀ _, _ := x1; clear f1) | clear_value x1)
    | with_reducible apply State.presetCell_good
    | with_reducible apply ite_good
    | fail_if_no_progress (with_reducible apply good_mk; with_reducible apply good_of)

theorem State.wearFails_good {z : Lasting} {s : State} (c : Nat) (hs : s.Good z) : (State.wearFails s c).Good z := by
  unfold State.wearFails
  repeat' first
    | with_reducible assumption
    | with_reducible apply State.setCw_good

theorem State.cellFails_good {z : Lasting} {s : State} (c : Nat) (off : Nat) (hs : s.Good z) : (State.cellFails s c off).Good z := by
  unfold State.cellFails
  repeat' first
    | with_reducible assumption
    | ((try lift_lets -underBinder); intro x1; first | (have f1 : ∀ _, _ := x1; clear f1) | clear_value x1)
    | with_reducible apply State.codeFails_good
    | with_reducible apply State.setCCtrl_good
    | with_reducible apply State.wearFails_good
    | with_reducible apply State.loopStateFails_good
    | with_reducible apply ite_good
    | fail_if_no_progress (with_reducible apply good_mk; with_reducible apply good_of)

theorem State.senseFails_good {z : Lasting} {s : State} (ch : Nat) (hs : s.Good z) : (State.senseFails s ch).Good z := by
  unfold State.senseFails
  repeat' first
    | with_reducible assumption
    | ((try lift_lets -underBinder); intro s1; refine have_good (z := z) (s := s1) ?_ (fun h1 => ?_) <;> [subst s1; try clear_value s1])
    | ((try lift_lets -underBinder); intro x1; first | (have f1 : ∀ _, _ := x1; clear f1) | clear_value x1)
    | with_reducible apply State.setSCtrl_good
    | with_reducible apply ite_good
    | fail_if_no_progress (with_reducible apply good_mk; with_reducible apply good_of)

theorem State.frameFails_good {z : Lasting} {s : State} (hs : s.Good z) : (State.frameFails s).Good z := by
  unfold State.frameFails
  repeat' first
    | with_reducible assumption
    | refine fun _ => ?_
    | ((try lift_lets -underBinder); intro s1; refine have_good (z := z) (s := s1) ?_ (fun h1 => ?_) <;> [subst s1; try clear_value s1])
    | ((try lift_lets -underBinder); intro s1; refine have_snd (z := z) (p := s1) ?_ (fun h1 => ?_) <;> [subst s1; try clear_value s1])
    | ((try lift_lets -underBinder); intro x1; first | (have f1 : ∀ _, _ := x1; clear f1) | clear_value x1)
    | with_reducible apply State.draw_good
    | with_reducible apply State.setCopies_good
    | with_reducible apply State.cutSend_good
    | with_reducible apply State.setFree_good
    | with_reducible apply State.inc_good
    | with_reducible apply ite_good
    | with_reducible apply forEach_good
    | split
    | fail_if_no_progress (with_reducible apply good_mk; with_reducible apply good_of)

theorem State.fetchFails_good {z : Lasting} {s : State} (m : Nat) (a : Nat) (hs : s.Good z) : (State.fetchFails s m a).Good z := by
  unfold State.fetchFails
  repeat' first
    | with_reducible assumption
    | ((try lift_lets -underBinder); intro x1; (have f1 : BootState := x1; clear f1); subst x1)
    | ((try lift_lets -underBinder); intro s1; refine have_good (z := z) (s := s1) ?_ (fun h1 => ?_) <;> [subst s1; try clear_value s1])
    | ((try lift_lets -underBinder); intro x1; first | (have f1 : ∀ _, _ := x1; clear f1) | clear_value x1)
    | with_reducible apply State.setSq_good
    | with_reducible apply ite_good
    | fail_if_no_progress (with_reducible apply good_mk; with_reducible apply good_of)

theorem State.parityFails_good {z : Lasting} {s : State} (m : Nat) (a : Nat) (hs : s.Good z) : (State.parityFails s m a).Good z := by
  unfold State.parityFails
  repeat' first
    | with_reducible assumption
    | ((try lift_lets -underBinder); intro s1; refine have_good (z := z) (s := s1) ?_ (fun h1 => ?_) <;> [subst s1; try clear_value s1])
    | ((try lift_lets -underBinder); intro x1; first | (have f1 : ∀ _, _ := x1; clear f1) | clear_value x1)
    | with_reducible apply State.raise_good
    | with_reducible apply State.fetchFails_good
    | with_reducible apply State.trap_good
    | with_reducible apply State.cellFails_good
    | with_reducible apply State.senseFails_good
    | with_reducible apply State.copyFails_good
    | with_reducible apply State.frameFails_good
    | with_reducible apply State.stZero_good
    | with_reducible apply ite_good
    | split
    | fail_if_no_progress (with_reducible apply good_mk; with_reducible apply good_of)

theorem State.reloadInstr_good {z : Lasting} {s : State} (idx : BitVec 16) (hs : s.Good z) : (State.reloadInstr s idx).Good z := by
  unfold State.reloadInstr
  repeat' first
    | with_reducible assumption
    | ((try lift_lets -underBinder); intro x1; (have f1 : BootState := x1; clear f1); subst x1)
    | ((try lift_lets -underBinder); intro s1; refine have_good (z := z) (s := s1) ?_ (fun h1 => ?_) <;> [subst s1; try clear_value s1])
    | with_reducible apply State.st_good
    | split
    | fail_if_no_progress (with_reducible apply good_mk; with_reducible apply good_of)

theorem execMemParity_good {z : Lasting} (addr : BitVec 32) (byMaster : Master) {s : State} (hs : s.Good z) : Answers z (execMemParity addr byMaster s) := by
  unfold execMemParity
  repeat' first
    | with_reducible assumption
    | with_reducible apply done_good
    | with_reducible apply State.parityFails_good

theorem execInstrParityReload_good {z : Lasting} (index : BitVec 16) {s : State} (hs : s.Good z) : Answers z (execInstrParityReload index s) := by
  unfold execInstrParityReload
  repeat' first
    | with_reducible assumption
    | with_reducible apply done_good
    | with_reducible apply State.reloadInstr_good
    | with_reducible apply ite_good

end Sys2Proof.Machine
end

