-- ==== Sys2Proof/Laws/GoodBus.lean ====
section
/-! SUPPORT. Every operation of Machine/Bus.lean keeps a sound state sound and, but for those named _ok, the fuses and the
flash as they are. -/

namespace Sys2Proof.Machine

theorem State.cellWrite_good {z : Lasting} {s : State} (a : Nat) (n : Nat) (v : Nat) (hs : s.Good z) : (State.cellWrite s a n v).Good z := by
  unfold State.cellWrite
  repeat' first
    | with_reducible assumption
    | ((try lift_lets -underBinder); intro s1; refine have_good (z := z) (s := s1) ?_ (fun h1 => ?_) <;> [subst s1; try clear_value s1])
    | ((try lift_lets -underBinder); intro x1; first | (have f1 : ∀ _, _ := x1; clear f1) | clear_value x1)
    | with_reducible apply State.setCw_good
    | with_reducible apply State.st_good
    | with_reducible apply State.setRow_good
    | with_reducible apply State.setCCtrl_good
    | with_reducible apply ite_good

theorem State.driveWrite_good {z : Lasting} {s : State} (a : Nat) (n : Nat) (v : Nat) (hs : s.Good z) : (State.driveWrite s a n v).Good z := by
  unfold State.driveWrite
  repeat' first
    | with_reducible assumption
    | ((try lift_lets -underBinder); intro s1; refine have_good (z := z) (s := s1) ?_ (fun h1 => ?_) <;> [subst s1; try clear_value s1])
    | ((try lift_lets -underBinder); intro x1; first | (have f1 : ∀ _, _ := x1; clear f1) | clear_value x1)
    | with_reducible apply State.st_good
    | with_reducible apply State.setDCtrl_good
    | with_reducible apply State.setPol_good
    | with_reducible apply State.setDw_good
    | with_reducible apply State.driveFault_good
    | with_reducible apply State.keepWrite_good
    | with_reducible apply State.reseed_good
    | with_reducible apply ite_good

theorem State.senseWrite_good {z : Lasting} {s : State} (a : Nat) (n : Nat) (v : Nat) (hs : s.Good z) : (State.senseWrite s a n v).Good z := by
  unfold State.senseWrite
  repeat' first
    | with_reducible assumption
    | refine fun _ => ?_
    | ((try lift_lets -underBinder); intro s1; refine have_good (z := z) (s := s1) ?_ (fun h1 => ?_) <;> [subst s1; try clear_value s1])
    | ((try lift_lets -underBinder); intro x1; first | (have f1 : ∀ _, _ := x1; clear f1) | clear_value x1)
    | with_reducible apply State.st_good
    | with_reducible apply State.setCorr_good
    | with_reducible apply State.setSw_good
    | with_reducible apply State.setSCtrl_good
    | with_reducible apply ite_good
    | with_reducible apply forEach_good

theorem State.ledgerWrite_good {z : Lasting} {s : State} (a : Nat) (n : Nat) (v : Nat) (hs : s.Good z) : (State.ledgerWrite s a n v).Good z := by
  unfold State.ledgerWrite
  repeat' first
    | with_reducible assumption
    | ((try lift_lets -underBinder); intro x1; first | (have f1 : ∀ _, _ := x1; clear f1) | clear_value x1)
    | with_reducible apply State.copyFails_good
    | with_reducible apply ite_good

theorem State.memWrite_good {z : Lasting} {s : State} (k : MemKind) (a : Nat) (n : Nat) (v : Nat) (hs : s.Good z) : (State.memWrite s k a n v).Good z := by
  unfold State.memWrite
  repeat' first
    | with_reducible assumption
    | ((try lift_lets -underBinder); intro x1; first | (have f1 : ∀ _, _ := x1; clear f1) | clear_value x1)
    | with_reducible apply State.st_good
    | with_reducible apply State.cellWrite_good
    | with_reducible apply State.driveWrite_good
    | with_reducible apply State.senseWrite_good
    | with_reducible apply State.ledgerWrite_good
    | split
    | fail_if_no_progress (with_reducible apply good_mk; with_reducible apply good_of)

theorem State.memRead_good {z : Lasting} {s : State} (k : MemKind) (a : Nat) (n : Nat) (hs : s.Good z) : (State.memRead s k a n).2.Good z := by
  unfold State.memRead
  repeat' first
    | with_reducible assumption
    | split

theorem State.rxWord_good {z : Lasting} {s : State} (a : Nat) (hs : s.Good z) : (State.rxWord s a).2.Good z := by
  unfold State.rxWord
  repeat' first
    | with_reducible assumption
    | ((try lift_lets -underBinder); intro s1; refine have_snd (z := z) (p := s1) ?_ (fun h1 => ?_) <;> [subst s1; try clear_value s1])
    | ((try lift_lets -underBinder); intro x1; first | (have f1 : ∀ _, _ := x1; clear f1) | clear_value x1)
    | with_reducible apply State.draw_good
    | with_reducible apply ite_good

theorem State.wordRead_good {z : Lasting} {s : State} (m : Nat) (a : Nat) (hs : s.Good z) : (State.wordRead s m a).2.Good z := by
  unfold State.wordRead
  repeat' first
    | with_reducible assumption
    | with_reducible apply State.rxWord_good
    | with_reducible apply State.readWord_good
    | with_reducible apply ite_snd_good
    | split

theorem State.wordWrite_ok {s : State} (m : Nat) (a : Nat) (v : W32) (hs : s.ok = true) : (State.wordWrite s m a v).ok = true := by
  unfold State.wordWrite
  repeat' first
    | with_reducible assumption
    | ((try lift_lets -underBinder); intro x1; first | (have f1 : ∀ _, _ := x1; clear f1) | clear_value x1)
    | with_reducible apply State.writeWord_ok
    | with_reducible apply ite_ok
    | split
    | with_reducible exact ok_mk (ok_of (by with_reducible assumption))

theorem State.blockRead_good {z : Lasting} {s : State} (m : Nat) (a : Nat) (n : Nat) (hs : s.Good z) : (State.blockRead s m a n).2.Good z := by
  unfold State.blockRead
  repeat' first
    | with_reducible assumption
    | ((try lift_lets -underBinder); intro s1; refine have_snd (z := z) (p := s1) ?_ (fun h1 => ?_) <;> [subst s1; try clear_value s1])
    | with_reducible apply State.wordRead_good
    | with_reducible apply ite_snd_good

theorem State.blockWrite_ok {s : State} (m : Nat) (a : Nat) (n : Nat) (v : Nat) (hs : s.ok = true) : (State.blockWrite s m a n v).ok = true := by
  unfold State.blockWrite
  repeat' first
    | with_reducible assumption
    | ((try lift_lets -underBinder); intro s1; refine have_ok (s := s1) ?_ (fun h1 => ?_) <;> [subst s1; try clear_value s1])
    | with_reducible apply State.wordWrite_ok
    | with_reducible apply ite_ok

theorem State.badAccess_good {z : Lasting} {s : State} (m : Nat) (write : Bool) (hs : s.Good z) : (State.badAccess s m write).1.Good z := by
  unfold State.badAccess
  repeat' first
    | with_reducible assumption
    | with_reducible apply State.errResponse_good
    | with_reducible apply State.inc_good

theorem State.burstError_good {z : Lasting} {s : State} (m : Nat) (a : Nat) (n : Nat) (write : Bool) (hs : s.Good z) : (State.burstError s m a n write).Good z := by
  unfold State.burstError
  repeat' first
    | with_reducible assumption
    | with_reducible apply State.busError_good
    | with_reducible apply State.inc_good

theorem State.access_ok {s : State} (m addr n : Nat) (write : Bool) (v : Nat) (hs : s.ok = true) :
    (s.access m addr n write v).1.ok = true := by
  have err : ∀ k a, (s.busError m k a write).ok = true := fun k a => ok_of_good (State.busError_good _ _ _ _ (good_self hs))
  have bad : (s.badAccess m write).1.ok = true := ok_of_good (State.badAccess_good _ _ (good_self hs))
  have rsp : (s.respond m true 0).ok = true := ok_of_good (State.respond_good _ _ _ (good_self hs))
  unfold State.access
  split
  · exact err _ _
  · split
    · exact err _ _
    · refine ite_fst_ok (err _ _) (ite_fst_ok bad (ite_fst_ok ?_ ?_))
      · exact ok_of_good (State.memWrite_good _ _ _ _ (good_self rsp))
      · exact ok_of_good (State.respond_good _ _ _ (State.memRead_good _ _ _ (good_self hs)))
    · refine ite_fst_ok (err _ _) (ite_fst_ok (ok_of_good (State.burstError_good _ _ _ _ (good_self hs))) (ite_fst_ok bad (ite_fst_ok ?_ ?_)))
      · exact State.blockWrite_ok _ _ _ _ rsp
      · exact ok_of_good (State.respond_good _ _ _ (State.blockRead_good _ _ _ (good_self hs)))

theorem State.burstBeats_ok (m : Nat) (write : Bool) : ∀ (l : List W64) (s : State) (addr : Nat), s.ok = true →
    (s.burstBeats m addr write l).1.ok = true
  | [], _, _, hs => hs
  | v :: vs, s, addr, hs => State.burstBeats_ok m write vs _ (addr + 8) (State.access_ok m addr 8 write v.toNat hs)

theorem State.memAccess_ok {s : State} (a : MemAccess) (hs : s.ok = true) : (State.memAccess s a).ok = true := by
  unfold State.memAccess
  dsimp only
  refine ite_ok ?_ (State.access_ok _ _ _ _ _ hs)
  have h := State.burstBeats_ok a.m.val a.write
    ((List.range (a.size / 8)).map (fun k => (a.data :: a.more).getD k 0)) s a.addr.toNat hs
  split
  · exact ite_ok h h
  · exact h

theorem execRegisterWrite_ok (a : RegAccess) {s : State} (hs : s.ok = true) : Sound (execRegisterWrite a s) := by
  unfold execRegisterWrite
  repeat' first
    | with_reducible assumption
    | with_reducible refine sound_of_answers (done_good  (good_self ?_))
    | with_reducible apply State.access_ok
    | with_reducible apply ite_ok

theorem execMemoryWrite_ok (a : MemAccess) {s : State} (hs : s.ok = true) : Sound (execMemoryWrite a s) := by
  unfold execMemoryWrite
  repeat' first
    | with_reducible assumption
    | with_reducible refine sound_of_answers (done_good  (good_self ?_))
    | with_reducible apply State.memAccess_ok
    | with_reducible apply ite_ok

theorem execDefaultTargetAccess_good {z : Lasting} (m : Master) (addr : BitVec 32) (isWrite : Bool) {s : State} (hs : s.Good z) : Answers z (execDefaultTargetAccess m addr isWrite s) := by
  unfold execDefaultTargetAccess
  repeat' first
    | with_reducible assumption
    | with_reducible apply done_good
    | with_reducible apply State.busError_good
    | with_reducible apply ite_good
    | split

theorem State.access_read_good {z : Lasting} {s : State} (m addr n v : Nat) (hs : s.Good z) :
    (s.access m addr n false v).1.Good z := by
  have err : ∀ k a, (s.busError m k a false).Good z := fun k a => State.busError_good _ _ _ _ hs
  have bad : (s.badAccess m false).1.Good z := State.badAccess_good _ _ hs
  unfold State.access
  split
  · exact err _ _
  · split
    · exact err _ _
    · exact ite_fst_good (err _ _) (ite_fst_good bad (State.respond_good _ _ _ (State.memRead_good _ _ _ hs)))
    · exact ite_fst_good (err _ _) (ite_fst_good (State.burstError_good _ _ _ _ hs) (ite_fst_good bad (State.respond_good _ _ _ (State.blockRead_good _ _ _ hs))))

theorem State.burstBeats_read_good {z : Lasting} (m : Nat) : ∀ (l : List W64) (s : State) (addr : Nat), s.Good z →
    (s.burstBeats m addr false l).1.Good z
  | [], _, _, hs => hs
  | v :: vs, s, addr, hs => State.burstBeats_read_good m vs _ (addr + 8) (State.access_read_good m addr 8 v.toNat hs)

theorem State.memAccess_read_good {z : Lasting} {s : State} (a : MemAccess) (h : a.write = false) (hs : s.Good z) :
    (s.memAccess a).Good z := by
  unfold State.memAccess
  dsimp only
  rw [h]
  refine ite_good ?_ (State.access_read_good _ _ _ _ hs)
  have h := State.burstBeats_read_good a.m.val
    ((List.range (a.size / 8)).map (fun k => (a.data :: a.more).getD k 0)) s a.addr.toNat hs
  split
  · exact ite_good h h
  · exact h

theorem State.accessEnd_good {z : Lasting} {q : Fin 8} {pc : BitVec 16} {r : State × Option Nat} {f : State → Nat → State} (h : r.1.Good z)
    (hf : ∀ s v, s.Good z → (f s v).Good z) : (State.accessEnd q pc r f).Good z := by
  unfold State.accessEnd
  split
  · exact hf _ _ h
  · exact State.trap_good _ _ (State.setSq_good _ _ h)

theorem execRdx_good {z : Lasting} (q : Fin 8) (w : Fields) {s : State} (hs : s.Good z) : Answers z (execRdx q w s) := by
  refine execEngine_good (fun s x h => ?_) hs
  refine ite_allows allows_error (ite_allows (allows_ok h) (allows_ok ?_))
  exact State.accessEnd_good (State.access_read_good _ _ _ _ (State.sqNext_good _ h)) fun s v h => State.setSq_good _ _ h

theorem execRegisterWrite_read {z : Lasting} (a : RegAccess) {s : State} (h : a.write = false) (hs : s.Good z) :
    Answers z (execRegisterWrite a s) := by
  unfold execRegisterWrite
  rw [h]
  exact done_good (ite_good (State.access_read_good _ _ _ _ hs) hs)

theorem execMemoryWrite_read {z : Lasting} (a : MemAccess) {s : State} (h : a.write = false) (hs : s.Good z) :
    Answers z (execMemoryWrite a s) := by
  unfold execMemoryWrite
  exact done_good (ite_good (State.memAccess_read_good _ h hs) hs)

theorem answer_good {z : Lasting} (m : Nat) {r : Nat × State} (h : r.2.Good z) : (answer m r).1.Good z := State.respond_good _ _ _ h

theorem State.accessEnd_ok {q : Fin 8} {pc : BitVec 16} {r : State × Option Nat} {f : State → Nat → State} (h : r.1.ok = true)
    (hf : ∀ s v, s.ok = true → (f s v).ok = true) : (State.accessEnd q pc r f).ok = true := by
  unfold State.accessEnd
  split
  · exact hf _ _ h
  · exact ok_of_good (State.trap_good _ _ (State.setSq_good _ _ (good_self h)))

theorem execWrx_ok (q : Fin 8) (w : Fields) {s : State} (hs : s.ok = true) : Sound (execWrx q w s) := by
  refine execEngine_sound (fun x t h => ?_) hs
  dsimp only at h
  split at h
  · nomatch h
  · split at h
    · exact Except.ok.inj h ▸ hs
    · refine Except.ok.inj h ▸ State.accessEnd_ok ?_ ?_
      · exact State.access_ok _ _ _ _ _ (ok_of_good (State.sqNext_good _ (good_self hs)))
      · exact fun s v h => h

end Sys2Proof.Machine
end

