-- ==== Sys2Proof/Laws/GoodBoot.lean ====
section
/-! SUPPORT. Every operation of Machine/Boot.lean keeps a sound state sound and, but for those named _ok, the fuses and the
flash as they are. -/

namespace Sys2Proof.Machine

theorem State.heldReset_good {z : Lasting} {s : State} (cause : Nat) (hs : s.Good z) : (State.heldReset s cause).Good z := by
  unfold State.heldReset
  repeat' first
    | with_reducible assumption
    | with_reducible apply State.deviceReset_good

theorem execPowerOnReset_good {z : Lasting} {s : State} (hs : s.Good z) : Answers z (execPowerOnReset s) := by
  unfold execPowerOnReset
  repeat' first
    | with_reducible assumption
    | with_reducible apply done_good
    | with_reducible apply State.heldReset_good

theorem execResetNReset_good {z : Lasting} {s : State} (hs : s.Good z) : Answers z (execResetNReset s) := by
  unfold execResetNReset
  repeat' first
    | with_reducible assumption
    | with_reducible apply done_good
    | with_reducible apply State.heldReset_good

theorem execSoftReset_good {z : Lasting} {s : State} (hs : s.Good z) : Answers z (execSoftReset s) := by
  unfold execSoftReset
  repeat' first
    | with_reducible assumption
    | with_reducible apply done_good
    | with_reducible apply State.warmReset_good

theorem execDebugReset_good {z : Lasting} {s : State} (hs : s.Good z) : Answers z (execDebugReset s) := by
  unfold execDebugReset
  repeat' first
    | with_reducible assumption
    | with_reducible apply done_good
    | with_reducible apply State.warmReset_good
    | with_reducible apply ite_good

theorem execResetRelease_good {z : Lasting} {s : State} (hs : s.Good z) : Answers z (execResetRelease s) := by
  unfold execResetRelease
  repeat' first
    | with_reducible assumption
    | with_reducible apply done_good
    | with_reducible apply State.bootBegin_good
    | with_reducible apply ite_good

theorem State.loadSection_good {z : Lasting} {s : State} (x : Nat × Nat × List Byte) (hs : s.Good z) : (State.loadSection s x).Good z := by
  unfold State.loadSection
  repeat' first
    | with_reducible assumption
    | with_reducible apply State.stBytes_good
    | with_reducible apply ite_good

theorem State.loadReg_ok {s : State} (e : Nat × Nat × Nat) (hs : s.ok = true) : (State.loadReg s e).ok = true := by
  unfold State.loadReg
  repeat' first
    | with_reducible assumption
    | with_reducible apply State.access_ok
    | with_reducible apply ite_ok

theorem State.programEnd_good {z : Lasting} {s : State} (im : BootImage) (hs : s.Good z) : (State.programEnd s im).Good z := by
  unfold State.programEnd
  repeat' first
    | with_reducible assumption
    | ((try lift_lets -underBinder); intro x1; (have f1 : BootState := x1; clear f1); subst x1)
    | ((try lift_lets -underBinder); intro s1; refine have_good (z := z) (s := s1) ?_ (fun h1 => ?_) <;> [subst s1; try clear_value s1])
    | ((try lift_lets -underBinder); intro x1; first | (have f1 : ∀ _, _ := x1; clear f1) | clear_value x1)
    | with_reducible apply State.applyCompat_good
    | with_reducible apply State.wr_good
    | split
    | fail_if_no_progress (with_reducible apply good_mk; with_reducible apply good_of)

theorem State.programLoad_ok {s : State} (im : BootImage) (hs : s.ok = true) : (State.programLoad s im).ok = true := by
  unfold State.programLoad
  repeat' first
    | with_reducible assumption
    | refine fun _ => ?_
    | ((try lift_lets -underBinder); intro s1; refine have_ok (s := s1) ?_ (fun h1 => ?_) <;> [subst s1; try clear_value s1])
    | with_reducible refine ok_of_good (State.loadSection_good _ (good_self ?_))
    | with_reducible apply State.loadReg_ok
    | with_reducible refine ok_of_good (State.programEnd_good _ (good_self ?_))
    | with_reducible apply ite_ok
    | with_reducible apply forEach_ok

theorem State.stepDone_ok {s : State} (hs : s.ok = true) : (State.stepDone s).ok = true := by
  unfold State.stepDone
  split
  · exact ok_of_good (State.fuseLoad_good (good_self hs))
  · exact ok_of_good (State.bootDiscover_good (good_self hs))
  · exact ok_of_good (State.bootLoad_good (good_self hs))
  · exact ok_of_good (State.bootVerify_good (good_self hs))
  · exact ok_of_good (State.bootWipe_good (good_self hs))
  · split
    · exact State.programLoad_ok _ hs
    · exact hs
  · split
    · exact ok_of_good (State.eclosion_good _ (good_self hs))
    · exact hs
  · exact hs

theorem execStartupStepDone_ok {s : State} (hs : s.ok = true) : Sound (execStartupStepDone s) := by
  unfold execStartupStepDone
  repeat' first
    | with_reducible assumption
    | with_reducible refine sound_of_answers (done_good  (good_self ?_))
    | with_reducible apply State.stepDone_ok

theorem execFlashRead_good {z : Lasting} (addr : BitVec 32) {s : State} (hs : s.Good z) : Answers z (execFlashRead addr s) := by
  unfold execFlashRead
  repeat' first
    | with_reducible assumption
    | with_reducible apply done_good
    | with_reducible apply State.flashSubmit_good

theorem execFlashProgram_good {z : Lasting} (addr : BitVec 32) {s : State} (hs : s.Good z) : Answers z (execFlashProgram addr s) := by
  unfold execFlashProgram
  repeat' first
    | with_reducible assumption
    | with_reducible apply done_good
    | with_reducible apply State.flashSubmit_good

theorem execFlashErase4k_good {z : Lasting} (addr : BitVec 32) {s : State} (hs : s.Good z) : Answers z (execFlashErase4k addr s) := by
  unfold execFlashErase4k
  repeat' first
    | with_reducible assumption
    | with_reducible apply done_good
    | with_reducible apply State.flashSubmit_good

theorem execFlashErase64k_good {z : Lasting} (addr : BitVec 32) {s : State} (hs : s.Good z) : Answers z (execFlashErase64k addr s) := by
  unfold execFlashErase64k
  repeat' first
    | with_reducible assumption
    | with_reducible apply done_good
    | with_reducible apply State.flashSubmit_good

theorem execFlashCmdDone_ok (ok : Bool) {s : State} (hs : s.ok = true) : Sound (execFlashCmdDone ok s) := by
  unfold execFlashCmdDone
  repeat' first
    | with_reducible assumption
    | with_reducible refine sound_of_answers (done_good  (good_self ?_))
    | with_reducible apply State.flashEnd_ok

theorem execFlashQueueIssue_good {z : Lasting} {s : State} (hs : s.Good z) : Answers z (execFlashQueueIssue s) := by
  unfold execFlashQueueIssue
  repeat' first
    | with_reducible assumption
    | with_reducible apply done_good
    | with_reducible apply State.flashIssue_good

theorem execLcNonce_good {z : Lasting} {s : State} (hs : s.Good z) : Answers z (execLcNonce s) := by
  unfold execLcNonce
  repeat' first
    | with_reducible assumption
    | with_reducible apply done_good
    | with_reducible apply State.lcNonce_good

theorem execLcGo_ok (target : BitVec 3) {s : State} (hs : s.ok = true) : Sound (execLcGo target s) := by
  unfold execLcGo
  repeat' first
    | with_reducible assumption
    | with_reducible refine sound_of_answers (done_good  (good_self ?_))
    | with_reducible apply State.lcGo_ok

end Sys2Proof.Machine
end

