-- ==== Sys2Proof/Laws/GoodDispatch.lean ====
section
/-! SUPPORT. Every operation of Machine/Dispatch.lean keeps a sound state sound and, but for those named _ok, the fuses and the
flash as they are. -/

namespace Sys2Proof.Machine

theorem exec_ok (i : Instr) {s : State} (hs : s.ok = true) : Sound (exec i s) := by
  cases i with
  | registerWrite => exact execRegisterWrite_ok _ hs
  | memoryWrite => exact execMemoryWrite_ok _ hs
  | defaultTargetAccess => exact sound_of_answers (execDefaultTargetAccess_good _ _ _ (good_self hs))
  | powerOnReset => exact sound_of_answers (execPowerOnReset_good  (good_self hs))
  | resetNReset => exact sound_of_answers (execResetNReset_good  (good_self hs))
  | softReset => exact sound_of_answers (execSoftReset_good  (good_self hs))
  | debugReset => exact sound_of_answers (execDebugReset_good  (good_self hs))
  | pcieFlr => exact sound_of_answers (execPcieFlr_good _ (good_self hs))
  | lcNonce => exact sound_of_answers (execLcNonce_good  (good_self hs))
  | lcGo => exact execLcGo_ok _ hs
  | flashRead => exact sound_of_answers (execFlashRead_good _ (good_self hs))
  | flashProgram => exact sound_of_answers (execFlashProgram_good _ (good_self hs))
  | flashErase4k => exact sound_of_answers (execFlashErase4k_good _ (good_self hs))
  | flashErase64k => exact sound_of_answers (execFlashErase64k_good _ (good_self hs))
  | flashCmdDone => exact execFlashCmdDone_ok _ hs
  | flashQueueIssue => exact sound_of_answers (execFlashQueueIssue_good  (good_self hs))
  | nop => exact sound_of_answers (execNop_good _ _ (good_self hs))
  | add => exact sound_of_answers (execAdd_good _ _ (good_self hs))
  | sub => exact sound_of_answers (execSub_good _ _ (good_self hs))
  | mul => exact sound_of_answers (execMul_good _ _ (good_self hs))
  | mulhu => exact sound_of_answers (execMulhu_good _ _ (good_self hs))
  | divu => exact sound_of_answers (execDivu_good _ _ (good_self hs))
  | remu => exact sound_of_answers (execRemu_good _ _ (good_self hs))
  | and => exact sound_of_answers (execAnd_good _ _ (good_self hs))
  | or => exact sound_of_answers (execOr_good _ _ (good_self hs))
  | xor => exact sound_of_answers (execXor_good _ _ (good_self hs))
  | shl => exact sound_of_answers (execShl_good _ _ (good_self hs))
  | shr => exact sound_of_answers (execShr_good _ _ (good_self hs))
  | sar => exact sound_of_answers (execSar_good _ _ (good_self hs))
  | addi => exact sound_of_answers (execAddi_good _ _ (good_self hs))
  | andi => exact sound_of_answers (execAndi_good _ _ (good_self hs))
  | ori => exact sound_of_answers (execOri_good _ _ (good_self hs))
  | xori => exact sound_of_answers (execXori_good _ _ (good_self hs))
  | shli => exact sound_of_answers (execShli_good _ _ (good_self hs))
  | shri => exact sound_of_answers (execShri_good _ _ (good_self hs))
  | sari => exact sound_of_answers (execSari_good _ _ (good_self hs))
  | movi => exact sound_of_answers (execMovi_good _ _ (good_self hs))
  | movhi => exact sound_of_answers (execMovhi_good _ _ (good_self hs))
  | min => exact sound_of_answers (execMin_good _ _ (good_self hs))
  | max => exact sound_of_answers (execMax_good _ _ (good_self hs))
  | minu => exact sound_of_answers (execMinu_good _ _ (good_self hs))
  | maxu => exact sound_of_answers (execMaxu_good _ _ (good_self hs))
  | popc => exact sound_of_answers (execPopc_good _ _ (good_self hs))
  | clz => exact sound_of_answers (execClz_good _ _ (good_self hs))
  | bfx => exact sound_of_answers (execBfx_good _ _ (good_self hs))
  | bfi => exact sound_of_answers (execBfi_good _ _ (good_self hs))
  | cmp => exact sound_of_answers (execCmp_good _ _ (good_self hs))
  | cmpi => exact sound_of_answers (execCmpi_good _ _ (good_self hs))
  | pand => exact sound_of_answers (execPand_good _ _ (good_self hs))
  | pxor => exact sound_of_answers (execPxor_good _ _ (good_self hs))
  | por => exact sound_of_answers (execPor_good _ _ (good_self hs))
  | pnot => exact sound_of_answers (execPnot_good _ _ (good_self hs))
  | pget => exact sound_of_answers (execPget_good _ _ (good_self hs))
  | pput => exact sound_of_answers (execPput_good _ _ (good_self hs))
  | sqid => exact sound_of_answers (execSqid_good _ _ (good_self hs))
  | rdcyc => exact sound_of_answers (execRdcyc_good _ _ (good_self hs))
  | fadd => exact sound_of_answers (execFadd_good _ _ (good_self hs))
  | fsub => exact sound_of_answers (execFsub_good _ _ (good_self hs))
  | fmul => exact sound_of_answers (execFmul_good _ _ (good_self hs))
  | fdiv => exact sound_of_answers (execFdiv_good _ _ (good_self hs))
  | fsqrt => exact sound_of_answers (execFsqrt_good _ _ (good_self hs))
  | fma => exact sound_of_answers (execFma_good _ _ (good_self hs))
  | fmin => exact sound_of_answers (execFmin_good _ _ (good_self hs))
  | fmax => exact sound_of_answers (execFmax_good _ _ (good_self hs))
  | fabs => exact sound_of_answers (execFabs_good _ _ (good_self hs))
  | fneg => exact sound_of_answers (execFneg_good _ _ (good_self hs))
  | fcmp => exact sound_of_answers (execFcmp_good _ _ (good_self hs))
  | fcvtSL => exact sound_of_answers (execFcvtSL_good _ _ (good_self hs))
  | fcvtLS => exact sound_of_answers (execFcvtLS_good _ _ (good_self hs))
  | fmovi => exact sound_of_answers (execFmovi_good _ _ (good_self hs))
  | fmvgf => exact sound_of_answers (execFmvgf_good _ _ (good_self hs))
  | fmvfg => exact sound_of_answers (execFmvfg_good _ _ (good_self hs))
  | ld => exact sound_of_answers (execLd_good _ _ (good_self hs))
  | st => exact sound_of_answers (execSt_good _ _ (good_self hs))
  | fld => exact sound_of_answers (execFld_good _ _ (good_self hs))
  | fst => exact sound_of_answers (execFst_good _ _ (good_self hs))
  | cas => exact sound_of_answers (execCas_good _ _ (good_self hs))
  | aadd => exact sound_of_answers (execAadd_good _ _ (good_self hs))
  | rdx => exact sound_of_answers (execRdx_good _ _ (good_self hs))
  | wrx => exact execWrx_ok _ _ hs
  | fence => exact sound_of_answers (execFence_good _ _ (good_self hs))
  | fenceDone => exact sound_of_answers (execFenceDone_good _ (good_self hs))
  | br => exact sound_of_answers (execBr_good _ _ (good_self hs))
  | jmp => exact sound_of_answers (execJmp_good _ _ (good_self hs))
  | call => exact sound_of_answers (execCall_good _ _ (good_self hs))
  | callr => exact sound_of_answers (execCallr_good _ _ (good_self hs))
  | loop => exact sound_of_answers (execLoop_good _ _ (good_self hs))
  | illegalOpcode => exact sound_of_answers (execIllegalOpcode_good _ _ (good_self hs))
  | unpin => exact sound_of_answers (execUnpin_good _ _ (good_self hs))
  | disc => exact sound_of_answers (execDisc_good _ _ (good_self hs))
  | conn => exact sound_of_answers (execConn_good _ _ (good_self hs))
  | pin => exact sound_of_answers (execPin_good _ _ (good_self hs))
  | ledgerStallResume => exact sound_of_answers (execLedgerStallResume_good _ (good_self hs))
  | epoch => exact sound_of_answers (execEpoch_good _ _ (good_self hs))
  | abort => exact sound_of_answers (execAbort_good _ _ (good_self hs))
  | abortResolved => exact sound_of_answers (execAbortResolved_good _ (good_self hs))
  | solve => exact sound_of_answers (execSolve_good _ _ (good_self hs))
  | trialSolveDone => exact sound_of_answers (execTrialSolveDone_good _ (good_self hs))
  | stage => exact sound_of_answers (execStage_good _ _ (good_self hs))
  | lay => exact sound_of_answers (execLay_good _ _ (good_self hs))
  | layEpochEnd => exact sound_of_answers (execLayEpochEnd_good _ (good_self hs))
  | verify => exact sound_of_answers (execVerify_good _ _ (good_self hs))
  | readwIn => exact sound_of_answers (execReadwIn_good _ _ (good_self hs))
  | readwOut => exact sound_of_answers (execReadwOut_good _ _ (good_self hs))
  | readwCell => exact sound_of_answers (execReadwCell_good _ _ (good_self hs))
  | readwSt => exact sound_of_answers (execReadwSt_good _ _ (good_self hs))
  | readwStFinal => exact sound_of_answers (execReadwStFinal_good _ (good_self hs))
  | readwStable => exact sound_of_answers (execReadwStable_good _ _ (good_self hs))
  | lset => exact sound_of_answers (execLset_good _ _ (good_self hs))
  | lmode => exact sound_of_answers (execLmode_good _ _ (good_self hs))
  | lpreset => exact sound_of_answers (execLpreset_good _ _ (good_self hs))
  | linj => exact sound_of_answers (execLinj_good _ _ (good_self hs))
  | lcap => exact sound_of_answers (execLcap_good _ _ (good_self hs))
  | send => exact sound_of_answers (execSend_good _ _ (good_self hs))
  | sendQueueRoom => exact sound_of_answers (execSendQueueRoom_good _ (good_self hs))
  | recv => exact sound_of_answers (execRecv_good _ _ (good_self hs))
  | recvFrameReady => exact sound_of_answers (execRecvFrameReady_good _ (good_self hs))
  | recvN => exact sound_of_answers (execRecvN_good _ _ (good_self hs))
  | ack => exact sound_of_answers (execAck_good _ _ (good_self hs))
  | waitt => exact sound_of_answers (execWaitt_good _ _ (good_self hs))
  | waittResume => exact sound_of_answers (execWaittResume_good _ (good_self hs))
  | waite => exact sound_of_answers (execWaite_good _ _ (good_self hs))
  | waiteResume => exact sound_of_answers (execWaiteResume_good _ (good_self hs))
  | tnow => exact sound_of_answers (execTnow_good _ _ (good_self hs))
  | hist => exact sound_of_answers (execHist_good _ _ (good_self hs))
  | fraise => exact sound_of_answers (execFraise_good _ _ (good_self hs))
  | fack => exact sound_of_answers (execFack_good _ _ (good_self hs))
  | halt => exact sound_of_answers (execHalt_good _ _ (good_self hs))
  | sleep => exact sound_of_answers (execSleep_good _ _ (good_self hs))
  | sleepWake => exact sound_of_answers (execSleepWake_good _ (good_self hs))
  | sync => exact sound_of_answers (execSync_good _ _ (good_self hs))
  | trap => exact sound_of_answers (execTrap_good _ _ (good_self hs))
  | hookStart => exact sound_of_answers (execHookStart_good _ (good_self hs))
  | sqStop => exact sound_of_answers (execSqStop_good _ (good_self hs))
  | sqEn => exact sound_of_answers (execSqEn_good _ (good_self hs))
  | trapClr => exact sound_of_answers (execTrapClr_good _ (good_self hs))
  | seqDoorbell => exact sound_of_answers (execSeqDoorbell_good _ (good_self hs))
  | hcmdUnpin => exact sound_of_answers (execHcmdUnpin_good _ (good_self hs))
  | hcmdDisc => exact sound_of_answers (execHcmdDisc_good _ (good_self hs))
  | hcmdConn => exact sound_of_answers (execHcmdConn_good _ (good_self hs))
  | hcmdPin => exact sound_of_answers (execHcmdPin_good _ (good_self hs))
  | hcmdOpenEpoch => exact sound_of_answers (execHcmdOpenEpoch_good _ _ (good_self hs))
  | hcmdAbortEpoch => exact sound_of_answers (execHcmdAbortEpoch_good _ (good_self hs))
  | seqEntryRead => exact sound_of_answers (execSeqEntryRead_good _ _ (good_self hs))
  | entryDeliveryTimeout => exact sound_of_answers (execEntryDeliveryTimeout_good _ (good_self hs))
  | sealEpoch => exact sound_of_answers (execSeal_good _ (good_self hs))
  | epochEvaluateDeferred => exact sound_of_answers (execEpochEvaluateDeferred_good _ (good_self hs))
  | slotFreedSolve => exact sound_of_answers (execSlotFreedSolve_good _ (good_self hs))
  | solveDone => exact sound_of_answers (execSolveDone_good  (good_self hs))
  | weaveResolve => exact sound_of_answers (execWeaveResolve_good _ (good_self hs))
  | stageWeave => exact sound_of_answers (execStageWeave_good _ (good_self hs))
  | stagingDeadline => exact sound_of_answers (execStagingDeadline_good _ (good_self hs))
  | layInstant => exact sound_of_answers (execLayInstant_good _ (good_self hs))
  | layStrobe => exact sound_of_answers (execLayStrobe_good  (good_self hs))
  | layHandBack => exact sound_of_answers (execLayHandBack_good  (good_self hs))
  | settleCheck => exact sound_of_answers (execSettleCheck_good  (good_self hs))
  | unblank => exact sound_of_answers (execUnblank_good  (good_self hs))
  | layComplete => exact sound_of_answers (execLayComplete_good  (good_self hs))
  | laggingCheck => exact sound_of_answers (execLaggingCheck_good  (good_self hs))
  | layReopen => exact sound_of_answers (execLayReopen_good _ (good_self hs))
  | layEnable => exact sound_of_answers (execLayEnable_good _ (good_self hs))
  | layFlush => exact sound_of_answers (execLayFlush_good  (good_self hs))
  | restoringLayStart => exact sound_of_answers (execRestoringLayStart_good  (good_self hs))
  | outboundFrame => exact sound_of_answers (execOutboundFrame_good  (good_self hs))
  | driveStrobeFire => exact sound_of_answers (execDriveStrobeFire_good _ (good_self hs))
  | driveRecordRebuild => exact sound_of_answers (execDriveRecordRebuild_good _ (good_self hs))
  | inboundFrame => exact sound_of_answers (execInboundFrame_good _ (good_self hs))
  | loopPeriod => exact sound_of_answers (execLoopPeriod_good  (good_self hs))
  | gradientBlock => exact sound_of_answers (execGradientBlock_good  (good_self hs))
  | knownAnswerTest => exact sound_of_answers (execKnownAnswerTest_good _ (good_self hs))
  | loopCoreRetire => exact sound_of_answers (execLoopCoreRetire_good _ (good_self hs))
  | loopEnable => exact sound_of_answers (execLoopEnable_good _ (good_self hs))
  | loopCapStop => exact sound_of_answers (execLoopCapStop_good _ (good_self hs))
  | captureDone => exact sound_of_answers (execCaptureDone_good _ (good_self hs))
  | injectionEnd => exact sound_of_answers (execInjectionEnd_good _ (good_self hs))
  | auxLoopEnable => exact sound_of_answers (execAuxLoopEnable_good _ (good_self hs))
  | calReq => exact sound_of_answers (execCalReq_good _ _ (good_self hs))
  | calRunStart => exact sound_of_answers (execCalRunStart_good  (good_self hs))
  | calDwell => exact sound_of_answers (execCalDwell_good _ (good_self hs))
  | calRunEnd => exact sound_of_answers (execCalRunEnd_good _ (good_self hs))
  | senseCalStep => exact sound_of_answers (execSenseCalStep_good _ (good_self hs))
  | senseCalRunEnd => exact sound_of_answers (execSenseCalRunEnd_good _ (good_self hs))
  | blendStart => exact sound_of_answers (execBlendStart_good  (good_self hs))
  | passiveObservation => exact sound_of_answers (execPassiveObservation_good  (good_self hs))
  | passiveExpire => exact sound_of_answers (execPassiveExpire_good _ (good_self hs))
  | calEnable => exact sound_of_answers (execCalEnable_good _ (good_self hs))
  | calAbort => exact sound_of_answers (execCalAbort_good  (good_self hs))
  | calAreaReload => exact sound_of_answers (execCalAreaReload_good _ _ (good_self hs))
  | strandStart => exact sound_of_answers (execStrandStart_good  (good_self hs))
  | linkTrained => exact sound_of_answers (execLinkTrained_good _ (good_self hs))
  | linkAligned => exact sound_of_answers (execLinkAligned_good _ (good_self hs))
  | cartAuthResponse => exact sound_of_answers (execCartAuthResponse_good _ (good_self hs))
  | linkIdentified => exact sound_of_answers (execLinkIdentified_good _ (good_self hs))
  | strandStream => exact sound_of_answers (execStrandStream_good  (good_self hs))
  | streamEchoReady => exact sound_of_answers (execStreamEchoReady_good  (good_self hs))
  | strandStop => exact sound_of_answers (execStrandStop_good  (good_self hs))
  | portReq => exact sound_of_answers (execPortReq_good  (good_self hs))
  | portRel => exact sound_of_answers (execPortRel_good  (good_self hs))
  | laneFailure => exact sound_of_answers (execLaneFailure_good _ (good_self hs))
  | spareSwitch => exact sound_of_answers (execSpareSwitch_good  (good_self hs))
  | strandLaneTest => exact sound_of_answers (execStrandLaneTest_good _ (good_self hs))
  | laneTestEnd => exact sound_of_answers (execLaneTestEnd_good _ _ (good_self hs))
  | idRead => exact sound_of_answers (execIdRead_good _ (good_self hs))
  | idWrite => exact sound_of_answers (execIdWrite_good _ _ (good_self hs))
  | writeBack => exact sound_of_answers (execWriteBack_good  (good_self hs))
  | poweredHour => exact sound_of_answers (execPoweredHour_good  (good_self hs))
  | wearFold => exact sound_of_answers (execWearFold_good  (good_self hs))
  | dmapAdd => exact sound_of_answers (execDmapAdd_good _ (good_self hs))
  | dmapRemove => exact sound_of_answers (execDmapRemove_good _ (good_self hs))
  | memParity => exact sound_of_answers (execMemParity_good _ _ (good_self hs))
  | instrParityReload => exact sound_of_answers (execInstrParityReload_good _ (good_self hs))
  | commandFrame => exact sound_of_answers (execCommandFrame_good _ (good_self hs))
  | statusFrame => exact sound_of_answers (execStatusFrame_good _ (good_self hs))
  | dataFrame => exact sound_of_answers (execDataFrame_good _ (good_self hs))
  | ackFrame => exact sound_of_answers (execAckFrame_good _ (good_self hs))
  | query => exact sound_of_answers (execQuery_good _ (good_self hs))
  | reply => exact sound_of_answers (execReply_good _ (good_self hs))
  | commandRetransmit => exact sound_of_answers (execCommandRetransmit_good _ _ _ (good_self hs))
  | seqNetOpen => exact sound_of_answers (execSeqNetOpen_good _ (good_self hs))
  | prepare => exact sound_of_answers (execPrepare_good _ (good_self hs))
  | ready => exact sound_of_answers (execReady_good _ (good_self hs))
  | readyDeadline => exact sound_of_answers (execReadyDeadline_good _ (good_self hs))
  | commit => exact sound_of_answers (execCommit_good _ (good_self hs))
  | abortFrame => exact sound_of_answers (execAbortFrame_good _ (good_self hs))
  | missed => exact sound_of_answers (execMissed_good _ (good_self hs))
  | landed => exact sound_of_answers (execLanded_good _ (good_self hs))
  | stable => exact sound_of_answers (execStable_good _ (good_self hs))
  | braidFrameRx => exact sound_of_answers (execBraidFrameRx_good _ _ (good_self hs))
  | transmitStart => exact sound_of_answers (execTransmitStart_good _ (good_self hs))
  | transmitEnd => exact sound_of_answers (execTransmitEnd_good _ (good_self hs))
  | braidLinkDown => exact sound_of_answers (execBraidLinkDown_good _ (good_self hs))
  | braidLinkUp => exact sound_of_answers (execBraidLinkUp_good _ (good_self hs))
  | lagRejoin => exact sound_of_answers (execLagRejoin_good _ (good_self hs))
  | lagRejoinDone => exact sound_of_answers (execLagRejoinDone_good _ (good_self hs))
  | gateCommit => exact sound_of_answers (execGateCommit_good _ (good_self hs))
  | gateListStart => exact sound_of_answers (execGateListStart_good _ (good_self hs))
  | gateEntryChange => exact sound_of_answers (execGateEntryChange_good _ (good_self hs))
  | queueSample => exact sound_of_answers (execQueueSample_good  (good_self hs))
  | switchHostTx => exact sound_of_answers (execSwitchHostTx_good _ (good_self hs))
  | hostFrameEnter => exact sound_of_answers (execHostFrameEnter_good  (good_self hs))
  | hostRxPop => exact sound_of_answers (execHostRxPop_good  (good_self hs))
  | timeInc => exact sound_of_answers (execTimeInc_good _ _ (good_self hs))
  | timeAdj => exact sound_of_answers (execTimeAdj_good _ _ (good_self hs))
  | slewEnd => exact sound_of_answers (execSlewEnd_good  (good_self hs))
  | lockAssert => exact sound_of_answers (execLockAssert_good _ (good_self hs))
  | lockClear => exact sound_of_answers (execLockClear_good _ (good_self hs))
  | lockExpire => exact sound_of_answers (execLockExpire_good _ (good_self hs))
  | cmpArm => exact sound_of_answers (execCmpArm_good _ _ (good_self hs))
  | cmpDisarm => exact sound_of_answers (execCmpDisarm_good _ (good_self hs))
  | cmpFire => exact sound_of_answers (execCmpFire_good _ (good_self hs))
  | ppsOutPulse => exact sound_of_answers (execPpsOutPulse_good  (good_self hs))
  | ppsInEdge => exact sound_of_answers (execPpsInEdge_good  (good_self hs))
  | laySyncOutPulse => exact sound_of_answers (execLaySyncOutPulse_good  (good_self hs))
  | laySyncInEdge => exact sound_of_answers (execLaySyncInEdge_good  (good_self hs))
  | heartbeatSend => exact sound_of_answers (execHeartbeatSend_good  (good_self hs))
  | heartbeatFrameRx => exact sound_of_answers (execHeartbeatFrameRx_good _ (good_self hs))
  | heartbeatPulseIn => exact sound_of_answers (execHeartbeatPulseIn_good _ (good_self hs))
  | redundSurrender => exact sound_of_answers (execRedundSurrender_good  (good_self hs))
  | peerLost => exact sound_of_answers (execPeerLost_good  (good_self hs))
  | hbPath => exact sound_of_answers (execHbPath_good  (good_self hs))
  | failoverGrant => exact sound_of_answers (execFailoverGrant_good  (good_self hs))
  | failoverEchoReady => exact sound_of_answers (execFailoverEchoReady_good  (good_self hs))
  | failoverGrantTimeout => exact sound_of_answers (execFailoverGrantTimeout_good  (good_self hs))
  | redundWdog => exact sound_of_answers (execRedundWdog_good  (good_self hs))
  | watchdogExpire => exact sound_of_answers (execWatchdogExpire_good  (good_self hs))
  | ckptRecordRx => exact sound_of_answers (execCkptRecordRx_good _ (good_self hs))
  | ckptGapTimeout => exact sound_of_answers (execCkptGapTimeout_good  (good_self hs))
  | ckptResyncDone => exact sound_of_answers (execCkptResyncDone_good  (good_self hs))
  | shadowSend => exact sound_of_answers (execShadowSend_good  (good_self hs))
  | marchPassEnd => exact sound_of_answers (execMarchPassEnd_good _ (good_self hs))
  | takebackHoldoff => exact sound_of_answers (execTakebackHoldoff_good  (good_self hs))
  | redundTakeback => exact sound_of_answers (execRedundTakeback_good  (good_self hs))
  | takebackQuiesced => exact sound_of_answers (execTakebackQuiesced_good  (good_self hs))
  | handoverFrame => exact sound_of_answers (execHandoverFrame_good  (good_self hs))
  | takebackTimeout => exact sound_of_answers (execTakebackTimeout_good  (good_self hs))
  | redundRestore => exact sound_of_answers (execRedundRestore_good  (good_self hs))
  | faultRaise => exact sound_of_answers (execFaultRaise_good _ _ (good_self hs))
  | faultForce => exact sound_of_answers (execFaultForce_good _ (good_self hs))
  | faultAckWrite => exact sound_of_answers (execFaultAckWrite_good _ (good_self hs))
  | releaseFreeze => exact sound_of_answers (execReleaseFreeze_good  (good_self hs))
  | releaseHold => exact sound_of_answers (execReleaseHold_good  (good_self hs))
  | releaseSafe => exact sound_of_answers (execReleaseSafe_good  (good_self hs))
  | safeNAssert => exact sound_of_answers (execSafeNAssert_good  (good_self hs))
  | safeNDeassert => exact sound_of_answers (execSafeNDeassert_good  (good_self hs))
  | monSnap => exact sound_of_answers (execMonSnap_good _ _ (good_self hs))
  | monHopIn => exact sound_of_answers (execMonHopIn_good _ _ (good_self hs))
  | histConfigWrite => exact sound_of_answers (execHistConfigWrite_good _ _ _ (good_self hs))
  | trackerConfigWrite => exact sound_of_answers (execTrackerConfigWrite_good _ _ (good_self hs))
  | monitorSample => exact sound_of_answers (execMonitorSample_good  (good_self hs))
  | hkRoundStart => exact sound_of_answers (execHkRoundStart_good  (good_self hs))
  | hkPublish => exact sound_of_answers (execHkPublish_good _ (good_self hs))
  | pwmReload => exact sound_of_answers (execPwmReload_good _ (good_self hs))
  | pwmSyncInEdge => exact sound_of_answers (execPwmSyncInEdge_good  (good_self hs))
  | pwmEnable => exact sound_of_answers (execPwmEnable_good _ _ (good_self hs))
  | tripAssert => exact sound_of_answers (execTripAssert_good _ (good_self hs))
  | tripClr => exact sound_of_answers (execTripClr_good _ (good_self hs))
  | clockMonitorWindow => exact sound_of_answers (execClockMonitorWindow_good _ _ (good_self hs))
  | clockDetectorFail => exact sound_of_answers (execClockDetectorFail_good _ (good_self hs))
  | xtalQualified => exact sound_of_answers (execXtalQualified_good  (good_self hs))
  | xtalQualTimeout => exact sound_of_answers (execXtalQualTimeout_good _ (good_self hs))
  | pllLock => exact sound_of_answers (execPllLock_good _ (good_self hs))
  | clkDomSrc => exact sound_of_answers (execClkDomSrc_good _ _ (good_self hs))
  | clockSwitchTimeout => exact sound_of_answers (execClockSwitchTimeout_good _ (good_self hs))
  | refclkRestored => exact sound_of_answers (execRefclkRestored_good  (good_self hs))
  | gateForceTimeout => exact sound_of_answers (execGateForceTimeout_good _ (good_self hs))
  | pwrCtrl => exact sound_of_answers (execPwrCtrl_good _ (good_self hs))
  | powerTransitionDone => exact sound_of_answers (execPowerTransitionDone_good  (good_self hs))
  | busTargetTimeout => exact sound_of_answers (execBusTargetTimeout_good _ _ (good_self hs))
  | busMasterReset => exact sound_of_answers (execBusMasterReset_good _ (good_self hs))
  | masterResetDone => exact sound_of_answers (execMasterResetDone_good _ (good_self hs))
  | resetRelease => exact sound_of_answers (execResetRelease_good  (good_self hs))
  | startupStepDone => exact execStartupStepDone_ok  hs
  | pcieLinkUp => exact sound_of_answers (execPcieLinkUp_good  (good_self hs))
  | senseVfyReq => exact sound_of_answers (execSenseVfyReq_good  (good_self hs))
  | verifyPassDone => exact sound_of_answers (execVerifyPassDone_good  (good_self hs))
  | synceSquelchEnd => exact sound_of_answers (execSynceSquelchEnd_good _ (good_self hs))
  | healthFlagClear => exact sound_of_answers (execHealthFlagClear_good _ (good_self hs))
  | ckptRollingUpdate => exact sound_of_answers (execCkptRollingUpdate_good _ (good_self hs))

theorem exec_good {z : Lasting} (i : Instr) {s : State} (h : mayBurn i = false) (hs : s.Good z) : Answers z (exec i s) := by
  cases i with
  | registerWrite => exact execRegisterWrite_read _ h hs
  | memoryWrite => exact execMemoryWrite_read _ h hs
  | defaultTargetAccess => exact execDefaultTargetAccess_good _ _ _ hs
  | powerOnReset => exact execPowerOnReset_good  hs
  | resetNReset => exact execResetNReset_good  hs
  | softReset => exact execSoftReset_good  hs
  | debugReset => exact execDebugReset_good  hs
  | pcieFlr => exact execPcieFlr_good _ hs
  | lcNonce => exact execLcNonce_good  hs
  | lcGo => nomatch h
  | flashRead => exact execFlashRead_good _ hs
  | flashProgram => exact execFlashProgram_good _ hs
  | flashErase4k => exact execFlashErase4k_good _ hs
  | flashErase64k => exact execFlashErase64k_good _ hs
  | flashCmdDone => nomatch h
  | flashQueueIssue => exact execFlashQueueIssue_good  hs
  | nop => exact execNop_good _ _ hs
  | add => exact execAdd_good _ _ hs
  | sub => exact execSub_good _ _ hs
  | mul => exact execMul_good _ _ hs
  | mulhu => exact execMulhu_good _ _ hs
  | divu => exact execDivu_good _ _ hs
  | remu => exact execRemu_good _ _ hs
  | and => exact execAnd_good _ _ hs
  | or => exact execOr_good _ _ hs
  | xor => exact execXor_good _ _ hs
  | shl => exact execShl_good _ _ hs
  | shr => exact execShr_good _ _ hs
  | sar => exact execSar_good _ _ hs
  | addi => exact execAddi_good _ _ hs
  | andi => exact execAndi_good _ _ hs
  | ori => exact execOri_good _ _ hs
  | xori => exact execXori_good _ _ hs
  | shli => exact execShli_good _ _ hs
  | shri => exact execShri_good _ _ hs
  | sari => exact execSari_good _ _ hs
  | movi => exact execMovi_good _ _ hs
  | movhi => exact execMovhi_good _ _ hs
  | min => exact execMin_good _ _ hs
  | max => exact execMax_good _ _ hs
  | minu => exact execMinu_good _ _ hs
  | maxu => exact execMaxu_good _ _ hs
  | popc => exact execPopc_good _ _ hs
  | clz => exact execClz_good _ _ hs
  | bfx => exact execBfx_good _ _ hs
  | bfi => exact execBfi_good _ _ hs
  | cmp => exact execCmp_good _ _ hs
  | cmpi => exact execCmpi_good _ _ hs
  | pand => exact execPand_good _ _ hs
  | pxor => exact execPxor_good _ _ hs
  | por => exact execPor_good _ _ hs
  | pnot => exact execPnot_good _ _ hs
  | pget => exact execPget_good _ _ hs
  | pput => exact execPput_good _ _ hs
  | sqid => exact execSqid_good _ _ hs
  | rdcyc => exact execRdcyc_good _ _ hs
  | fadd => exact execFadd_good _ _ hs
  | fsub => exact execFsub_good _ _ hs
  | fmul => exact execFmul_good _ _ hs
  | fdiv => exact execFdiv_good _ _ hs
  | fsqrt => exact execFsqrt_good _ _ hs
  | fma => exact execFma_good _ _ hs
  | fmin => exact execFmin_good _ _ hs
  | fmax => exact execFmax_good _ _ hs
  | fabs => exact execFabs_good _ _ hs
  | fneg => exact execFneg_good _ _ hs
  | fcmp => exact execFcmp_good _ _ hs
  | fcvtSL => exact execFcvtSL_good _ _ hs
  | fcvtLS => exact execFcvtLS_good _ _ hs
  | fmovi => exact execFmovi_good _ _ hs
  | fmvgf => exact execFmvgf_good _ _ hs
  | fmvfg => exact execFmvfg_good _ _ hs
  | ld => exact execLd_good _ _ hs
  | st => exact execSt_good _ _ hs
  | fld => exact execFld_good _ _ hs
  | fst => exact execFst_good _ _ hs
  | cas => exact execCas_good _ _ hs
  | aadd => exact execAadd_good _ _ hs
  | rdx => exact execRdx_good _ _ hs
  | wrx => nomatch h
  | fence => exact execFence_good _ _ hs
  | fenceDone => exact execFenceDone_good _ hs
  | br => exact execBr_good _ _ hs
  | jmp => exact execJmp_good _ _ hs
  | call => exact execCall_good _ _ hs
  | callr => exact execCallr_good _ _ hs
  | loop => exact execLoop_good _ _ hs
  | illegalOpcode => exact execIllegalOpcode_good _ _ hs
  | unpin => exact execUnpin_good _ _ hs
  | disc => exact execDisc_good _ _ hs
  | conn => exact execConn_good _ _ hs
  | pin => exact execPin_good _ _ hs
  | ledgerStallResume => exact execLedgerStallResume_good _ hs
  | epoch => exact execEpoch_good _ _ hs
  | abort => exact execAbort_good _ _ hs
  | abortResolved => exact execAbortResolved_good _ hs
  | solve => exact execSolve_good _ _ hs
  | trialSolveDone => exact execTrialSolveDone_good _ hs
  | stage => exact execStage_good _ _ hs
  | lay => exact execLay_good _ _ hs
  | layEpochEnd => exact execLayEpochEnd_good _ hs
  | verify => exact execVerify_good _ _ hs
  | readwIn => exact execReadwIn_good _ _ hs
  | readwOut => exact execReadwOut_good _ _ hs
  | readwCell => exact execReadwCell_good _ _ hs
  | readwSt => exact execReadwSt_good _ _ hs
  | readwStFinal => exact execReadwStFinal_good _ hs
  | readwStable => exact execReadwStable_good _ _ hs
  | lset => exact execLset_good _ _ hs
  | lmode => exact execLmode_good _ _ hs
  | lpreset => exact execLpreset_good _ _ hs
  | linj => exact execLinj_good _ _ hs
  | lcap => exact execLcap_good _ _ hs
  | send => exact execSend_good _ _ hs
  | sendQueueRoom => exact execSendQueueRoom_good _ hs
  | recv => exact execRecv_good _ _ hs
  | recvFrameReady => exact execRecvFrameReady_good _ hs
  | recvN => exact execRecvN_good _ _ hs
  | ack => exact execAck_good _ _ hs
  | waitt => exact execWaitt_good _ _ hs
  | waittResume => exact execWaittResume_good _ hs
  | waite => exact execWaite_good _ _ hs
  | waiteResume => exact execWaiteResume_good _ hs
  | tnow => exact execTnow_good _ _ hs
  | hist => exact execHist_good _ _ hs
  | fraise => exact execFraise_good _ _ hs
  | fack => exact execFack_good _ _ hs
  | halt => exact execHalt_good _ _ hs
  | sleep => exact execSleep_good _ _ hs
  | sleepWake => exact execSleepWake_good _ hs
  | sync => exact execSync_good _ _ hs
  | trap => exact execTrap_good _ _ hs
  | hookStart => exact execHookStart_good _ hs
  | sqStop => exact execSqStop_good _ hs
  | sqEn => exact execSqEn_good _ hs
  | trapClr => exact execTrapClr_good _ hs
  | seqDoorbell => exact execSeqDoorbell_good _ hs
  | hcmdUnpin => exact execHcmdUnpin_good _ hs
  | hcmdDisc => exact execHcmdDisc_good _ hs
  | hcmdConn => exact execHcmdConn_good _ hs
  | hcmdPin => exact execHcmdPin_good _ hs
  | hcmdOpenEpoch => exact execHcmdOpenEpoch_good _ _ hs
  | hcmdAbortEpoch => exact execHcmdAbortEpoch_good _ hs
  | seqEntryRead => exact execSeqEntryRead_good _ _ hs
  | entryDeliveryTimeout => exact execEntryDeliveryTimeout_good _ hs
  | sealEpoch => exact execSeal_good _ hs
  | epochEvaluateDeferred => exact execEpochEvaluateDeferred_good _ hs
  | slotFreedSolve => exact execSlotFreedSolve_good _ hs
  | solveDone => exact execSolveDone_good  hs
  | weaveResolve => exact execWeaveResolve_good _ hs
  | stageWeave => exact execStageWeave_good _ hs
  | stagingDeadline => exact execStagingDeadline_good _ hs
  | layInstant => exact execLayInstant_good _ hs
  | layStrobe => exact execLayStrobe_good  hs
  | layHandBack => exact execLayHandBack_good  hs
  | settleCheck => exact execSettleCheck_good  hs
  | unblank => exact execUnblank_good  hs
  | layComplete => exact execLayComplete_good  hs
  | laggingCheck => exact execLaggingCheck_good  hs
  | layReopen => exact execLayReopen_good _ hs
  | layEnable => exact execLayEnable_good _ hs
  | layFlush => exact execLayFlush_good  hs
  | restoringLayStart => exact execRestoringLayStart_good  hs
  | outboundFrame => exact execOutboundFrame_good  hs
  | driveStrobeFire => exact execDriveStrobeFire_good _ hs
  | driveRecordRebuild => exact execDriveRecordRebuild_good _ hs
  | inboundFrame => exact execInboundFrame_good _ hs
  | loopPeriod => exact execLoopPeriod_good  hs
  | gradientBlock => exact execGradientBlock_good  hs
  | knownAnswerTest => exact execKnownAnswerTest_good _ hs
  | loopCoreRetire => exact execLoopCoreRetire_good _ hs
  | loopEnable => exact execLoopEnable_good _ hs
  | loopCapStop => exact execLoopCapStop_good _ hs
  | captureDone => exact execCaptureDone_good _ hs
  | injectionEnd => exact execInjectionEnd_good _ hs
  | auxLoopEnable => exact execAuxLoopEnable_good _ hs
  | calReq => exact execCalReq_good _ _ hs
  | calRunStart => exact execCalRunStart_good  hs
  | calDwell => exact execCalDwell_good _ hs
  | calRunEnd => exact execCalRunEnd_good _ hs
  | senseCalStep => exact execSenseCalStep_good _ hs
  | senseCalRunEnd => exact execSenseCalRunEnd_good _ hs
  | blendStart => exact execBlendStart_good  hs
  | passiveObservation => exact execPassiveObservation_good  hs
  | passiveExpire => exact execPassiveExpire_good _ hs
  | calEnable => exact execCalEnable_good _ hs
  | calAbort => exact execCalAbort_good  hs
  | calAreaReload => exact execCalAreaReload_good _ _ hs
  | strandStart => exact execStrandStart_good  hs
  | linkTrained => exact execLinkTrained_good _ hs
  | linkAligned => exact execLinkAligned_good _ hs
  | cartAuthResponse => exact execCartAuthResponse_good _ hs
  | linkIdentified => exact execLinkIdentified_good _ hs
  | strandStream => exact execStrandStream_good  hs
  | streamEchoReady => exact execStreamEchoReady_good  hs
  | strandStop => exact execStrandStop_good  hs
  | portReq => exact execPortReq_good  hs
  | portRel => exact execPortRel_good  hs
  | laneFailure => exact execLaneFailure_good _ hs
  | spareSwitch => exact execSpareSwitch_good  hs
  | strandLaneTest => exact execStrandLaneTest_good _ hs
  | laneTestEnd => exact execLaneTestEnd_good _ _ hs
  | idRead => exact execIdRead_good _ hs
  | idWrite => exact execIdWrite_good _ _ hs
  | writeBack => exact execWriteBack_good  hs
  | poweredHour => exact execPoweredHour_good  hs
  | wearFold => exact execWearFold_good  hs
  | dmapAdd => exact execDmapAdd_good _ hs
  | dmapRemove => exact execDmapRemove_good _ hs
  | memParity => exact execMemParity_good _ _ hs
  | instrParityReload => exact execInstrParityReload_good _ hs
  | commandFrame => exact execCommandFrame_good _ hs
  | statusFrame => exact execStatusFrame_good _ hs
  | dataFrame => exact execDataFrame_good _ hs
  | ackFrame => exact execAckFrame_good _ hs
  | query => exact execQuery_good _ hs
  | reply => exact execReply_good _ hs
  | commandRetransmit => exact execCommandRetransmit_good _ _ _ hs
  | seqNetOpen => exact execSeqNetOpen_good _ hs
  | prepare => exact execPrepare_good _ hs
  | ready => exact execReady_good _ hs
  | readyDeadline => exact execReadyDeadline_good _ hs
  | commit => exact execCommit_good _ hs
  | abortFrame => exact execAbortFrame_good _ hs
  | missed => exact execMissed_good _ hs
  | landed => exact execLanded_good _ hs
  | stable => exact execStable_good _ hs
  | braidFrameRx => exact execBraidFrameRx_good _ _ hs
  | transmitStart => exact execTransmitStart_good _ hs
  | transmitEnd => exact execTransmitEnd_good _ hs
  | braidLinkDown => exact execBraidLinkDown_good _ hs
  | braidLinkUp => exact execBraidLinkUp_good _ hs
  | lagRejoin => exact execLagRejoin_good _ hs
  | lagRejoinDone => exact execLagRejoinDone_good _ hs
  | gateCommit => exact execGateCommit_good _ hs
  | gateListStart => exact execGateListStart_good _ hs
  | gateEntryChange => exact execGateEntryChange_good _ hs
  | queueSample => exact execQueueSample_good  hs
  | switchHostTx => exact execSwitchHostTx_good _ hs
  | hostFrameEnter => exact execHostFrameEnter_good  hs
  | hostRxPop => exact execHostRxPop_good  hs
  | timeInc => exact execTimeInc_good _ _ hs
  | timeAdj => exact execTimeAdj_good _ _ hs
  | slewEnd => exact execSlewEnd_good  hs
  | lockAssert => exact execLockAssert_good _ hs
  | lockClear => exact execLockClear_good _ hs
  | lockExpire => exact execLockExpire_good _ hs
  | cmpArm => exact execCmpArm_good _ _ hs
  | cmpDisarm => exact execCmpDisarm_good _ hs
  | cmpFire => exact execCmpFire_good _ hs
  | ppsOutPulse => exact execPpsOutPulse_good  hs
  | ppsInEdge => exact execPpsInEdge_good  hs
  | laySyncOutPulse => exact execLaySyncOutPulse_good  hs
  | laySyncInEdge => exact execLaySyncInEdge_good  hs
  | heartbeatSend => exact execHeartbeatSend_good  hs
  | heartbeatFrameRx => exact execHeartbeatFrameRx_good _ hs
  | heartbeatPulseIn => exact execHeartbeatPulseIn_good _ hs
  | redundSurrender => exact execRedundSurrender_good  hs
  | peerLost => exact execPeerLost_good  hs
  | hbPath => exact execHbPath_good  hs
  | failoverGrant => exact execFailoverGrant_good  hs
  | failoverEchoReady => exact execFailoverEchoReady_good  hs
  | failoverGrantTimeout => exact execFailoverGrantTimeout_good  hs
  | redundWdog => exact execRedundWdog_good  hs
  | watchdogExpire => exact execWatchdogExpire_good  hs
  | ckptRecordRx => exact execCkptRecordRx_good _ hs
  | ckptGapTimeout => exact execCkptGapTimeout_good  hs
  | ckptResyncDone => exact execCkptResyncDone_good  hs
  | shadowSend => exact execShadowSend_good  hs
  | marchPassEnd => exact execMarchPassEnd_good _ hs
  | takebackHoldoff => exact execTakebackHoldoff_good  hs
  | redundTakeback => exact execRedundTakeback_good  hs
  | takebackQuiesced => exact execTakebackQuiesced_good  hs
  | handoverFrame => exact execHandoverFrame_good  hs
  | takebackTimeout => exact execTakebackTimeout_good  hs
  | redundRestore => exact execRedundRestore_good  hs
  | faultRaise => exact execFaultRaise_good _ _ hs
  | faultForce => exact execFaultForce_good _ hs
  | faultAckWrite => exact execFaultAckWrite_good _ hs
  | releaseFreeze => exact execReleaseFreeze_good  hs
  | releaseHold => exact execReleaseHold_good  hs
  | releaseSafe => exact execReleaseSafe_good  hs
  | safeNAssert => exact execSafeNAssert_good  hs
  | safeNDeassert => exact execSafeNDeassert_good  hs
  | monSnap => exact execMonSnap_good _ _ hs
  | monHopIn => exact execMonHopIn_good _ _ hs
  | histConfigWrite => exact execHistConfigWrite_good _ _ _ hs
  | trackerConfigWrite => exact execTrackerConfigWrite_good _ _ hs
  | monitorSample => exact execMonitorSample_good  hs
  | hkRoundStart => exact execHkRoundStart_good  hs
  | hkPublish => exact execHkPublish_good _ hs
  | pwmReload => exact execPwmReload_good _ hs
  | pwmSyncInEdge => exact execPwmSyncInEdge_good  hs
  | pwmEnable => exact execPwmEnable_good _ _ hs
  | tripAssert => exact execTripAssert_good _ hs
  | tripClr => exact execTripClr_good _ hs
  | clockMonitorWindow => exact execClockMonitorWindow_good _ _ hs
  | clockDetectorFail => exact execClockDetectorFail_good _ hs
  | xtalQualified => exact execXtalQualified_good  hs
  | xtalQualTimeout => exact execXtalQualTimeout_good _ hs
  | pllLock => exact execPllLock_good _ hs
  | clkDomSrc => exact execClkDomSrc_good _ _ hs
  | clockSwitchTimeout => exact execClockSwitchTimeout_good _ hs
  | refclkRestored => exact execRefclkRestored_good  hs
  | gateForceTimeout => exact execGateForceTimeout_good _ hs
  | pwrCtrl => exact execPwrCtrl_good _ hs
  | powerTransitionDone => exact execPowerTransitionDone_good  hs
  | busTargetTimeout => exact execBusTargetTimeout_good _ _ hs
  | busMasterReset => exact execBusMasterReset_good _ hs
  | masterResetDone => exact execMasterResetDone_good _ hs
  | resetRelease => exact execResetRelease_good  hs
  | startupStepDone => nomatch h
  | pcieLinkUp => exact execPcieLinkUp_good  hs
  | senseVfyReq => exact execSenseVfyReq_good  hs
  | verifyPassDone => exact execVerifyPassDone_good  hs
  | synceSquelchEnd => exact execSynceSquelchEnd_good _ hs
  | healthFlagClear => exact execHealthFlagClear_good _ hs
  | ckptRollingUpdate => exact execCkptRollingUpdate_good _ hs

end Sys2Proof.Machine
end

