-- ==== Sys2Proof/Laws/GoodStep.lean ====
section
/-! SUPPORT. Every operation of Machine/Step.lean keeps a sound state sound and, but for those named _ok, the fuses and the
flash as they are. -/

namespace Sys2Proof.Machine

theorem step_ok {s : State} (hs : s.ok = true) : Sound (step s) := by
  unfold step
  repeat' first
    | with_reducible assumption
    | with_reducible refine sound_of_answers (idleStep_good  (good_self ?_))
    | with_reducible apply exec_ok
    | split
    | with_reducible exact ok_mk (ok_of (by with_reducible assumption))

theorem State.withFetchWord_good {z : Lasting} {s : State} (nbits : Nat) (w : Nat) (hs : s.Good z) : (State.withFetchWord s nbits w).Good z := by
  unfold State.withFetchWord
  repeat' first
    | with_reducible assumption
    | split
    | fail_if_no_progress (with_reducible apply good_mk; with_reducible apply good_of)

end Sys2Proof.Machine
end

