-- ==== Sys2Proof/Laws/PerInstr.lean ====
section
/-! SUPPORT. The family Encoding: reading the word of a well-formed row of Wicker gives the row back, by
constructor; the rows that are no instruction have no word. -/

namespace Sys2Proof

open Sys2Proof.Machine

/-- The opcode of a word that an opcode and fields spell. -/
theorem Laws.opcOf_wordOf (opc : BitVec 8) (f : Fields) : opcOf (wordOf opc f) = opc.toNat := by
  have : (wordOf opc f).extractLsb' 56 8 = opc := by
    apply BitVec.eq_of_getLsbD_eq; intro i hi
    simp only [wordOf, BitVec.getLsbD_extractLsb', BitVec.getLsbD_append]
    simp (disch := omega) [hi]
    grind
  rw [opcOf, this]

/-- The fields of a word that an opcode and fields spell. -/
theorem Laws.fieldsOf_wordOf (opc : BitVec 8) (f : Fields) : fieldsOf (wordOf opc f) = f := by
  obtain ⟨a, b, c, d, e, g, h⟩ := f
  simp only [fieldsOf, wordOf, Fields.mk.injEq]
  refine ⟨?_, ?_, ?_, ?_, ?_, ?_, ?_⟩ <;>
    (apply BitVec.eq_of_getLsbD_eq; intro i hi
     simp only [BitVec.getLsbD_extractLsb', BitVec.getLsbD_append]
     grind)

/-- A word of legal fields is read by its opcode's row. -/
theorem Laws.decode_legal {q : Fin 8} {opc : BitVec 8} {w : Fields} {i : Instr} {n : Nat} (hn : opc.toNat = n)
    (h : legalFields n w = true) (hr : ∀ v, opcOf v = n → legalRow q v w = i) :
    decodeWicker q (wordOf opc w) = i := by
  rw [decodeWicker, Laws.opcOf_wordOf, Laws.fieldsOf_wordOf, hn, if_pos h]
  exact hr _ (by rw [Laws.opcOf_wordOf, hn])

/-- A well-formed row of Wicker is what its word is read as. -/
def Laws.Encoding.Statement (i : Instr) : Prop :=
  i.wf = true → ∀ p, i.word = some p → decodeWicker p.1 p.2 = i

/-- A row without a word. -/
theorem Laws.Encoding.of_none {i : Instr} (h : i.word = none) : Laws.Encoding.Statement i := by
  intro _ p hp
  rw [h] at hp
  cases hp

theorem Laws.Encoding.nop (a0) (a1) : Laws.Encoding.Statement (.nop a0 a1) := by
  intro h p hp
  cases hp
  exact Laws.decode_legal (n := 0x00) rfl h (fun v hv => by unfold legalRow; rw [hv]; rfl)
theorem Laws.Encoding.add (a0) (a1) : Laws.Encoding.Statement (.add a0 a1) := by
  intro h p hp
  cases hp
  exact Laws.decode_legal (n := 0x01) rfl h (fun v hv => by unfold legalRow; rw [hv]; rfl)
theorem Laws.Encoding.sub (a0) (a1) : Laws.Encoding.Statement (.sub a0 a1) := by
  intro h p hp
  cases hp
  exact Laws.decode_legal (n := 0x02) rfl h (fun v hv => by unfold legalRow; rw [hv]; rfl)
theorem Laws.Encoding.mul (a0) (a1) : Laws.Encoding.Statement (.mul a0 a1) := by
  intro h p hp
  cases hp
  exact Laws.decode_legal (n := 0x03) rfl h (fun v hv => by unfold legalRow; rw [hv]; rfl)
theorem Laws.Encoding.mulhu (a0) (a1) : Laws.Encoding.Statement (.mulhu a0 a1) := by
  intro h p hp
  cases hp
  exact Laws.decode_legal (n := 0x04) rfl h (fun v hv => by unfold legalRow; rw [hv]; rfl)
theorem Laws.Encoding.divu (a0) (a1) : Laws.Encoding.Statement (.divu a0 a1) := by
  intro h p hp
  cases hp
  exact Laws.decode_legal (n := 0x05) rfl h (fun v hv => by unfold legalRow; rw [hv]; rfl)
theorem Laws.Encoding.remu (a0) (a1) : Laws.Encoding.Statement (.remu a0 a1) := by
  intro h p hp
  cases hp
  exact Laws.decode_legal (n := 0x06) rfl h (fun v hv => by unfold legalRow; rw [hv]; rfl)
theorem Laws.Encoding.and (a0) (a1) : Laws.Encoding.Statement (.and a0 a1) := by
  intro h p hp
  cases hp
  exact Laws.decode_legal (n := 0x07) rfl h (fun v hv => by unfold legalRow; rw [hv]; rfl)
theorem Laws.Encoding.or (a0) (a1) : Laws.Encoding.Statement (.or a0 a1) := by
  intro h p hp
  cases hp
  exact Laws.decode_legal (n := 0x08) rfl h (fun v hv => by unfold legalRow; rw [hv]; rfl)
theorem Laws.Encoding.xor (a0) (a1) : Laws.Encoding.Statement (.xor a0 a1) := by
  intro h p hp
  cases hp
  exact Laws.decode_legal (n := 0x09) rfl h (fun v hv => by unfold legalRow; rw [hv]; rfl)
theorem Laws.Encoding.shl (a0) (a1) : Laws.Encoding.Statement (.shl a0 a1) := by
  intro h p hp
  cases hp
  exact Laws.decode_legal (n := 0x0A) rfl h (fun v hv => by unfold legalRow; rw [hv]; rfl)
theorem Laws.Encoding.shr (a0) (a1) : Laws.Encoding.Statement (.shr a0 a1) := by
  intro h p hp
  cases hp
  exact Laws.decode_legal (n := 0x0B) rfl h (fun v hv => by unfold legalRow; rw [hv]; rfl)
theorem Laws.Encoding.sar (a0) (a1) : Laws.Encoding.Statement (.sar a0 a1) := by
  intro h p hp
  cases hp
  exact Laws.decode_legal (n := 0x0C) rfl h (fun v hv => by unfold legalRow; rw [hv]; rfl)
theorem Laws.Encoding.addi (a0) (a1) : Laws.Encoding.Statement (.addi a0 a1) := by
  intro h p hp
  cases hp
  exact Laws.decode_legal (n := 0x0D) rfl h (fun v hv => by unfold legalRow; rw [hv]; rfl)
theorem Laws.Encoding.andi (a0) (a1) : Laws.Encoding.Statement (.andi a0 a1) := by
  intro h p hp
  cases hp
  exact Laws.decode_legal (n := 0x0E) rfl h (fun v hv => by unfold legalRow; rw [hv]; rfl)
theorem Laws.Encoding.ori (a0) (a1) : Laws.Encoding.Statement (.ori a0 a1) := by
  intro h p hp
  cases hp
  exact Laws.decode_legal (n := 0x0F) rfl h (fun v hv => by unfold legalRow; rw [hv]; rfl)
theorem Laws.Encoding.xori (a0) (a1) : Laws.Encoding.Statement (.xori a0 a1) := by
  intro h p hp
  cases hp
  exact Laws.decode_legal (n := 0x10) rfl h (fun v hv => by unfold legalRow; rw [hv]; rfl)
theorem Laws.Encoding.shli (a0) (a1) : Laws.Encoding.Statement (.shli a0 a1) := by
  intro h p hp
  cases hp
  exact Laws.decode_legal (n := 0x11) rfl h (fun v hv => by unfold legalRow; rw [hv]; rfl)
theorem Laws.Encoding.shri (a0) (a1) : Laws.Encoding.Statement (.shri a0 a1) := by
  intro h p hp
  cases hp
  exact Laws.decode_legal (n := 0x12) rfl h (fun v hv => by unfold legalRow; rw [hv]; rfl)
theorem Laws.Encoding.sari (a0) (a1) : Laws.Encoding.Statement (.sari a0 a1) := by
  intro h p hp
  cases hp
  exact Laws.decode_legal (n := 0x13) rfl h (fun v hv => by unfold legalRow; rw [hv]; rfl)
theorem Laws.Encoding.movi (a0) (a1) : Laws.Encoding.Statement (.movi a0 a1) := by
  intro h p hp
  cases hp
  exact Laws.decode_legal (n := 0x14) rfl h (fun v hv => by unfold legalRow; rw [hv]; rfl)
theorem Laws.Encoding.movhi (a0) (a1) : Laws.Encoding.Statement (.movhi a0 a1) := by
  intro h p hp
  cases hp
  exact Laws.decode_legal (n := 0x15) rfl h (fun v hv => by unfold legalRow; rw [hv]; rfl)
theorem Laws.Encoding.min (a0) (a1) : Laws.Encoding.Statement (.min a0 a1) := by
  intro h p hp
  cases hp
  exact Laws.decode_legal (n := 0x16) rfl h (fun v hv => by unfold legalRow; rw [hv]; rfl)
theorem Laws.Encoding.max (a0) (a1) : Laws.Encoding.Statement (.max a0 a1) := by
  intro h p hp
  cases hp
  exact Laws.decode_legal (n := 0x17) rfl h (fun v hv => by unfold legalRow; rw [hv]; rfl)
theorem Laws.Encoding.minu (a0) (a1) : Laws.Encoding.Statement (.minu a0 a1) := by
  intro h p hp
  cases hp
  exact Laws.decode_legal (n := 0x18) rfl h (fun v hv => by unfold legalRow; rw [hv]; rfl)
theorem Laws.Encoding.maxu (a0) (a1) : Laws.Encoding.Statement (.maxu a0 a1) := by
  intro h p hp
  cases hp
  exact Laws.decode_legal (n := 0x19) rfl h (fun v hv => by unfold legalRow; rw [hv]; rfl)
theorem Laws.Encoding.popc (a0) (a1) : Laws.Encoding.Statement (.popc a0 a1) := by
  intro h p hp
  cases hp
  exact Laws.decode_legal (n := 0x1A) rfl h (fun v hv => by unfold legalRow; rw [hv]; rfl)
theorem Laws.Encoding.clz (a0) (a1) : Laws.Encoding.Statement (.clz a0 a1) := by
  intro h p hp
  cases hp
  exact Laws.decode_legal (n := 0x1B) rfl h (fun v hv => by unfold legalRow; rw [hv]; rfl)
theorem Laws.Encoding.bfx (a0) (a1) : Laws.Encoding.Statement (.bfx a0 a1) := by
  intro h p hp
  cases hp
  exact Laws.decode_legal (n := 0x1C) rfl h (fun v hv => by unfold legalRow; rw [hv]; rfl)
theorem Laws.Encoding.bfi (a0) (a1) : Laws.Encoding.Statement (.bfi a0 a1) := by
  intro h p hp
  cases hp
  exact Laws.decode_legal (n := 0x1D) rfl h (fun v hv => by unfold legalRow; rw [hv]; rfl)
theorem Laws.Encoding.cmp (a0) (a1) : Laws.Encoding.Statement (.cmp a0 a1) := by
  intro h p hp
  cases hp
  exact Laws.decode_legal (n := 0x20) rfl h (fun v hv => by unfold legalRow; rw [hv]; rfl)
theorem Laws.Encoding.cmpi (a0) (a1) : Laws.Encoding.Statement (.cmpi a0 a1) := by
  intro h p hp
  cases hp
  exact Laws.decode_legal (n := 0x21) rfl h (fun v hv => by unfold legalRow; rw [hv]; rfl)
theorem Laws.Encoding.pand (a0) (a1) : Laws.Encoding.Statement (.pand a0 a1) := by
  intro h p hp
  cases hp
  exact Laws.decode_legal (n := 0x22) rfl h (fun v hv => by unfold legalRow; rw [hv]; rfl)
theorem Laws.Encoding.pxor (a0) (a1) : Laws.Encoding.Statement (.pxor a0 a1) := by
  intro h p hp
  cases hp
  exact Laws.decode_legal (n := 0x24) rfl h (fun v hv => by unfold legalRow; rw [hv]; rfl)
theorem Laws.Encoding.por (a0) (a1) : Laws.Encoding.Statement (.por a0 a1) := by
  intro h p hp
  cases hp
  exact Laws.decode_legal (n := 0x23) rfl h (fun v hv => by unfold legalRow; rw [hv]; rfl)
theorem Laws.Encoding.pnot (a0) (a1) : Laws.Encoding.Statement (.pnot a0 a1) := by
  intro h p hp
  cases hp
  exact Laws.decode_legal (n := 0x25) rfl h (fun v hv => by unfold legalRow; rw [hv]; rfl)
theorem Laws.Encoding.pget (a0) (a1) : Laws.Encoding.Statement (.pget a0 a1) := by
  intro h p hp
  cases hp
  exact Laws.decode_legal (n := 0x26) rfl h (fun v hv => by unfold legalRow; rw [hv]; rfl)
theorem Laws.Encoding.pput (a0) (a1) : Laws.Encoding.Statement (.pput a0 a1) := by
  intro h p hp
  cases hp
  exact Laws.decode_legal (n := 0x27) rfl h (fun v hv => by unfold legalRow; rw [hv]; rfl)
theorem Laws.Encoding.sqid (a0) (a1) : Laws.Encoding.Statement (.sqid a0 a1) := by
  intro h p hp
  cases hp
  exact Laws.decode_legal (n := 0x28) rfl h (fun v hv => by unfold legalRow; rw [hv]; rfl)
theorem Laws.Encoding.rdcyc (a0) (a1) : Laws.Encoding.Statement (.rdcyc a0 a1) := by
  intro h p hp
  cases hp
  exact Laws.decode_legal (n := 0x29) rfl h (fun v hv => by unfold legalRow; rw [hv]; rfl)
theorem Laws.Encoding.fadd (a0) (a1) : Laws.Encoding.Statement (.fadd a0 a1) := by
  intro h p hp
  cases hp
  exact Laws.decode_legal (n := 0x30) rfl h (fun v hv => by unfold legalRow; rw [hv]; rfl)
theorem Laws.Encoding.fsub (a0) (a1) : Laws.Encoding.Statement (.fsub a0 a1) := by
  intro h p hp
  cases hp
  exact Laws.decode_legal (n := 0x31) rfl h (fun v hv => by unfold legalRow; rw [hv]; rfl)
theorem Laws.Encoding.fmul (a0) (a1) : Laws.Encoding.Statement (.fmul a0 a1) := by
  intro h p hp
  cases hp
  exact Laws.decode_legal (n := 0x32) rfl h (fun v hv => by unfold legalRow; rw [hv]; rfl)
theorem Laws.Encoding.fdiv (a0) (a1) : Laws.Encoding.Statement (.fdiv a0 a1) := by
  intro h p hp
  cases hp
  exact Laws.decode_legal (n := 0x33) rfl h (fun v hv => by unfold legalRow; rw [hv]; rfl)
theorem Laws.Encoding.fsqrt (a0) (a1) : Laws.Encoding.Statement (.fsqrt a0 a1) := by
  intro h p hp
  cases hp
  exact Laws.decode_legal (n := 0x34) rfl h (fun v hv => by unfold legalRow; rw [hv]; rfl)
theorem Laws.Encoding.fma (a0) (a1) : Laws.Encoding.Statement (.fma a0 a1) := by
  intro h p hp
  cases hp
  exact Laws.decode_legal (n := 0x35) rfl h (fun v hv => by unfold legalRow; rw [hv]; rfl)
theorem Laws.Encoding.fmin (a0) (a1) : Laws.Encoding.Statement (.fmin a0 a1) := by
  intro h p hp
  cases hp
  exact Laws.decode_legal (n := 0x36) rfl h (fun v hv => by unfold legalRow; rw [hv]; rfl)
theorem Laws.Encoding.fmax (a0) (a1) : Laws.Encoding.Statement (.fmax a0 a1) := by
  intro h p hp
  cases hp
  exact Laws.decode_legal (n := 0x37) rfl h (fun v hv => by unfold legalRow; rw [hv]; rfl)
theorem Laws.Encoding.fabs (a0) (a1) : Laws.Encoding.Statement (.fabs a0 a1) := by
  intro h p hp
  cases hp
  exact Laws.decode_legal (n := 0x38) rfl h (fun v hv => by unfold legalRow; rw [hv]; rfl)
theorem Laws.Encoding.fneg (a0) (a1) : Laws.Encoding.Statement (.fneg a0 a1) := by
  intro h p hp
  cases hp
  exact Laws.decode_legal (n := 0x39) rfl h (fun v hv => by unfold legalRow; rw [hv]; rfl)
theorem Laws.Encoding.fcmp (a0) (a1) : Laws.Encoding.Statement (.fcmp a0 a1) := by
  intro h p hp
  cases hp
  exact Laws.decode_legal (n := 0x3A) rfl h (fun v hv => by unfold legalRow; rw [hv]; rfl)
theorem Laws.Encoding.fcvtSL (a0) (a1) : Laws.Encoding.Statement (.fcvtSL a0 a1) := by
  intro h p hp
  cases hp
  exact Laws.decode_legal (n := 0x3B) rfl h (fun v hv => by unfold legalRow; rw [hv]; rfl)
theorem Laws.Encoding.fcvtLS (a0) (a1) : Laws.Encoding.Statement (.fcvtLS a0 a1) := by
  intro h p hp
  cases hp
  exact Laws.decode_legal (n := 0x3C) rfl h (fun v hv => by unfold legalRow; rw [hv]; rfl)
theorem Laws.Encoding.fmovi (a0) (a1) : Laws.Encoding.Statement (.fmovi a0 a1) := by
  intro h p hp
  cases hp
  exact Laws.decode_legal (n := 0x3D) rfl h (fun v hv => by unfold legalRow; rw [hv]; rfl)
theorem Laws.Encoding.fmvgf (a0) (a1) : Laws.Encoding.Statement (.fmvgf a0 a1) := by
  intro h p hp
  cases hp
  exact Laws.decode_legal (n := 0x3E) rfl h (fun v hv => by unfold legalRow; rw [hv]; rfl)
theorem Laws.Encoding.fmvfg (a0) (a1) : Laws.Encoding.Statement (.fmvfg a0 a1) := by
  intro h p hp
  cases hp
  exact Laws.decode_legal (n := 0x3F) rfl h (fun v hv => by unfold legalRow; rw [hv]; rfl)
theorem Laws.Encoding.ld (a0) (a1) : Laws.Encoding.Statement (.ld a0 a1) := by
  intro h p hp
  cases hp
  exact Laws.decode_legal (n := 0x40) rfl h (fun v hv => by unfold legalRow; rw [hv]; rfl)
theorem Laws.Encoding.st (a0) (a1) : Laws.Encoding.Statement (.st a0 a1) := by
  intro h p hp
  cases hp
  exact Laws.decode_legal (n := 0x41) rfl h (fun v hv => by unfold legalRow; rw [hv]; rfl)
theorem Laws.Encoding.fld (a0) (a1) : Laws.Encoding.Statement (.fld a0 a1) := by
  intro h p hp
  cases hp
  exact Laws.decode_legal (n := 0x42) rfl h (fun v hv => by unfold legalRow; rw [hv]; rfl)
theorem Laws.Encoding.fst (a0) (a1) : Laws.Encoding.Statement (.fst a0 a1) := by
  intro h p hp
  cases hp
  exact Laws.decode_legal (n := 0x43) rfl h (fun v hv => by unfold legalRow; rw [hv]; rfl)
theorem Laws.Encoding.cas (a0) (a1) : Laws.Encoding.Statement (.cas a0 a1) := by
  intro h p hp
  cases hp
  exact Laws.decode_legal (n := 0x44) rfl h (fun v hv => by unfold legalRow; rw [hv]; rfl)
theorem Laws.Encoding.aadd (a0) (a1) : Laws.Encoding.Statement (.aadd a0 a1) := by
  intro h p hp
  cases hp
  exact Laws.decode_legal (n := 0x45) rfl h (fun v hv => by unfold legalRow; rw [hv]; rfl)
theorem Laws.Encoding.rdx (a0) (a1) : Laws.Encoding.Statement (.rdx a0 a1) := by
  intro h p hp
  cases hp
  exact Laws.decode_legal (n := 0x46) rfl h (fun v hv => by unfold legalRow; rw [hv]; rfl)
theorem Laws.Encoding.wrx (a0) (a1) : Laws.Encoding.Statement (.wrx a0 a1) := by
  intro h p hp
  cases hp
  exact Laws.decode_legal (n := 0x47) rfl h (fun v hv => by unfold legalRow; rw [hv]; rfl)
theorem Laws.Encoding.fence (a0) (a1) : Laws.Encoding.Statement (.fence a0 a1) := by
  intro h p hp
  cases hp
  exact Laws.decode_legal (n := 0x48) rfl h (fun v hv => by unfold legalRow; rw [hv]; rfl)
theorem Laws.Encoding.br (a0) (a1) : Laws.Encoding.Statement (.br a0 a1) := by
  intro h p hp
  cases hp
  exact Laws.decode_legal (n := 0x50) rfl h (fun v hv => by unfold legalRow; rw [hv]; rfl)
theorem Laws.Encoding.jmp (a0) (a1) : Laws.Encoding.Statement (.jmp a0 a1) := by
  intro h p hp
  cases hp
  exact Laws.decode_legal (n := 0x51) rfl h (fun v hv => by unfold legalRow; rw [hv]; rfl)
theorem Laws.Encoding.call (a0) (a1) : Laws.Encoding.Statement (.call a0 a1) := by
  intro h p hp
  cases hp
  exact Laws.decode_legal (n := 0x52) rfl h (fun v hv => by unfold legalRow; rw [hv]; rfl)
theorem Laws.Encoding.callr (a0) (a1) : Laws.Encoding.Statement (.callr a0 a1) := by
  intro h p hp
  cases hp
  exact Laws.decode_legal (n := 0x53) rfl h (fun v hv => by unfold legalRow; rw [hv]; rfl)
theorem Laws.Encoding.loop (a0) (a1) : Laws.Encoding.Statement (.loop a0 a1) := by
  intro h p hp
  cases hp
  exact Laws.decode_legal (n := 0x54) rfl h (fun v hv => by unfold legalRow; rw [hv]; rfl)
theorem Laws.Encoding.unpin (a0) (a1) : Laws.Encoding.Statement (.unpin a0 a1) := by
  intro h p hp
  cases hp
  exact Laws.decode_legal (n := 0x60) rfl h (fun v hv => by unfold legalRow; rw [hv]; rfl)
theorem Laws.Encoding.disc (a0) (a1) : Laws.Encoding.Statement (.disc a0 a1) := by
  intro h p hp
  cases hp
  exact Laws.decode_legal (n := 0x61) rfl h (fun v hv => by unfold legalRow; rw [hv]; rfl)
theorem Laws.Encoding.conn (a0) (a1) : Laws.Encoding.Statement (.conn a0 a1) := by
  intro h p hp
  cases hp
  exact Laws.decode_legal (n := 0x62) rfl h (fun v hv => by unfold legalRow; rw [hv]; rfl)
theorem Laws.Encoding.pin (a0) (a1) : Laws.Encoding.Statement (.pin a0 a1) := by
  intro h p hp
  cases hp
  exact Laws.decode_legal (n := 0x63) rfl h (fun v hv => by unfold legalRow; rw [hv]; rfl)
theorem Laws.Encoding.epoch (a0) (a1) : Laws.Encoding.Statement (.epoch a0 a1) := by
  intro h p hp
  cases hp
  exact Laws.decode_legal (n := 0x64) rfl h (fun v hv => by unfold legalRow; rw [hv]; rfl)
theorem Laws.Encoding.abort (a0) (a1) : Laws.Encoding.Statement (.abort a0 a1) := by
  intro h p hp
  cases hp
  exact Laws.decode_legal (n := 0x65) rfl h (fun v hv => by unfold legalRow; rw [hv]; rfl)
theorem Laws.Encoding.solve (a0) (a1) : Laws.Encoding.Statement (.solve a0 a1) := by
  intro h p hp
  cases hp
  exact Laws.decode_legal (n := 0x66) rfl h (fun v hv => by unfold legalRow; rw [hv]; rfl)
theorem Laws.Encoding.stage (a0) (a1) : Laws.Encoding.Statement (.stage a0 a1) := by
  intro h p hp
  cases hp
  exact Laws.decode_legal (n := 0x67) rfl h (fun v hv => by unfold legalRow; rw [hv]; rfl)
theorem Laws.Encoding.lay (a0) (a1) : Laws.Encoding.Statement (.lay a0 a1) := by
  intro h p hp
  cases hp
  exact Laws.decode_legal (n := 0x68) rfl h (fun v hv => by unfold legalRow; rw [hv]; rfl)
theorem Laws.Encoding.verify (a0) (a1) : Laws.Encoding.Statement (.verify a0 a1) := by
  intro h p hp
  cases hp
  exact Laws.decode_legal (n := 0x69) rfl h (fun v hv => by unfold legalRow; rw [hv]; rfl)
theorem Laws.Encoding.readwIn (a0) (a1) : Laws.Encoding.Statement (.readwIn a0 a1) := by
  intro h p hp
  cases hp
  simp only [Instr.wf, Bool.and_eq_true, decide_eq_true_eq] at h
  exact Laws.decode_legal (n := 0x6A) rfl h.1 (fun v hv => by simp [legalRow, hv, readwRow, h.2])
theorem Laws.Encoding.readwOut (a0) (a1) : Laws.Encoding.Statement (.readwOut a0 a1) := by
  intro h p hp
  cases hp
  simp only [Instr.wf, Bool.and_eq_true, decide_eq_true_eq] at h
  exact Laws.decode_legal (n := 0x6A) rfl h.1 (fun v hv => by simp [legalRow, hv, readwRow, h.2])
theorem Laws.Encoding.readwCell (a0) (a1) : Laws.Encoding.Statement (.readwCell a0 a1) := by
  intro h p hp
  cases hp
  simp only [Instr.wf, Bool.and_eq_true, decide_eq_true_eq] at h
  exact Laws.decode_legal (n := 0x6A) rfl h.1 (fun v hv => by simp [legalRow, hv, readwRow, h.2])
theorem Laws.Encoding.readwSt (a0) (a1) : Laws.Encoding.Statement (.readwSt a0 a1) := by
  intro h p hp
  cases hp
  simp only [Instr.wf, Bool.and_eq_true, decide_eq_true_eq] at h
  exact Laws.decode_legal (n := 0x6A) rfl h.1 (fun v hv => by simp [legalRow, hv, readwRow, h.2])
theorem Laws.Encoding.readwStable (a0) (a1) : Laws.Encoding.Statement (.readwStable a0 a1) := by
  intro h p hp
  cases hp
  simp only [Instr.wf, Bool.and_eq_true, decide_eq_true_eq] at h
  exact Laws.decode_legal (n := 0x6A) rfl h.1 (fun v hv => by simp [legalRow, hv, readwRow, h.2])
theorem Laws.Encoding.lset (a0) (a1) : Laws.Encoding.Statement (.lset a0 a1) := by
  intro h p hp
  cases hp
  exact Laws.decode_legal (n := 0x80) rfl h (fun v hv => by unfold legalRow; rw [hv]; rfl)
theorem Laws.Encoding.lmode (a0) (a1) : Laws.Encoding.Statement (.lmode a0 a1) := by
  intro h p hp
  cases hp
  exact Laws.decode_legal (n := 0x81) rfl h (fun v hv => by unfold legalRow; rw [hv]; rfl)
theorem Laws.Encoding.lpreset (a0) (a1) : Laws.Encoding.Statement (.lpreset a0 a1) := by
  intro h p hp
  cases hp
  exact Laws.decode_legal (n := 0x82) rfl h (fun v hv => by unfold legalRow; rw [hv]; rfl)
theorem Laws.Encoding.linj (a0) (a1) : Laws.Encoding.Statement (.linj a0 a1) := by
  intro h p hp
  cases hp
  exact Laws.decode_legal (n := 0x83) rfl h (fun v hv => by unfold legalRow; rw [hv]; rfl)
theorem Laws.Encoding.lcap (a0) (a1) : Laws.Encoding.Statement (.lcap a0 a1) := by
  intro h p hp
  cases hp
  exact Laws.decode_legal (n := 0x84) rfl h (fun v hv => by unfold legalRow; rw [hv]; rfl)
theorem Laws.Encoding.send (a0) (a1) : Laws.Encoding.Statement (.send a0 a1) := by
  intro h p hp
  cases hp
  exact Laws.decode_legal (n := 0x90) rfl h (fun v hv => by unfold legalRow; rw [hv]; rfl)
theorem Laws.Encoding.recv (a0) (a1) : Laws.Encoding.Statement (.recv a0 a1) := by
  intro h p hp
  cases hp
  simp only [Instr.wf, Bool.and_eq_true, decide_eq_true_eq] at h
  exact Laws.decode_legal (n := 0x91) rfl h.1 (fun v hv => by simp [legalRow, hv, readwRow, h.2])
theorem Laws.Encoding.recvN (a0) (a1) : Laws.Encoding.Statement (.recvN a0 a1) := by
  intro h p hp
  cases hp
  simp only [Instr.wf, Bool.and_eq_true, decide_eq_true_eq] at h
  exact Laws.decode_legal (n := 0x91) rfl h.1 (fun v hv => by simp [legalRow, hv, readwRow, h.2])
theorem Laws.Encoding.ack (a0) (a1) : Laws.Encoding.Statement (.ack a0 a1) := by
  intro h p hp
  cases hp
  exact Laws.decode_legal (n := 0x92) rfl h (fun v hv => by unfold legalRow; rw [hv]; rfl)
theorem Laws.Encoding.waitt (a0) (a1) : Laws.Encoding.Statement (.waitt a0 a1) := by
  intro h p hp
  cases hp
  exact Laws.decode_legal (n := 0xA0) rfl h (fun v hv => by unfold legalRow; rw [hv]; rfl)
theorem Laws.Encoding.waite (a0) (a1) : Laws.Encoding.Statement (.waite a0 a1) := by
  intro h p hp
  cases hp
  exact Laws.decode_legal (n := 0xA1) rfl h (fun v hv => by unfold legalRow; rw [hv]; rfl)
theorem Laws.Encoding.tnow (a0) (a1) : Laws.Encoding.Statement (.tnow a0 a1) := by
  intro h p hp
  cases hp
  exact Laws.decode_legal (n := 0xA2) rfl h (fun v hv => by unfold legalRow; rw [hv]; rfl)
theorem Laws.Encoding.hist (a0) (a1) : Laws.Encoding.Statement (.hist a0 a1) := by
  intro h p hp
  cases hp
  exact Laws.decode_legal (n := 0xB0) rfl h (fun v hv => by unfold legalRow; rw [hv]; rfl)
theorem Laws.Encoding.fraise (a0) (a1) : Laws.Encoding.Statement (.fraise a0 a1) := by
  intro h p hp
  cases hp
  exact Laws.decode_legal (n := 0xB1) rfl h (fun v hv => by unfold legalRow; rw [hv]; rfl)
theorem Laws.Encoding.fack (a0) (a1) : Laws.Encoding.Statement (.fack a0 a1) := by
  intro h p hp
  cases hp
  exact Laws.decode_legal (n := 0xB2) rfl h (fun v hv => by unfold legalRow; rw [hv]; rfl)
theorem Laws.Encoding.halt (a0) (a1) : Laws.Encoding.Statement (.halt a0 a1) := by
  intro h p hp
  cases hp
  exact Laws.decode_legal (n := 0xF0) rfl h (fun v hv => by unfold legalRow; rw [hv]; rfl)
theorem Laws.Encoding.sleep (a0) (a1) : Laws.Encoding.Statement (.sleep a0 a1) := by
  intro h p hp
  cases hp
  exact Laws.decode_legal (n := 0xF1) rfl h (fun v hv => by unfold legalRow; rw [hv]; rfl)
theorem Laws.Encoding.sync (a0) (a1) : Laws.Encoding.Statement (.sync a0 a1) := by
  intro h p hp
  cases hp
  exact Laws.decode_legal (n := 0xF2) rfl h (fun v hv => by unfold legalRow; rw [hv]; rfl)
theorem Laws.Encoding.trap (a0) (a1) : Laws.Encoding.Statement (.trap a0 a1) := by
  intro h p hp
  cases hp
  exact Laws.decode_legal (n := 0xF3) rfl h (fun v hv => by unfold legalRow; rw [hv]; rfl)
theorem Laws.Encoding.illegalOpcode (a0) (a1) : Laws.Encoding.Statement (.illegalOpcode a0 a1) := by
  intro h p hp
  cases hp
  simp only [Instr.wf, Bool.not_eq_true'] at h
  simp [decodeWicker, h]
theorem Laws.Encoding.registerWrite (a0) : Laws.Encoding.Statement (.registerWrite a0) := Laws.Encoding.of_none rfl
theorem Laws.Encoding.memoryWrite (a0) : Laws.Encoding.Statement (.memoryWrite a0) := Laws.Encoding.of_none rfl
theorem Laws.Encoding.defaultTargetAccess (a0) (a1) (a2) : Laws.Encoding.Statement (.defaultTargetAccess a0 a1 a2) := Laws.Encoding.of_none rfl
theorem Laws.Encoding.powerOnReset : Laws.Encoding.Statement (.powerOnReset) := Laws.Encoding.of_none rfl
theorem Laws.Encoding.resetNReset : Laws.Encoding.Statement (.resetNReset) := Laws.Encoding.of_none rfl
theorem Laws.Encoding.softReset : Laws.Encoding.Statement (.softReset) := Laws.Encoding.of_none rfl
theorem Laws.Encoding.debugReset : Laws.Encoding.Statement (.debugReset) := Laws.Encoding.of_none rfl
theorem Laws.Encoding.pcieFlr (a0) : Laws.Encoding.Statement (.pcieFlr a0) := Laws.Encoding.of_none rfl
theorem Laws.Encoding.lcNonce : Laws.Encoding.Statement (.lcNonce) := Laws.Encoding.of_none rfl
theorem Laws.Encoding.lcGo (a0) : Laws.Encoding.Statement (.lcGo a0) := Laws.Encoding.of_none rfl
theorem Laws.Encoding.flashRead (a0) : Laws.Encoding.Statement (.flashRead a0) := Laws.Encoding.of_none rfl
theorem Laws.Encoding.flashProgram (a0) : Laws.Encoding.Statement (.flashProgram a0) := Laws.Encoding.of_none rfl
theorem Laws.Encoding.flashErase4k (a0) : Laws.Encoding.Statement (.flashErase4k a0) := Laws.Encoding.of_none rfl
theorem Laws.Encoding.flashErase64k (a0) : Laws.Encoding.Statement (.flashErase64k a0) := Laws.Encoding.of_none rfl
theorem Laws.Encoding.flashCmdDone (a0) : Laws.Encoding.Statement (.flashCmdDone a0) := Laws.Encoding.of_none rfl
theorem Laws.Encoding.flashQueueIssue : Laws.Encoding.Statement (.flashQueueIssue) := Laws.Encoding.of_none rfl
theorem Laws.Encoding.fenceDone (a0) : Laws.Encoding.Statement (.fenceDone a0) := Laws.Encoding.of_none rfl
theorem Laws.Encoding.ledgerStallResume (a0) : Laws.Encoding.Statement (.ledgerStallResume a0) := Laws.Encoding.of_none rfl
theorem Laws.Encoding.abortResolved (a0) : Laws.Encoding.Statement (.abortResolved a0) := Laws.Encoding.of_none rfl
theorem Laws.Encoding.trialSolveDone (a0) : Laws.Encoding.Statement (.trialSolveDone a0) := Laws.Encoding.of_none rfl
theorem Laws.Encoding.layEpochEnd (a0) : Laws.Encoding.Statement (.layEpochEnd a0) := Laws.Encoding.of_none rfl
theorem Laws.Encoding.readwStFinal (a0) : Laws.Encoding.Statement (.readwStFinal a0) := Laws.Encoding.of_none rfl
theorem Laws.Encoding.sendQueueRoom (a0) : Laws.Encoding.Statement (.sendQueueRoom a0) := Laws.Encoding.of_none rfl
theorem Laws.Encoding.recvFrameReady (a0) : Laws.Encoding.Statement (.recvFrameReady a0) := Laws.Encoding.of_none rfl
theorem Laws.Encoding.waittResume (a0) : Laws.Encoding.Statement (.waittResume a0) := Laws.Encoding.of_none rfl
theorem Laws.Encoding.waiteResume (a0) : Laws.Encoding.Statement (.waiteResume a0) := Laws.Encoding.of_none rfl
theorem Laws.Encoding.sleepWake (a0) : Laws.Encoding.Statement (.sleepWake a0) := Laws.Encoding.of_none rfl
theorem Laws.Encoding.hookStart (a0) : Laws.Encoding.Statement (.hookStart a0) := Laws.Encoding.of_none rfl
theorem Laws.Encoding.sqStop (a0) : Laws.Encoding.Statement (.sqStop a0) := Laws.Encoding.of_none rfl
theorem Laws.Encoding.sqEn (a0) : Laws.Encoding.Statement (.sqEn a0) := Laws.Encoding.of_none rfl
theorem Laws.Encoding.trapClr (a0) : Laws.Encoding.Statement (.trapClr a0) := Laws.Encoding.of_none rfl
theorem Laws.Encoding.seqDoorbell (a0) : Laws.Encoding.Statement (.seqDoorbell a0) := Laws.Encoding.of_none rfl
theorem Laws.Encoding.hcmdUnpin (a0) : Laws.Encoding.Statement (.hcmdUnpin a0) := Laws.Encoding.of_none rfl
theorem Laws.Encoding.hcmdDisc (a0) : Laws.Encoding.Statement (.hcmdDisc a0) := Laws.Encoding.of_none rfl
theorem Laws.Encoding.hcmdConn (a0) : Laws.Encoding.Statement (.hcmdConn a0) := Laws.Encoding.of_none rfl
theorem Laws.Encoding.hcmdPin (a0) : Laws.Encoding.Statement (.hcmdPin a0) := Laws.Encoding.of_none rfl
theorem Laws.Encoding.hcmdOpenEpoch (a0) (a1) : Laws.Encoding.Statement (.hcmdOpenEpoch a0 a1) := Laws.Encoding.of_none rfl
theorem Laws.Encoding.hcmdAbortEpoch (a0) : Laws.Encoding.Statement (.hcmdAbortEpoch a0) := Laws.Encoding.of_none rfl
theorem Laws.Encoding.seqEntryRead (a0) (a1) : Laws.Encoding.Statement (.seqEntryRead a0 a1) := Laws.Encoding.of_none rfl
theorem Laws.Encoding.entryDeliveryTimeout (a0) : Laws.Encoding.Statement (.entryDeliveryTimeout a0) := Laws.Encoding.of_none rfl
theorem Laws.Encoding.sealEpoch (a0) : Laws.Encoding.Statement (.sealEpoch a0) := Laws.Encoding.of_none rfl
theorem Laws.Encoding.epochEvaluateDeferred (a0) : Laws.Encoding.Statement (.epochEvaluateDeferred a0) := Laws.Encoding.of_none rfl
theorem Laws.Encoding.slotFreedSolve (a0) : Laws.Encoding.Statement (.slotFreedSolve a0) := Laws.Encoding.of_none rfl
theorem Laws.Encoding.solveDone : Laws.Encoding.Statement (.solveDone) := Laws.Encoding.of_none rfl
theorem Laws.Encoding.weaveResolve (a0) : Laws.Encoding.Statement (.weaveResolve a0) := Laws.Encoding.of_none rfl
theorem Laws.Encoding.stageWeave (a0) : Laws.Encoding.Statement (.stageWeave a0) := Laws.Encoding.of_none rfl
theorem Laws.Encoding.stagingDeadline (a0) : Laws.Encoding.Statement (.stagingDeadline a0) := Laws.Encoding.of_none rfl
theorem Laws.Encoding.layInstant (a0) : Laws.Encoding.Statement (.layInstant a0) := Laws.Encoding.of_none rfl
theorem Laws.Encoding.layStrobe : Laws.Encoding.Statement (.layStrobe) := Laws.Encoding.of_none rfl
theorem Laws.Encoding.layHandBack : Laws.Encoding.Statement (.layHandBack) := Laws.Encoding.of_none rfl
theorem Laws.Encoding.settleCheck : Laws.Encoding.Statement (.settleCheck) := Laws.Encoding.of_none rfl
theorem Laws.Encoding.unblank : Laws.Encoding.Statement (.unblank) := Laws.Encoding.of_none rfl
theorem Laws.Encoding.layComplete : Laws.Encoding.Statement (.layComplete) := Laws.Encoding.of_none rfl
theorem Laws.Encoding.laggingCheck : Laws.Encoding.Statement (.laggingCheck) := Laws.Encoding.of_none rfl
theorem Laws.Encoding.layReopen (a0) : Laws.Encoding.Statement (.layReopen a0) := Laws.Encoding.of_none rfl
theorem Laws.Encoding.layEnable (a0) : Laws.Encoding.Statement (.layEnable a0) := Laws.Encoding.of_none rfl
theorem Laws.Encoding.layFlush : Laws.Encoding.Statement (.layFlush) := Laws.Encoding.of_none rfl
theorem Laws.Encoding.restoringLayStart : Laws.Encoding.Statement (.restoringLayStart) := Laws.Encoding.of_none rfl
theorem Laws.Encoding.outboundFrame : Laws.Encoding.Statement (.outboundFrame) := Laws.Encoding.of_none rfl
theorem Laws.Encoding.driveStrobeFire (a0) : Laws.Encoding.Statement (.driveStrobeFire a0) := Laws.Encoding.of_none rfl
theorem Laws.Encoding.driveRecordRebuild (a0) : Laws.Encoding.Statement (.driveRecordRebuild a0) := Laws.Encoding.of_none rfl
theorem Laws.Encoding.inboundFrame (a0) : Laws.Encoding.Statement (.inboundFrame a0) := Laws.Encoding.of_none rfl
theorem Laws.Encoding.loopPeriod : Laws.Encoding.Statement (.loopPeriod) := Laws.Encoding.of_none rfl
theorem Laws.Encoding.gradientBlock : Laws.Encoding.Statement (.gradientBlock) := Laws.Encoding.of_none rfl
theorem Laws.Encoding.knownAnswerTest (a0) : Laws.Encoding.Statement (.knownAnswerTest a0) := Laws.Encoding.of_none rfl
theorem Laws.Encoding.loopCoreRetire (a0) : Laws.Encoding.Statement (.loopCoreRetire a0) := Laws.Encoding.of_none rfl
theorem Laws.Encoding.loopEnable (a0) : Laws.Encoding.Statement (.loopEnable a0) := Laws.Encoding.of_none rfl
theorem Laws.Encoding.loopCapStop (a0) : Laws.Encoding.Statement (.loopCapStop a0) := Laws.Encoding.of_none rfl
theorem Laws.Encoding.captureDone (a0) : Laws.Encoding.Statement (.captureDone a0) := Laws.Encoding.of_none rfl
theorem Laws.Encoding.injectionEnd (a0) : Laws.Encoding.Statement (.injectionEnd a0) := Laws.Encoding.of_none rfl
theorem Laws.Encoding.auxLoopEnable (a0) : Laws.Encoding.Statement (.auxLoopEnable a0) := Laws.Encoding.of_none rfl
theorem Laws.Encoding.calReq (a0) (a1) : Laws.Encoding.Statement (.calReq a0 a1) := Laws.Encoding.of_none rfl
theorem Laws.Encoding.calRunStart : Laws.Encoding.Statement (.calRunStart) := Laws.Encoding.of_none rfl
theorem Laws.Encoding.calDwell (a0) : Laws.Encoding.Statement (.calDwell a0) := Laws.Encoding.of_none rfl
theorem Laws.Encoding.calRunEnd (a0) : Laws.Encoding.Statement (.calRunEnd a0) := Laws.Encoding.of_none rfl
theorem Laws.Encoding.senseCalStep (a0) : Laws.Encoding.Statement (.senseCalStep a0) := Laws.Encoding.of_none rfl
theorem Laws.Encoding.senseCalRunEnd (a0) : Laws.Encoding.Statement (.senseCalRunEnd a0) := Laws.Encoding.of_none rfl
theorem Laws.Encoding.blendStart : Laws.Encoding.Statement (.blendStart) := Laws.Encoding.of_none rfl
theorem Laws.Encoding.passiveObservation : Laws.Encoding.Statement (.passiveObservation) := Laws.Encoding.of_none rfl
theorem Laws.Encoding.passiveExpire (a0) : Laws.Encoding.Statement (.passiveExpire a0) := Laws.Encoding.of_none rfl
theorem Laws.Encoding.calEnable (a0) : Laws.Encoding.Statement (.calEnable a0) := Laws.Encoding.of_none rfl
theorem Laws.Encoding.calAbort : Laws.Encoding.Statement (.calAbort) := Laws.Encoding.of_none rfl
theorem Laws.Encoding.calAreaReload (a0) (a1) : Laws.Encoding.Statement (.calAreaReload a0 a1) := Laws.Encoding.of_none rfl
theorem Laws.Encoding.strandStart : Laws.Encoding.Statement (.strandStart) := Laws.Encoding.of_none rfl
theorem Laws.Encoding.linkTrained (a0) : Laws.Encoding.Statement (.linkTrained a0) := Laws.Encoding.of_none rfl
theorem Laws.Encoding.linkAligned (a0) : Laws.Encoding.Statement (.linkAligned a0) := Laws.Encoding.of_none rfl
theorem Laws.Encoding.cartAuthResponse (a0) : Laws.Encoding.Statement (.cartAuthResponse a0) := Laws.Encoding.of_none rfl
theorem Laws.Encoding.linkIdentified (a0) : Laws.Encoding.Statement (.linkIdentified a0) := Laws.Encoding.of_none rfl
theorem Laws.Encoding.strandStream : Laws.Encoding.Statement (.strandStream) := Laws.Encoding.of_none rfl
theorem Laws.Encoding.streamEchoReady : Laws.Encoding.Statement (.streamEchoReady) := Laws.Encoding.of_none rfl
theorem Laws.Encoding.strandStop : Laws.Encoding.Statement (.strandStop) := Laws.Encoding.of_none rfl
theorem Laws.Encoding.portReq : Laws.Encoding.Statement (.portReq) := Laws.Encoding.of_none rfl
theorem Laws.Encoding.portRel : Laws.Encoding.Statement (.portRel) := Laws.Encoding.of_none rfl
theorem Laws.Encoding.laneFailure (a0) : Laws.Encoding.Statement (.laneFailure a0) := Laws.Encoding.of_none rfl
theorem Laws.Encoding.spareSwitch : Laws.Encoding.Statement (.spareSwitch) := Laws.Encoding.of_none rfl
theorem Laws.Encoding.strandLaneTest (a0) : Laws.Encoding.Statement (.strandLaneTest a0) := Laws.Encoding.of_none rfl
theorem Laws.Encoding.laneTestEnd (a0) (a1) : Laws.Encoding.Statement (.laneTestEnd a0 a1) := Laws.Encoding.of_none rfl
theorem Laws.Encoding.idRead (a0) : Laws.Encoding.Statement (.idRead a0) := Laws.Encoding.of_none rfl
theorem Laws.Encoding.idWrite (a0) (a1) : Laws.Encoding.Statement (.idWrite a0 a1) := Laws.Encoding.of_none rfl
theorem Laws.Encoding.writeBack : Laws.Encoding.Statement (.writeBack) := Laws.Encoding.of_none rfl
theorem Laws.Encoding.poweredHour : Laws.Encoding.Statement (.poweredHour) := Laws.Encoding.of_none rfl
theorem Laws.Encoding.wearFold : Laws.Encoding.Statement (.wearFold) := Laws.Encoding.of_none rfl
theorem Laws.Encoding.dmapAdd (a0) : Laws.Encoding.Statement (.dmapAdd a0) := Laws.Encoding.of_none rfl
theorem Laws.Encoding.dmapRemove (a0) : Laws.Encoding.Statement (.dmapRemove a0) := Laws.Encoding.of_none rfl
theorem Laws.Encoding.memParity (a0) (a1) : Laws.Encoding.Statement (.memParity a0 a1) := Laws.Encoding.of_none rfl
theorem Laws.Encoding.instrParityReload (a0) : Laws.Encoding.Statement (.instrParityReload a0) := Laws.Encoding.of_none rfl
theorem Laws.Encoding.commandFrame (a0) : Laws.Encoding.Statement (.commandFrame a0) := Laws.Encoding.of_none rfl
theorem Laws.Encoding.statusFrame (a0) : Laws.Encoding.Statement (.statusFrame a0) := Laws.Encoding.of_none rfl
theorem Laws.Encoding.dataFrame (a0) : Laws.Encoding.Statement (.dataFrame a0) := Laws.Encoding.of_none rfl
theorem Laws.Encoding.ackFrame (a0) : Laws.Encoding.Statement (.ackFrame a0) := Laws.Encoding.of_none rfl
theorem Laws.Encoding.query (a0) : Laws.Encoding.Statement (.query a0) := Laws.Encoding.of_none rfl
theorem Laws.Encoding.reply (a0) : Laws.Encoding.Statement (.reply a0) := Laws.Encoding.of_none rfl
theorem Laws.Encoding.commandRetransmit (a0) (a1) (a2) : Laws.Encoding.Statement (.commandRetransmit a0 a1 a2) := Laws.Encoding.of_none rfl
theorem Laws.Encoding.seqNetOpen (a0) : Laws.Encoding.Statement (.seqNetOpen a0) := Laws.Encoding.of_none rfl
theorem Laws.Encoding.prepare (a0) : Laws.Encoding.Statement (.prepare a0) := Laws.Encoding.of_none rfl
theorem Laws.Encoding.ready (a0) : Laws.Encoding.Statement (.ready a0) := Laws.Encoding.of_none rfl
theorem Laws.Encoding.readyDeadline (a0) : Laws.Encoding.Statement (.readyDeadline a0) := Laws.Encoding.of_none rfl
theorem Laws.Encoding.commit (a0) : Laws.Encoding.Statement (.commit a0) := Laws.Encoding.of_none rfl
theorem Laws.Encoding.abortFrame (a0) : Laws.Encoding.Statement (.abortFrame a0) := Laws.Encoding.of_none rfl
theorem Laws.Encoding.missed (a0) : Laws.Encoding.Statement (.missed a0) := Laws.Encoding.of_none rfl
theorem Laws.Encoding.landed (a0) : Laws.Encoding.Statement (.landed a0) := Laws.Encoding.of_none rfl
theorem Laws.Encoding.stable (a0) : Laws.Encoding.Statement (.stable a0) := Laws.Encoding.of_none rfl
theorem Laws.Encoding.braidFrameRx (a0) (a1) : Laws.Encoding.Statement (.braidFrameRx a0 a1) := Laws.Encoding.of_none rfl
theorem Laws.Encoding.transmitStart (a0) : Laws.Encoding.Statement (.transmitStart a0) := Laws.Encoding.of_none rfl
theorem Laws.Encoding.transmitEnd (a0) : Laws.Encoding.Statement (.transmitEnd a0) := Laws.Encoding.of_none rfl
theorem Laws.Encoding.braidLinkDown (a0) : Laws.Encoding.Statement (.braidLinkDown a0) := Laws.Encoding.of_none rfl
theorem Laws.Encoding.braidLinkUp (a0) : Laws.Encoding.Statement (.braidLinkUp a0) := Laws.Encoding.of_none rfl
theorem Laws.Encoding.lagRejoin (a0) : Laws.Encoding.Statement (.lagRejoin a0) := Laws.Encoding.of_none rfl
theorem Laws.Encoding.lagRejoinDone (a0) : Laws.Encoding.Statement (.lagRejoinDone a0) := Laws.Encoding.of_none rfl
theorem Laws.Encoding.gateCommit (a0) : Laws.Encoding.Statement (.gateCommit a0) := Laws.Encoding.of_none rfl
theorem Laws.Encoding.gateListStart (a0) : Laws.Encoding.Statement (.gateListStart a0) := Laws.Encoding.of_none rfl
theorem Laws.Encoding.gateEntryChange (a0) : Laws.Encoding.Statement (.gateEntryChange a0) := Laws.Encoding.of_none rfl
theorem Laws.Encoding.queueSample : Laws.Encoding.Statement (.queueSample) := Laws.Encoding.of_none rfl
theorem Laws.Encoding.switchHostTx (a0) : Laws.Encoding.Statement (.switchHostTx a0) := Laws.Encoding.of_none rfl
theorem Laws.Encoding.hostFrameEnter : Laws.Encoding.Statement (.hostFrameEnter) := Laws.Encoding.of_none rfl
theorem Laws.Encoding.hostRxPop : Laws.Encoding.Statement (.hostRxPop) := Laws.Encoding.of_none rfl
theorem Laws.Encoding.timeInc (a0) (a1) : Laws.Encoding.Statement (.timeInc a0 a1) := Laws.Encoding.of_none rfl
theorem Laws.Encoding.timeAdj (a0) (a1) : Laws.Encoding.Statement (.timeAdj a0 a1) := Laws.Encoding.of_none rfl
theorem Laws.Encoding.slewEnd : Laws.Encoding.Statement (.slewEnd) := Laws.Encoding.of_none rfl
theorem Laws.Encoding.lockAssert (a0) : Laws.Encoding.Statement (.lockAssert a0) := Laws.Encoding.of_none rfl
theorem Laws.Encoding.lockClear (a0) : Laws.Encoding.Statement (.lockClear a0) := Laws.Encoding.of_none rfl
theorem Laws.Encoding.lockExpire (a0) : Laws.Encoding.Statement (.lockExpire a0) := Laws.Encoding.of_none rfl
theorem Laws.Encoding.cmpArm (a0) (a1) : Laws.Encoding.Statement (.cmpArm a0 a1) := Laws.Encoding.of_none rfl
theorem Laws.Encoding.cmpDisarm (a0) : Laws.Encoding.Statement (.cmpDisarm a0) := Laws.Encoding.of_none rfl
theorem Laws.Encoding.cmpFire (a0) : Laws.Encoding.Statement (.cmpFire a0) := Laws.Encoding.of_none rfl
theorem Laws.Encoding.ppsOutPulse : Laws.Encoding.Statement (.ppsOutPulse) := Laws.Encoding.of_none rfl
theorem Laws.Encoding.ppsInEdge : Laws.Encoding.Statement (.ppsInEdge) := Laws.Encoding.of_none rfl
theorem Laws.Encoding.laySyncOutPulse : Laws.Encoding.Statement (.laySyncOutPulse) := Laws.Encoding.of_none rfl
theorem Laws.Encoding.laySyncInEdge : Laws.Encoding.Statement (.laySyncInEdge) := Laws.Encoding.of_none rfl
theorem Laws.Encoding.heartbeatSend : Laws.Encoding.Statement (.heartbeatSend) := Laws.Encoding.of_none rfl
theorem Laws.Encoding.heartbeatFrameRx (a0) : Laws.Encoding.Statement (.heartbeatFrameRx a0) := Laws.Encoding.of_none rfl
theorem Laws.Encoding.heartbeatPulseIn (a0) : Laws.Encoding.Statement (.heartbeatPulseIn a0) := Laws.Encoding.of_none rfl
theorem Laws.Encoding.redundSurrender : Laws.Encoding.Statement (.redundSurrender) := Laws.Encoding.of_none rfl
theorem Laws.Encoding.peerLost : Laws.Encoding.Statement (.peerLost) := Laws.Encoding.of_none rfl
theorem Laws.Encoding.hbPath : Laws.Encoding.Statement (.hbPath) := Laws.Encoding.of_none rfl
theorem Laws.Encoding.failoverGrant : Laws.Encoding.Statement (.failoverGrant) := Laws.Encoding.of_none rfl
theorem Laws.Encoding.failoverEchoReady : Laws.Encoding.Statement (.failoverEchoReady) := Laws.Encoding.of_none rfl
theorem Laws.Encoding.failoverGrantTimeout : Laws.Encoding.Statement (.failoverGrantTimeout) := Laws.Encoding.of_none rfl
theorem Laws.Encoding.redundWdog : Laws.Encoding.Statement (.redundWdog) := Laws.Encoding.of_none rfl
theorem Laws.Encoding.watchdogExpire : Laws.Encoding.Statement (.watchdogExpire) := Laws.Encoding.of_none rfl
theorem Laws.Encoding.ckptRecordRx (a0) : Laws.Encoding.Statement (.ckptRecordRx a0) := Laws.Encoding.of_none rfl
theorem Laws.Encoding.ckptGapTimeout : Laws.Encoding.Statement (.ckptGapTimeout) := Laws.Encoding.of_none rfl
theorem Laws.Encoding.ckptResyncDone : Laws.Encoding.Statement (.ckptResyncDone) := Laws.Encoding.of_none rfl
theorem Laws.Encoding.shadowSend : Laws.Encoding.Statement (.shadowSend) := Laws.Encoding.of_none rfl
theorem Laws.Encoding.marchPassEnd (a0) : Laws.Encoding.Statement (.marchPassEnd a0) := Laws.Encoding.of_none rfl
theorem Laws.Encoding.takebackHoldoff : Laws.Encoding.Statement (.takebackHoldoff) := Laws.Encoding.of_none rfl
theorem Laws.Encoding.redundTakeback : Laws.Encoding.Statement (.redundTakeback) := Laws.Encoding.of_none rfl
theorem Laws.Encoding.takebackQuiesced : Laws.Encoding.Statement (.takebackQuiesced) := Laws.Encoding.of_none rfl
theorem Laws.Encoding.handoverFrame : Laws.Encoding.Statement (.handoverFrame) := Laws.Encoding.of_none rfl
theorem Laws.Encoding.takebackTimeout : Laws.Encoding.Statement (.takebackTimeout) := Laws.Encoding.of_none rfl
theorem Laws.Encoding.redundRestore : Laws.Encoding.Statement (.redundRestore) := Laws.Encoding.of_none rfl
theorem Laws.Encoding.faultRaise (a0) (a1) : Laws.Encoding.Statement (.faultRaise a0 a1) := Laws.Encoding.of_none rfl
theorem Laws.Encoding.faultForce (a0) : Laws.Encoding.Statement (.faultForce a0) := Laws.Encoding.of_none rfl
theorem Laws.Encoding.faultAckWrite (a0) : Laws.Encoding.Statement (.faultAckWrite a0) := Laws.Encoding.of_none rfl
theorem Laws.Encoding.releaseFreeze : Laws.Encoding.Statement (.releaseFreeze) := Laws.Encoding.of_none rfl
theorem Laws.Encoding.releaseHold : Laws.Encoding.Statement (.releaseHold) := Laws.Encoding.of_none rfl
theorem Laws.Encoding.releaseSafe : Laws.Encoding.Statement (.releaseSafe) := Laws.Encoding.of_none rfl
theorem Laws.Encoding.safeNAssert : Laws.Encoding.Statement (.safeNAssert) := Laws.Encoding.of_none rfl
theorem Laws.Encoding.safeNDeassert : Laws.Encoding.Statement (.safeNDeassert) := Laws.Encoding.of_none rfl
theorem Laws.Encoding.monSnap (a0) (a1) : Laws.Encoding.Statement (.monSnap a0 a1) := Laws.Encoding.of_none rfl
theorem Laws.Encoding.monHopIn (a0) (a1) : Laws.Encoding.Statement (.monHopIn a0 a1) := Laws.Encoding.of_none rfl
theorem Laws.Encoding.histConfigWrite (a0) (a1) (a2) : Laws.Encoding.Statement (.histConfigWrite a0 a1 a2) := Laws.Encoding.of_none rfl
theorem Laws.Encoding.trackerConfigWrite (a0) (a1) : Laws.Encoding.Statement (.trackerConfigWrite a0 a1) := Laws.Encoding.of_none rfl
theorem Laws.Encoding.monitorSample : Laws.Encoding.Statement (.monitorSample) := Laws.Encoding.of_none rfl
theorem Laws.Encoding.hkRoundStart : Laws.Encoding.Statement (.hkRoundStart) := Laws.Encoding.of_none rfl
theorem Laws.Encoding.hkPublish (a0) : Laws.Encoding.Statement (.hkPublish a0) := Laws.Encoding.of_none rfl
theorem Laws.Encoding.pwmReload (a0) : Laws.Encoding.Statement (.pwmReload a0) := Laws.Encoding.of_none rfl
theorem Laws.Encoding.pwmSyncInEdge : Laws.Encoding.Statement (.pwmSyncInEdge) := Laws.Encoding.of_none rfl
theorem Laws.Encoding.pwmEnable (a0) (a1) : Laws.Encoding.Statement (.pwmEnable a0 a1) := Laws.Encoding.of_none rfl
theorem Laws.Encoding.tripAssert (a0) : Laws.Encoding.Statement (.tripAssert a0) := Laws.Encoding.of_none rfl
theorem Laws.Encoding.tripClr (a0) : Laws.Encoding.Statement (.tripClr a0) := Laws.Encoding.of_none rfl
theorem Laws.Encoding.clockMonitorWindow (a0) (a1) : Laws.Encoding.Statement (.clockMonitorWindow a0 a1) := Laws.Encoding.of_none rfl
theorem Laws.Encoding.clockDetectorFail (a0) : Laws.Encoding.Statement (.clockDetectorFail a0) := Laws.Encoding.of_none rfl
theorem Laws.Encoding.xtalQualified : Laws.Encoding.Statement (.xtalQualified) := Laws.Encoding.of_none rfl
theorem Laws.Encoding.xtalQualTimeout (a0) : Laws.Encoding.Statement (.xtalQualTimeout a0) := Laws.Encoding.of_none rfl
theorem Laws.Encoding.pllLock (a0) : Laws.Encoding.Statement (.pllLock a0) := Laws.Encoding.of_none rfl
theorem Laws.Encoding.clkDomSrc (a0) (a1) : Laws.Encoding.Statement (.clkDomSrc a0 a1) := Laws.Encoding.of_none rfl
theorem Laws.Encoding.clockSwitchTimeout (a0) : Laws.Encoding.Statement (.clockSwitchTimeout a0) := Laws.Encoding.of_none rfl
theorem Laws.Encoding.refclkRestored : Laws.Encoding.Statement (.refclkRestored) := Laws.Encoding.of_none rfl
theorem Laws.Encoding.gateForceTimeout (a0) : Laws.Encoding.Statement (.gateForceTimeout a0) := Laws.Encoding.of_none rfl
theorem Laws.Encoding.pwrCtrl (a0) : Laws.Encoding.Statement (.pwrCtrl a0) := Laws.Encoding.of_none rfl
theorem Laws.Encoding.powerTransitionDone : Laws.Encoding.Statement (.powerTransitionDone) := Laws.Encoding.of_none rfl
theorem Laws.Encoding.busTargetTimeout (a0) (a1) : Laws.Encoding.Statement (.busTargetTimeout a0 a1) := Laws.Encoding.of_none rfl
theorem Laws.Encoding.busMasterReset (a0) : Laws.Encoding.Statement (.busMasterReset a0) := Laws.Encoding.of_none rfl
theorem Laws.Encoding.masterResetDone (a0) : Laws.Encoding.Statement (.masterResetDone a0) := Laws.Encoding.of_none rfl
theorem Laws.Encoding.resetRelease : Laws.Encoding.Statement (.resetRelease) := Laws.Encoding.of_none rfl
theorem Laws.Encoding.startupStepDone : Laws.Encoding.Statement (.startupStepDone) := Laws.Encoding.of_none rfl
theorem Laws.Encoding.pcieLinkUp : Laws.Encoding.Statement (.pcieLinkUp) := Laws.Encoding.of_none rfl
theorem Laws.Encoding.senseVfyReq : Laws.Encoding.Statement (.senseVfyReq) := Laws.Encoding.of_none rfl
theorem Laws.Encoding.verifyPassDone : Laws.Encoding.Statement (.verifyPassDone) := Laws.Encoding.of_none rfl
theorem Laws.Encoding.synceSquelchEnd (a0) : Laws.Encoding.Statement (.synceSquelchEnd a0) := Laws.Encoding.of_none rfl
theorem Laws.Encoding.healthFlagClear (a0) : Laws.Encoding.Statement (.healthFlagClear a0) := Laws.Encoding.of_none rfl
theorem Laws.Encoding.ckptRollingUpdate (a0) : Laws.Encoding.Statement (.ckptRollingUpdate a0) := Laws.Encoding.of_none rfl

end Sys2Proof
end

