-- ==== Sys2Proof/Laws/State.lean ====
section
/-! SUPPORT. One lemma per field per shared update of the state, and the laws of register fields, sequencers and
memory bytes: a read after a write gives what was written, and a write leaves every other place alone. -/

namespace Sys2Proof.Machine

/-! ### Register fields -/

/-- The register table of a sound state has rising keys. -/
theorem State.regs_rising {s : State} (h : s.ok = true) : Sparse.rising 0 s.regs = true := by
  simp only [State.ok, Bool.and_eq_true] at h
  exact h.2

/-- A read of the field written gives the value cut to the field's width. -/
theorem State.rd_wr_self {s : State} (h : s.ok = true) (f : Fld) (v i j k : Nat) :
    (s.wr f v i j k).rd f i j k = v % 2 ^ f.width % 2 ^ 64 := by
  simp only [State.rd, State.wr]
  rw [Sparse.get_put_eq (State.regs_rising h), BitVec.toNat_ofNat]

/-- A read of a field at another place gives what it gave before the write. -/
theorem State.rd_wr_ne {s : State} (h : s.ok = true) {f g : Fld} {v i j k i' j' k' : Nat}
    (hk : g.key i' j' k' ≠ f.key i j k) : (s.wr f v i j k).rd g i' j' k' = s.rd g i' j' k' := by
  simp only [State.rd, State.wr]
  rw [Sparse.get_put_ne hk (State.regs_rising h)]

/-- A truth value read back. -/
theorem State.bit_wrB_self {s : State} (h : s.ok = true) {f : Fld} (hw : f.width = 1) (b : Bool) (i j k : Nat) :
    (s.wrB f b i j k).bit f i j k = b := by
  have : (s.wrB f b i j k).rd f i j k = boolNat b % 2 ^ 1 % 2 ^ 64 := hw ▸ State.rd_wr_self h f _ i j k
  simp only [State.bit, this]
  cases b <;> rfl

/-- A truth value at another place. -/
theorem State.bit_wr_ne {s : State} (h : s.ok = true) {f g : Fld} {v i j k i' j' k' : Nat}
    (hk : g.key i' j' k' ≠ f.key i j k) : (s.wr f v i j k).bit g i' j' k' = s.bit g i' j' k' := by
  simp only [State.bit, State.rd_wr_ne h hk]

/-- A write of a field keeps the state sound. -/
theorem State.wr_keeps_ok {s : State} (h : s.ok = true) (f : Fld) (v i j k : Nat) : (s.wr f v i j k).ok = true := by
  simp only [State.ok, Bool.and_eq_true] at h ⊢
  exact ⟨h.1, Sparse.put_rising (Nat.zero_le _) h.2⟩

/-! ### Sequencers -/

/-- A sequencer read after it is set. -/
@[simp] theorem State.sq_setSq_self (s : State) (q : Nat) (x : Seq) : (s.setSq q x).sq q = x := by
  show (s.seqs.set (Fin.ofNat 8 q) x)[(Fin.ofNat 8 q).val] = x
  simp

/-- Another sequencer read after one is set. -/
theorem State.sq_setSq_ne (s : State) {p q : Fin 8} (h : p ≠ q) (x : Seq) : (s.setSq q.val x).sq p.val = s.sq p.val := by
  have hp : Fin.ofNat 8 p.val = p := Fin.ext (Nat.mod_eq_of_lt p.isLt)
  have hq : Fin.ofNat 8 q.val = q := Fin.ext (Nat.mod_eq_of_lt q.isLt)
  have hne : q.val ≠ p.val := fun e => h (Fin.ext e.symm)
  simp only [State.sq, State.setSq, hp, hq]
  show (s.seqs.set q.val x)[p.val] = s.seqs[p.val]
  simp [hne]

/-- The sequencers read the same where the vector is the same. -/
theorem State.sq_congr {s t : State} (h : s.seqs = t.seqs) (q : Nat) : s.sq q = t.sq q := by
  simp only [State.sq, h]

/-- A field reads the same where the table is the same. -/
theorem State.rd_congr {s t : State} (h : s.regs = t.regs) (f : Fld) (i j k : Nat) : s.rd f i j k = t.rd f i j k := by
  simp only [State.rd, h]

/-! ### Memory bytes -/

/-- A byte outside the stored ones keeps its value. -/
theorem memPut_get_out : ∀ {n : Nat} {m : List Host.Cell} {a v b : Nat}, Memory.wf m = true →
    (b < a ∨ a + n ≤ b) → Sparse.get (0 : Byte) (memPut m a n v) b = Sparse.get 0 m b
  | 0, _, _, _, _, _, _ => rfl
  | n + 1, m, a, v, b, h, hb => by
    unfold memPut
    rw [memPut_get_out (Sparse.put_wfAbove (Nat.zero_le _) h) (by omega),
      Sparse.get_put_ne (by omega) (Sparse.rising_of_wfAbove h)]

/-! ### What a write of a register field leaves alone -/

@[simp] theorem State.wr_bus (s : State) (f : Fld) (v i j k : Nat) : (s.wr f v i j k).bus = s.bus := rfl
@[simp] theorem State.wr_time (s : State) (f : Fld) (v i j k : Nat) : (s.wr f v i j k).time = s.time := rfl
@[simp] theorem State.wr_seqs (s : State) (f : Fld) (v i j k : Nat) : (s.wr f v i j k).seqs = s.seqs := rfl
@[simp] theorem State.wr_hookArgs (s : State) (f : Fld) (v i j k : Nat) : (s.wr f v i j k).hookArgs = s.hookArgs := rfl
@[simp] theorem State.wr_ledger (s : State) (f : Fld) (v i j k : Nat) : (s.wr f v i j k).ledger = s.ledger := rfl
@[simp] theorem State.wr_solve (s : State) (f : Fld) (v i j k : Nat) : (s.wr f v i j k).solve = s.solve := rfl
@[simp] theorem State.wr_lay (s : State) (f : Fld) (v i j k : Nat) : (s.wr f v i j k).lay = s.lay := rfl
@[simp] theorem State.wr_loop (s : State) (f : Fld) (v i j k : Nat) : (s.wr f v i j k).loop = s.loop := rfl
@[simp] theorem State.wr_drive (s : State) (f : Fld) (v i j k : Nat) : (s.wr f v i j k).drive = s.drive := rfl
@[simp] theorem State.wr_sense (s : State) (f : Fld) (v i j k : Nat) : (s.wr f v i j k).sense = s.sense := rfl
@[simp] theorem State.wr_cal (s : State) (f : Fld) (v i j k : Nat) : (s.wr f v i j k).cal = s.cal := rfl
@[simp] theorem State.wr_strand (s : State) (f : Fld) (v i j k : Nat) : (s.wr f v i j k).strand = s.strand := rfl
@[simp] theorem State.wr_net (s : State) (f : Fld) (v i j k : Nat) : (s.wr f v i j k).net = s.net := rfl
@[simp] theorem State.wr_sw (s : State) (f : Fld) (v i j k : Nat) : (s.wr f v i j k).sw = s.sw := rfl
@[simp] theorem State.wr_redund (s : State) (f : Fld) (v i j k : Nat) : (s.wr f v i j k).redund = s.redund := rfl
@[simp] theorem State.wr_fault (s : State) (f : Fld) (v i j k : Nat) : (s.wr f v i j k).fault = s.fault := rfl
@[simp] theorem State.wr_mon (s : State) (f : Fld) (v i j k : Nat) : (s.wr f v i j k).mon = s.mon := rfl
@[simp] theorem State.wr_therm (s : State) (f : Fld) (v i j k : Nat) : (s.wr f v i j k).therm = s.therm := rfl
@[simp] theorem State.wr_pwm (s : State) (f : Fld) (v i j k : Nat) : (s.wr f v i j k).pwm = s.pwm := rfl
@[simp] theorem State.wr_clock (s : State) (f : Fld) (v i j k : Nat) : (s.wr f v i j k).clock = s.clock := rfl
@[simp] theorem State.wr_boot (s : State) (f : Fld) (v i j k : Nat) : (s.wr f v i j k).boot = s.boot := rfl
@[simp] theorem State.wr_pins (s : State) (f : Fld) (v i j k : Nat) : (s.wr f v i j k).pins = s.pins := rfl
@[simp] theorem State.wr_fresh (s : State) (f : Fld) (v i j k : Nat) : (s.wr f v i j k).fresh = s.fresh := rfl
@[simp] theorem State.wr_mem (s : State) (f : Fld) (v i j k : Nat) : (s.wr f v i j k).mem = s.mem := rfl
@[simp] theorem State.wr_pending (s : State) (f : Fld) (v i j k : Nat) : (s.wr f v i j k).pending = s.pending := rfl

/-! ### What a store leaves alone -/

@[simp] theorem State.st_bus (s : State) (a n v : Nat) : (s.st a n v).bus = s.bus := rfl
@[simp] theorem State.st_time (s : State) (a n v : Nat) : (s.st a n v).time = s.time := rfl
@[simp] theorem State.st_seqs (s : State) (a n v : Nat) : (s.st a n v).seqs = s.seqs := rfl
@[simp] theorem State.st_hookArgs (s : State) (a n v : Nat) : (s.st a n v).hookArgs = s.hookArgs := rfl
@[simp] theorem State.st_ledger (s : State) (a n v : Nat) : (s.st a n v).ledger = s.ledger := rfl
@[simp] theorem State.st_solve (s : State) (a n v : Nat) : (s.st a n v).solve = s.solve := rfl
@[simp] theorem State.st_lay (s : State) (a n v : Nat) : (s.st a n v).lay = s.lay := rfl
@[simp] theorem State.st_loop (s : State) (a n v : Nat) : (s.st a n v).loop = s.loop := rfl
@[simp] theorem State.st_drive (s : State) (a n v : Nat) : (s.st a n v).drive = s.drive := rfl
@[simp] theorem State.st_sense (s : State) (a n v : Nat) : (s.st a n v).sense = s.sense := rfl
@[simp] theorem State.st_cal (s : State) (a n v : Nat) : (s.st a n v).cal = s.cal := rfl
@[simp] theorem State.st_strand (s : State) (a n v : Nat) : (s.st a n v).strand = s.strand := rfl
@[simp] theorem State.st_net (s : State) (a n v : Nat) : (s.st a n v).net = s.net := rfl
@[simp] theorem State.st_sw (s : State) (a n v : Nat) : (s.st a n v).sw = s.sw := rfl
@[simp] theorem State.st_redund (s : State) (a n v : Nat) : (s.st a n v).redund = s.redund := rfl
@[simp] theorem State.st_fault (s : State) (a n v : Nat) : (s.st a n v).fault = s.fault := rfl
@[simp] theorem State.st_mon (s : State) (a n v : Nat) : (s.st a n v).mon = s.mon := rfl
@[simp] theorem State.st_therm (s : State) (a n v : Nat) : (s.st a n v).therm = s.therm := rfl
@[simp] theorem State.st_pwm (s : State) (a n v : Nat) : (s.st a n v).pwm = s.pwm := rfl
@[simp] theorem State.st_clock (s : State) (a n v : Nat) : (s.st a n v).clock = s.clock := rfl
@[simp] theorem State.st_boot (s : State) (a n v : Nat) : (s.st a n v).boot = s.boot := rfl
@[simp] theorem State.st_pins (s : State) (a n v : Nat) : (s.st a n v).pins = s.pins := rfl
@[simp] theorem State.st_fresh (s : State) (a n v : Nat) : (s.st a n v).fresh = s.fresh := rfl
@[simp] theorem State.st_regs (s : State) (a n v : Nat) : (s.st a n v).regs = s.regs := rfl
@[simp] theorem State.st_pending (s : State) (a n v : Nat) : (s.st a n v).pending = s.pending := rfl

/-! ### What setting a sequencer leaves alone -/

@[simp] theorem State.setSq_bus (s : State) (q : Nat) (x : Seq) : (s.setSq q x).bus = s.bus := rfl
@[simp] theorem State.setSq_time (s : State) (q : Nat) (x : Seq) : (s.setSq q x).time = s.time := rfl
@[simp] theorem State.setSq_hookArgs (s : State) (q : Nat) (x : Seq) : (s.setSq q x).hookArgs = s.hookArgs := rfl
@[simp] theorem State.setSq_ledger (s : State) (q : Nat) (x : Seq) : (s.setSq q x).ledger = s.ledger := rfl
@[simp] theorem State.setSq_solve (s : State) (q : Nat) (x : Seq) : (s.setSq q x).solve = s.solve := rfl
@[simp] theorem State.setSq_lay (s : State) (q : Nat) (x : Seq) : (s.setSq q x).lay = s.lay := rfl
@[simp] theorem State.setSq_loop (s : State) (q : Nat) (x : Seq) : (s.setSq q x).loop = s.loop := rfl
@[simp] theorem State.setSq_drive (s : State) (q : Nat) (x : Seq) : (s.setSq q x).drive = s.drive := rfl
@[simp] theorem State.setSq_sense (s : State) (q : Nat) (x : Seq) : (s.setSq q x).sense = s.sense := rfl
@[simp] theorem State.setSq_cal (s : State) (q : Nat) (x : Seq) : (s.setSq q x).cal = s.cal := rfl
@[simp] theorem State.setSq_strand (s : State) (q : Nat) (x : Seq) : (s.setSq q x).strand = s.strand := rfl
@[simp] theorem State.setSq_net (s : State) (q : Nat) (x : Seq) : (s.setSq q x).net = s.net := rfl
@[simp] theorem State.setSq_sw (s : State) (q : Nat) (x : Seq) : (s.setSq q x).sw = s.sw := rfl
@[simp] theorem State.setSq_redund (s : State) (q : Nat) (x : Seq) : (s.setSq q x).redund = s.redund := rfl
@[simp] theorem State.setSq_fault (s : State) (q : Nat) (x : Seq) : (s.setSq q x).fault = s.fault := rfl
@[simp] theorem State.setSq_mon (s : State) (q : Nat) (x : Seq) : (s.setSq q x).mon = s.mon := rfl
@[simp] theorem State.setSq_therm (s : State) (q : Nat) (x : Seq) : (s.setSq q x).therm = s.therm := rfl
@[simp] theorem State.setSq_pwm (s : State) (q : Nat) (x : Seq) : (s.setSq q x).pwm = s.pwm := rfl
@[simp] theorem State.setSq_clock (s : State) (q : Nat) (x : Seq) : (s.setSq q x).clock = s.clock := rfl
@[simp] theorem State.setSq_boot (s : State) (q : Nat) (x : Seq) : (s.setSq q x).boot = s.boot := rfl
@[simp] theorem State.setSq_pins (s : State) (q : Nat) (x : Seq) : (s.setSq q x).pins = s.pins := rfl
@[simp] theorem State.setSq_fresh (s : State) (q : Nat) (x : Seq) : (s.setSq q x).fresh = s.fresh := rfl
@[simp] theorem State.setSq_regs (s : State) (q : Nat) (x : Seq) : (s.setSq q x).regs = s.regs := rfl
@[simp] theorem State.setSq_mem (s : State) (q : Nat) (x : Seq) : (s.setSq q x).mem = s.mem := rfl
@[simp] theorem State.setSq_pending (s : State) (q : Nat) (x : Seq) : (s.setSq q x).pending = s.pending := rfl

/-! ### What a block cleared leaves alone -/

@[simp] theorem State.stZero_bus (s : State) (a n : Nat) : (s.stZero a n).bus = s.bus := rfl
@[simp] theorem State.stZero_time (s : State) (a n : Nat) : (s.stZero a n).time = s.time := rfl
@[simp] theorem State.stZero_seqs (s : State) (a n : Nat) : (s.stZero a n).seqs = s.seqs := rfl
@[simp] theorem State.stZero_hookArgs (s : State) (a n : Nat) : (s.stZero a n).hookArgs = s.hookArgs := rfl
@[simp] theorem State.stZero_ledger (s : State) (a n : Nat) : (s.stZero a n).ledger = s.ledger := rfl
@[simp] theorem State.stZero_solve (s : State) (a n : Nat) : (s.stZero a n).solve = s.solve := rfl
@[simp] theorem State.stZero_lay (s : State) (a n : Nat) : (s.stZero a n).lay = s.lay := rfl
@[simp] theorem State.stZero_loop (s : State) (a n : Nat) : (s.stZero a n).loop = s.loop := rfl
@[simp] theorem State.stZero_drive (s : State) (a n : Nat) : (s.stZero a n).drive = s.drive := rfl
@[simp] theorem State.stZero_sense (s : State) (a n : Nat) : (s.stZero a n).sense = s.sense := rfl
@[simp] theorem State.stZero_cal (s : State) (a n : Nat) : (s.stZero a n).cal = s.cal := rfl
@[simp] theorem State.stZero_strand (s : State) (a n : Nat) : (s.stZero a n).strand = s.strand := rfl
@[simp] theorem State.stZero_net (s : State) (a n : Nat) : (s.stZero a n).net = s.net := rfl
@[simp] theorem State.stZero_sw (s : State) (a n : Nat) : (s.stZero a n).sw = s.sw := rfl
@[simp] theorem State.stZero_redund (s : State) (a n : Nat) : (s.stZero a n).redund = s.redund := rfl
@[simp] theorem State.stZero_fault (s : State) (a n : Nat) : (s.stZero a n).fault = s.fault := rfl
@[simp] theorem State.stZero_mon (s : State) (a n : Nat) : (s.stZero a n).mon = s.mon := rfl
@[simp] theorem State.stZero_therm (s : State) (a n : Nat) : (s.stZero a n).therm = s.therm := rfl
@[simp] theorem State.stZero_pwm (s : State) (a n : Nat) : (s.stZero a n).pwm = s.pwm := rfl
@[simp] theorem State.stZero_clock (s : State) (a n : Nat) : (s.stZero a n).clock = s.clock := rfl
@[simp] theorem State.stZero_boot (s : State) (a n : Nat) : (s.stZero a n).boot = s.boot := rfl
@[simp] theorem State.stZero_pins (s : State) (a n : Nat) : (s.stZero a n).pins = s.pins := rfl
@[simp] theorem State.stZero_fresh (s : State) (a n : Nat) : (s.stZero a n).fresh = s.fresh := rfl
@[simp] theorem State.stZero_regs (s : State) (a n : Nat) : (s.stZero a n).regs = s.regs := rfl
@[simp] theorem State.stZero_pending (s : State) (a n : Nat) : (s.stZero a n).pending = s.pending := rfl

end Sys2Proof.Machine
end

