-- ==== Sys2Proof/Tests/Slice0.lean ====
section
/-! SUPPORT. The model's own tests: words written out from the layout of R83, one small step per kind of
command, an ill-formed term for each check of WellFormed, and for every statement with hypotheses a concrete state
and operands that meet them. -/

open Sys2Proof Sys2Proof.Machine

namespace Sys2Proof.Tests

set_option Elab.async false

/-! ### Small states -/

/-- Sequencer 0 runs with these values in g1 and g2. -/
def tq (a : W64 := 0) (b : W64 := 0) : State :=
  State.reset.setSq 0 { (Seq.reset.setG 1 a).setG 2 b with st := .run }

/-- Sequencer 0 runs with these values in f1 and f2. -/
def tf (a b : W32) : State := State.reset.setSq 0 { (Seq.reset.setF 1 a).setF 2 b with st := .run }

/-- Sequencer 0 waits. -/
def tw (w : Wait) : State := State.reset.setSq 0 { Seq.reset with st := .wait, wait := w }

/-- dst 3, src1 1, src2 2, guard p0. -/
def f3 : Fields := ⟨3, 1, 2, 0, 0, 0, 0⟩
/-- dst 3, src1 1, with an immediate. -/
def fi (imm : W32) : Fields := ⟨3, 1, 0, 0, 0, 0, imm⟩
/-- src1 1, src2 2, with a MOD and an immediate. -/
def fst' (m : BitVec 5) (imm : W32) : Fields := ⟨0, 1, 2, 0, 0, m, imm⟩

/-- The general register of sequencer 0 that a step of a command leaves. -/
def gAfter (o : Host.Outcome State Fault Refusal) (n : BitVec 5) : Option W64 :=
  match o with
  | .next t => some ((t.sq 0).rg n)
  | .fault _ => none
  | .refused _ => none
/-- The same of a float register. -/
def fAfter (o : Host.Outcome State Fault Refusal) (n : BitVec 5) : Option W32 :=
  match o with
  | .next t => some ((t.sq 0).rf n)
  | .fault _ => none
  | .refused _ => none
/-- The predicate that a step of a command leaves. -/
def pAfter (o : Host.Outcome State Fault Refusal) (n : BitVec 3) : Option Bool :=
  match o with
  | .next t => some ((t.sq 0).rp n)
  | .fault _ => none
  | .refused _ => none
/-- The program counter and the state of sequencer 0 that a step leaves, with its trap cause. -/
def pcAfter (o : Host.Outcome State Fault Refusal) : Option (BitVec 16 × SqState × BitVec 8) :=
  match o with
  | .next t => some ((t.sq 0).pc, (t.sq 0).st, (t.sq 0).cause)
  | .fault _ => none
  | .refused _ => none
/-- A number that a step leaves in the state. -/
def nAfter (o : Host.Outcome State Fault Refusal) (r : State → Nat) : Option Nat :=
  match o with
  | .next t => some (r t)
  | .fault _ => none
  | .refused _ => none

/-! ### Integer and predicate instructions (R92, R93) -/

theorem test_add_wraps : gAfter (exec (.add 0 f3) (tq (-1) 2)) 3 = some 1 := by decide
theorem test_sub_borrows : gAfter (exec (.sub 0 f3) (tq 1 2)) 3 = some (-1) := by decide
theorem test_mulhu : gAfter (exec (.mulhu 0 f3) (tq (-1) (-1))) 3 = some (-2) := by decide
theorem test_divu_by_zero : gAfter (exec (.divu 0 f3) (tq 7 0)) 3 = some (-1) := by decide
theorem test_remu_by_zero : gAfter (exec (.remu 0 f3) (tq 7 0)) 3 = some 7 := by decide
theorem test_shl_takes_six_bits : gAfter (exec (.shl 0 f3) (tq 3 65)) 3 = some 6 := by decide
theorem test_sar_keeps_sign : gAfter (exec (.sar 0 f3) (tq (-8) 2)) 3 = some (-2) := by decide
theorem test_addi_signed : gAfter (exec (.addi 0 (fi 0xFFFFFFFF)) (tq 5)) 3 = some 4 := by decide
theorem test_andi_unsigned : gAfter (exec (.andi 0 (fi 0xFFFFFFFF)) (tq (-1))) 3 = some 0xFFFFFFFF := by decide
theorem test_shli_64_traps : pcAfter (exec (.shli 0 (fi 64)) (tq 1)) = some (0, .trapped, 6) := by decide +kernel
theorem test_movhi_keeps_low : gAfter (exec (.movhi 0 ⟨1, 0, 0, 0, 0, 0, 0xAB⟩) (tq 0xFFFFFFFF00000005)) 1 =
    some 0x000000AB00000005 := by decide
theorem test_min_signed : gAfter (exec (.min 0 f3) (tq (-1) 1)) 3 = some (-1) := by decide
theorem test_minu_unsigned : gAfter (exec (.minu 0 f3) (tq (-1) 1)) 3 = some 1 := by decide
theorem test_popc : gAfter (exec (.popc 0 (fi 0)) (tq 0xF0F)) 3 = some 8 := by decide
theorem test_clz_zero : gAfter (exec (.clz 0 (fi 0)) (tq 0)) 3 = some 64 := by decide
theorem test_clz_one : gAfter (exec (.clz 0 (fi 0)) (tq 1)) 3 = some 63 := by decide
theorem test_g0_discards : gAfter (exec (.addi 0 ⟨0, 1, 0, 0, 0, 0, 1⟩) (tq 5)) 0 = some 0 := by decide
theorem test_cmp_signed : pAfter (exec (.cmp 0 ⟨1, 1, 2, 0, 0, 2, 0⟩) (tq (-1) 1)) 1 = some true := by decide
theorem test_cmp_unsigned : pAfter (exec (.cmp 0 ⟨1, 1, 2, 0, 0, 4, 0⟩) (tq (-1) 1)) 1 = some false := by decide
theorem test_cmp_mod_6_illegal : pcAfter (exec (.cmp 0 ⟨1, 1, 2, 0, 0, 6, 0⟩) (tq 1 1)) = some (0, .trapped, 1) := by
  decide +kernel
theorem test_false_guard_advances : pcAfter (exec (.addi 0 ⟨3, 1, 0, 1, 0, 0, 1⟩) (tq 5)) = some (1, .run, 0) := by decide
theorem test_pget_reads_p0 : gAfter (exec (.pget 0 ⟨3, 0, 0, 0, 0, 0, 0⟩) tq) 3 = some 1 := by decide

/-! ### Float instructions (R45, R94, R95) -/

theorem test_fadd : fAfter (exec (.fadd 0 f3) (tf 0x3F800000 0x40000000)) 3 = some 0x40400000 := by decide
theorem test_fadd_inf_minus_inf : fAfter (exec (.fadd 0 f3) (tf 0x7F800000 0xFF800000)) 3 = some 0x7FC00000 := by decide
theorem test_fmul_subnormal_flushes : fAfter (exec (.fmul 0 f3) (tf 0x80000001 0x40000000)) 3 = some 0x80000000 := by decide
theorem test_fdiv_third : fAfter (exec (.fdiv 0 f3) (tf 0x3F800000 0x40400000)) 3 = some 0x3EAAAAAB := by decide
theorem test_fsqrt_two : fAfter (exec (.fsqrt 0 (fi 0)) (tf 0x40000000 0)) 3 = some 0x3FB504F3 := by decide +kernel
theorem test_fcvt_ties_to_even : fAfter (exec (.fcvtSL 0 (fi 0)) (tq 0x1000001)) 3 = some 0x4B800000 := by decide
theorem test_fcmp_unordered : pAfter (exec (.fcmp 0 ⟨1, 1, 2, 0, 0, 3, 0⟩) (tf 0x7FC00000 0)) 1 = some true := by decide

theorem test_fabs_keeps_nan : fAfter (exec (.fabs 0 (fi 0)) (tf 0xFFC00001 0)) 3 = some 0xFFC00001 := by decide
theorem test_fneg_zero : fAfter (exec (.fneg 0 (fi 0)) (tf 0 0)) 3 = some 0x80000000 := by decide

/-! ### Memory and control flow (R96 to R99) -/

theorem test_ld_signed_byte : gAfter (exec (.ld 0 ⟨3, 1, 0, 0, 0, 4, 0⟩) ((tq 0x00100000).st 0x00100000 1 0x80)) 3 =
    some 0xFFFFFFFFFFFFFF80 := by decide
theorem test_ld_below_traps : pcAfter (exec (.ld 0 (fi 0)) (tq 0x000FFFFF)) = some (0, .trapped, 2) := by decide +kernel
theorem test_st_misaligned_traps : pcAfter (exec (.st 0 (fst' 3 0)) (tq 0x00100004)) = some (0, .trapped, 3) := by decide +kernel
theorem test_st_last_byte : nAfter (exec (.st 0 (fst' 0 0)) (tq 0x001FFFFF 0x1AB)) (fun t => t.ld 0x001FFFFF 2) =
    some 0xAB := by decide
theorem test_cas_swaps : nAfter (exec (.cas 0 f3) (tq 0x00100000 9)) (fun t => t.ld 0x00100000 8) = some 9 := by decide
theorem test_aadd_adds : nAfter (exec (.aadd 0 f3) ((tq 0x00100000 9).st 0x00100000 8 1)) (fun t => t.ld 0x00100000 8) =
    some 10 := by decide
theorem test_br_back : pcAfter (exec (.br 0 ⟨0, 0, 0, 0, 0, 0, 0xFFFFFFFF⟩) tq) = some (0xFFFF, .run, 0) := by decide
theorem test_call_links : gAfter (exec (.call 0 ⟨3, 0, 0, 0, 0, 0, 7⟩) tq) 3 = some 1 := by decide
theorem test_loop_branches : pcAfter (exec (.loop 0 ⟨1, 0, 0, 0, 0, 0, 5⟩) (tq 2)) = some (5, .run, 0) := by decide
theorem test_loop_falls_through : pcAfter (exec (.loop 0 ⟨1, 0, 0, 0, 0, 0, 5⟩) (tq 1)) = some (1, .run, 0) := by decide
theorem test_trap_cause : pcAfter (exec (.trap 0 ⟨0, 0, 0, 0, 0, 0, 0x7F⟩) tq) = some (0, .trapped, 0xFF) := by decide +kernel
theorem test_halt_ends : pcAfter (exec (.halt 0 ⟨0, 0, 0, 0, 0, 0, 0⟩) tq) = some (1, .halted, 0) := by decide
theorem test_waite_zero_traps : pcAfter (exec (.waite 0 ⟨0, 0, 0, 0, 0, 0, 0⟩) tq) = some (0, .trapped, 6) := by decide +kernel
theorem test_sleep : pcAfter (exec (.sleep 0 ⟨0, 0, 0, 0, 0, 0, 1⟩) tq) = some (0, .sleep, 0) := by decide
theorem test_fack_128_traps : pcAfter (exec (.fack 0 ⟨0, 1, 0, 0, 0, 0, 0⟩) (tq 128)) = some (0, .trapped, 6) := by decide +kernel

/-! ### Words written out from the layout of R83 -/

theorem test_word_add : decodeWicker 0
    (0b00000001#8 ++ 0b00011#5 ++ 0b00001#5 ++ 0b00010#5 ++ 0b000#3 ++ 0b0#1 ++ 0b00000#5 ++
      0b00000000000000000000000000000000#32) = .add 0 ⟨3, 1, 2, 0, 0, 0, 0⟩ := by decide +kernel
theorem test_word_shli : decodeWicker 0
    (0b00010001#8 ++ 0b11111#5 ++ 0b11110#5 ++ 0b00000#5 ++ 0b111#3 ++ 0b1#1 ++ 0b00000#5 ++
      0b00000000000000000000000000111111#32) = .shli 0 ⟨31, 30, 0, 7, 1, 0, 63⟩ := by decide +kernel
theorem test_word_cmp : decodeWicker 0
    (0b00100000#8 ++ 0b00111#5 ++ 0b11111#5 ++ 0b00001#5 ++ 0b000#3 ++ 0b0#1 ++ 0b00101#5 ++
      0b00000000000000000000000000000000#32) = .cmp 0 ⟨7, 31, 1, 0, 0, 5, 0⟩ := by decide +kernel
theorem test_word_pput : decodeWicker 0
    (0b00100111#8 ++ 0b00000#5 ++ 0b01001#5 ++ 0b00000#5 ++ 0b010#3 ++ 0b0#1 ++ 0b00000#5 ++
      0b00000000000000000000000000000000#32) = .pput 0 ⟨0, 9, 0, 2, 0, 0, 0⟩ := by decide +kernel
theorem test_word_fma : decodeWicker 0
    (0b00110101#8 ++ 0b01111#5 ++ 0b01110#5 ++ 0b01101#5 ++ 0b000#3 ++ 0b0#1 ++ 0b00000#5 ++
      0b00000000000000000000000000000000#32) = .fma 0 ⟨15, 14, 13, 0, 0, 0, 0⟩ := by decide +kernel
theorem test_word_fmovi : decodeWicker 0
    (0b00111101#8 ++ 0b00100#5 ++ 0b00000#5 ++ 0b00000#5 ++ 0b000#3 ++ 0b0#1 ++ 0b00000#5 ++
      0b00111111100000000000000000000000#32) = .fmovi 0 ⟨4, 0, 0, 0, 0, 0, 1065353216⟩ := by decide +kernel
theorem test_word_ld : decodeWicker 0
    (0b01000000#8 ++ 0b00101#5 ++ 0b00110#5 ++ 0b00000#5 ++ 0b001#3 ++ 0b1#1 ++ 0b00111#5 ++
      0b11111111111111111111111111111000#32) = .ld 0 ⟨5, 6, 0, 1, 1, 7, 4294967288⟩ := by decide +kernel
theorem test_word_cas : decodeWicker 0
    (0b01000100#8 ++ 0b00101#5 ++ 0b00110#5 ++ 0b00111#5 ++ 0b000#3 ++ 0b0#1 ++ 0b00000#5 ++
      0b00000000000000000000000000000000#32) = .cas 0 ⟨5, 6, 7, 0, 0, 0, 0⟩ := by decide +kernel
theorem test_word_callr : decodeWicker 0
    (0b01010011#8 ++ 0b11110#5 ++ 0b11101#5 ++ 0b00000#5 ++ 0b000#3 ++ 0b0#1 ++ 0b00000#5 ++
      0b00000000000000000000000000000000#32) = .callr 0 ⟨30, 29, 0, 0, 0, 0, 0⟩ := by decide +kernel
theorem test_word_pin : decodeWicker 0
    (0b01100011#8 ++ 0b00001#5 ++ 0b00010#5 ++ 0b00011#5 ++ 0b000#3 ++ 0b0#1 ++ 0b00001#5 ++
      0b00000000000000000000000000000000#32) = .pin 0 ⟨1, 2, 3, 0, 0, 1, 0⟩ := by decide +kernel
theorem test_word_readw_stable : decodeWicker 0
    (0b01101010#8 ++ 0b01000#5 ++ 0b00000#5 ++ 0b00000#5 ++ 0b000#3 ++ 0b0#1 ++ 0b00100#5 ++
      0b00000000000000000000000000000000#32) = .readwStable 0 ⟨8, 0, 0, 0, 0, 4, 0⟩ := by decide +kernel
theorem test_word_lset : decodeWicker 0
    (0b10000000#8 ++ 0b00001#5 ++ 0b00010#5 ++ 0b01111#5 ++ 0b000#3 ++ 0b0#1 ++ 0b11111#5 ++
      0b00000000000000000000000000000000#32) = .lset 0 ⟨1, 2, 15, 0, 0, 31, 0⟩ := by decide +kernel
theorem test_word_recv_n : decodeWicker 0
    (0b10010001#8 ++ 0b00001#5 ++ 0b00010#5 ++ 0b00011#5 ++ 0b000#3 ++ 0b0#1 ++ 0b00001#5 ++
      0b00000000000000000000000000000101#32) = .recvN 0 ⟨1, 2, 3, 0, 0, 1, 5⟩ := by decide +kernel
theorem test_word_waitt : decodeWicker 0
    (0b10100000#8 ++ 0b00000#5 ++ 0b00100#5 ++ 0b00000#5 ++ 0b000#3 ++ 0b0#1 ++ 0b00011#5 ++
      0b00000000000000000000000000000000#32) = .waitt 0 ⟨0, 4, 0, 0, 0, 3, 0⟩ := by decide +kernel
theorem test_word_fraise : decodeWicker 0
    (0b10110001#8 ++ 0b00000#5 ++ 0b00010#5 ++ 0b00011#5 ++ 0b000#3 ++ 0b0#1 ++ 0b00000#5 ++
      0b00000000000000000000000000000000#32) = .fraise 0 ⟨0, 2, 3, 0, 0, 0, 0⟩ := by decide +kernel
theorem test_word_sleep : decodeWicker 0
    (0b11110001#8 ++ 0b00000#5 ++ 0b00000#5 ++ 0b00000#5 ++ 0b000#3 ++ 0b0#1 ++ 0b00000#5 ++
      0b10000000000000000000000000000000#32) = .sleep 0 ⟨0, 0, 0, 0, 0, 0, 2147483648⟩ := by decide +kernel

/-! ### An ill-formed term for each check of WellFormed -/

theorem smoke_register_size : (Instr.registerWrite ⟨1, 0x01010000, 0, true, 0⟩).wf = false ∧
    (Instr.registerWrite ⟨1, 0x01010000, 257, true, 0⟩).wf = false := by decide
theorem smoke_register_address : (Instr.registerWrite ⟨1, 0x00100000, 4, true, 0⟩).wf = false := by decide
theorem smoke_memory_size : (Instr.memoryWrite ⟨1, 0x00100000, 9, true, 0, [0]⟩).wf = false ∧
    (Instr.memoryWrite ⟨1, 0x00100000, 16, true, 0, []⟩).wf = false := by decide
theorem smoke_memory_address : (Instr.memoryWrite ⟨1, 0x07FFFFFF, 4, true, 0, []⟩).wf = false := by decide
theorem smoke_fields : (Instr.add 0 ⟨3, 1, 2, 0, 0, 1, 0⟩).wf = false := by decide
theorem smoke_legal_illegal : (Instr.illegalOpcode 0 0).wf = false := by decide
theorem smoke_readw_mod : (Instr.readwOut 0 ⟨1, 1, 0, 0, 0, 0, 0⟩).wf = false := by decide
theorem smoke_recv_mod : (Instr.recvN 0 ⟨1, 1, 2, 0, 0, 0, 0⟩).wf = false := by decide
theorem smoke_inbound_lane : (Instr.inboundFrame [⟨96, 0, 0, List.replicate 37 0⟩]).wf = false := by decide
theorem smoke_inbound_blocks : (Instr.inboundFrame [⟨0, 0, 0, []⟩]).wf = false := by decide
theorem smoke_inbound_twice : (Instr.inboundFrame [⟨0, 0, 0, List.replicate 37 0⟩, ⟨0, 0, 0, List.replicate 37 0⟩]).wf = false := by decide
theorem smoke_core : (Instr.loopCoreRetire 18).wf = false := by decide
theorem smoke_cal_object : (Instr.calReq 21504 false).wf = false ∧ (Instr.calReq 66560 true).wf = false ∧
    (Instr.calDwell 21504).wf = false ∧ (Instr.calRunEnd 21504).wf = false ∧ (Instr.senseCalStep 66560).wf = false ∧
    (Instr.senseCalRunEnd 66560).wf = false := by decide
theorem smoke_cal_entry : (Instr.calAreaReload 0 [0]).wf = false := by decide
theorem smoke_aligned : (Instr.linkAligned [(96, 0)]).wf = false ∧ (Instr.linkAligned [(0, 0), (0, 1)]).wf = false := by decide
theorem smoke_identity : (Instr.linkIdentified ⟨[], [], [], 0, [], [], [], []⟩).wf = false := by decide
theorem smoke_identity_lists : (Instr.linkIdentified ⟨List.replicate 256 0, List.replicate 64 0, List.replicate 256 0, 0, [],
    [(21504, 0)], [], []⟩).wf = false := by decide +kernel
theorem smoke_lane : (Instr.strandLaneTest 96).wf = false := by decide
theorem smoke_parity_address : (Instr.memParity 0x07FFFFFF 0).wf = false := by decide
theorem smoke_frame_type : (Instr.dataFrame ⟨2, 0, 4, 2, 1, 0, 1, 5, 0, []⟩).wf = false := by decide
theorem smoke_frame_flags : (Instr.dataFrame ⟨1, 0, 4, 2, 1, 32, 1, 5, 0, []⟩).wf = false := by decide
theorem smoke_frame_length : (Instr.dataFrame ⟨1, 0, 4, 2, 1, 0, 1, 5, 0, List.replicate 1473 0⟩).wf = false := by decide +kernel
theorem smoke_retransmit_op : (Instr.commandRetransmit 5 4 0).wf = false := by decide
theorem smoke_record : (Instr.ckptRecordRx ⟨0, .header, 0, List.replicate 129 0⟩).wf = false := by decide +kernel
theorem smoke_conversions : (Instr.hkPublish [⟨40, 0, 0, false⟩]).wf = false ∧
    (Instr.hkPublish [⟨0, 0, 0, false⟩, ⟨0, 0, 0, false⟩]).wf = false := by decide
theorem smoke_well_formed : (Instr.add 0 f3).wf = true ∧ (Instr.calReq 66559 true).wf = true ∧
    (Instr.memoryWrite ⟨1, 0x00100000, 8, true, 0, []⟩).wf = true ∧
    (Instr.memoryWrite ⟨1, 0x00100000, 256, true, 0, List.replicate 31 0⟩).wf = true ∧ (Instr.registerWrite ⟨1, 0x01010000, 256, true, 0⟩).wf = true := by decide

/-! ### A concrete state and operands for the hypotheses of every statement -/

/-- The reset state with register fields written. -/
def on (l : List (Fld × Nat)) : State := l.foldl (fun s p => s.wr p.1 p.2) State.reset
/-- The domains that a lay needs run on the clock tree, not on the ring oscillator. -/
def tree (s : State) : State := [1, 2, 3, 4, 5].foldl (fun s d => s.wrB F.CLK_DOM_ACT_SRC false d) s
/-- The lane clock runs. -/
def lanes (s : State) : State := { s with clock := { s.clock with laneLock := true, refStop := false } }
/-- A domain is disabled in the power state after reset. -/
def shut (d : Nat) (s : State := State.reset) : State := s.wrB F.CLK_DOM_EN_RUN false d
/-- No operand. -/
def f0 : Fields := ⟨0, 0, 0, 0, 0, 0, 0⟩
/-- An instruction without operands runs on sequencer 0. -/
def runs0 (opc : Nat) (w : Fields := f0) (s : State := tq) : Bool :=
  (s.sq 0).st = .run && s.domEnabled 4 && legalFields opc w && (s.sq 0).guard w
theorem runs_of {opc : Nat} {w : Fields} {s : State} (h : runs0 opc w s = true) : Runs opc 0 w s := by
  simp only [runs0, Bool.and_eq_true, decide_eq_true_eq] at h
  exact ⟨h.1.1.1, h.1.1.2, h.1.2, h.2⟩

def ep (st : EpState) : Epoch :=
  { num := 5, st := st, layFrame := 0, sealT := 0, margin := 0, timeout := 4, noblank := false, verify := false, base := none
    slot := some 3, evaluated := false, planned := none, health := none, layBegun := false, passed := false
    outcome := St.none, codes := [], routes := [], endT := 0, net := none }
def epNet (coordinator held : Bool) : NetEpoch :=
  { tree := 0, parent := 0, children := 0, group := 0, alt := 0, win := 1, sNet := 0, coordinator := coordinator
    corrective := false, target := 0, opened := true, digest := 0, count := 0, netCmds := [], readys := []
    readySent := false, readyFailed := false, coord := 0, decided := false, commitHeld := held, landeds := []
    landedSent := false, pendingStable := false, reported := false }
def withEp (x : Epoch) (s : State := State.reset) : State := { s with ledger := { s.ledger with epochs := [x] } }
def lay0 : Lay :=
  { kind := .epoch, epoch := 5, slot := 3, frame := 0, s := 1, noblank := false, verify := false, level := 0, count := 1
    timeout := 4, beta := 0, strobed := false, handed := false, m := 0, changing := [], runs := [], settled := [], blanked := []
    moved := [], closed := [], lastM := 0, driveNs := 0, nBlanked := 1, nUnblankedMoves := 0, unsettled := 0, settleNs := 0
    btmNs := 0 }
def withLay (l : Lay) (s : State := State.reset) : State := { s with lay := { s.lay with cur := some l } }
def staged0 : StagedLay := { epoch := 5, slot := 3, s := 1, level := 0, count := 1, beta := 0 }
def withStaged (x : Epoch) (s : State := State.reset) : State :=
  { s with ledger := { s.ledger with epochs := [x] }, lay := { s.lay with staged := [staged0] } }
def frame0 : TFrame := ⟨1, 0, 4, 2, 1, 0, 1, 5, 0, [7, 8]⟩
def cmd0 : Cmd := ⟨.conn, 1, 2, 5, 0, 9⟩
def desc0 : Desc :=
  { y512 := true, armStress := 0x3F800000, actBudget := 0x44000000, wearRating := 1000, wearWarnPct := 50, shutterNs := 100
    replayMs := 1, pilotDepth := 1, tecZones := 1, idTmin := 0, idTmax := 500, calTmin := 0, calTmax := 400
    shutterOpenV := 0, cover := [] }
def image0 : BootImage := { copy := 0, len := 0x1000, crc := 0, entry := 0, signed := false, sections := [] }

theorem witness_StepRunsFront : ({ State.reset with pending := [.strandStop, .portReq] } : State).pending =
    Instr.strandStop :: [.portReq] := rfl
theorem witness_EmptyQueueRunsTime : State.reset.pending = [] := rfl
theorem witness_StepKeepsForm : State.reset.ok = true ∧ ∃ t, step State.reset = .next t := ⟨by decide, _, rfl⟩
theorem witness_OnlyBurnersChangeFusesOrFlash : State.reset.ok = true ∧ mayBurn .strandStop = false ∧
    ∃ t, exec .strandStop State.reset = .next t := ⟨by decide, by decide, _, rfl⟩
theorem witness_QuietCommandIsItsEffect : State.Quiet State.reset State.reset := by
  unfold State.Quiet; decide +kernel
theorem witness_EncodingRoundTrip : (Instr.add 7 f3).wf = true ∧ (Instr.add 7 f3).word.isSome = true ∧
    (Instr.trap 0 ⟨0, 0, 0, 7, 1, 0, 127⟩).wf = true := by decide
theorem witness_ConstantRegisters : (31 : BitVec 5) ≠ 0 ∧ (7 : BitVec 3) ≠ 0 ∧ f3.gp = 0 ∧ f3.gs = 0 := by decide
theorem witness_IntegerResults : ((List.range 0x1E) ++ [0x28, 0x29]).all (fun c => runs0 c) = true := by decide +kernel
theorem witness_BitFieldsAgree : bfOk 0x4000 = true ∧ bfOk 0x013F = true ∧ bfOk 0x0100 = true := by decide
theorem witness_Compares : [0, 1, 2, 3, 4, 5].all (fun m => runs0 0x20 ⟨1, 1, 2, 0, 0, m, 0⟩ && runs0 0x21 ⟨7, 1, 0, 0, 0, m, 9⟩) =
    true := by decide +kernel
theorem witness_PredicateResults : [0x22, 0x23, 0x24, 0x25, 0x26, 0x27].all (fun c => runs0 c) = true := by decide +kernel
theorem witness_FloatResults : ((List.range 16).all (fun c => runs0 (0x30 + c))) = true ∧
    F32.isNan 0x7FC00000 = true ∧ F32.isNan 0xFF800001 = true ∧ F32.isNan 0x7F800000 = false := by decide +kernel
theorem witness_LittleEndian : State.reset.ok = true := by decide
theorem witness_DataMemory : [0x40, 0x41, 0x42, 0x43, 0x44, 0x45, 0x48].all (fun c => runs0 c) = true ∧
    runs0 0x40 (fi 0) (tq 0x001FFFFF) = true ∧ runs0 0x41 (fst' 3 0) (tq 0x001FFFF8) = true ∧
    runs0 0x42 (fi 0) (tq 0x00200000) = true ∧ runs0 0x43 (fst' 0 0) (tq 0x00100002) = true ∧
    ((tw .fence).sq 0).wait = .fence := by decide +kernel
theorem witness_InstructionFrames : Runs 0x01 0 f3 tq ∧ (∃ t, exec (.add 0 f3) tq = .next t) ∧
    Runs 0x41 0 (fst' 3 0) (tq 0x001FFFF8) ∧ (∃ t, exec (.st 0 (fst' 3 0)) (tq 0x001FFFF8) = .next t) ∧
    (tq 0x001FFFF8).ok = true := ⟨runs_of (by decide), ⟨_, rfl⟩, runs_of (by decide), ⟨_, rfl⟩, by decide⟩
theorem witness_ControlFlow : [0x50, 0x51, 0x52, 0x53, 0x54].all (fun c => runs0 c) = true ∧ runs0 0x54 ⟨3, 0, 0, 0, 0, 0, 5⟩ = true := by
  decide +kernel
theorem witness_GuardsAndTraps : (tq.sq 0).st = .run ∧ legalFields 0x01 ⟨3, 1, 2, 1, 0, 0, 0⟩ = true ∧
    (tq.sq 0).guard ⟨3, 1, 2, 1, 0, 0, 0⟩ = false ∧ legalFields 0x20 ⟨1, 1, 2, 0, 0, 6, 0⟩ = false ∧
    legalFields (opcOf 0xC000_0000_0000_0000) (fieldsOf 0xC000_0000_0000_0000) = false ∧ tq.domEnabled 4 = true ∧
    ((shut 4 tq).sq 0).st = .run ∧ (shut 4 tq).domEnabled 4 = false ∧ (0x01, Instr.add) ∈ guardedRows := by
  and_intros <;> first | decide +kernel | exact .head _
theorem witness_BusInstructions : runs0 0x46 (fi 1) (tq 0x00100000) = true ∧ runs0 0x47 (fst' 3 4) (tq 0x00100000) = true ∧
    tq.mayIssue 1 true = true ∧ tq.mayIssue 1 false = true ∧
    ((tq.sqNext 0).access 1 0x00100000 1 false 0).2 = some 0 ∧ ((tq.sqNext 0).access 1 0x001FFFF8 8 true 5).2 = some 0 ∧
    ((tq.sqNext 0).access 1 0x07FFFFFF 1 false 0).2 = none ∧ ((tq.sqNext 0).access 1 0x07FFFFF8 8 true 0).2 = none := by
  decide +kernel
theorem witness_FilingInstructions : [0x60, 0x61, 0x62, 0x63].all (fun c => runs0 c) = true ∧
    (tq.file cmd0 false).2.isSome = true ∧ ((tw (.stall .conn f3)).sq 0).wait = .stall .conn f3 := by decide +kernel
theorem witness_EpochInstructions : [0x64, 0x65, 0x67, 0x68, 0x69].all (fun c => runs0 c) = true ∧
    runs0 0x67 ⟨0, 0, 0, 0, 0, 0, 4⟩ = true ∧ tq.everOpened 5 = false ∧
    ({ State.reset with ledger := { State.reset.ledger with opened := [5] } } : State).everOpened 5 = true ∧
    tq.layResult 5 = some 7 ∧ (withEp (ep .opened)).layResult 5 = none ∧
    ((tw (.abort 1 5)).sq 0).wait = .abort 1 5 ∧ ((tw (.layEnd 1 5)).sq 0).wait = .layEnd 1 5 := by decide +kernel
def trial0 : State := { tw (.trial 1 0x00100000 1 St.accepted none) with solve := { State.reset.solve with trials := [0] } }
theorem witness_TrialSolve : runs0 0x66 ⟨1, 0, 2, 0, 0, 0, 1⟩ (tq 0 0x001FFFF0) = true ∧
    runs0 0x66 ⟨1, 0, 2, 0, 0, 0, 1⟩ (tq 0 0x001FFFF8) = true ∧ runs0 0x66 ⟨1, 0, 2, 0, 0, 0, 0⟩ (tq 0 0x00100004) = true ∧
    (trial0.sq 0).wait = .trial 1 0x00100000 1 St.accepted none ∧ trial0.solverFree = true ∧
    trial0.solve.trials.head? = some 0 := by decide +kernel
theorem witness_StableReads : (List.range 4).all (fun m => runs0 0x6A ⟨1, 1, 0, 0, 0, BitVec.ofNat 5 m, 0⟩) = true ∧ runs0 0x6A ⟨1, 0, 0, 0, 0, 4, 0⟩ = true ∧
    runs0 0x6A ⟨1, 1, 0, 0, 0, 0, 0⟩ (tq 1024) = true ∧ runs0 0x6A ⟨1, 1, 0, 0, 0, 2, 0⟩ (tq 21504) = true ∧
    ((tw (.stFinal 1 9)).sq 0).wait = .stFinal 1 9 ∧
    (({ State.reset with ledger := { State.reset.ledger with entries := [(0, ⟨cmd0, St.none, false⟩)] } } : State).ledger.entries.length =
      1) := by decide +kernel
theorem witness_LoopInstructions : [0x80, 0x81, 0x82, 0x83, 0x84].all (fun c => runs0 c) = true ∧
    tq.cellAbsent 21503 = false ∧ tq.cellState 21503 ≠ 3 ∧ runs0 0x80 ⟨0, 1, 2, 0, 0, 15, 0⟩ (tq 21567) = true ∧
    ({ State.reset with strand := { State.reset.strand with geomY512 := true } } : State).cellAbsent 1023 = true ∧
    (((tq 0 0x00100000).st 0x00100000 4 1).st 0x00100004 4 0x3F000000).injTrap true 0x00100000 = none := by decide +kernel
/-- Class 7 of the receive queues holds one frame. -/
def inbox7 (s : State) : State := { s with net := { s.net with rxq := s.net.rxq.set 7 [⟨frame0, 1⟩] } }
theorem witness_SendAndReceive : [0x90, 0x91, 0x92].all (fun c => runs0 c) = true ∧ runs0 0x91 ⟨1, 1, 2, 0, 0, 1, 7⟩ = true ∧
    (sendOf 0x0000000100020008).ok = true ∧ (sendOf 0).ok = false ∧
    tq.sendTrap 0x00100000 (sendOf 0x0000000100020008) = none ∧ tq.sendTrap 0x001FFFFF (sendOf 0x0000000100020008) = some 2 ∧
    ((tw (.send f3)).sq 0).wait = .send f3 ∧ ((tw (.recv f3)).sq 0).wait = .recv f3 ∧
    runs0 0x91 ⟨1, 1, 2, 0, 0, 0, 7⟩ (inbox7 (tq 0x001FFFFE 2)) = true ∧
    (inbox7 (tq 0x001FFFFE 2)).net.rxq.get 7 = [⟨frame0, 1⟩] ∧ (frame0.payload.take 2).length = 2 ∧
    (tq 0x001FFFFF).net.rxq.get 7 = [] ∧ (tq 1).net.unacked.find? (fun r => r.token = 1) = none := by decide +kernel
theorem witness_FrameInstructions : tq.sendRoom = true ∧
    ({ State.reset with net := { State.reset.net with txq := List.replicate (Config.txQueueExtra + 1) frame0 } } : State).sendRoom = false ∧
    ({ State.reset with net := { State.reset.net with rxq := State.reset.net.rxq.set 7 [⟨frame0, 1⟩] } } : State).net.rxq.get 7 =
      [⟨frame0, 1⟩] ∧ [RxFrame.mk frame0 1].find? (fun r => r.token = 1) = some ⟨frame0, 1⟩ := by
  refine ⟨decide_eq_true (Nat.zero_le _), by simp [State.sendRoom], by decide, by decide⟩
theorem witness_TimeAndSystemInstructions : [0xA0, 0xA1, 0xA2, 0xB0, 0xB1, 0xB2, 0xF1, 0xF2, 0xF3].all (fun c => runs0 c) = true ∧
    runs0 0xA1 ⟨0, 0, 0, 0, 0, 0, 1⟩ = true ∧ (tq.tb 0).now = 0 ∧ ((tw (.waitt 3 5)).sq 0).wait = .waitt 3 5 ∧
    ((tw (.waite 1 true)).sq 0).wait = .waite 1 true ∧ ((tw (.sleep 1 true)).sq 0).wait = .sleep 1 true ∧
    (((on []).wrB F.MON_HIST_CFG_EN true 31).wr F.MON_HIST_CFG_SRC 1 31).bit F.MON_HIST_CFG_EN 31 = true ∧
    ((((on []).wrB F.MON_HIST_CFG_EN true 31).wr F.MON_HIST_CFG_SRC 1 31).rd F.MON_HIST_CFG_SRC 31) = 1 ∧
    tq.bit F.MON_HIST_CFG_EN 31 = false := by decide +kernel
theorem witness_HaltEndsThread : runs0 0xF0 = true ∧ ((State.reset.setSq 7 { Seq.reset with st := .idle }).sq 7).st = .idle ∧
    (((on []).wrB F.SEQ_HOOK_PEND true 31).wr F.SEQ_HOOK_TARGET 7 31).pendingHook 7 = some 31 := by decide +kernel
theorem witness_Hooks : (((State.reset.setSq 7 { Seq.reset with st := .idle }).wrB F.SEQ_HOOK_PEND true 0).wr F.SEQ_HOOK_TARGET 7 0).ok = true ∧
    (((State.reset.setSq 7 { Seq.reset with st := .idle }).wrB F.SEQ_HOOK_PEND true 0).wr F.SEQ_HOOK_TARGET 7 0).rd F.SEQ_HOOK_TARGET 0 = 7 ∧
    ((on []).wrB F.SEQ_HOOK_EN true 26).bit F.SEQ_HOOK_EN 26 = true ∧
    (((on []).wrB F.SEQ_HOOK_EN true 26).wrB F.SEQ_HOOK_PEND true 26).bit F.SEQ_HOOK_PEND 26 = true := by decide +kernel
theorem witness_SequencerControl : (0x80 : BitVec 8).getLsbD 7 = true ∧ (tq.sq 0).st = .run ∧ ((tw .fence).sq 0).st = .wait ∧
    ({ State.reset with pins := { State.reset.pins with ready := true } } : State).pins.ready = true ∧ State.reset.pins.ready = false ∧
    (State.reset.sq 7).st = .halted ∧
    ((State.reset.setSq 0 { Seq.reset with st := .trapped }).sq 0).st = .trapped := by decide +kernel
theorem witness_HostSubmissions : State.reset.ok = true ∧ (State.reset.file cmd0 false).2.isSome = true := by decide +kernel
theorem witness_Resends :
    let s : State := { State.reset with ledger := { State.reset.ledger with opened := [5], entries := [(3, ⟨cmd0, St.accepted, false⟩)] } }
    s.everOpened cmd0.epoch = true ∧ (s.ledger.entries.find? (fun p => p.2.cmd.epoch = cmd0.epoch && p.2.cmd.op = cmd0.op &&
      p.2.cmd.dev = cmd0.dev && p.2.cmd.seqnum = cmd0.seqnum)) = some (3, ⟨cmd0, St.accepted, false⟩) := by decide +kernel
theorem witness_EpochPipeline : (withEp (ep .opened)).ledger.epochs.find? (fun x => x.st = .opened) = some (ep .opened) ∧
    (withEp (ep .sealed)).epoch? 5 = some (ep .sealed) ∧ (withEp (ep .sealed)).baseSolved (ep .sealed) = true ∧
    (withEp { ep .sealed with slot := none }).ledger.epochs.find? (fun x => x.st = .sealed && x.slot.isNone) =
      some { ep .sealed with slot := none } ∧
    ({ withEp (ep .sealed) with solve := { State.reset.solve with running := some 5 } } : State).solve.running = some 5 ∧
    ((on []).wr F.SOLVE_SLOTS_STATE 4 0 0 15).rd F.SOLVE_SLOTS_STATE 0 0 15 = 4 ∧
    State.reset.domOpen 3 = true ∧ alist [(7, Entry.mk cmd0 St.none false)] 7 = some ⟨cmd0, St.none, false⟩ ∧ (ep .landed).ended = true := by decide +kernel
theorem witness_LayStarts :
    let s := ((withEp (ep .solved)).wr F.SOLVE_SLOTS_STATE 2 0 0 3).wrB F.LAY_CTRL_EN true
    let t := tree (((withStaged (ep .staged)).wr F.STRAND_STATUS_STATE 5).wrB F.STRAND_STATUS_OWNER true)
    (s.passTo (ep .solved).deadline.toNat).ledger.noLays = false ∧ (s.passTo (ep .solved).deadline.toNat).slotBad 3 = false ∧
    s.epoch? 5 = some (ep .solved) ∧ s.mayStage (ep .solved) 3 = true ∧ s.bit F.LAY_CTRL_EN = true ∧
    (withEp (ep .sealed)).epoch? 5 = some (ep .sealed) ∧
    t.lay.staged.find? (fun (y : StagedLay) => y.epoch = 5) = some staged0 ∧ t.lay.cur = none ∧
    (t.passTo (frameAt 0)).frozen = false ∧ (t.wrB F.FAULT_STATUS_HOLD true).frozen = true ∧
    (t.passTo (frameAt 0)).rd F.STRAND_STATUS_STATE = 5 ∧ (t.passTo (frameAt 0)).strand.failed = [] ∧
    (t.passTo (frameAt 0)).onRco = false ∧ (t.passTo (frameAt 0)).strand.sentFrame ≤ 0 ∧ (t.passTo (frameAt 0)).frame ≤ 0 ∧
    (t.passTo (frameAt 0)).slotBad 3 = false ∧ (ep .staged).net.any (fun n => !n.commitHeld) = false ∧
    ({ ep .staged with net := some (epNet true false) } : Epoch).net.any (fun n => !n.commitHeld) = true := by decide +kernel
theorem witness_LayProgress :
    (withLay lay0).lay.cur = some lay0 ∧ ({ lay0 with strobed := true, handed := true } : Lay).mayComplete = true ∧
    ({ lay0 with strobed := true, handed := true } : Lay).finalM = some 1 ∧ lay0.m < lay0.timeout ∧
    (((withLay { lay0 with strobed := true, handed := true }).passTo (frameAt (lay0.lastFrame 1))).unblank lay0).lay.cur.isSome = true ∧
    ({ State.reset with lay := { State.reset.lay with lagging := [⟨1, 2, [5], 0, 1, [], 0, 0, none⟩] } } : State).lagNext.isSome = true ∧
    ({ State.reset with lay := { State.reset.lay with vfyClosed := [1023] } } : State).layHolds 1023 = false ∧
    lay0.strobed = false ∧ ({ lay0 with m := 1 } : Lay).m = 1 := by decide +kernel
def recovery0 : Recovery :=
  { kind := .restoring, slot := 3, epoch := 5, cells := [], conns := [], close := [], allOut := false, at' := 0
    waitStream := false, waitLane := false }
theorem witness_RestoringLay :
    let s := tree (((on []).wr F.STRAND_STATUS_STATE 5).wrB F.STRAND_STATUS_OWNER true)
    ({ s with lay := { s.lay with recover := some recovery0 } } : State).mayRecover recovery0 = true := by decide +kernel
theorem witness_DriveAndLooper : (lanes (on [(F.STRAND_STATUS_STATE, 2)])).rd F.STRAND_STATUS_STATE = 2 ∧
    (lanes (on [(F.STRAND_STATUS_STATE, 5)])).lanesRun = true ∧ State.reset.loop.echoWait.contains 5 = false ∧
    State.reset.rd F.LOOP_PERIOD_P % 64 = 0 ∧ State.reset.domOpen 2 = true ∧
    ((on []).wr F.LOOP_CORE_ACTIVE 0x3FFFF).ok = true ∧ (((on []).wr F.LOOP_CORE_ACTIVE 0x3FFFF).rd F.LOOP_CORE_ACTIVE).testBit 17 = true ∧
    State.reset.bit F.LOOP_AUX_CFG_EN 63 = false ∧ ((on []).wrB F.LOOP_CTRL_EN false).bit F.LOOP_CTRL_EN = false ∧
    (((on []).wrB F.LOOP_CAP_STATUS_ACTIVE true 47).wr F.LOOP_CAP_STATUS_COUNT 4096 47).rd F.LOOP_CAP_STATUS_COUNT 47 = 4096 ∧
    (((on []).wrB F.LOOP_CAP_STATUS_ACTIVE true 47).wr F.LOOP_CAP_STATUS_COUNT 4096 47).bit F.LOOP_CAP_STATUS_ACTIVE 47 = true := by
  decide +kernel
theorem witness_Injections : alist [(3, Inj.mk 1 0 0 1 0 0 1 0)] 3 = some (Inj.mk 1 0 0 1 0 0 1 0) ∧
    (Inj.mk 1 0 0 1 0 0 1 0).value.2.2 = true := by decide +kernel
def pass0 : VfyPass := { epoch := 0, byLay := false, recIdx := none, started := true, startFrame := 0, startChip := 0, chips := 1024
                         expects := [], matchT := 0, other := 0, guardBits := 0, taps := [], touched := [], ending := false }
theorem witness_Verification : State.reset.requestPass.2 = true ∧
    ({ State.reset with sense := { State.reset.sense with waiting := some 0 } } : State).requestPass.2 = false ∧
    1024 ≤ pass0.chips := by decide +kernel
def req0 : CalReq := ⟨5, false, 0, none, false, false⟩
def senseReq0 : CalReq := ⟨64512, true, 0, none, false, false⟩
def run0 (dwell : Nat) (sense : Bool) : CalRun :=
  { req := { req0 with sense := sense }, dwell := dwell, samples := [], failed := false, tStart := 0, gA := 0, gB := 0, next := 0 }
def withRun (r : CalRun) : State := { State.reset with cal := { State.reset.cal with runs := [r] } }
def readyCal : State :=
  let s := ((on []).wrB F.CAL_CTRL_EN true).wrB F.THERM_STATUS_CART_VALID true
  let s := s.wr F.CAL_CTRL_PAR 16
  { s with cal := { s.cal with queue := [senseReq0] }, strand := { s.strand with desc := some desc0 } }
theorem witness_Calibration : (withRun (run0 0 false)).cal.runs.any (fun r => r.req.object = 5 && r.req.sense = false) = true ∧
    256 ≤ (List.replicate 256 req0).length ∧ State.reset.cal.queue.length < 256 ∧ State.reset.cal.runs = [] ∧
    ((on []).wrB F.CAL_CTRL_EN false).bit F.CAL_CTRL_EN = false ∧ ((on []).wrB F.CAL_CTRL_EN true).bit F.CAL_CTRL_EN = true ∧
    readyCal.cal.queue = senseReq0 :: [] ∧ readyCal.bit F.THERM_STATUS_CART_VALID = true ∧
    (readyCal.senseAbsent 64512 = false) ∧ readyCal.holdOn = false ∧ readyCal.safeOn = false ∧
    (withRun (run0 128 false)).runOf 5 false = some (run0 128 false) ∧ (withRun (run0 2 true)).runOf 5 true = some (run0 2 true) ∧
    ([Blend.mk 1 0 [] [] 0 64 false].find? (fun b => !b.running)).isSome = true ∧
    ((on []).wrB F.CAL_CTRL_PASSIVE_EN true).bit F.CAL_CTRL_PASSIVE_EN = true ∧ [21503].contains 21503 = true := by decide +kernel
theorem witness_CalRunStart : readyCal.calWaits senseReq0 = false ∧ (readyCal.calCheck senseReq0).isNone = true := by
  constructor <;> decide +kernel
theorem witness_PassiveExpire : (State.reset.setCCal 21503 12 1 1).cCal 21503 12 1 = 1 := by decide +kernel
theorem witness_LinkUp : (lanes State.reset).domOpen 8 = true ∧ (lanes State.reset).mayStart = true ∧
    State.reset.laneClock = false ∧ ((lanes (on [(F.SYS_STATUS_BOOT_FAIL, 1)])).bit F.SYS_STATUS_BOOT_FAIL = true) ∧
    (lanes (on [(F.STRAND_STATUS_STATE, 1)])).rd F.STRAND_STATUS_STATE = 1 ∧ (lanes (on [(F.STRAND_STATUS_STATE, 1)])).lanesRun = true ∧
    (1 : BitVec 96) ≠ 0 ∧
    (on [(F.STRAND_STATUS_STATE, 2)]).rd F.STRAND_STATUS_STATE = 2 ∧ (on [(F.STRAND_STATUS_STATE, 3)]).rd F.STRAND_STATUS_STATE = 3 ∧
    (on [(F.STRAND_STATUS_STATE, 3)]).strand.authSig = none ∧
    State.reset.strand.chalAt.any (fun t => decide (t + 20 * msCycles < State.reset.time.cycle)) = false ∧
    ({ State.reset with strand := { State.reset.strand with desc := some desc0 } } : State).strand.desc = some desc0 := by
  decide +kernel
def canStream : State :=
  ((on []).wr F.STRAND_STATUS_STATE 4).wrB F.STRAND_STATUS_OWNER true |>.wrB F.STRAND_STATUS_DESC_OK true |>.wrB F.STRAND_CTRL_AUTH_REQ false |> tree
def flight0 : InFlight := { frame := 0, count := 1, start := 0, lanes := [], nLanes := 0, mapgen := 0, spares := [] }
theorem witness_LinkRuns : canStream.mayStream = true ∧ (canStream.wrB F.STRAND_CTRL_ECHO_PRESET true).bit F.STRAND_CTRL_ECHO_PRESET = true ∧
    (canStream.wrB F.STRAND_CTRL_ECHO_PRESET false).bit F.STRAND_CTRL_ECHO_PRESET = false ∧ State.reset.mayStream = false ∧
    canStream.domOpen 8 = true ∧ State.reset.strand.rxHeld = none ∧ (lanes canStream).lanesRun = true ∧
    ({ State.reset with strand := { State.reset.strand with flight := [flight0, flight0] } } : State).strand.flight = flight0 :: flight0 :: [] ∧
    ((on []).wrB F.STRAND_LANE_LOCK true 95).bit F.STRAND_LANE_LOCK 95 = true ∧
    (State.reset.setLane 95 3 0x7F).laneRole 95 = 3 ∧ alist [(95, 7)] 95 = some 7 := by decide +kernel
def allEchoes (n : Nat) : List Echo := List.replicate n (Echo.mk 0 0 false false 1)
theorem echoes_complete {s : State} {n : Nat} (h : s.strand.echoes = allEchoes n) (hg : s.strand.grantCount = 0)
    (hn : driveCount s.strand.geomY512 ≤ n) : s.echoComplete = true := by
  simp only [State.echoComplete, h, hg, allEchoes, List.filter_replicate]
  simpa using hn
theorem witness_EchoComplete : ({ canStream with strand := { canStream.strand with streamWait := true, echoes := allEchoes 45056 } } : State).echoComplete = true :=
  echoes_complete rfl rfl (by decide)
theorem witness_NetworkFrames : (State.reset.net.rxq.get 7).length < 64 ∧ 64 ≤ (List.replicate 64 (RxFrame.mk frame0 1)).length ∧
    ({ State.reset with net := { State.reset.net with heard := [(0x10, 5, frame0.src)] } } : State).net.heard.contains (0x10, 5, frame0.src) = true ∧
    ([Retrans.mk frame0 0 0].find? (fun r => r.frame.epoch = 5 && r.frame.seqnum = 1)).isSome = true ∧
    (withEp { ep .sealed with net := some (epNet true false) }).epoch? 5 = some { ep .sealed with net := some (epNet true false) } ∧
    (epNet true false).decided = false ∧ (ep .sealed).ended = false := by decide +kernel
/-- A braid port with its link up, one frame of class 6 waiting at it. -/
def port15 : State :=
  let s := lanes ((((on []).wrB F.BRAID_CTRL_EN true 15).wrB F.BRAID_STATUS_LINK true 15).wrB F.SWITCH_PORT_CFG_EN true 15)
  { s with sw := { s.sw with frames := [⟨0, List.replicate 60 0, 16, 6, 1, 1, none, 0⟩]
                             queues := [{ OutQueue.empty 15 6 with copies := [⟨0, 0, false⟩] }] } }
theorem witness_SwitchTraffic : port15.enterLedger.enterMgmt.sw.sending.any (fun t => t.out = 15) = false ∧
    port15.enterLedger.enterMgmt.outOk 15 = true ∧ (port15.enterLedger.enterMgmt.pickClass 15).1 = some 6 ∧
    port15.bit F.BRAID_CTRL_EN 15 = true ∧ port15.braidRuns 15 = true ∧ State.reset.domOpen 9 = true ∧
    State.reset.bit F.BRAID_CTRL_EN 0 = false ∧ ((on []).wrB F.SWITCH_LAG_EN true 3).bit F.SWITCH_LAG_EN 3 = true ∧
    ((on []).wrB F.SWITCH_LAG_REJOIN_PEND true 3).bit F.SWITCH_LAG_REJOIN_PEND 3 = true ∧ State.reset.bit F.SWITCH_LAG_EN 0 = false ∧
    (∀ p ∈ ((on []).wrB F.SWITCH_LAG_REJOIN_PEND true 3).lagMembers 3,
      (((on []).wrB F.SWITCH_LAG_REJOIN_PEND true 3).outQ p 5).copies = []) := by decide +kernel
theorem witness_SwitchSchedules : State.reset.gateValid 15 = false ∧ State.reset.domOpen 9 = true ∧
    ((((on []).wr F.SCHED_GATE_LEN_LEN 1 15).wr F.SCHED_GATE_CYCLE_CYCLE 1000 15).wr F.SCHED_GATE_ADMIN_INTERVAL 1000 15 0).gateValid 15 = true ∧
    alist [(15, GateList.mk 0 1000 [(255, 1000)])] 15 = some (GateList.mk 0 1000 [(255, 1000)]) ∧
    (12 : BitVec 32).toNat % 2048 = 12 ∧ (1518 : BitVec 32).toNat % 2048 ≤ 1518 ∧ State.reset.bit F.SWITCH_HOST_CFG_BUSY = false ∧
    ((on []).wrB F.SWITCH_HOST_CFG_BUSY true).bit F.SWITCH_HOST_CFG_BUSY = true ∧
    (((on []).wrB F.BRAID_SYNCE_EN true 1).wrB F.BRAID_STATUS_LOCK true 0).bit F.BRAID_SYNCE_EN 1 = true ∧
    (((on []).wrB F.BRAID_SYNCE_EN true 1).wrB F.BRAID_STATUS_LOCK true 0).rd F.BRAID_SYNCE_PORT 1 = 0 ∧
    ((on []).wrB F.BRAID_STATUS_LINK true 0).bit F.BRAID_STATUS_LINK 0 = true := by decide +kernel
theorem witness_TimeBases : State.reset.ok = true ∧ State.reset.domOpen 5 = true ∧ (withLay lay0).lay.cur = some lay0 ∧ lay0.kind = .epoch ∧ (8581344658 : BitVec 64).toNat < 2 ^ 40 ∧ State.reset.bound = false ∧
    (tree ((on []).wr F.STRAND_STATUS_STATE 1)).bound = true ∧ ((on []).wrB F.TIME_CTRL_PPS_OUT_EN true).bit F.TIME_CTRL_PPS_OUT_EN = true ∧
    ((on []).wrB F.TIME_CTRL_PPS_IN_EN true).bit F.TIME_CTRL_PPS_IN_EN = true ∧ State.reset.bit F.TIME_CAP_STATUS_PPS_NEW = false ∧
    ((on []).wr F.TIME_CTRL_LSO_MODE 1).rd F.TIME_CTRL_LSO_MODE = 1 ∧ lay0.frame = State.reset.frame ∧
    ((on []).wrB F.TIME_CTRL_LSI_EN true).bit F.TIME_CTRL_LSI_EN = true := by decide +kernel
theorem witness_Comparators : ((on []).wrB F.TIME_CMP_CTRL_EN true 15).bit F.TIME_CMP_CTRL_EN 15 = true ∧
    State.reset.bit F.TIME_CMP_CTRL_EN 15 = false ∧ ((on []).wrB F.TIME_CMP_CTRL_ARMED true 15).bit F.TIME_CMP_CTRL_ARMED 15 = true ∧
    0 ≤ ((State.reset.tb 0).now - 0).toInt ∧ State.reset.rd F.TIME_CMP_PERIOD_PERIOD 15 = 0 ∧
    0 < ((on []).wr F.TIME_CMP_PERIOD_PERIOD 5 15).rd F.TIME_CMP_PERIOD_PERIOD 15 := by decide +kernel
def pair (role kind : Nat) : State :=
  let s := ((on []).wrB F.REDUND_CTRL_EN true).wr F.REDUND_STATUS_ROLE role
  { s with redund := { s.redund with kind := kind } }
theorem witness_PairRoles : (pair 1 0).ok = true ∧ (pair 1 0).bit F.REDUND_CTRL_EN = true ∧ (pair 1 0).redund.silent = false ∧
    (pair 2 0).rd F.REDUND_STATUS_ROLE ≠ 1 ∧ (pair 1 0).mayBeat = false ∧ (pair 2 0).bit F.REDUND_STATUS_HB_NET = false ∧
    (200 : BitVec 16).toNat < 4000 ∧ (3999 : BitVec 16).toNat < 4000 ∧ 4000 ≤ (4000 : BitVec 16).toNat ∧
    (pair 2 0).bit F.REDUND_STATUS_HB_PIN = false ∧ (pair 2 0).redund.holdoffRun = false ∧
    (pair 3 4).rd F.REDUND_STATUS_ROLE = 3 ∧ (pair 3 4).redund.kind ≠ 0 ∧
    ((pair 3 1).wrB F.STRAND_STATUS_OWNER true).bit F.STRAND_STATUS_OWNER = true ∧
    (((pair 3 1).wrB F.STRAND_STATUS_DESC_OK true).wrB F.STRAND_CTRL_AUTH_REQ false).cartOk = true ∧
    ((pair 3 1).wrB F.STRAND_STATUS_OWNER false).bit F.STRAND_STATUS_OWNER = false := by decide +kernel
theorem witness_FailoverEcho : ({ pair 3 1 with strand := { (pair 3 1).strand with grantCount := 0, echoes := allEchoes 45056 } } : State).echoComplete = true :=
  echoes_complete rfl rfl (by decide)
theorem witness_PairState : (pair 2 0).ok = true ∧ (pair 2 0).rd F.REDUND_STATUS_ROLE = 2 ∧ (pair 1 0).rd F.REDUND_STATUS_ROLE = 1 ∧
    (pair 3 0).redund.kind = 0 ∧ ((on []).wrB F.REDUND_HEALTH_LANE_ERR true).bit F.REDUND_HEALTH_LANE_ERR = true ∧
    (({ (((on []).wr F.REDUND_STATUS_ROLE 2).wrB F.REDUND_STATUS_CKPT_CURRENT true).setLock 0 5 with pins := State.reset.pins } : State).healthy) =
      true ∧ ((on []).wrB F.REDUND_STATUS_PRIMARY true).bit F.REDUND_STATUS_PRIMARY = true ∧ State.reset.ledger.epochs = [] ∧
    ({ pair 3 0 with redund := { (pair 3 0).redund with takeback := true, handoverFrame := some 0 } } : State).redund.handoverFrame = some 0 ∧
    (pair 2 0).stagedImage = some (pair 2 0).redund.image := ⟨by decide +kernel, by decide +kernel, by decide +kernel, by decide +kernel,
      by decide +kernel, by decide +kernel, by decide +kernel, by decide +kernel, by decide +kernel, rfl⟩
/-- One byte of the staging area, of a stored CRC, written by a master. -/
def badStage (s : State) (x : Byte) : State := { s with redund := { s.redund with staged := [(0x1A0, x)] } }
theorem witness_BadRestore (s : State) : ∃ x, (badStage s x).stagedImage = none := by
  by_contra h
  push Not at h
  have key : ∀ x : Byte, (crc32 (sectBytes .ledger (badStage s 0).stagedByte)).toNat % 256 = x.toNat := by
    intro x
    have hc : ckptChecks (badStage s x).stagedByte = true := by
      cases hc : ckptChecks (badStage s x).stagedByte
      · exact absurd (show (badStage s x).stagedImage = none by
          have hs : (badStage s x).redund.staged.isEmpty = false := rfl
          simp only [State.stagedImage, hc, hs]; rfl) (h x)
      · rfl
    have h0 : (crc32 (sectBytes .ledger (badStage s x).stagedByte)).toNat = bytesFrom (badStage s x).stagedByte 0x1A0 4 := by
      simp only [ckptChecks, ckptSections, List.zipIdx, List.all_cons, Bool.and_eq_true, decide_eq_true_eq] at hc
      exact hc.1
    have h1 : sectBytes .ledger (badStage s x).stagedByte = sectBytes .ledger (badStage s 0).stagedByte := by
      unfold sectBytes
      refine List.map_congr_left (fun i _ => ?_)
      have : (sectRange .ledger).1 + i ≠ 0x1A0 := by simp [sectRange]; omega
      simp [State.stagedByte, badStage, alist, this.symm]
    rw [← h1, h0]
    have := x.isLt
    simp [bytesFrom, bytesNat, List.range, List.range.loop, State.stagedByte, badStage, alist]
    omega
  have h1 := key 1
  have h2 := key 2
  simp at h1 h2
  omega
theorem witness_FaultRaises : faultAssigned 127 = true ∧ faultLevel 127 = false ∧ faultLevel 0 = true ∧
    ((on []).wrB F.FAULT_SRC_STATUS_LEVEL true 0).bit F.FAULT_SRC_STATUS_LEVEL 0 = true ∧
    State.reset.bit F.FAULT_SRC_STATUS_LEVEL 0 = false ∧ ((on []).wrB F.FAULT_FIRST_VALID true).bit F.FAULT_FIRST_VALID = true ∧
    State.reset.bit F.FAULT_FIRST_VALID = false ∧ State.reset.fault.firstHere = false ∧
    (State.reset.faultCycle.cycleOf 127).details = [] ∧ (State.reset.faultCycle.cycleOf 0).details = [] := by decide +kernel
def held (bit : Nat) : State :=
  let s := (on []).wrB F.FAULT_SRC_STATUS_ACTIVE true 7
  { s with fault := { s.fault with lastReact := [(7, 2 ^ bit)] } }
theorem witness_Releases : State.reset.ok = true ∧ (held 2).heldBySource 2 = true ∧ (held 3).heldBySource 3 = true ∧
    (held 4).heldBySource 4 = true ∧ State.reset.heldBySource 2 = false ∧ State.reset.holdOn = false ∧ State.reset.safeOn = false ∧
    ((on []).wrB F.FAULT_STATUS_HOLD true).holdOn = true ∧ ((on []).wrB F.FAULT_STATUS_SAFE true).safeOn = true ∧
    State.reset.bit F.FAULT_STATUS_SAFE_N_LOW = false := by decide +kernel
theorem witness_Monitors : State.reset.ok = true ∧ (0 : Fin 4) ≠ 1 ∧ (0 : Fin 4) ≠ 2 ∧ (1 : BitVec 32) ≠ 0 ∧ State.reset.rd F.MON_TRK_N_N 15 = 0 ∧
    ((on []).wr F.MON_TRK_N_N 1 15).rd F.MON_TRK_N_N 15 ≠ 0 ∧ -(2 ^ 63 : Int) ≤ -(2 ^ 63) ∧
    (2 ^ 63 - 1 : Int) < 2 ^ 63 ∧ State.reset.rdI F.MON_TRK_MIN_MIN 15 ≤ 2 ^ 63 - 1 := by decide +kernel
theorem witness_ThermalAndPwm : ((on []).wrB F.HKADC_CTRL_EN true).bit F.HKADC_CTRL_EN = true ∧ State.reset.therm.roundEnd = none ∧
    ((on []).wrB F.HKADC_CTRL_EN false).bit F.HKADC_CTRL_EN = false ∧
    ({ State.reset with therm := { State.reset.therm with roundEnd := some 4 } } : State).therm.roundEnd = some 4 ∧
    ((on []).wrB F.PWM_CTRL_EN true 7).bit F.PWM_CTRL_EN 7 = true ∧ State.reset.bit F.PWM_CTRL_EN 7 = false ∧
    (((on []).wrB F.PWM_CTRL_EN true 0).wrB F.PWM_CTRL_SYNC_EN true 0).bit F.PWM_CTRL_EN 0 = true ∧
    (((on []).wrB F.PWM_CTRL_EN true 0).wrB F.PWM_CTRL_SYNC_EN true 0).bit F.PWM_CTRL_SYNC_EN 0 = true ∧
    (let s : State := { State.reset with time := { State.reset.time with cycle := 1000 } }
     (s.pm 0).startAt + s.pwmStep ≤ s.now4) ∧ State.reset.domOpen 6 = true ∧ (8 : BitVec 4).getLsbD 3 = true ∧
    (((on []).wr F.PWM_TRIP_CTRL_EN 8).rd F.PWM_TRIP_CTRL_EN).testBit 3 = true := by decide +kernel
theorem witness_ClockCommands : State.reset.ok = true ∧ ((on []).wr F.BOOT_STATUS_PHASE 2).rd F.BOOT_STATUS_PHASE = 2 ∧
    State.reset.bit F.CLK_STATUS_XTAL_QUAL = false ∧ ((on []).wrB F.CLK_STATUS_XTAL_QUAL true).bit F.CLK_STATUS_XTAL_QUAL = true ∧
    State.reset.rd F.BOOT_STATUS_PHASE ≠ 2 ∧ State.reset.clock.declared = [] ∧ State.reset.normalOk 7 = false ∧
    State.reset.switchingSince 7 = none ∧ 2 ≤ ((on []).wr F.BOOT_STATUS_PHASE 2).rd F.BOOT_STATUS_PHASE := by decide +kernel
theorem witness_PowerStates : ((on []).wr F.STRAND_STATUS_STATE 5).pwrRefused 2 = true ∧ State.reset.pwrRefused 0 = false ∧
    ((on []).wrB F.PWR_STATUS_CHANGING true).bit F.PWR_STATUS_CHANGING = true := by decide +kernel
theorem witness_BusMatrix : State.reset.mayIssue 1 true = true ∧ State.reset.mayIssue 1 false = true ∧ State.reset.internal 1 0x01010000 = some 0x01010000 ∧
    State.reset.target 1 0x01010000 = .block ∧ State.reset.domOpen (blockDomain 0x01010000) = true ∧
    sizeOk [4, 8] 0x01010000 4 = true ∧ sizeOk [4, 8] 0x01010002 4 = false ∧ isBurst 4 = false ∧
    State.reset.target 1 0x00100000 = .memory .data ∧ State.reset.domOpen (memDomain .data) = true ∧ isBurst 256 = true ∧ 0x00100000 % 8 = 0 ∧
    sizeOk [1, 2, 4, 8] 0x001FFFFF 1 = true ∧ State.reset.internal 1 0x07FFFFFF = some 0x07FFFFFF ∧
    State.reset.target 1 0x07FFFFFF = .none ∧ 2 ≤ ((on []).wr F.BOOT_STATUS_PHASE 2).rd F.BOOT_STATUS_PHASE := by decide +kernel
theorem witness_ClosedDomains : [2, 3, 5, 6, 8, 9].all (fun d => !(shut d).domOpen d) = true := by decide +kernel
theorem witness_ParityFailures : memKind 0x04000000 = some .weave ∧ memKind 0x03000000 = some .drive ∧
    memKind 0x07000000 = some .staging ∧ memKind 0x00100000 = some .data ∧ memKind 0x07FFFFFF = none ∧
    ((tw (.reload 9)).sq 0).wait = .reload 9 ∧ [9].contains (9 : BitVec 16).toNat = true ∧ image0.copy = 0 := by decide +kernel
theorem witness_ResetAndStartup : State.reset.ok = true ∧ State.reset.boot.fuses.lc ≤ 1 ∧ State.reset.rd F.BOOT_STATUS_PHASE = 0 ∧
    1 < ({ State.reset.boot.fuses with lc := 2 } : Fuses).lc ∧
    [1, 3, 4, 5, 6, 7, 8].all (fun n => ((on []).wr F.BOOT_STATUS_PHASE n).rd F.BOOT_STATUS_PHASE = n) = true := by decide +kernel
theorem witness_FlashAndLifeCycle :
    let s : State := { (on []).wrB F.THERM_STATUS_FLASH_GATE true with boot := { State.reset.boot with img := some image0 } }
    s.ok = true ∧ s.bit F.FLASH_STATUS_BUSY = false ∧ s.therm.flashQ = [] ∧ s.flashProtected 2 (copyBase 0) = true ∧
    s.flashProtected 2 (copyBase 0 + 0x1000) = false ∧ s.bit F.THERM_STATUS_FLASH_GATE = true ∧
    ((on []).wrB F.THERM_STATUS_FLASH_GATE false).bit F.THERM_STATUS_FLASH_GATE = false ∧
    ((on []).wrB F.FLASH_STATUS_BUSY true).bit F.FLASH_STATUS_BUSY = true ∧ State.reset.lcRefusal 4 = 0 ∧ State.reset.lcRefusal 2 ≠ 0 := by
  decide +kernel

end Sys2Proof.Tests
end

section
/-! The scope of the model: the reset state, the canonical form that every step keeps, and the byte order of the
memories. -/

namespace Sys2Proof.Machine

/-! ### Register fields at reset (R15) -/

/-- A field that the register table does not list reads its reset value. -/
theorem State.rd_of_regs_nil {s : State} (h : s.regs = []) (f : Fld) (i j k : Nat) :
    s.rd f i j k = f.reset i j % 2 ^ 64 := by
  rw [State.rd, h, Sparse.get, BitVec.toNat_ofNat]

/-- Settles O3: the register table is empty at reset, so every field reads its reset value. -/
theorem resetSound : Obligations.ResetSound :=
  ⟨by decide, rfl, State.rd_of_regs_nil rfl⟩

/-! ### The canonical form (R7, R15) -/

/-- A next state is a sound outcome when its memory and its register table are in canonical form. -/
theorem sound_next_iff {t : State} : Sound (.next t) ↔ t.ok = true := Iff.rfl

/-- Settles O5: the idle step and every command keep a sound state sound, which is `step_ok`. -/
theorem stepKeepsForm : Obligations.StepKeepsForm := by
  intro s t hok hstep
  have hsound : Sound (step s) := step_ok hok
  rwa [hstep, sound_next_iff] at hsound

/-! ### Byte order (R12) -/

/-- Each byte of a stored number, at its place above the first, is the number's digit of that weight. -/
theorem memPut_get_add {i n : Nat} {m : List Host.Cell} {a v : Nat} (h : Memory.wf m = true) (hi : i < n) :
    Sparse.get (0 : Byte) (memPut m a n v) (a + i) = BitVec.ofNat 8 (v / 256 ^ i) := by
  induction n generalizing i m a v with
  | zero => exact absurd hi (Nat.not_lt_zero i)
  | succ n ih =>
    have hput : Memory.wf (Sparse.put 0 m a (BitVec.ofNat 8 v)) = true := Sparse.put_wfAbove (Nat.zero_le _) h
    rw [memPut]
    cases i with
    | zero =>
      rw [memPut_get_out hput (by omega), Nat.add_zero, Sparse.get_put_eq (Sparse.rising_of_wfAbove h),
        Nat.pow_zero, Nat.div_one]
    | succ i =>
      rw [Nat.add_comm i 1, ← Nat.add_assoc, ih hput (by omega), Nat.div_div_eq_div_mul, Nat.pow_add, Nat.pow_one]

/-- A number stored reads back, cut to the bytes stored. -/
theorem memNat_memPut {n : Nat} {m : List Host.Cell} {a v : Nat} (h : Memory.wf m = true) :
    memNat (memPut m a n v) a n = v % 256 ^ n := by
  induction n generalizing m a v with
  | zero => rw [memNat, Nat.pow_zero, Nat.mod_one]
  | succ n ih =>
    have hput : Memory.wf (Sparse.put 0 m a (BitVec.ofNat 8 v)) = true := Sparse.put_wfAbove (Nat.zero_le _) h
    have hlow : Sparse.get (0 : Byte) (memPut m a (n + 1) v) a = BitVec.ofNat 8 v := by
      simpa using memPut_get_add (a := a) (v := v) h (Nat.succ_pos n)
    calc memNat (memPut m a (n + 1) v) a (n + 1)
        = (BitVec.ofNat 8 v).toNat + 256 * (v / 256 % 256 ^ n) := by rw [memNat, hlow, memPut, ih hput]
      _ = v % (256 * 256 ^ n) := by rw [BitVec.toNat_ofNat]; exact Nat.mod_mul.symm
      _ = v % 256 ^ (n + 1) := by rw [Nat.pow_succ']

/-- Settles O16, from the byte that a store puts at each address and the bytes that it leaves. -/
theorem littleEndian : Obligations.LittleEndian := by
  intro s a n v hok
  have hmem : Memory.wf s.mem = true := good_wf (good_self hok)
  refine ⟨?_, ?_, ?_, ?_⟩
  · rfl
  · intro i hi
    exact memPut_get_add hmem hi
  · exact memNat_memPut hmem
  · intro b hb
    exact ldB_st_ne hok hb

end Sys2Proof.Machine
end

section
/-! The sequencers (02): their registers, the start and the end of their threads, their hooks and their control. -/

namespace Sys2Proof.Machine

/-! ### Registers of a sequencer (R43, R44) -/

/-- g0 reads zero. -/
@[simp] theorem Seq.rg_zero (x : Seq) : x.rg 0 = 0 := rfl

/-- A write of g0 is discarded. -/
@[simp] theorem Seq.setG_zero (x : Seq) (v : W64) : x.setG 0 v = x := rfl

/-- A general register read after a write of another one than g0. -/
theorem Seq.rg_setG {n : BitVec 5} (hn : n ≠ 0) (x : Seq) (m : BitVec 5) (v : W64) :
    (x.setG n v).rg m = if m = n then v else x.rg m := by
  by_cases hm : m = 0
  · subst hm
    rw [if_neg hn.symm, Seq.rg_zero, Seq.rg_zero]
  · simp only [Seq.setG, if_neg hn, Seq.rg, if_neg hm]
    show (x.g.set n.toNat v)[m.toNat] = if m = n then v else x.g[m.toNat]
    simp only [Vector.getElem_set, BitVec.toNat_inj, eq_comm]

/-- p0 reads 1. -/
@[simp] theorem Seq.rp_zero (x : Seq) : x.rp 0 = true := rfl

/-- A write of p0 is discarded. -/
@[simp] theorem Seq.setP_zero (x : Seq) (b : Bool) : x.setP 0 b = x := rfl

/-- The mask of a predicate has its own bit alone. -/
theorem predMask_getLsbD (n m : BitVec 3) : (1#8 <<< n.toNat).getLsbD m.toNat = decide (m = n) := by
  revert n m
  decide

/-- A predicate read after a write of another one than p0. -/
theorem Seq.rp_setP {n : BitVec 3} (hn : n ≠ 0) (x : Seq) (m : BitVec 3) (b : Bool) :
    (x.setP n b).rp m = if m = n then b else x.rp m := by
  by_cases hm : m = 0
  · subst hm
    rw [if_neg hn.symm, Seq.rp_zero, Seq.rp_zero]
  · have hlt : m.toNat < 8 := m.isLt
    simp only [Seq.setP, if_neg hn, Seq.rp, hm, decide_false, Bool.false_or]
    cases b with
    | false =>
      simp only [Bool.false_eq_true, if_false, BitVec.getLsbD_and, BitVec.getLsbD_not, predMask_getLsbD, hlt, decide_true]
      by_cases hmn : m = n <;> simp [hmn]
    | true =>
      simp only [if_true, BitVec.getLsbD_or, predMask_getLsbD]
      by_cases hmn : m = n <;> simp [hmn]

/-- A guard of p0 with sense 0 holds (R85). -/
theorem Seq.guard_p0 (x : Seq) {w : Fields} (hp : w.gp = 0) (hs : w.gs = 0) : x.guard w = true := by
  rw [Seq.guard, hp, hs, Seq.rp_zero]
  rfl

/-- Settles O10, from the reads of a register after a write of it and of another one. -/
theorem constantRegisters : Obligations.ConstantRegisters := by
  intro x w
  refine ⟨⟨x.rg_zero, x.setG_zero⟩, ⟨x.rp_zero, x.setP_zero⟩, ?_, ?_, ?_⟩
  · intro n m v hn
    exact Seq.rg_setG hn x m v
  · intro n m b hn
    exact Seq.rp_setP hn x m b
  · exact x.guard_p0

/-! ### The sequencers of a state -/

/-- A sequencer whose number is below 8, read after another one is set. -/
theorem State.sq_setSq_of_ne {p q : Nat} (hp : p < 8) (hq : q < 8) (h : p ≠ q) (s : State) (x : Seq) :
    (s.setSq q x).sq p = s.sq p :=
  State.sq_setSq_ne s (p := ⟨p, hp⟩) (q := ⟨q, hq⟩) (fun e => h (congrArg Fin.val e)) x

/-- A sequencer of a state whose sequencers are those of another one, each changed by one function. -/
theorem State.sq_of_seqs_map {s t : State} {f : Seq → Seq} (h : t.seqs = s.seqs.map f) (q : Nat) :
    t.sq q = f (s.sq q) := by
  rw [State.sq, h]
  show (s.seqs.map f)[(Fin.ofNat 8 q).val] = f s.seqs[(Fin.ofNat 8 q).val]
  exact Vector.getElem_map ..

/-- What no step of a loop changes, the loop does not change. -/
theorem forEach_frame {α β : Type} {g : State → α} {f : State → β → State} (hf : ∀ s b, g (f s b) = g s)
    (l : List β) (s : State) : g (forEach l f s) = g s := by
  induction l generalizing s with
  | nil => rfl
  | cons b l ih => exact (ih (f s b)).trans (hf s b)

/-- A loop over sequencers, each step of which changes its own sequencer alone: what becomes of one of them.  What the
change depends on besides the sequencer is an invariant `I` of the loop. -/
theorem forEach_sq {l : List Nat} {f : State → Nat → State} {I : State → Prop} {φ : Seq → Seq} {q : Nat} {s : State}
    (hnodup : l.Nodup) (hlt : ∀ p ∈ l, p < 8) (hI : ∀ s p, I s → I (f s p))
    (hself : ∀ s, I s → (f s q).sq q = φ (s.sq q))
    (hother : ∀ s p, p < 8 → p ≠ q → (f s p).sq q = s.sq q) (hs : I s) :
    (forEach l f s).sq q = if q ∈ l then φ (s.sq q) else s.sq q := by
  induction l generalizing s with
  | nil => rfl
  | cons p l ih =>
    obtain ⟨hpl, hnd⟩ := List.nodup_cons.mp hnodup
    have hrest : (forEach l f (f s p)).sq q = if q ∈ l then φ ((f s p).sq q) else (f s p).sq q :=
      ih hnd (fun r hr => hlt r (List.mem_cons_of_mem p hr)) (hI s p hs)
    show (forEach l f (f s p)).sq q = _
    by_cases hpq : p = q
    · subst hpq
      rw [hrest, if_neg hpl, if_pos List.mem_cons_self, hself s hs]
    · rw [hrest, hother s p (hlt p List.mem_cons_self) hpq]
      simp only [List.mem_cons, Ne.symm hpq, false_or]

/-- A mask lists each of its members once. -/
theorem maskBits_nodup (mask n : Nat) : (maskBits mask n).Nodup := List.nodup_range.filter _

/-- A number is in a mask where it is below the mask's width and its bit is set. -/
theorem mem_maskBits {mask n i : Nat} : i ∈ maskBits mask n ↔ i < n ∧ mask.testBit i = true := by
  rw [maskBits, List.mem_filter, List.mem_range]

/-- An instruction that executes and does not trap has its effect (R84, R85, R87). -/
theorem execEngine_of_runs {opc : Nat} {q : Fin 8} {w : Fields} {f : State → Seq → Except Nat State} {s t : State}
    (h : Runs opc q w s) (hf : f s (s.sq q.val) = .ok t) : execEngine opc q w f s = s.goes t := by
  obtain ⟨hrun, hdom, hlegal, hguard⟩ := h
  simp only [execEngine, hrun, hdom, hlegal, hguard, hf]
  rfl

/-! ### Threads: their start and their end (R49 to R52) -/

/-- The sequencer of a thread that ends. -/
theorem State.sq_endThread_self (s : State) (q : Nat) (st : SqState) :
    (s.endThread q st).sq q = { s.sq q with st := st, nmi := false, wait := .none } := State.sq_setSq_self _ _ _

/-- The sequencer of a thread that starts. -/
theorem State.sq_startThread_self (s : State) (q h : Nat) (arg : W32) :
    (s.startThread q h arg).sq q =
      { s.sq q with g := ((s.sq q).g.set 1 (arg.setWidth 64)).set 2 (BitVec.ofNat 64 h), hook := h, nmi := decide (h = 0)
                    st := .run, wait := .none
                    pc := BitVec.ofNat 16 ((s.wrB F.SEQ_HOOK_PEND false h).rd F.SEQ_HOOK_ENTRY h) } :=
  State.sq_setSq_self _ _ _

/-- A thread that starts finds every general register but g1 and g2 as it was (R49, R51). -/
theorem State.rg_startThread {n : BitVec 5} (h1 : n ≠ 1) (h2 : n ≠ 2) (s : State) (q h : Nat) (arg : W32) :
    ((s.startThread q h arg).sq q).rg n = (s.sq q).rg n := by
  have hn1 : (1 : Nat) ≠ n.toNat := fun e => h1 (BitVec.eq_of_toNat_eq e.symm)
  have hn2 : (2 : Nat) ≠ n.toNat := fun e => h2 (BitVec.eq_of_toNat_eq e.symm)
  rw [State.sq_startThread_self, Seq.rg, Seq.rg]
  show (if n = 0 then 0 else (((s.sq q).g.set 1 _).set 2 _)[n.toNat]) = if n = 0 then 0 else (s.sq q).g[n.toNat]
  simp only [Vector.getElem_set, if_neg hn1, if_neg hn2]

/-- HALT of a running thread ends it (R49). -/
theorem exec_halt {q : Fin 8} {w : Fields} {s : State} (h : Runs 0xF0 q w s) :
    exec (.halt q w) s = s.goes ((s.sqNext q).endThread q.val (s.restState q.val)) :=
  execEngine_of_runs (f := fun s _ => .ok ((s.sqNext q).endThread q.val (s.restState q.val))) h rfl

/-- HOOK_START of an IDLE sequencer with a pending hook starts its thread (R52). -/
theorem exec_hookStart {q : Fin 8} {s : State} {h : Nat} (hidle : (s.sq q.val).st = .idle)
    (hpend : s.pendingHook q.val = some h) :
    exec (.hookStart q) s = s.goes (s.startThread q.val h ((alist s.hookArgs h).getD 0)) := by
  show execHookStart q s = _
  simp only [execHookStart, hidle, hpend]
  rfl

/-- Settles O29: what the end of a thread and the start of the next leave of the sequencer. -/
theorem haltEndsThread : Obligations.HaltEndsThread := by
  intro q w s
  refine ⟨?_, ?_⟩
  · intro hruns
    refine ⟨_, exec_halt hruns, ?_⟩
    rw [State.sq_endThread_self, State.sqNext, State.sq_setSq_self]
    exact ⟨rfl, rfl, rfl, rfl⟩
  · intro h hidle hpend
    refine ⟨_, exec_hookStart hidle hpend, ?_, ?_, ?_⟩
    · rw [State.sq_startThread_self]
    · rw [State.sq_startThread_self]
    · intro n _ h1 h2
      exact State.rg_startThread h1 h2 s q.val h _

/-! ### Hooks (R51 to R53) -/

/-- The lowest pending hook of a sequencer (R52). -/
theorem State.pendingHook_eq_some {s : State} {q h : Nat} (hlt : h < 32) (hpend : s.bit F.SEQ_HOOK_PEND h = true)
    (htarget : s.rd F.SEQ_HOOK_TARGET h = q)
    (hlow : ∀ g, g < h → s.bit F.SEQ_HOOK_PEND g = false ∨ s.rd F.SEQ_HOOK_TARGET g ≠ q) : s.pendingHook q = some h := by
  rw [State.pendingHook, List.find?_range_eq_some]
  refine ⟨by simp [hpend, htarget], List.mem_range.mpr hlt, ?_⟩
  intro g hg
  rcases hlow g hg with hno | hno <;> simp [hno]

/-- PEND of a hook and ENTRY of a hook are different fields. -/
theorem F.hookEntry_key_ne_hookPend (g h : Nat) : F.SEQ_HOOK_ENTRY.key g 0 0 ≠ F.SEQ_HOOK_PEND.key h 0 0 := by
  simp only [Fld.key, F.SEQ_HOOK_ENTRY, F.SEQ_HOOK_PEND]
  omega

/-- A thread that starts clears PEND of its hook (R52). -/
theorem State.bit_pend_startThread {s : State} (hok : s.ok = true) (q h : Nat) (arg : W32) :
    (s.startThread q h arg).bit F.SEQ_HOOK_PEND h = false :=
  State.bit_wrB_self hok rfl false h 0 0

/-- A thread that starts begins at ENTRY of its hook, its argument in g1 and its number in g2 (R51, R52). -/
theorem State.sq_startThread {s : State} (hok : s.ok = true) (q h : Nat) (arg : W32) :
    let x := (s.startThread q h arg).sq q
    x.st = .run ∧ x.rg 1 = arg.setWidth 64 ∧ x.rg 2 = BitVec.ofNat 64 h ∧
      x.pc = BitVec.ofNat 16 (s.rd F.SEQ_HOOK_ENTRY h) := by
  rw [State.sq_startThread_self, State.wrB, State.rd_wr_ne hok (F.hookEntry_key_ne_hookPend h h)]
  refine ⟨rfl, ?_, ?_, rfl⟩
  · show (((s.sq q).g.set 1 _).set 2 _)[1] = _
    simp
  · show (((s.sq q).g.set 1 _).set 2 _)[2] = _
    simp

/-- The sequencers that wait note the event of a hook (R118, R120). -/
def State.noteHook (s : State) (h : Nat) : State := { s with seqs := s.seqs.map (fun (q : Seq) => q.noteEvent h) }

/-- An event of an enabled hook that is pending counts OVF (R53). -/
theorem State.fireHook_of_pending {s : State} {h : Nat} (hen : s.hookEn h = true) (hpend : s.bit F.SEQ_HOOK_PEND h = true)
    (arg : W32) : s.fireHook h arg = (s.noteHook h).inc F.SEQ_HOOK_OVF 1 h := by
  show (if s.hookEn h then if s.bit F.SEQ_HOOK_PEND h then _ else _ else _) = _
  rw [if_pos hen, if_pos hpend]
  rfl

/-- An event of an enabled hook that is not pending makes it pending with its argument (R52). -/
theorem State.fireHook_of_not_pending {s : State} {h : Nat} (hen : s.hookEn h = true)
    (hpend : s.bit F.SEQ_HOOK_PEND h = false) (arg : W32) :
    s.fireHook h arg =
      { (s.noteHook h).wrB F.SEQ_HOOK_PEND true h with hookArgs := aset s.hookArgs h arg } := by
  show (if s.hookEn h then if s.bit F.SEQ_HOOK_PEND h then _ else _ else _) = _
  rw [if_pos hen, hpend]
  rfl

/-- An event of a hook reaches the sequencers that wait and changes nothing else of them. -/
theorem State.fireHook_seqs (s : State) (h : Nat) (arg : W32) :
    (s.fireHook h arg).seqs = s.seqs.map (fun (q : Seq) => q.noteEvent h) := by
  simp only [State.fireHook]
  split
  · split <;> rfl
  · rfl

/-- A value set in an association list is read back. -/
theorem alist_aset_self {β : Type} (l : List (Nat × β)) (k : Nat) (v : β) : alist (aset l k v) k = some v := by
  simp [alist, aset]

/-- A counting field read after its count: it saturates at its largest value. -/
theorem State.rd_inc_self {s : State} (hok : s.ok = true) {f : Fld} (hw : f.width ≤ 64) (n i j k : Nat) :
    (s.inc f n i j k).rd f i j k = Nat.min (2 ^ f.width - 1) (s.rd f i j k + n) := by
  have hpos : 0 < 2 ^ f.width := Nat.two_pow_pos _
  have hle : 2 ^ f.width ≤ 2 ^ 64 := Nat.pow_le_pow_right (by decide) hw
  have hmin : Nat.min (2 ^ f.width - 1) (s.rd f i j k + n) ≤ 2 ^ f.width - 1 := Nat.min_le_left _ _
  rw [State.inc, State.rd_wr_self hok]
  show Nat.min (2 ^ f.width - 1) (s.rd f i j k + n) % 2 ^ f.width % 2 ^ 64 = _
  rw [Nat.mod_eq_of_lt (by omega), Nat.mod_eq_of_lt (by omega)]

/-- Settles O30, from the start of a thread and from what an event makes of its hook. -/
theorem hooks : Obligations.Hooks := by
  refine ⟨?_, ?_⟩
  · intro q s h hok hidle hpend htarget hlt hlow
    have hstart := exec_hookStart hidle (State.pendingHook_eq_some hlt hpend htarget hlow)
    obtain ⟨hst, hg1, hg2, hpc⟩ := State.sq_startThread hok q.val h ((alist s.hookArgs h).getD 0)
    exact ⟨_, hstart, hst, hg1, hg2, hpc, State.bit_pend_startThread hok _ _ _, rfl⟩
  · intro v s hok hen
    have hhook : s.hookEn 26 = true := by rw [State.hookEn, hen, Bool.or_true]
    refine ⟨?_, ?_⟩
    · intro hpend
      refine ⟨s.fireHook 26 v, rfl, ?_⟩
      rw [State.fireHook_of_not_pending hhook hpend]
      exact ⟨State.bit_wrB_self (s := s.noteHook 26) hok rfl true 26 0 0, alist_aset_self _ _ _, rfl, rfl⟩
    · intro hpend
      refine ⟨s.fireHook 26 v, rfl, ?_⟩
      rw [State.fireHook_of_pending hhook hpend]
      exact ⟨State.rd_inc_self (s := s.noteHook 26) hok (by decide) 1 26 0 0, rfl⟩

/-! ### Sequencer control (R47, R50, R88) -/

/-- The end of a thread leaves every other sequencer. -/
theorem State.sq_endThread_of_ne {p q : Nat} (hp : p < 8) (hq : q < 8) (h : p ≠ q) (s : State) (st : SqState) :
    (s.endThread q st).sq p = s.sq p := State.sq_setSq_of_ne hp hq h _ _

/-- SQ_STOP of a sequencer leaves every other one. -/
theorem State.sq_sqStop_of_ne {p q : Nat} (hp : p < 8) (hq : q < 8) (h : p ≠ q) (s : State) :
    (s.sqStop q).sq p = s.sq p := by
  rw [State.sqStop]
  split
  · exact State.sq_endThread_of_ne hp hq h s .halted
  · rfl

/-- What SQ_STOP makes of the sequencer it stops (R50). -/
def Seq.stopped (x : Seq) : Seq := if x.threaded then { x with st := .halted, nmi := false, wait := .none } else x

theorem State.sq_sqStop_self (s : State) (q : Nat) : (s.sqStop q).sq q = (s.sq q).stopped := by
  rw [State.sqStop, Seq.stopped]
  split
  · exact State.sq_endThread_self s q .halted
  · rfl

theorem State.sqStop_ledger (s : State) (q : Nat) : (s.sqStop q).ledger = s.ledger := by
  rw [State.sqStop]
  split <;> rfl

/-- SQ_STOP of the sequencers of a mask. -/
theorem State.sq_sqStops {mask : BitVec 8} {q : Fin 8} (hmask : mask.getLsbD q.val = true) (s : State) :
    (forEach (maskBits mask.toNat 8) State.sqStop s).sq q.val = (s.sq q.val).stopped := by
  have hmem : q.val ∈ maskBits mask.toNat 8 := mem_maskBits.mpr ⟨q.isLt, hmask⟩
  rw [forEach_sq (I := fun _ => True) (φ := Seq.stopped) (maskBits_nodup _ _) (fun p hp => (mem_maskBits.mp hp).1)
    (fun _ _ _ => trivial) (fun s _ => s.sq_sqStop_self q.val)
    (fun s p hp hne => State.sq_sqStop_of_ne q.isLt hp hne.symm s) trivial, if_pos hmem]

/-- What SQ_EN, with the sequencer's bit, makes of a sequencer (R50). -/
def Seq.enabled (en : Bool) (x : Seq) : Seq :=
  if en && x.st = .halted then { x with st := .idle }
  else if !en && x.st = .idle then { x with st := .halted } else x

theorem Seq.enabled_true_st {x : Seq} (h : x.st = .halted) : (x.enabled true).st = .idle := by
  simp [Seq.enabled, h]

theorem Seq.enabled_false_st {x : Seq} (h : x.st = .idle) : (x.enabled false).st = .halted := by
  simp [Seq.enabled, h]

theorem Seq.enabled_of_run {x : Seq} (h : x.st = .run) (en : Bool) : x.enabled en = x := by
  simp [Seq.enabled, h]

/-- SQ_EN of one sequencer (R50). -/
def State.enableSq (mask : Nat) (s : State) (q : Nat) : State :=
  let x := s.sq q
  if mask.testBit q && x.st = .halted then s.setSq q { x with st := .idle }
  else if !mask.testBit q && x.st = .idle then s.setSq q { x with st := .halted } else s

/-- Before eclosion SQ_EN is only written (R48). -/
theorem State.sqEnable_of_not_ready {s : State} (h : s.pins.ready = false) (mask : Nat) :
    s.sqEnable mask = s.wr F.SEQ_CTRL_SQ_EN mask := by
  show (if !s.pins.ready then _ else _) = _
  rw [h]
  rfl

/-- After eclosion SQ_EN is written and every sequencer follows its bit (R50). -/
theorem State.sqEnable_of_ready {s : State} (h : s.pins.ready = true) (mask : Nat) :
    s.sqEnable mask = forEach (List.range 8) (State.enableSq mask) (s.wr F.SEQ_CTRL_SQ_EN mask) := by
  show (if !s.pins.ready then _ else _) = _
  rw [h]
  rfl

theorem State.sq_enableSq_self (mask : Nat) (s : State) (q : Nat) :
    (State.enableSq mask s q).sq q = (s.sq q).enabled (mask.testBit q) := by
  simp only [State.enableSq, Seq.enabled]
  split
  · exact State.sq_setSq_self _ _ _
  · split
    · exact State.sq_setSq_self _ _ _
    · rfl

theorem State.sq_enableSq_of_ne {p q : Nat} (hp : p < 8) (hq : q < 8) (h : p ≠ q) (mask : Nat) (s : State) :
    (State.enableSq mask s q).sq p = s.sq p := by
  simp only [State.enableSq]
  split
  · exact State.sq_setSq_of_ne hp hq h _ _
  · split
    · exact State.sq_setSq_of_ne hp hq h _ _
    · rfl

theorem State.enableSq_regs (mask : Nat) (s : State) (q : Nat) : (State.enableSq mask s q).regs = s.regs := by
  simp only [State.enableSq]
  split
  · rfl
  · split <;> rfl

/-- SQ_EN as written reads back (R50). -/
theorem State.rd_sqEnable {s : State} (hok : s.ok = true) (mask : BitVec 8) :
    (s.sqEnable mask.toNat).rd F.SEQ_CTRL_SQ_EN = mask.toNat := by
  have hregs : (s.sqEnable mask.toNat).regs = (s.wr F.SEQ_CTRL_SQ_EN mask.toNat).regs := by
    cases hready : s.pins.ready with
    | false => rw [State.sqEnable_of_not_ready hready]
    | true => rw [State.sqEnable_of_ready hready, forEach_frame (g := State.regs) (State.enableSq_regs _)]
  rw [State.rd_congr hregs, State.rd_wr_self hok]
  have hlt : mask.toNat < 2 ^ 8 := mask.isLt
  show mask.toNat % 2 ^ 8 % 2 ^ 64 = mask.toNat
  omega

/-- After eclosion SQ_EN makes of each sequencer what its bit says (R50). -/
theorem State.sq_sqEnable {s : State} (hready : s.pins.ready = true) (mask : BitVec 8) (q : Fin 8) :
    (s.sqEnable mask.toNat).sq q.val = (s.sq q.val).enabled (mask.getLsbD q.val) := by
  have hmem : q.val ∈ List.range 8 := List.mem_range.mpr q.isLt
  rw [State.sqEnable_of_ready hready,
    forEach_sq (I := fun _ => True) (φ := Seq.enabled (mask.getLsbD q.val)) List.nodup_range
      (fun p hp => List.mem_range.mp hp) (fun _ _ _ => trivial) (fun s _ => s.sq_enableSq_self mask.toNat q.val)
      (fun s p hp hne => State.sq_enableSq_of_ne q.isLt hp hne.symm mask.toNat s) trivial, if_pos hmem]
  rfl

/-- SQ_EN leaves a running thread. -/
theorem State.sq_sqEnable_of_run {s : State} {q : Fin 8} (hrun : (s.sq q.val).st = .run) (mask : BitVec 8) :
    (s.sqEnable mask.toNat).sq q.val = s.sq q.val := by
  cases hready : s.pins.ready with
  | false => rw [State.sqEnable_of_not_ready hready]; rfl
  | true => rw [State.sq_sqEnable hready, Seq.enabled_of_run hrun]

/-- What TRAP_CLR makes of a sequencer that rests in the state `st` without a thread (R47, R88). -/
def Seq.trapCleared (st : SqState) (x : Seq) : Seq := if x.st = .trapped then { x with st := st, cause := 0 } else x

theorem State.sq_trapClear_self (s : State) (q : Nat) : (s.trapClear q).sq q = (s.sq q).trapCleared (s.restState q) := by
  rw [State.trapClear, Seq.trapCleared]
  split
  · exact State.sq_setSq_self _ _ _
  · rfl

theorem State.sq_trapClear_of_ne {p q : Nat} (hp : p < 8) (hq : q < 8) (h : p ≠ q) (s : State) :
    (s.trapClear q).sq p = s.sq p := by
  rw [State.trapClear]
  split
  · exact State.sq_setSq_of_ne hp hq h _ _
  · rfl

theorem State.trapClear_regs (s : State) (q : Nat) : (s.trapClear q).regs = s.regs := by
  rw [State.trapClear]
  split <;> rfl

/-- The state of rest is read from SQ_EN. -/
theorem State.restState_congr {s t : State} (h : s.regs = t.regs) (q : Nat) : s.restState q = t.restState q := by
  rw [State.restState, State.restState, State.rd_congr h]

/-- TRAP_CLR of the sequencers of a mask. -/
theorem State.sq_trapClears {mask : BitVec 8} {q : Fin 8} (hmask : mask.getLsbD q.val = true) (s : State) :
    (forEach (maskBits mask.toNat 8) State.trapClear s).sq q.val = (s.sq q.val).trapCleared (s.restState q.val) := by
  have hmem : q.val ∈ maskBits mask.toNat 8 := mem_maskBits.mpr ⟨q.isLt, hmask⟩
  rw [forEach_sq (I := fun t => t.regs = s.regs) (φ := Seq.trapCleared (s.restState q.val)) (maskBits_nodup _ _)
    (fun p hp => (mem_maskBits.mp hp).1) (fun t p ht => (t.trapClear_regs p).trans ht)
    (fun t ht => (t.sq_trapClear_self q.val).trans (by rw [State.restState_congr ht]))
    (fun t p hp hne => State.sq_trapClear_of_ne q.isLt hp hne.symm t) rfl, if_pos hmem]

/-- Settles O31, from what each of the three writes makes of one sequencer. -/
theorem sequencerControl : Obligations.SequencerControl := by
  intro mask q s
  refine ⟨?_, ?_, ?_⟩
  · intro hmask hst
    have hthread : (s.sq q.val).threaded = true := by
      rcases hst with h | h | h <;> simp [Seq.threaded, h]
    refine ⟨forEach (maskBits mask.toNat 8) State.sqStop s, rfl, ?_⟩
    rw [State.sq_sqStops hmask, Seq.stopped, if_pos hthread]
    exact ⟨rfl, rfl, forEach_frame (g := State.ledger) State.sqStop_ledger _ s⟩
  · intro hok
    refine ⟨s.sqEnable mask.toNat, rfl, State.rd_sqEnable hok mask, ?_, ?_, ?_, ?_⟩
    · intro hrun
      rw [State.sq_sqEnable_of_run hrun, hrun]
    · intro hready
      rw [State.sqEnable_of_not_ready hready, State.wr_seqs]
    · intro hready hhalted hmask
      rw [State.sq_sqEnable hready, hmask, Seq.enabled_true_st hhalted]
    · intro hready hidle hmask
      rw [State.sq_sqEnable hready, hmask, Seq.enabled_false_st hidle]
  · intro hmask htrapped
    refine ⟨forEach (maskBits mask.toNat 8) State.trapClear s, rfl, ?_⟩
    rw [State.sq_trapClears hmask, Seq.trapCleared, if_pos htrapped]
    exact ⟨rfl, rfl⟩

end Sys2Proof.Machine
end

section
/-! Filing in the command ledger (02): resends, and the submissions of the host. -/

namespace Sys2Proof.Machine

/-! ### The ledger: filing, and the host's submissions (R58, R59, R64, R66, R70) -/

/-- Filing of a command whose key an entry of its epoch has: nothing is filed, and the entry answers (R58). -/
theorem State.file_of_filed {s : State} {c : Cmd} {k : Nat} {e : Entry} (hopened : s.everOpened c.epoch = true)
    (hfound : s.ledger.entries.find? (fun p => p.2.cmd.epoch = c.epoch && p.2.cmd.op = c.op && p.2.cmd.dev = c.dev &&
      p.2.cmd.seqnum = c.seqnum) = some (k, e)) (remote : Bool) :
    s.file c remote = (s, some (if e.cmd.input = c.input ∧ e.cmd.output = c.output then (s.handleOf k, e.status, false)
      else (0, St.blocked 0x13, false))) := by
  simp only [State.file, hopened, hfound, Bool.not_true, Bool.false_eq_true, if_false, Bool.and_eq_true, decide_eq_true_eq]
  split <;> rfl

/-- Settles O33: filing finds the entry of the key and answers from it, with the state as it was. -/
theorem resends : Obligations.Resends := by
  intro c remote k e s hopened hfound
  rw [State.file_of_filed hopened hfound]
  refine ⟨rfl, ?_, ?_⟩
  · intro hsame
    exact ⟨s.handleOf k, by rw [if_pos hsame]⟩
  · intro hdiff
    rw [if_neg hdiff]

/-- What the result register of the host shows (R66). -/
def State.hostResult (s : State) (handle status : W32) : State :=
  (s.wr F.SEQ_HCMD_RESULT_HANDLE handle.toNat).wr F.SEQ_HCMD_RESULT_STATUS status.toNat

theorem State.hostResult_ledger (s : State) (handle status : W32) : (s.hostResult handle status).ledger = s.ledger := rfl

theorem State.rd_hostResult_status {s : State} (hok : s.ok = true) (handle status : W32) :
    (s.hostResult handle status).rd F.SEQ_HCMD_RESULT_STATUS = status.toNat := by
  have hlt : status.toNat < 2 ^ 32 := status.isLt
  rw [State.hostResult, State.rd_wr_self (State.wr_keeps_ok hok _ _ _ _ _)]
  show status.toNat % 2 ^ 32 % 2 ^ 64 = status.toNat
  omega

theorem State.rd_hostResult_handle {s : State} (hok : s.ok = true) (handle status : W32) :
    (s.hostResult handle status).rd F.SEQ_HCMD_RESULT_HANDLE = handle.toNat := by
  have hlt : handle.toNat < 2 ^ 32 := handle.isLt
  rw [State.hostResult, State.rd_wr_ne (State.wr_keeps_ok hok _ _ _ _ _) (by decide), State.rd_wr_self hok]
  show handle.toNat % 2 ^ 32 % 2 ^ 64 = handle.toNat
  omega

/-- A submission that is answered shows the handle and the status it was answered with (R59, R66). -/
theorem State.hostFile_of_answer {s : State} {op : CmdOp} {h : HostCmd} {v : W32 × Status × Bool}
    (hv : (s.file (s.ownCmd op h.input.toNat h.output.toNat h.epoch h.seqnum) false).2 = some v) :
    s.hostFile op h =
      (s.file (s.ownCmd op h.input.toNat h.output.toNat h.epoch h.seqnum) false).1.hostResult v.1 v.2.1.word := by
  simp only [State.hostFile, hv]
  rfl

/-- A submission of the host files its command and shows the answer (R59, R66). -/
theorem State.hostFile_shows {s : State} (hok : s.ok = true) {op : CmdOp} {h : HostCmd} {v : W32 × Status × Bool}
    (hv : (s.file (s.ownCmd op h.input.toNat h.output.toNat h.epoch h.seqnum) false).2 = some v) :
    let u := s.hostFile op h
    u.ledger = (s.file (s.ownCmd op h.input.toNat h.output.toNat h.epoch h.seqnum) false).1.ledger ∧
      u.rd F.SEQ_HCMD_RESULT_HANDLE = v.1.toNat ∧ u.rd F.SEQ_HCMD_RESULT_STATUS = v.2.1.word.toNat := by
  have hfile := ok_of_good
    (State.file_good (s.ownCmd op h.input.toNat h.output.toNat h.epoch h.seqnum) false (good_self hok))
  rw [State.hostFile_of_answer hv]
  exact ⟨State.hostResult_ledger _ _ _, State.rd_hostResult_handle hfile _ _, State.rd_hostResult_status hfile _ _⟩

/-- Settles O32: each submission is its operation, with the answer in the result register. -/
theorem hostSubmissions : Obligations.HostSubmissions := by
  intro h e frame s hok
  refine ⟨?_, ?_, ?_, ?_, ?_, ?_⟩
  · exact fun v hv => ⟨s.hostFile .unpin h, rfl, State.hostFile_shows hok hv⟩
  · exact fun v hv => ⟨s.hostFile .disc h, rfl, State.hostFile_shows hok hv⟩
  · exact fun v hv => ⟨s.hostFile .conn h, rfl, State.hostFile_shows hok hv⟩
  · exact fun v hv => ⟨s.hostFile .pin h, rfl, State.hostFile_shows hok hv⟩
  · have hopen := ok_of_good (State.openLocal_good e frame (good_self hok))
    exact ⟨(s.openLocal e frame).1.hostResult 0 (s.openLocal e frame).2.word, rfl, State.hostResult_ledger _ _ _,
      State.rd_hostResult_status hopen _ _⟩
  · have habort := ok_of_good (State.abortRequest_good e (good_self hok))
    exact ⟨(s.abortRequest e).1.hostResult 0 (s.abortRequest e).2.word, rfl, State.hostResult_ledger _ _ _,
      State.rd_hostResult_status habort _ _⟩

end Sys2Proof.Machine
end

section
/-! What a raise leaves of the sequencers, and what each memory does about a parity failure (02, 15). -/

namespace Sys2Proof.Machine

/-! ### Raises and the sequencers' states (R51, R118, R120, R382) -/

theorem Seq.noteEvent_st (x : Seq) (h : Nat) : (x.noteEvent h).st = x.st := by
  rw [Seq.noteEvent]
  split <;> rfl

/-- An event of a hook leaves every sequencer in its state. -/
theorem State.fireHook_st (s : State) (h : Nat) (arg : W32) (q : Nat) : ((s.fireHook h arg).sq q).st = (s.sq q).st := by
  rw [State.sq_of_seqs_map (State.fireHook_seqs s h arg), Seq.noteEvent_st]

theorem State.logSlot_seqs (s : State) (i : Nat) (x : FaultEntry) : (s.logSlot i x).seqs = s.seqs := by
  simp only [State.logSlot, State.wrB, State.wr_seqs]

theorem State.logCycle_seqs (s : State) : s.logCycle.seqs = s.seqs :=
  forEach_frame (g := State.seqs) (fun _ _ => State.logSlot_seqs _ _ _) _ s

theorem State.faultCycle_seqs (s : State) : s.faultCycle.seqs = s.seqs := by
  rw [State.faultCycle]
  split <;> rfl

theorem State.faultLog_seqs (s : State) (x : FaultEntry) : (s.faultLog x).seqs = s.seqs := by
  simp only [State.faultLog, State.wrB, State.inc, State.wr_seqs, apply_ite State.seqs, ite_self]

theorem State.faultFirst_seqs (s : State) (x : FaultEntry) : (s.faultFirst x).seqs = s.seqs := by
  simp only [State.faultFirst, State.wrB, State.wr_seqs, apply_ite State.seqs, ite_self]

theorem State.firstDetail_seqs (s : State) : s.firstDetail.seqs = s.seqs := by
  simp only [State.firstDetail, State.wr_seqs, apply_ite State.seqs, ite_self]

theorem State.sendMsix_seqs (s : State) (vec : Nat) : (s.sendMsix vec).seqs = s.seqs := by
  rw [State.sendMsix]
  split <;> rfl

/-- The reactions of a source fire at most hook FAULT, for any source but CLKFAIL (R382). -/
theorem State.faultReact_seqs {n : Nat} (hn : n ≠ 0) (s : State) (react : Nat) (detail : W32) :
    (s.faultReact n react detail).seqs =
      if react.testBit 1 then (s.fireHook 1 (BitVec.ofNat 32 n)).seqs else s.seqs := by
  simp only [State.faultReact, if_neg hn, State.wrB, State.wr_seqs, State.sendMsix_seqs, apply_ite State.seqs, ite_self]

/-- The reactions of any source but CLKFAIL leave every sequencer in its state. -/
theorem State.faultReact_st {n : Nat} (hn : n ≠ 0) (s : State) (react : Nat) (detail : W32) (q : Nat) :
    ((s.faultReact n react detail).sq q).st = (s.sq q).st := by
  have hseqs := State.faultReact_seqs hn s react detail
  by_cases hint : react.testBit 1
  · rw [if_pos hint] at hseqs
    rw [State.sq_congr hseqs, State.fireHook_st]
  · rw [if_neg hint] at hseqs
    rw [State.sq_congr hseqs]

/-- A record of any source but CLKFAIL leaves every sequencer in its state. -/
theorem State.record_st {n : Nat} (hn : n ≠ 0) (s : State) (detail : W32) (injected realSame : Bool) (q : Nat) :
    ((s.record n detail injected realSame).sq q).st = (s.sq q).st := by
  simp only [State.record, State.faultReact_st hn]
  refine congrArg Seq.st (State.sq_congr ?_ q)
  simp only [State.firstDetail_seqs, State.faultFirst_seqs, State.logCycle_seqs, State.faultLog_seqs,
    State.faultCycle_seqs, State.wrB, State.inc, State.wr_seqs, apply_ite State.seqs, ite_self]

/-- A raise of any source but CLKFAIL leaves every sequencer in its state. -/
theorem State.raise_st {n : Nat} (hn : n ≠ 0) (s : State) (detail : W32) (q : Nat) :
    ((s.raise n detail).sq q).st = (s.sq q).st := by
  rw [State.raise]
  split
  · rfl
  · split
    · split
      · rfl
      · exact State.record_st hn _ _ _ _ q
    · exact State.record_st hn _ _ _ _ q


/-! ### Parity failures (R78, R79, R149) -/

/-- A number added to a list used as a set is in it. -/
theorem mem_sadd_self (l : List Nat) (k : Nat) : k ∈ sadd l k := by
  rw [sadd]
  split
  · next h => exact List.contains_iff_mem.mp h
  · exact List.mem_append_right l List.mem_cons_self

/-- A data word that a running sequencer reads traps it (R79). -/
theorem State.parityFails_data {s : State} {m a : Nat} (hkind : memKind a = some .data) (h1 : 1 ≤ m) (h8 : m ≤ 8)
    (hrun : (s.sq (m - 1)).st = .run) :
    s.parityFails m a = (s.raise 5 (BitVec.ofNat 32 a)).trap (m - 1) 5 := by
  have hrun' : ((s.raise 5 (BitVec.ofNat 32 a)).sq (m - 1)).st = .run := by
    rw [State.raise_st (by decide), hrun]
  simp only [State.parityFails, hkind, h1, h8, hrun', decide_true, Bool.and_self, if_true]

/-- A sequencer that waits for an instruction word runs again once the word is reloaded (R79). -/
theorem State.sq_reloadInstr {s : State} {im : BootImage} {i : BitVec 16} {q : Nat} (himg : s.boot.img = some im)
    (hwait : (s.sq q).wait = .reload i) :
    ((s.reloadInstr i).sq q).st = .run ∧ ((s.reloadInstr i).sq q).wait = .none := by
  have hseqs : (s.reloadInstr i).seqs = s.seqs.map (fun (x : Seq) =>
      if x.wait = .reload i then { x with st := .run, wait := .none } else x) := by
    simp only [State.reloadInstr, himg, State.st_seqs]
  rw [State.sq_of_seqs_map hseqs, if_pos hwait]
  exact ⟨rfl, rfl⟩

/-- A reload writes the image's word to instruction memory (R450). -/
theorem State.reloadInstr_mem {s : State} {im : BootImage} (himg : s.boot.img = some im) (i : BitVec 16) :
    (s.reloadInstr i).mem = (s.st (8 * i.toNat) 8 (im.instrWord i.toNat)).mem := by
  simp only [State.reloadInstr, himg]

/-- INSTR_PARITY_RELOAD of a word that has failed. -/
theorem exec_instrParityReload {s : State} {i : BitVec 16} (hbad : s.boot.badWords.contains i.toNat = true) :
    exec (.instrParityReload i) s = s.goes (s.reloadInstr i) := by
  show done s (if s.boot.badWords.contains i.toNat then s.reloadInstr i else s) = _
  rw [if_pos hbad]
  rfl

/-- Settles O57, by the memory the failed word lies in. -/
theorem parityFailures : Obligations.ParityFailures := by
  intro a m s
  have hexec : exec (.memParity a m) s = s.goes (s.parityFails m.val a.toNat) := rfl
  refine ⟨?_, ?_, ?_, ?_, ?_, ?_⟩
  · intro hkind
    refine ⟨_, hexec, ?_⟩
    simp only [State.parityFails, hkind]
    exact mem_sadd_self _ _
  · intro hkind
    refine ⟨_, hexec, ?_⟩
    simp only [State.parityFails, hkind]
    exact mem_sadd_self _ _
  · intro hkind
    rw [hexec]
    simp only [State.parityFails, hkind, BitVec.ofNat_toNat, BitVec.setWidth_eq]
  · intro hkind h1 h8 hrun
    rw [hexec, State.parityFails_data hkind h1 h8 hrun, BitVec.ofNat_toNat, BitVec.setWidth_eq]
  · intro hkind
    rw [hexec]
    simp only [State.parityFails, hkind]
  · intro q i im hbad hwait himg
    obtain ⟨hst, hnone⟩ := State.sq_reloadInstr himg hwait
    exact ⟨s.reloadInstr i, exec_instrParityReload hbad, hst, hnone, State.reloadInstr_mem himg i⟩

end Sys2Proof.Machine
end

section
/-! The epochs from their seal to their solve (02, 04), the wear fold and the changes of the defect map. -/

namespace Sys2Proof.Machine

/-! ### The solver's health: wear and the defect map (R32, R38, R142) -/

/-- The live counts list the present cells whose count is not zero. -/
theorem State.mem_liveCounts {s : State} {c n : Nat} :
    (c, n) ∈ s.liveCounts ↔ c ∈ presentCells s.strand.geomY512 ∧ n = s.liveWear c ∧ n ≠ 0 := by
  simp only [State.liveCounts, List.mem_filter, List.mem_map, Prod.mk.injEq, decide_not, Bool.not_eq_true',
    decide_eq_false_iff_not]
  constructor
  · rintro ⟨⟨d, hd, rfl, rfl⟩, hne⟩
    exact ⟨hd, rfl, hne⟩
  · rintro ⟨hc, rfl, hne⟩
    exact ⟨⟨c, hc, rfl, rfl⟩, hne⟩

/-- A write of a register whose domain is open has its effect (R428). -/
theorem State.ifOpen_of_open {s : State} {d : Nat} (h : s.domOpen d = true) (t : State) : s.ifOpen d t = t := if_pos h

theorem State.ckptSend_solve (s : State) (sect : CkptSection) (offset : Nat) (data : List W32) :
    (s.ckptSend sect offset data).solve = s.solve := by
  simp only [State.ckptSend]
  split <;> rfl

theorem State.sectSend_solve (s : State) (sect : CkptSection) : (s.sectSend sect).solve = s.solve := by
  cases sect <;> exact State.ckptSend_solve ..

theorem State.ckptTouch_solve (s : State) (sect : CkptSection) : (s.ckptTouch sect).solve = s.solve := by
  simp only [State.ckptTouch, State.ckptHeader, State.sectSend_solve, State.sectWritten]

/-- The checkpoint's DEFECT section changes nothing of the solver. -/
theorem State.ckptDefect_solve (s : State) : s.ckptDefect.solve = s.solve := State.ckptTouch_solve _ _

/-- A changed map is the accepted one; the map in force stands until the next seal (R32, R142). -/
theorem State.dmapChanged_solve (s : State) (dm : List DmapEntry) :
    (s.dmapChanged dm).solve = { s.solve with dmap := dm } := State.ckptDefect_solve _

theorem State.dmapAdd_dmapForce (s : State) (w : W32) : (s.dmapAdd w).solve.dmapForce = s.solve.dmapForce := by
  simp only [State.dmapAdd, State.wr_solve, apply_ite State.solve, State.dmapChanged_solve,
    apply_ite SolveState.dmapForce, ite_self]

theorem State.dmapRemove_dmapForce (s : State) (w : W32) : (s.dmapRemove w).solve.dmapForce = s.solve.dmapForce := by
  simp only [State.dmapRemove, State.wr_solve]
  cases s.solve.dmap.find? _ with
  | none => rfl
  | some x => simp only [apply_ite State.solve, State.dmapChanged_solve, apply_ite SolveState.dmapForce, ite_self]

/-! ### The pipeline of the epochs (R60, R64, R65, R68, R143, R145, R149) -/

section
variable {s : State} {e : W32} {x : Epoch}

/-- SEAL of the first OPEN epoch (R64, R65). -/
theorem exec_sealEpoch (hfirst : s.ledger.epochs.find? (fun x => x.st = .opened) = some x) (hnum : x.num = e) :
    exec (.sealEpoch e) s = s.goes (s.sealEpoch x) := by
  show execSeal e s = _
  simp only [execSeal, hfirst, hnum, if_true]
  rfl

/-- The evaluation of a sealed epoch whose predecessor is SOLVED (R68). -/
theorem exec_epochEvaluateDeferred (hrec : s.epoch? e = some x) (hsealed : x.st = .sealed)
    (hnew : x.evaluated = false) (hbase : s.baseSolved x = true) :
    exec (.epochEvaluateDeferred e) s = s.goes (s.evaluate e).nextSolve := by
  show execEpochEvaluateDeferred e s = _
  simp only [execEpochEvaluateDeferred, hrec, hsealed, hnew, hbase]
  rfl

/-- A freed slot goes to the first sealed epoch without one (R145). -/
theorem exec_slotFreedSolve (hfirst : s.ledger.epochs.find? (fun x => x.st = .sealed && x.slot.isNone) = some x)
    (hnum : x.num = e) : exec (.slotFreedSolve e) s = s.goes (s.takeSlot e).nextSolve := by
  show execSlotFreedSolve e s = _
  simp only [execSlotFreedSolve, hfirst, hnum, if_true]
  rfl

/-- The end of the running solve (R143). -/
theorem exec_solveDone {n : Fin 16} (hrun : s.solve.running = some e) (hrec : s.epoch? e = some x)
    (hslot : x.slot = some n) : exec .solveDone s = s.goes (s.finishSolve x n) := by
  show execSolveDone s = _
  simp only [execSolveDone, hrun, Option.bind_some, hrec, hslot]
  rfl

/-- The remaking of the LAID weave, which is traced from the landed set and the cell codes (R149). -/
theorem State.resolveSlot_laid {n : Fin 16} (hlaid : s.rd F.SOLVE_SLOTS_STATE 0 0 n.val = 4) (k : Nat) :
    State.resolveSlot (k + 1) s n = (s.putWeave n.val 4 (s.tracedWeave (s.weave n.val))).slotMended n.val := by
  rw [State.resolveSlot]
  exact if_pos hlaid

/-- 100 ms after its epoch ended an entry is freed (R60). -/
theorem exec_entryDeliveryTimeout {i : Fin 2048} {n : Entry} (hentry : alist s.ledger.entries i.val = some n)
    (hrec : s.epoch? n.cmd.epoch = some x) (hended : x.ended = true) :
    exec (.entryDeliveryTimeout i) s = s.goes ((s.passTo (x.endT + 100000000 * nsUnit)).freeEntry i.val) := by
  show execEntryDeliveryTimeout i s = _
  simp only [execEntryDeliveryTimeout, hentry, hrec, hended, if_true]
  rfl

end

/-- Settles O34: each step of the pipeline is its operation, and a change of the map leaves the map in force. -/
theorem epochPipeline : Obligations.EpochPipeline := by
  refine ⟨?_, ?_⟩
  · intro e x s
    refine ⟨exec_sealEpoch, exec_epochEvaluateDeferred, exec_slotFreedSolve, fun n => exec_solveDone, ?_, ?_, ?_, ?_⟩
    · intro n hlaid
      rw [← State.resolveSlot_laid hlaid 15]
      rfl
    · exact fun n => rfl
    · exact fun m i => rfl
    · exact fun i n => exec_entryDeliveryTimeout
  · intro entry s
    refine ⟨?_, ?_, ?_⟩
    · intro hopen
      refine ⟨s.doWearFold, s.liveCounts, ?_, rfl, rfl, fun c n => State.mem_liveCounts, rfl⟩
      rw [← State.ifOpen_of_open hopen s.doWearFold]
      rfl
    · intro hopen
      refine ⟨s.dmapAdd entry, ?_, rfl, State.dmapAdd_dmapForce s entry⟩
      rw [← State.ifOpen_of_open hopen (s.dmapAdd entry)]
      rfl
    · intro hopen
      refine ⟨s.dmapRemove entry, ?_, rfl, State.dmapRemove_dmapForce s entry⟩
      rw [← State.ifOpen_of_open hopen (s.dmapRemove entry)]
      rfl

end Sys2Proof.Machine
end

section
/-! The encoding of Wicker (R83, R84, R87): a row is read back from its word, and every word spells one row. -/

namespace Sys2Proof

open Sys2Proof.Machine

/-- The fields of a word and its opcode spell the word: no bit of it is dropped (R83). -/
theorem wordOf_fieldsOf {w : W64} {opc : BitVec 8} (h : opcOf w = opc.toNat) : wordOf opc (fieldsOf w) = w := by
  obtain rfl : w.extractLsb' 56 8 = opc := BitVec.eq_of_toNat_eq h
  apply BitVec.eq_of_getLsbD_eq
  intro i hi
  simp only [wordOf, fieldsOf, BitVec.getLsbD_append, BitVec.getLsbD_extractLsb']
  grind

/-- What the reading of a word must be: a well-formed row whose word it is. -/
def Spells (i : Instr) (q : Fin 8) (w : W64) : Prop := i.wf = true ∧ i.word = some (q, w)

/-- A row with the opcode and the fields of a word spells the word, where it is well formed. -/
theorem Spells.of_opc {i : Instr} {q : Fin 8} {w : W64} {opc : BitVec 8} (hword : i.word = some (q, wordOf opc (fieldsOf w)))
    (hopc : opcOf w = opc.toNat) (hwf : i.wf = true) : Spells i q w :=
  ⟨hwf, by rw [hword, wordOf_fieldsOf hopc]⟩

/-- Legal fields with a given MOD. -/
theorem legalFields_and_mod {n : Nat} {f : Fields} {m : BitVec 5} (h : legalFields n f = true)
    (hm : f.mod.toNat = m.toNat) : (legalFields n f && decide (f.mod = m)) = true := by
  rw [h, Bool.true_and, decide_eq_true_eq]
  exact BitVec.eq_of_toNat_eq hm

/-- The optional operands of a form leave its MOD values. -/
theorem Machine.Form.at_mods (f : Form) (n : Nat) (m : BitVec 5) : (f.at n m).mods = f.mods := by
  simp only [Form.at]
  split_ifs <;> rfl

/-- Legal fields have a MOD that their opcode lists (R87). -/
theorem mod_lt_of_legalFields {n : Nat} {f : Fields} {form : Form} (hform : formOf n = some form)
    (h : legalFields n f = true) : f.mod.toNat < form.mods := by
  simp only [legalFields, hform, Form.legal, Form.at_mods, Bool.and_eq_true, decide_eq_true_eq] at h
  obtain ⟨-, hlt⟩ := h
  exact hlt

/-- A legal READW word is read as the row of its MOD (R109). -/
theorem spells_readwRow {q : Fin 8} {w : W64} (hopc : opcOf w = 0x6A) (h : legalFields 0x6A (fieldsOf w) = true) :
    Spells (readwRow q (fieldsOf w)) q w := by
  have hlt : (fieldsOf w).mod.toNat < 5 := mod_lt_of_legalFields (n := 0x6A) rfl h
  have hcases : (fieldsOf w).mod.toNat = 0 ∨ (fieldsOf w).mod.toNat = 1 ∨ (fieldsOf w).mod.toNat = 2 ∨
      (fieldsOf w).mod.toNat = 3 ∨ (fieldsOf w).mod.toNat = 4 := by omega
  rw [readwRow]
  rcases hcases with hm | hm | hm | hm | hm <;> rw [hm] <;> exact Spells.of_opc rfl hopc (legalFields_and_mod h hm)

/-- A legal RECV word is read as RECV or RECV.n by its MOD (R115). -/
theorem spells_recvRow {q : Fin 8} {w : W64} (hopc : opcOf w = 0x91) (h : legalFields 0x91 (fieldsOf w) = true) :
    Spells (if (fieldsOf w).mod = 0 then Instr.recv q (fieldsOf w) else .recvN q (fieldsOf w)) q w := by
  have hlt : (fieldsOf w).mod.toNat < 2 := mod_lt_of_legalFields (n := 0x91) rfl h
  split
  case isTrue h0 => exact Spells.of_opc rfl hopc (legalFields_and_mod h (congrArg BitVec.toNat h0))
  case isFalse h0 =>
    have hne : (fieldsOf w).mod.toNat ≠ 0 := fun e => h0 (BitVec.eq_of_toNat_eq e)
    have hm : (fieldsOf w).mod.toNat = 1 := by omega
    exact Spells.of_opc rfl hopc (legalFields_and_mod h hm)

/-- A legal word is read as the row of its opcode (R83, R84): READW and RECV by their MOD, every other one at once. -/
theorem spells_legalRow {q : Fin 8} {w : W64} (h : legalFields (opcOf w) (fieldsOf w) = true) :
    Spells (legalRow q w (fieldsOf w)) q w := by
  unfold legalRow
  split
  case h_98 hopc => exact spells_readwRow hopc (hopc ▸ h)
  case h_99 hopc => exact spells_recvRow hopc (hopc ▸ h)
  case h_100 =>
    -- No row has the opcode, so no fields of it are legal.
    have hnone : formOf (opcOf w) = none := by
      unfold formOf
      split
      case h_100 => rfl
      all_goals
        next hopc => exact absurd hopc (by assumption)
    rw [legalFields, hnone] at h
    contradiction
  all_goals
    next hopc =>
      rw [hopc] at h
      exact Spells.of_opc rfl hopc h

/-- The word of every well-formed row of Wicker reads back as the row. -/
theorem readsBack (i : Instr) : Laws.Encoding.Statement i := by
  cases i with
  | nop q w => exact Laws.Encoding.nop q w
  | add q w => exact Laws.Encoding.add q w
  | sub q w => exact Laws.Encoding.sub q w
  | mul q w => exact Laws.Encoding.mul q w
  | mulhu q w => exact Laws.Encoding.mulhu q w
  | divu q w => exact Laws.Encoding.divu q w
  | remu q w => exact Laws.Encoding.remu q w
  | and q w => exact Laws.Encoding.and q w
  | or q w => exact Laws.Encoding.or q w
  | xor q w => exact Laws.Encoding.xor q w
  | shl q w => exact Laws.Encoding.shl q w
  | shr q w => exact Laws.Encoding.shr q w
  | sar q w => exact Laws.Encoding.sar q w
  | addi q w => exact Laws.Encoding.addi q w
  | andi q w => exact Laws.Encoding.andi q w
  | ori q w => exact Laws.Encoding.ori q w
  | xori q w => exact Laws.Encoding.xori q w
  | shli q w => exact Laws.Encoding.shli q w
  | shri q w => exact Laws.Encoding.shri q w
  | sari q w => exact Laws.Encoding.sari q w
  | movi q w => exact Laws.Encoding.movi q w
  | movhi q w => exact Laws.Encoding.movhi q w
  | min q w => exact Laws.Encoding.min q w
  | max q w => exact Laws.Encoding.max q w
  | minu q w => exact Laws.Encoding.minu q w
  | maxu q w => exact Laws.Encoding.maxu q w
  | popc q w => exact Laws.Encoding.popc q w
  | clz q w => exact Laws.Encoding.clz q w
  | bfx q w => exact Laws.Encoding.bfx q w
  | bfi q w => exact Laws.Encoding.bfi q w
  | cmp q w => exact Laws.Encoding.cmp q w
  | cmpi q w => exact Laws.Encoding.cmpi q w
  | pand q w => exact Laws.Encoding.pand q w
  | pxor q w => exact Laws.Encoding.pxor q w
  | por q w => exact Laws.Encoding.por q w
  | pnot q w => exact Laws.Encoding.pnot q w
  | pget q w => exact Laws.Encoding.pget q w
  | pput q w => exact Laws.Encoding.pput q w
  | sqid q w => exact Laws.Encoding.sqid q w
  | rdcyc q w => exact Laws.Encoding.rdcyc q w
  | fadd q w => exact Laws.Encoding.fadd q w
  | fsub q w => exact Laws.Encoding.fsub q w
  | fmul q w => exact Laws.Encoding.fmul q w
  | fdiv q w => exact Laws.Encoding.fdiv q w
  | fsqrt q w => exact Laws.Encoding.fsqrt q w
  | fma q w => exact Laws.Encoding.fma q w
  | fmin q w => exact Laws.Encoding.fmin q w
  | fmax q w => exact Laws.Encoding.fmax q w
  | fabs q w => exact Laws.Encoding.fabs q w
  | fneg q w => exact Laws.Encoding.fneg q w
  | fcmp q w => exact Laws.Encoding.fcmp q w
  | fcvtSL q w => exact Laws.Encoding.fcvtSL q w
  | fcvtLS q w => exact Laws.Encoding.fcvtLS q w
  | fmovi q w => exact Laws.Encoding.fmovi q w
  | fmvgf q w => exact Laws.Encoding.fmvgf q w
  | fmvfg q w => exact Laws.Encoding.fmvfg q w
  | ld q w => exact Laws.Encoding.ld q w
  | st q w => exact Laws.Encoding.st q w
  | fld q w => exact Laws.Encoding.fld q w
  | fst q w => exact Laws.Encoding.fst q w
  | cas q w => exact Laws.Encoding.cas q w
  | aadd q w => exact Laws.Encoding.aadd q w
  | rdx q w => exact Laws.Encoding.rdx q w
  | wrx q w => exact Laws.Encoding.wrx q w
  | fence q w => exact Laws.Encoding.fence q w
  | br q w => exact Laws.Encoding.br q w
  | jmp q w => exact Laws.Encoding.jmp q w
  | call q w => exact Laws.Encoding.call q w
  | callr q w => exact Laws.Encoding.callr q w
  | loop q w => exact Laws.Encoding.loop q w
  | unpin q w => exact Laws.Encoding.unpin q w
  | disc q w => exact Laws.Encoding.disc q w
  | conn q w => exact Laws.Encoding.conn q w
  | pin q w => exact Laws.Encoding.pin q w
  | epoch q w => exact Laws.Encoding.epoch q w
  | abort q w => exact Laws.Encoding.abort q w
  | solve q w => exact Laws.Encoding.solve q w
  | stage q w => exact Laws.Encoding.stage q w
  | lay q w => exact Laws.Encoding.lay q w
  | verify q w => exact Laws.Encoding.verify q w
  | readwIn q w => exact Laws.Encoding.readwIn q w
  | readwOut q w => exact Laws.Encoding.readwOut q w
  | readwCell q w => exact Laws.Encoding.readwCell q w
  | readwSt q w => exact Laws.Encoding.readwSt q w
  | readwStable q w => exact Laws.Encoding.readwStable q w
  | lset q w => exact Laws.Encoding.lset q w
  | lmode q w => exact Laws.Encoding.lmode q w
  | lpreset q w => exact Laws.Encoding.lpreset q w
  | linj q w => exact Laws.Encoding.linj q w
  | lcap q w => exact Laws.Encoding.lcap q w
  | send q w => exact Laws.Encoding.send q w
  | recv q w => exact Laws.Encoding.recv q w
  | recvN q w => exact Laws.Encoding.recvN q w
  | ack q w => exact Laws.Encoding.ack q w
  | waitt q w => exact Laws.Encoding.waitt q w
  | waite q w => exact Laws.Encoding.waite q w
  | tnow q w => exact Laws.Encoding.tnow q w
  | hist q w => exact Laws.Encoding.hist q w
  | fraise q w => exact Laws.Encoding.fraise q w
  | fack q w => exact Laws.Encoding.fack q w
  | halt q w => exact Laws.Encoding.halt q w
  | sleep q w => exact Laws.Encoding.sleep q w
  | sync q w => exact Laws.Encoding.sync q w
  | trap q w => exact Laws.Encoding.trap q w
  | illegalOpcode q w => exact Laws.Encoding.illegalOpcode q w
  | _ => exact Laws.Encoding.of_none rfl

/-- A word that R84 or R87 makes illegal is read as ILLEGAL_OPCODE. -/
theorem decodeWicker_of_illegal {w : W64} (h : legalFields (opcOf w) (fieldsOf w) = false) (q : Fin 8) :
    decodeWicker q w = .illegalOpcode q w := by
  rw [decodeWicker, h]
  rfl

/-- Every word is read as a well-formed row whose word it is. -/
theorem spells_decodeWicker (q : Fin 8) (w : W64) : Spells (decodeWicker q w) q w := by
  cases h : legalFields (opcOf w) (fieldsOf w) with
  | true =>
    rw [decodeWicker, if_pos h]
    exact spells_legalRow h
  | false =>
    rw [decodeWicker_of_illegal h]
    exact ⟨by rw [Instr.wf, h]; rfl, rfl⟩

/-- Settles O8: a row is read back by the law of its constructor, and a word is read by its opcode's row. -/
theorem encodingRoundTrip : Obligations.EncodingRoundTrip :=
  ⟨fun i q w hwf hword => readsBack i hwf (q, w) hword, spells_decodeWicker⟩

/-- Settles O9: each word is the word of a well-formed row, or illegal. -/
theorem writtenWords : Obligations.WrittenWords :=
  ⟨readsBack (.cmpi 0 ⟨1, 7, 0, 0, 0, 1, 1⟩) rfl (0, 0x2109_C001_0000_0001) rfl,
    readsBack (.br 3 ⟨0, 0, 0, 1, 0, 0, 0x12⟩) rfl (3, 0x5000_0040_0000_0012) rfl,
    readsBack (.conn 0 ⟨15, 3, 13, 0, 0, 1, 0⟩) rfl (0, 0x6278_DA01_0000_0000) rfl,
    decodeWicker_of_illegal rfl 5⟩

end Sys2Proof
end

section
/-! How a Wicker instruction issues (R84, R85, R87, R88, R429), and the results of the instructions on a sequencer's
own registers (R92 to R95, R99). -/

namespace Sys2Proof.Machine

/-! ### Issue (R84, R85, R87, R88, R429) -/

/-- The issue that `execLocal`, `execMem` and `execEngine` share: nothing outside RUN or in a closed domain, the ILLEGAL
trap, the skip of a false guard, else the instruction's own outcome `o`. -/
def issue (opc : Nat) (q : Fin 8) (w : Fields) (s : State) (o : Host.Outcome State Fault Refusal) :
    Host.Outcome State Fault Refusal :=
  if (s.sq q.val).st ≠ .run || !s.domEnabled 4 then .next s
  else if !legalFields opc w then s.goes (s.trap q.val 1)
  else if !(s.sq q.val).guard w then .next (s.setSq q.val (s.sq q.val).advance)
  else o

/-- The outcome of an instruction of a running sequencer that does not execute: skipped by its guard, trapped for its
fields, or held by its closed domain. -/
def Withheld (opc : Nat) (q : Fin 8) (w : Fields) (s : State) (o : Host.Outcome State Fault Refusal) : Prop :=
  (s.domEnabled 4 = true → legalFields opc w = true → (s.sq q.val).guard w = false →
    o = .next (s.setSq q.val (s.sq q.val).advance)) ∧
  (s.domEnabled 4 = true → legalFields opc w = false → o = s.goes (s.trap q.val 1)) ∧
  (s.domEnabled 4 = false → o = .next s)

section
variable {opc : Nat} {q : Fin 8} {w : Fields} {s : State}

/-- An instruction that executes has its own outcome.  The row of an instruction is its issue by definition, so this gives
`exec` of every row under `Runs`. -/
theorem issue_of_runs (h : Runs opc q w s) (o : Host.Outcome State Fault Refusal) : issue opc q w s o = o := by
  obtain ⟨hrun, hdom, hlegal, hguard⟩ := h
  simp [issue, hrun, hdom, hlegal, hguard]

/-- An instruction of a running sequencer that does not execute. -/
theorem issue_withheld (hrun : (s.sq q.val).st = .run) (o : Host.Outcome State Fault Refusal) :
    Withheld opc q w s (issue opc q w s o) := by
  refine ⟨?_, ?_, ?_⟩
  · intro hdom hlegal hguard
    simp [issue, hrun, hdom, hlegal, hguard]
  · intro hdom hlegal
    simp [issue, hrun, hdom, hlegal]
  · intro hdom
    simp [issue, hdom]

end

/-! ### Integer instructions (R86, R92) -/

/-- Settles O11: each row writes its value to gd, and a shift or a bit field that R92 does not accept traps. -/
theorem integerResults : Obligations.IntegerResults := by
  intro q w s x a b n z gives orTrap row
  refine ⟨?_, ?_, ?_, ?_, ?_, ?_, ?_, ?_, ?_, ?_, ?_, ?_, ?min, ?max, ?minu, ?maxu, ?_, ?_, ?_, ?_, ?_, ?shli, ?_, ?_, ?_,
    ?_, ?_, ?_, ?bfx, ?bfi, ?_, ?_⟩
  case min => exact fun h => (issue_of_runs h _).trans (congrArg gives (if_congr BitVec.slt_iff_toInt_lt rfl rfl))
  case max => exact fun h => (issue_of_runs h _).trans (congrArg gives (if_congr BitVec.slt_iff_toInt_lt rfl rfl))
  case minu => exact fun h => (issue_of_runs h _).trans (congrArg gives (if_congr BitVec.ult_iff_toNat_lt rfl rfl))
  case maxu => exact fun h => (issue_of_runs h _).trans (congrArg gives (if_congr BitVec.ult_iff_toNat_lt rfl rfl))
  case shli =>
    intro h
    refine (issue_of_runs h _).trans ?_
    by_cases hn : w.imm.toNat < 64
    · simp only [orTrap, n, hn, decide_true, if_true]
      rfl
    · simp only [orTrap, n, hn, decide_false, if_false]
      rfl
  case bfx =>
    intro h
    refine (issue_of_runs h _).trans ?_
    cases hok : bfOk w.imm <;> rfl
  case bfi =>
    intro h
    refine (issue_of_runs h _).trans ?_
    cases hok : bfOk w.imm <;> rfl
  all_goals exact fun h => issue_of_runs h _

/-! ### Bit fields (R92) -/

/-- Bit `i` of a mask of `w` ones. -/
theorem getElem_ones {w i : Nat} (hi : i < 64) : (ones w)[i] = decide (i < w) := by
  rw [← BitVec.getLsbD_eq_getElem, ones, BitVec.getLsbD_ofNat, Nat.testBit_two_pow_sub_one, decide_eq_true hi, Bool.true_and]

/-- A mask of ones keeps the low bits. -/
theorem toNat_and_ones {w : Nat} (h : w ≤ 64) (a : W64) : (a &&& ones w).toNat = a.toNat % 2 ^ w := by
  have hle : 2 ^ w ≤ 2 ^ 64 := Nat.pow_le_pow_right (by decide) h
  have hpos : 0 < 2 ^ w := Nat.two_pow_pos w
  rw [BitVec.toNat_and, ones, BitVec.toNat_ofNat, Nat.mod_eq_of_lt (by omega), Nat.and_two_pow_sub_one_eq_mod]

/-- BFX of the field that BFI has written gives the bits inserted. -/
theorem bfx_bfi {l w : Nat} (h : l + w ≤ 64) (d a : W64) : bfx (bfi d a l w) l w = a &&& ones w := by
  apply BitVec.eq_of_getLsbD_eq
  intro i hi
  by_cases hw : i < w
  · have hlt : l + i < 64 := by omega
    simp [bfx, bfi, getElem_ones, hi, hw, hlt]
  · simp [bfx, getElem_ones, hi, hw]

/-- Settles O12: a field lies in the word, so its mask keeps its bits and BFX finds what BFI has put there. -/
theorem bitFieldsAgree : Obligations.BitFieldsAgree := by
  intro imm d a hok
  simp only [bfOk, Bool.and_eq_true, decide_eq_true_eq] at hok
  obtain ⟨-, hfit⟩ := hok
  have hw : bfW imm ≤ 64 := by omega
  refine ⟨?_, ?_⟩
  · rw [bfx, toNat_and_ones hw]
    exact Nat.mod_lt _ (Nat.two_pow_pos _)
  · rw [bfx_bfi hfit, toNat_and_ones hw]

/-! ### Compares and predicates (R92, R93) -/

/-- The conditions by MOD (R93). -/
theorem condOf_iff (a b : W64) :
    (condOf 0 a b = true ↔ a = b) ∧ (condOf 1 a b = true ↔ a ≠ b) ∧ (condOf 2 a b = true ↔ a.toInt < b.toInt) ∧
      (condOf 3 a b = true ↔ b.toInt ≤ a.toInt) ∧ (condOf 4 a b = true ↔ a.toNat < b.toNat) ∧
      (condOf 5 a b = true ↔ b.toNat ≤ a.toNat) := by
  refine ⟨?_, ?_, ?_, ?_, ?_, ?_⟩
  · exact decide_eq_true_iff
  · exact decide_eq_true_iff
  · exact BitVec.slt_iff_toInt_lt
  · show (!a.slt b) = true ↔ _
    rw [Bool.not_eq_true', ← Bool.not_eq_true, BitVec.slt_iff_toInt_lt, Int.not_lt]
  · exact BitVec.ult_iff_toNat_lt
  · show (!a.ult b) = true ↔ _
    rw [Bool.not_eq_true', ← Bool.not_eq_true, BitVec.ult_iff_toNat_lt, Nat.not_lt]

/-- Settles O13: both write the condition of their MOD to pd. -/
theorem compares : Obligations.Compares := by
  intro q w s b x a gives byMod
  have hmods : ∀ i, exec i s = .next (s.setSq q.val (x.setP (pIdx w.dst) (condOf w.mod a b)).advance) → byMod i := by
    intro i hexec
    obtain ⟨h0, h1, h2, h3, h4, h5⟩ := condOf_iff a b
    exact ⟨fun hm => ⟨_, hm ▸ h0, hexec⟩, fun hm => ⟨_, hm ▸ h1, hexec⟩, fun hm => ⟨_, hm ▸ h2, hexec⟩,
      fun hm => ⟨_, hm ▸ h3, hexec⟩, fun hm => ⟨_, hm ▸ h4, hexec⟩, fun hm => ⟨_, hm ▸ h5, hexec⟩⟩
  refine ⟨?_, ?_⟩
  · rintro h rfl
    exact hmods _ (issue_of_runs h _)
  · rintro h rfl
    exact hmods _ (issue_of_runs h _)

/-- Settles O14: each row writes its predicates or its register and goes on. -/
theorem predicateResults : Obligations.PredicateResults := by
  intro q w s x a b gives row
  refine ⟨?_, ?_, ?_, ?_, ?_, ?_⟩
  all_goals exact fun h => issue_of_runs h _

/-! ### Float instructions (R45, R94, R95) -/

/-- FMIN and FMAX where an operand is a NaN (R95). -/
theorem fminW_fmaxW_nan {a b : W32} :
    (F32.isNan a = true → F32.isNan b = true → fminW a b = 0x7FC00000 ∧ fmaxW a b = 0x7FC00000) ∧
    (F32.isNan a = true → F32.isNan b = false → fminW a b = flush b ∧ fmaxW a b = flush b) ∧
    (F32.isNan a = false → F32.isNan b = true → fminW a b = flush a ∧ fmaxW a b = flush a) := by
  refine ⟨?_, ?_, ?_⟩ <;> intro ha hb <;> simp [fminW, fmaxW, ha, hb, F32.nan]

/-- No condition of FCMP but the unordered one holds of a NaN (R95). -/
theorem fcondOf_of_nan {a b : W32} (h : F32.isNan a = true ∨ F32.isNan b = true) :
    fcondOf 0 a b = false ∧ fcondOf 1 a b = false ∧ fcondOf 2 a b = false ∧ fcondOf 3 a b = true := by
  rcases h with h | h <;> simp [fcondOf, F32.eq, F32.lt, F32.le, h]

/-- The unordered condition of FCMP holds of a NaN alone (R95). -/
theorem fcondOf_three_of_not_nan {a b : W32} (ha : F32.isNan a = false) (hb : F32.isNan b = false) :
    fcondOf 3 a b = false := by
  show (F32.isNan a || F32.isNan b) = false
  rw [ha, hb, Bool.or_false]

/-- Settles O15, by the row of each instruction and the NaN cases of its function. -/
theorem floatResults : Obligations.FloatResults := by
  refine ⟨?_, ?_⟩
  · intro q w s x a b g row long
    refine ⟨?_, ?_, ?_, ?_, ?_, ?_, ?_, ?_, ?_, ?_, ?_, ?_, ?_, ?_, ?_, ?_⟩
    all_goals exact fun h => issue_of_runs h _
  · intro a b
    obtain ⟨hboth, hleft, hright⟩ := fminW_fmaxW_nan (a := a) (b := b)
    exact ⟨hboth, hleft, hright, fcondOf_of_nan, fcondOf_three_of_not_nan⟩

/-! ### Control flow (R99) -/

@[simp] theorem Seq.setG_pc (x : Seq) (n : BitVec 5) (v : W64) : (x.setG n v).pc = x.pc := by
  rw [Seq.setG]
  split <;> rfl

/-- LOOP on another register than g0 branches by the count it has written (R99). -/
theorem Seq.loop_of_ne {n : BitVec 5} (hn : n ≠ 0) (x : Seq) (v : W64) (imm : W32) :
    (if (x.setG n v).rg n ≠ 0 then (x.setG n v).jumpBy imm else (x.setG n v).advance) =
      { x.setG n v with pc := if v ≠ 0 then x.pc + imm.setWidth 16 else x.pc + 1 } := by
  rw [Seq.rg_setG hn, if_pos rfl, Seq.jumpBy, Seq.advance, Seq.setG_pc]
  split <;> rfl

/-- LOOP on g0 goes on: g0 reads 0 after its write (R44). -/
theorem Seq.loop_zero (x : Seq) (v : W64) (imm : W32) :
    (if (x.setG 0 v).rg 0 ≠ 0 then (x.setG 0 v).jumpBy imm else (x.setG 0 v).advance) = x.advance := by
  rw [Seq.rg_zero, if_neg (not_not_intro rfl), Seq.setG_zero]

/-- The next state of a row that sets its own sequencer alone. -/
theorem next_setSq_congr {s : State} {q : Nat} {x y : Seq} (h : x = y) :
    (.next (s.setSq q x) : Host.Outcome State Fault Refusal) = .next (s.setSq q y) := by rw [h]

/-- Settles O19: each row sets the program counter, and CALL, CALLR and LOOP write gd. -/
theorem controlFlow : Obligations.ControlFlow := by
  intro q w s x target back
  refine ⟨?_, ?_, ?_, ?_, ?_, ?_⟩
  · exact fun h => issue_of_runs h _
  · exact fun h => issue_of_runs h _
  · intro h
    refine (issue_of_runs h _).trans (next_setSq_congr ?_)
    show Seq.jumpBy _ _ = _
    rw [Seq.jumpBy, Seq.setG_pc]
  · exact fun h => issue_of_runs h _
  · exact fun h hdst => (issue_of_runs h _).trans (next_setSq_congr (Seq.loop_of_ne hdst _ _ _))
  · intro h hdst
    refine (issue_of_runs h _).trans (next_setSq_congr ?_)
    show (if (x.setG w.dst _).rg w.dst ≠ 0 then _ else _) = _
    rw [hdst]
    exact Seq.loop_zero x _ _

end Sys2Proof.Machine
end

section
/-! Data memory (R97): results and traps, and what the integer and the storing instructions leave alone. -/

namespace Sys2Proof.Machine

/-! ### Data memory (R97) -/

section
variable {q : Fin 8} {w : Fields} {s : State}

/-- An aligned address in data memory is accepted. -/
theorem addrTrap_of_fits {a : W64} {n : Nat} (h : 0x00100000 ≤ a.toNat ∧ a.toNat < 0x00200000 ∧ a.toNat % n = 0) :
    addrTrap a n = none := by
  obtain ⟨hlo, hhi, hmod⟩ := h
  simp [addrTrap, dmemLo, dmemHi, hmod, Nat.not_lt.mpr hlo, Nat.not_le.mpr hhi]

/-- An address outside data memory gives BAD_ADDR. -/
theorem addrTrap_of_outside {a : W64} {n : Nat} (h : a.toNat < 0x00100000 ∨ 0x00200000 ≤ a.toNat) :
    addrTrap a n = some 2 :=
  if_pos (by rwa [Bool.or_eq_true, decide_eq_true_eq, decide_eq_true_eq])

/-- A misaligned address inside data memory gives MISALIGN. -/
theorem addrTrap_of_misaligned {a : W64} {n : Nat} (h : ¬ (a.toNat < 0x00100000 ∨ 0x00200000 ≤ a.toNat))
    (hmod : a.toNat % n ≠ 0) : addrTrap a n = some 3 :=
  (if_neg (by rwa [Bool.or_eq_true, decide_eq_true_eq, decide_eq_true_eq])).trans (if_pos hmod)

/-! The rows at an accepted address. -/

theorem exec_ld (h : Runs 0x40 q w s) (ha : addrTrap ((s.sq q.val).addr w) (sizeOf' w.mod) = none) :
    exec (.ld q w) s = .next (s.setSq q.val ((s.sq q.val).retG w.dst
      (extend (sizeOf' w.mod) (s.ld ((s.sq q.val).addr w).toNat (sizeOf' w.mod)) (w.mod.getLsbD 2)))) :=
  (issue_of_runs h _).trans (by simp only [ha]; rfl)

theorem exec_st (h : Runs 0x41 q w s) (ha : addrTrap ((s.sq q.val).addr w) (sizeOf' w.mod) = none) :
    exec (.st q w) s = .next ((s.st ((s.sq q.val).addr w).toNat (sizeOf' w.mod) ((s.sq q.val).rg w.src2).toNat).setSq q.val
      (s.sq q.val).advance) :=
  (issue_of_runs h _).trans (by simp only [ha]; rfl)

theorem exec_fld (h : Runs 0x42 q w s) (ha : addrTrap ((s.sq q.val).addr w) 4 = none) :
    exec (.fld q w) s = .next (s.setSq q.val ((s.sq q.val).retF w.dst (flush (s.ldW ((s.sq q.val).addr w).toNat)))) :=
  (issue_of_runs h _).trans (by simp only [ha]; rfl)

theorem exec_fst (h : Runs 0x43 q w s) (ha : addrTrap ((s.sq q.val).addr w) 4 = none) :
    exec (.fst q w) s = .next ((s.st ((s.sq q.val).addr w).toNat 4 ((s.sq q.val).rf w.src2).toNat).setSq q.val
      (s.sq q.val).advance) :=
  (issue_of_runs h _).trans (by simp only [ha]; rfl)

/-- The doubleword that CAS and AADD read. -/
def State.atomicOld (s : State) (q : Fin 8) (w : Fields) : W64 := BitVec.ofNat 64 (s.ld ((s.sq q.val).rg w.src1).toNat 8)

/-- A store under a condition changes memory under the condition. -/
theorem State.ite_st {p : Prop} [Decidable p] (s : State) (a n v : Nat) :
    (if p then s.st a n v else s) = { s with mem := if p then memPut s.mem a n v else s.mem } := by
  split <;> rfl

theorem exec_cas (h : Runs 0x44 q w s) (ha : addrTrap ((s.sq q.val).rg w.src1) 8 = none) :
    exec (.cas q w) s = .next ((if s.atomicOld q w = (s.sq q.val).rg w.dst then
        s.st ((s.sq q.val).rg w.src1).toNat 8 ((s.sq q.val).rg w.src2).toNat else s).setSq q.val
      ((s.sq q.val).retG w.dst (s.atomicOld q w))) :=
  (issue_of_runs h _).trans (by simp only [ha, State.ite_st]; rfl)

theorem exec_aadd (h : Runs 0x45 q w s) (ha : addrTrap ((s.sq q.val).rg w.src1) 8 = none) :
    exec (.aadd q w) s = .next ((s.st ((s.sq q.val).rg w.src1).toNat 8
        (s.atomicOld q w + (s.sq q.val).rg w.src2).toNat).setSq q.val ((s.sq q.val).retG w.dst (s.atomicOld q w))) :=
  (issue_of_runs h _).trans (by simp only [ha]; rfl)

/-! The rows at an address that traps. -/

theorem exec_ld_traps {c : Nat} (h : Runs 0x40 q w s) (ha : addrTrap ((s.sq q.val).addr w) (sizeOf' w.mod) = some c) :
    exec (.ld q w) s = s.goes (s.trap q.val c) :=
  (issue_of_runs h _).trans (by simp only [ha]; rfl)

theorem exec_st_traps {c : Nat} (h : Runs 0x41 q w s) (ha : addrTrap ((s.sq q.val).addr w) (sizeOf' w.mod) = some c) :
    exec (.st q w) s = s.goes (s.trap q.val c) :=
  (issue_of_runs h _).trans (by simp only [ha]; rfl)

theorem exec_fld_traps {c : Nat} (h : Runs 0x42 q w s) (ha : addrTrap ((s.sq q.val).addr w) 4 = some c) :
    exec (.fld q w) s = s.goes (s.trap q.val c) :=
  (issue_of_runs h _).trans (by simp only [ha]; rfl)

theorem exec_fst_traps {c : Nat} (h : Runs 0x43 q w s) (ha : addrTrap ((s.sq q.val).addr w) 4 = some c) :
    exec (.fst q w) s = s.goes (s.trap q.val c) :=
  (issue_of_runs h _).trans (by simp only [ha]; rfl)

/-- What a row that traps at every refused address does by where its address lies. -/
theorem traps_of_refused {i : Instr} {a : W64} {n : Nat}
    (ht : ∀ c, addrTrap a n = some c → exec i s = s.goes (s.trap q.val c)) :
    (a.toNat < 0x00100000 ∨ 0x00200000 ≤ a.toNat → exec i s = s.goes (s.trap q.val 2)) ∧
      (¬ (a.toNat < 0x00100000 ∨ 0x00200000 ≤ a.toNat) → a.toNat % n ≠ 0 → exec i s = s.goes (s.trap q.val 3)) :=
  ⟨fun ho => ht 2 (addrTrap_of_outside ho), fun hi hmod => ht 3 (addrTrap_of_misaligned hi hmod)⟩

/-- FENCE blocks the thread. -/
theorem exec_fence (h : Runs 0x48 q w s) :
    exec (.fence q w) s = .next (s.setSq q.val { s.sq q.val with st := .wait, wait := .fence }) :=
  issue_of_runs h _

/-- FENCE_DONE lets the thread go on. -/
theorem exec_fenceDone (h : (s.sq q.val).wait = .fence) : exec (.fenceDone q) s = .next (s.sqNext q) := by
  show execFenceDone q s = _
  simp only [execFenceDone, h]

end

/-- Settles O17: each row at an accepted address, FENCE, and the trap of a refused address. -/
theorem dataMemory : Obligations.DataMemory := by
  refine ⟨?_, ?_⟩
  · intro q w s x ga gb a n fits old
    refine ⟨?_, ?_, ?_, ?_, ?_, ?_, exec_fence, exec_fenceDone⟩
    · exact fun h hfits => exec_ld h (addrTrap_of_fits hfits)
    · exact fun h hfits => exec_st h (addrTrap_of_fits hfits)
    · exact fun h hfits => exec_fld h (addrTrap_of_fits hfits)
    · exact fun h hfits => exec_fst h (addrTrap_of_fits hfits)
    · exact fun h hfits => exec_cas h (addrTrap_of_fits hfits)
    · exact fun h hfits => exec_aadd h (addrTrap_of_fits hfits)
  · intro q w s x a n outside traps row
    refine ⟨?_, ?_, ?_, ?_⟩
    · exact fun h => traps_of_refused fun c => exec_ld_traps h
    · exact fun h => traps_of_refused fun c => exec_st_traps h
    · exact fun h => traps_of_refused fun c => exec_fld_traps h
    · exact fun h => traps_of_refused fun c => exec_fst_traps h

/-! ### Frames (R92, R96, R97) -/

/-- A sequencer goes on to its next instruction with at most one general register written. -/
def Seq.Proceeds (n : BitVec 5) (x y : Seq) : Prop := y = x.advance ∨ ∃ v, y = x.retG n v

theorem Seq.rg_setG_of_ne {m n : BitVec 5} (h : m ≠ n) (x : Seq) (v : W64) : (x.setG n v).rg m = x.rg m := by
  by_cases hn : n = 0
  · rw [hn, Seq.setG_zero]
  · rw [Seq.rg_setG hn, if_neg h]

@[simp] theorem Seq.setG_f (x : Seq) (n : BitVec 5) (v : W64) : (x.setG n v).f = x.f := by
  rw [Seq.setG]
  split <;> rfl

@[simp] theorem Seq.setG_preds (x : Seq) (n : BitVec 5) (v : W64) : (x.setG n v).preds = x.preds := by
  rw [Seq.setG]
  split <;> rfl

/-- What a sequencer that goes on keeps. -/
theorem Seq.Proceeds.frame {n : BitVec 5} {x y : Seq} (h : x.Proceeds n y) :
    (∀ m, m ≠ n → y.rg m = x.rg m) ∧ y.f = x.f ∧ y.preds = x.preds ∧ y.pc = x.pc + 1 := by
  rcases h with rfl | ⟨v, rfl⟩
  · exact ⟨fun _ _ => rfl, rfl, rfl, rfl⟩
  · refine ⟨?_, x.setG_f n v, x.setG_preds n v, ?_⟩
    · exact fun m hm => Seq.rg_setG_of_ne hm x v
    · show (x.setG n v).pc + 1 = _
      rw [Seq.setG_pc]

/-- Every row of `integerRows` writes gd and goes on, and does nothing else. -/
theorem integerRows_retG (q : Fin 8) (w : Fields) (s : State) :
    ∀ r ∈ integerRows, Runs r.1 q w s → ∃ v, exec (r.2 q w) s = .next (s.setSq q.val ((s.sq q.val).retG w.dst v)) := by
  simp only [integerRows, List.forall_mem_cons, List.not_mem_nil, false_implies, implies_true, and_true]
  refine ⟨?_, ?_, ?_, ?_, ?_, ?_, ?_, ?_, ?_, ?_, ?_, ?_, ?_, ?_, ?_, ?_, ?_, ?_, ?_, ?_, ?_, ?_, ?_, ?_, ?_, ?_, ?_, ?_⟩
  all_goals exact fun h => ⟨_, issue_of_runs h _⟩

/-- A storing instruction at an accepted address stores at most the bytes there, and its sequencer goes on. -/
theorem stores_of_accepted {q : Fin 8} {w : Fields} {s : State} {i : Instr} {a n : Nat}
    (hi : (i = .st q w ∧ Runs 0x41 q w s ∧ a = ((s.sq q.val).addr w).toNat ∧ n = sizeOf' w.mod) ∨
      (i = .fst q w ∧ Runs 0x43 q w s ∧ a = ((s.sq q.val).addr w).toNat ∧ n = 4) ∨
      (i = .cas q w ∧ Runs 0x44 q w s ∧ a = ((s.sq q.val).rg w.src1).toNat ∧ n = 8) ∨
      (i = .aadd q w ∧ Runs 0x45 q w s ∧ a = ((s.sq q.val).rg w.src1).toNat ∧ n = 8))
    (hfits : 0x00100000 ≤ a ∧ a < 0x00200000 ∧ a % n = 0) :
    ∃ u y, exec i s = .next (u.setSq q.val y) ∧ (u = s ∨ ∃ v, u = s.st a n v) ∧ (s.sq q.val).Proceeds w.dst y := by
  rcases hi with ⟨rfl, h, rfl, rfl⟩ | ⟨rfl, h, rfl, rfl⟩ | ⟨rfl, h, rfl, rfl⟩ | ⟨rfl, h, rfl, rfl⟩
  · exact ⟨_, _, exec_st h (addrTrap_of_fits hfits), .inr ⟨_, rfl⟩, .inl rfl⟩
  · exact ⟨_, _, exec_fst h (addrTrap_of_fits hfits), .inr ⟨_, rfl⟩, .inl rfl⟩
  · refine ⟨_, _, exec_cas h (addrTrap_of_fits hfits), ?_, .inr ⟨_, rfl⟩⟩
    split
    · exact .inr ⟨_, rfl⟩
    · exact .inl rfl
  · exact ⟨_, _, exec_aadd h (addrTrap_of_fits hfits), .inr ⟨_, rfl⟩, .inr ⟨_, rfl⟩⟩

/-- Settles O18: an integer row sets its sequencer alone, a storing row its sequencer and the bytes of its address. -/
theorem instructionFrames : Obligations.InstructionFrames := by
  refine ⟨?_, ?_⟩
  · intro opc f q w s t h hmem hexec
    obtain ⟨v, hrow⟩ := integerRows_retG q w s (opc, f) hmem h
    obtain rfl : s.setSq q.val ((s.sq q.val).retG w.dst v) = t := Host.Outcome.next.inj (hrow.symm.trans hexec)
    obtain ⟨hg, hf, hpreds, hpc⟩ := Seq.Proceeds.frame (x := s.sq q.val) (n := w.dst) (.inr ⟨v, rfl⟩)
    rw [State.sq_setSq_self]
    exact ⟨rfl, rfl, fun p hp => State.sq_setSq_ne s hp _, hg, hf, hpreds, hpc, rfl, rfl, rfl⟩
  · intro q w s t i a n hok x ea hi hlo hhi hmod hexec
    obtain ⟨u, y, hrow, hu, hy⟩ := stores_of_accepted hi ⟨hlo, hhi, hmod⟩
    obtain rfl : u.setSq q.val y = t := Host.Outcome.next.inj (hrow.symm.trans hexec)
    obtain ⟨hg, hf, hpreds, hpc⟩ := hy.frame
    rw [State.sq_setSq_self]
    rcases hu with rfl | ⟨v, rfl⟩
    · exact ⟨fun _ _ => rfl, fun p hp => State.sq_setSq_ne _ hp _, hg, hf, hpreds, hpc, rfl, rfl, rfl, rfl⟩
    · exact ⟨fun b hb => ldB_st_ne hok hb, fun p hp => State.sq_setSq_ne _ hp _, hg, hf, hpreds, hpc, rfl, rfl, rfl, rfl⟩

end Sys2Proof.Machine
end

section
/-! The guard, the legality of fields and the precise trap (R84, R85, R87, R88, R429). -/

namespace Sys2Proof.Machine

/-- The rows of `guardedRows` issue in the shared form. -/
theorem guardedRows_withheld {q : Fin 8} {w : Fields} {s : State} (hrun : (s.sq q.val).st = .run) :
    ∀ r ∈ guardedRows, Withheld r.1 q w s (exec (r.2 q w) s) := by
  have h {c : Nat} {o : Host.Outcome State Fault Refusal} : Withheld c q w s (issue c q w s o) := issue_withheld hrun o
  simp only [guardedRows, List.forall_mem_cons, List.not_mem_nil, false_implies, implies_true, and_true]
  exact ⟨h, h, h, h, h, h, h, h, h, h, h, h, h, h, h, h, h, h⟩

/-- An illegal word traps (R84, R87). -/
theorem exec_illegalOpcode {q : Fin 8} {word : W64} {s : State} (hrun : (s.sq q.val).st = .run)
    (hillegal : legalFields (opcOf word) (fieldsOf word) = false) :
    exec (.illegalOpcode q word) s = s.goes (s.trap q.val 1) := by
  show execIllegalOpcode q word s = _
  simp only [execIllegalOpcode, hrun, hillegal]
  rfl

/-! ### What a raise leaves (R382) -/

/-- Memory and the ledger of a state. -/
def State.stored (s : State) : List Host.Cell × LedgerState := (s.mem, s.ledger)

@[simp] theorem State.stored_wr (s : State) (f : Fld) (v i j k : Nat) : (s.wr f v i j k).stored = s.stored := rfl

@[simp] theorem State.stored_fault (s : State) (x : FaultState) : ({ s with fault := x } : State).stored = s.stored := rfl

theorem State.stored_fireHook (s : State) (h : Nat) (arg : W32) : (s.fireHook h arg).stored = s.stored := by
  rw [State.fireHook]
  split
  · split <;> rfl
  · rfl

theorem State.stored_faultCycle (s : State) : s.faultCycle.stored = s.stored := by
  rw [State.faultCycle]
  split <;> rfl

theorem State.stored_logCycle (s : State) : s.logCycle.stored = s.stored :=
  forEach_frame (g := State.stored) (fun s p => by simp only [State.logSlot, State.wrB, State.stored_wr]) _ s

theorem State.stored_faultLog (s : State) (x : FaultEntry) : (s.faultLog x).stored = s.stored := by
  simp only [State.faultLog, State.wrB, State.inc, State.stored_wr, State.stored_fault, apply_ite State.stored, ite_self]

theorem State.stored_faultFirst (s : State) (x : FaultEntry) : (s.faultFirst x).stored = s.stored := by
  simp only [State.faultFirst, State.wrB, State.stored_wr, State.stored_fault, apply_ite State.stored, ite_self]

theorem State.stored_firstDetail (s : State) : s.firstDetail.stored = s.stored := by
  simp only [State.firstDetail, State.stored_wr, apply_ite State.stored, ite_self]

theorem State.stored_sendMsix (s : State) (vec : Nat) : (s.sendMsix vec).stored = s.stored := by
  rw [State.sendMsix]
  split <;> rfl

/-- The reactions of any source but CLKFAIL leave memory and the ledger. -/
theorem State.stored_faultReact {n : Nat} (hn : n ≠ 0) (s : State) (react : Nat) (detail : W32) :
    (s.faultReact n react detail).stored = s.stored := by
  simp only [State.faultReact, if_neg hn, State.wrB, apply_ite State.stored, State.stored_wr, State.stored_fault,
    State.stored_sendMsix, State.stored_fireHook, ite_self]

/-- A record of any source but CLKFAIL leaves memory and the ledger. -/
theorem State.stored_record {n : Nat} (hn : n ≠ 0) (s : State) (detail : W32) (injected realSame : Bool) :
    (s.record n detail injected realSame).stored = s.stored := by
  simp only [State.record, State.stored_faultReact hn, State.stored_firstDetail, State.stored_faultFirst,
    State.stored_logCycle, State.stored_faultLog, apply_ite State.stored, State.stored_fault, State.inc, State.wrB,
    State.stored_wr, State.stored_faultCycle, ite_self]

/-- A raise of any source but CLKFAIL leaves memory and the ledger. -/
theorem State.stored_raise {n : Nat} (hn : n ≠ 0) (s : State) (detail : W32) : (s.raise n detail).stored = s.stored := by
  rw [State.raise]
  split
  · rfl
  · split
    · split
      · rfl
      · exact State.stored_record hn _ _ _ _
    · exact State.stored_record hn _ _ _ _

/-- A record of any source but CLKFAIL changes of the sequencers at most what they have seen of hook FAULT. -/
theorem State.record_seqs {n : Nat} (hn : n ≠ 0) (s : State) (detail : W32) (injected realSame : Bool) :
    (s.record n detail injected realSame).seqs = s.seqs ∨
      (s.record n detail injected realSame).seqs = s.seqs.map (fun (x : Seq) => x.noteEvent 1) := by
  simp only [State.record, State.faultReact_seqs hn, State.fireHook_seqs, State.firstDetail_seqs, State.faultFirst_seqs,
    State.logCycle_seqs, State.faultLog_seqs, State.faultCycle_seqs, State.wrB, State.inc, State.wr_seqs,
    apply_ite State.seqs, ite_self]
  exact (ite_eq_or_eq _ _ _).symm

/-- A raise of any source but CLKFAIL changes of the sequencers at most what they have seen of hook FAULT. -/
theorem State.raise_seqs {n : Nat} (hn : n ≠ 0) (s : State) (detail : W32) :
    (s.raise n detail).seqs = s.seqs ∨ (s.raise n detail).seqs = s.seqs.map (fun (x : Seq) => x.noteEvent 1) := by
  rw [State.raise]
  split
  · exact .inl rfl
  · split
    · split
      · exact .inl rfl
      · exact State.record_seqs hn _ _ _ _
    · exact State.record_seqs hn _ _ _ _

/-- What a sequencer notes of an event changes its wait alone. -/
theorem Seq.noteEvent_eq (x : Seq) (h : Nat) : ∃ v, x.noteEvent h = { x with wait := v } := by
  rw [Seq.noteEvent]
  split
  · exact ⟨_, rfl⟩
  · exact ⟨_, rfl⟩
  · exact ⟨x.wait, rfl⟩

/-- A raise of any source but CLKFAIL changes at most the wait of a sequencer. -/
theorem State.raise_sq {n : Nat} (hn : n ≠ 0) (s : State) (detail : W32) (q : Nat) :
    ∃ v, (s.raise n detail).sq q = { s.sq q with wait := v } := by
  rcases State.raise_seqs hn s detail with h | h
  · exact ⟨(s.sq q).wait, State.sq_congr h q⟩
  · rw [State.sq_of_seqs_map h q]
    exact Seq.noteEvent_eq _ _

/-! ### The precise trap (R88) -/

/-- The state of a trap before its fault is raised: the sequencer TRAPPED, its trial dropped. -/
def State.trapped (s : State) (q c : Nat) : State :=
  ({ s with solve := { s.solve with trials := s.solve.trials.filter (fun t => t.val ≠ q) } } : State).setSq q
    { s.sq q with st := .trapped, wait := .none, nmi := false, cause := BitVec.ofNat 8 c }

theorem State.trap_eq (s : State) (q c : Nat) : s.trap q c = (s.trapped q c).raise 8 (BitVec.ofNat 32 (q + 256 * c)) := rfl

/-- A sequencer, another one or that of the trap, keeps its registers and predicates. -/
theorem State.sq_trapped_registers (s : State) (q p : Fin 8) (c : Nat) :
    ((s.trapped q.val c).sq p.val).g = (s.sq p.val).g ∧ ((s.trapped q.val c).sq p.val).f = (s.sq p.val).f ∧
      ((s.trapped q.val c).sq p.val).preds = (s.sq p.val).preds := by
  rw [State.trapped]
  by_cases hp : p = q
  · rw [hp, State.sq_setSq_self]
    exact ⟨rfl, rfl, rfl⟩
  · rw [State.sq_setSq_ne _ hp]
    exact ⟨rfl, rfl, rfl⟩

/-- Settles O20: what the issue withholds, the illegal word, and the trap with what its raise leaves. -/
theorem guardsAndTraps : Obligations.GuardsAndTraps := by
  refine ⟨?_, ?_, ?_⟩
  · intro opc f q w s hrun hmem
    exact guardedRows_withheld hrun (opc, f) hmem
  · intro q word s hrun _ hillegal
    exact ⟨exec_illegalOpcode hrun hillegal, decodeWicker_of_illegal hillegal q⟩
  · intro q p c s u
    have hu : u = (s.trapped q.val c).raise 8 (BitVec.ofNat 32 (q.val + 256 * c)) := s.trap_eq q.val c
    obtain ⟨hmem, hledger⟩ := Prod.mk.inj (State.stored_raise (n := 8) (by decide) (s.trapped q.val c)
      (BitVec.ofNat 32 (q.val + 256 * c)))
    obtain ⟨_, hq⟩ := State.raise_sq (n := 8) (by decide) (s.trapped q.val c) (BitVec.ofNat 32 (q.val + 256 * c)) q.val
    obtain ⟨_, hp⟩ := State.raise_sq (n := 8) (by decide) (s.trapped q.val c) (BitVec.ofNat 32 (q.val + 256 * c)) p.val
    obtain ⟨hg, hf, hpreds⟩ := s.sq_trapped_registers q p c
    rw [hu, hq, hp, State.trapped, State.sq_setSq_self]
    exact ⟨rfl, rfl, rfl, hg, hf, hpreds, hmem, hledger⟩

end Sys2Proof.Machine
end

section
/-! The instructions that reach the bus, the ledger and the epochs (R96, R97, R101 to R104, R106 to R109). -/

namespace Sys2Proof.Machine

/-! ### RDX and WRX (R96, R97) -/

/-- The end of an access that is answered. -/
theorem State.accessEnd_of_answered {q : Fin 8} {pc : BitVec 16} {r : State × Option Nat} {v : Nat} (h : r.2 = some v)
    (ok : State → Nat → State) : State.accessEnd q pc r ok = ok r.1 v := by
  simp only [State.accessEnd, h]

/-- The end of an access that meets an error response: BUS_ERR at the instruction. -/
theorem State.accessEnd_of_error {q : Fin 8} {pc : BitVec 16} {r : State × Option Nat} (h : r.2 = none)
    (ok : State → Nat → State) :
    State.accessEnd q pc r ok = (r.1.setSq q.val { r.1.sq q.val with pc := pc }).trap q.val 4 := by
  simp only [State.accessEnd, h]

section
variable {q : Fin 8} {w : Fields} {s : State}

/-- The access that RDX or WRX makes, once the instruction is over. -/
def State.sqAccess (s : State) (q : Fin 8) (w : Fields) (write : Bool) (v : Nat) : State × Option Nat :=
  (s.sqNext q).access (q.val + 1) ((s.sq q.val).addr w).toNat (sizeOf' w.mod) write v

theorem exec_rdx_misaligned (h : Runs 0x46 q w s) (ha : ((s.sq q.val).addr w).toNat % sizeOf' w.mod ≠ 0) :
    exec (.rdx q w) s = s.goes (s.trap q.val 3) :=
  (issue_of_runs h _).trans (by simp only [if_pos ha]; rfl)

theorem exec_wrx_misaligned (h : Runs 0x47 q w s) (ha : ((s.sq q.val).addr w).toNat % sizeOf' w.mod ≠ 0) :
    exec (.wrx q w) s = s.goes (s.trap q.val 3) :=
  (issue_of_runs h _).trans (by simp only [if_pos ha]; rfl)

theorem exec_rdx (h : Runs 0x46 q w s) (ha : ((s.sq q.val).addr w).toNat % sizeOf' w.mod = 0)
    (hissue : s.mayIssue (q.val + 1) false = true) :
    exec (.rdx q w) s = s.goes (State.accessEnd q (s.sq q.val).pc (s.sqAccess q w false 0)
      (fun t v => t.setSq q.val ((t.sq q.val).setG w.dst (BitVec.ofNat 64 v)))) :=
  (issue_of_runs h _).trans (by simp only [ha, hissue]; rfl)

theorem exec_wrx (h : Runs 0x47 q w s) (ha : ((s.sq q.val).addr w).toNat % sizeOf' w.mod = 0)
    (hissue : s.mayIssue (q.val + 1) true = true) :
    exec (.wrx q w) s = s.goes (State.accessEnd q (s.sq q.val).pc
      (s.sqAccess q w true (((s.sq q.val).rg w.src2).toNat % 256 ^ sizeOf' w.mod)) (fun t _ => t)) :=
  (issue_of_runs h _).trans (by simp only [ha, hissue]; rfl)

end

/-- Settles O21, by the alignment of the address and by how the access ends. -/
theorem busInstructions : Obligations.BusInstructions := by
  intro q w s x a n rd wr failed
  refine ⟨exec_rdx_misaligned, exec_wrx_misaligned, ?_, ?_, ?_, ?_⟩
  · exact fun v h ha hissue hv => (exec_rdx h ha hissue).trans (congrArg s.goes (State.accessEnd_of_answered hv _))
  · exact fun v h ha hissue hv => (exec_wrx h ha hissue).trans (congrArg s.goes (State.accessEnd_of_answered hv _))
  · exact fun h ha hissue herr => (exec_rdx h ha hissue).trans (congrArg s.goes (State.accessEnd_of_error herr _))
  · exact fun h ha hissue herr => (exec_wrx h ha hissue).trans (congrArg s.goes (State.accessEnd_of_error herr _))

/-! ### UNPIN, DISC, CONN and PIN (R59, R101, R102) -/

section
variable {q : Fin 8} {w : Fields} {s : State} {op : CmdOp}

/-- What a filing instruction files. -/
def State.filed (s : State) (q : Fin 8) (op : CmdOp) (w : Fields) : State × Option (W32 × Status × Bool) :=
  s.file (s.ownCmd op (((s.sq q.val).rg w.src2).extractLsb' 0 16).toNat (((s.sq q.val).rg w.src2).extractLsb' 16 16).toNat
    (((s.sq q.val).rg w.src1).setWidth 32)
    (if w.mod.getLsbD 0 then ((s.sq q.val).rg w.src2).extractLsb' 32 32 else w.imm)) false

/-- A filing that the ledger answers gives its handle and its status. -/
theorem State.fileInstr_of_some {v : W32 × Status × Bool} (h : (s.filed q op w).2 = some v) :
    s.fileInstr q op w = (s.filed q op w).1.sqRet q w.dst (v.2.1.word ++ v.1) := by
  rw [State.fileInstr]
  simp only [State.filed] at h ⊢
  rw [h]

/-- A filing for which the ledger has no entry stalls. -/
theorem State.fileInstr_of_none (h : (s.filed q op w).2 = none) :
    s.fileInstr q op w = (s.filed q op w).1.sqBlock q (.stall op w) := by
  rw [State.fileInstr]
  simp only [State.filed] at h ⊢
  rw [h]

/-- A row that is a filing, by how the ledger answers. -/
theorem files_of_exec {i : Instr} (h : exec i s = s.goes (s.fileInstr q op w)) :
    (∀ v, (s.filed q op w).2 = some v → exec i s = s.goes ((s.filed q op w).1.sqRet q w.dst (v.2.1.word ++ v.1))) ∧
      ((s.filed q op w).2 = none → exec i s = s.goes ((s.filed q op w).1.sqBlock q (.stall op w))) := by
  refine ⟨?_, ?_⟩
  · intro v hv
    rw [h, State.fileInstr_of_some hv]
  · intro hnone
    rw [h, State.fileInstr_of_none hnone]

/-- The stalled command is judged again (R59, R102). -/
theorem exec_ledgerStallResume (h : (s.sq q.val).wait = .stall op w) :
    exec (.ledgerStallResume q) s = s.goes (s.fileInstr q op w) := by
  show execLedgerStallResume q s = _
  simp only [execLedgerStallResume, h]
  rfl

end

/-- Settles O22: each row, and the resume, is a filing. -/
theorem filingInstructions : Obligations.FilingInstructions := by
  intro q w s x gb num filed files
  refine ⟨?_, ?_, ?_, ?_, ?_⟩
  · exact fun h => files_of_exec (issue_of_runs h _)
  · exact fun h => files_of_exec (issue_of_runs h _)
  · exact fun h => files_of_exec (issue_of_runs h _)
  · exact fun h => files_of_exec (issue_of_runs h _)
  · exact fun op hwait => files_of_exec (exec_ledgerStallResume hwait)

/-! ### EPOCH, ABORT, STAGE, LAY and VERIFY (R103, R104, R106 to R108) -/

section
variable {q : Fin 8} {w : Fields} {s : State}

/-- What ABORT does, by whether the epoch was ever opened (R104). -/
theorem exec_abort (h : Runs 0x65 q w s) :
    exec (.abort q w) s = s.goes (if s.everOpened (((s.sq q.val).rg w.src1).setWidth 32) then
      s.sqBlock q (.abort w.dst (((s.sq q.val).rg w.src1).setWidth 32))
      else s.sqRet q w.dst (St.none.word.setWidth 64)) :=
  issue_of_runs h _

/-- STAGE of options that R106 lists. -/
theorem exec_stage (h : Runs 0x67 q w s) (himm : w.imm.toNat < 4) :
    exec (.stage q w) s = s.goes ((s.stageInstr (((s.sq q.val).rg w.src1).setWidth 32) w.imm).1.sqRet q w.dst
      ((s.stageInstr (((s.sq q.val).rg w.src1).setWidth 32) w.imm).2.word.setWidth 64)) :=
  (issue_of_runs h _).trans (by simp only [if_neg (Nat.not_le.mpr himm)]; rfl)

/-- STAGE of other options traps. -/
theorem exec_stage_traps (h : Runs 0x67 q w s) (himm : 4 ≤ w.imm.toNat) :
    exec (.stage q w) s = s.goes (s.trap q.val 6) :=
  (issue_of_runs h _).trans (by simp only [if_pos himm]; rfl)

/-- LAY of an epoch that has ended (R107). -/
theorem exec_lay_ended {v : W64} (h : Runs 0x68 q w s)
    (hres : s.layResult (((s.sq q.val).rg w.src1).setWidth 32) = some v) :
    exec (.lay q w) s = s.goes (s.sqRet q w.dst v) :=
  (issue_of_runs h _).trans (by simp only [hres]; rfl)

/-- LAY of an epoch that has not ended waits (R107). -/
theorem exec_lay_waits (h : Runs 0x68 q w s) (hres : s.layResult (((s.sq q.val).rg w.src1).setWidth 32) = none) :
    exec (.lay q w) s = s.goes (s.sqBlock q (.layEnd w.dst (((s.sq q.val).rg w.src1).setWidth 32))) :=
  (issue_of_runs h _).trans (by simp only [hres]; rfl)

/-- The abort that a thread waits for is resolved (R70, R104). -/
theorem exec_abortResolved {d : BitVec 5} {f : W32} (h : (s.sq q.val).wait = .abort d f) :
    exec (.abortResolved q) s = s.goes ((s.abortRequest f).1.sqRet q d ((s.abortRequest f).2.word.setWidth 64)) := by
  show execAbortResolved q s = _
  simp only [execAbortResolved, h]
  rfl

/-- The epoch that a thread waits for has ended (R107). -/
theorem exec_layEpochEnd {d : BitVec 5} {f : W32} {v : W64} (h : (s.sq q.val).wait = .layEnd d f)
    (hres : s.layResult f = some v) : exec (.layEpochEnd q) s = s.goes (s.sqRet q d v) := by
  show execLayEpochEnd q s = _
  simp only [execLayEpochEnd, h, hres]
  rfl

end

/-- Settles O23: each row by its own condition, and the ends of the waits. -/
theorem epochInstructions : Obligations.EpochInstructions := by
  intro q w s x e opened staged pass
  refine ⟨?_, ?_, ?_, exec_stage, exec_stage_traps, fun v => exec_lay_ended, exec_lay_waits, ?_, ?_, ?_⟩
  · exact fun h => issue_of_runs h _
  · intro h hopened
    rw [exec_abort h, if_pos hopened]
  · intro h hopened
    rw [exec_abort h, if_neg (Bool.eq_false_iff.mp hopened)]
  · exact fun h => issue_of_runs h _
  · exact fun d f => exec_abortResolved
  · exact fun d f v => exec_layEpochEnd

/-! ### READW (R60, R109) -/

section
variable {q : Fin 8} {w : Fields} {s : State}

/-- A view of a number below its bound. -/
theorem readView_of_lt {m : BitVec 5} {width bound : Nat} {view : State → Nat → BitVec 64}
    (h : Runs 0x6A q { w with mod := m } s) (hlt : ((s.sq q.val).rg w.src1).toNat % 2 ^ width < bound) :
    readView m q w width bound view s =
      s.goes (s.sqRet q w.dst (view s (((s.sq q.val).rg w.src1).toNat % 2 ^ width))) :=
  (issue_of_runs h _).trans (by simp only [if_neg (Nat.not_le.mpr hlt)]; rfl)

/-- A view of another number traps. -/
theorem readView_traps {m : BitVec 5} {width bound : Nat} {view : State → Nat → BitVec 64}
    (h : Runs 0x6A q { w with mod := m } s) (hle : bound ≤ ((s.sq q.val).rg w.src1).toNat % 2 ^ width) :
    readView m q w width bound view s = s.goes (s.trap q.val 6) :=
  (issue_of_runs h _).trans (by simp only [if_pos hle]; rfl)

/-- A final status that is read is delivered (R60). -/
theorem State.readStatus_of_final {d : BitVec 5} {h : W32} {p : Nat × Entry} (hentry : s.entryOf h = some p)
    (hfinal : p.2.status.code ≠ 1) :
    s.readStatus q d h = (s.entryRead p.1).sqRet q d (p.2.status.word.setWidth 64) := by
  simp only [State.readStatus, hentry, if_neg hfinal]

/-- The status that a thread waits for is read (R109). -/
theorem exec_readwStFinal {d : BitVec 5} {h : W32} (hwait : (s.sq q.val).wait = .stFinal d h) :
    exec (.readwStFinal q) s = s.goes (s.readStatus q d h) := by
  show execReadwStFinal q s = _
  simp only [execReadwStFinal, hwait]
  rfl

end

/-- Settles O25: each view by its bound, the status and the stable epoch, and the end of a wait. -/
theorem stableReads : Obligations.StableReads := by
  intro q w s x n legal
  refine ⟨?_, ?_, ?_, ?_, ?_, ?_, ?_, ?_⟩
  · exact fun h hlt => readView_of_lt h hlt
  · exact fun h hlt => readView_of_lt h hlt
  · exact fun h hlt => readView_of_lt h hlt
  · exact fun h => issue_of_runs h _
  · exact fun h => issue_of_runs h _
  · exact fun h hle => readView_traps h hle
  · exact fun h hle => readView_traps h hle
  · intro d h p hwait hentry hfinal
    rw [exec_readwStFinal hwait, State.readStatus_of_final hentry hfinal]

end Sys2Proof.Machine
end

section
/-! The loop instructions (R111, R112): the effect, the refusal and BAD_OPERAND. -/

namespace Sys2Proof.Machine

/-- The loop that a loop instruction names. -/
def State.loopOf (s : State) (q : Fin 8) (w : Fields) : Nat := ((s.sq q.val).rg w.src1).toNat % 65536

/-- What a loop instruction on a listed loop leaves: the refusal of R112, or its effect `u` accepted. -/
def State.loopAnswer (s : State) (q : Fin 8) (w : Fields) (u : State) : State :=
  if s.loopRefused (s.loopOf q w) then s.sqRet q w.dst ((St.defect 0).word.setWidth 64)
  else u.sqRet q w.dst (St.accepted.word.setWidth 64)

/-- A loop whose instruction takes effect: an auxiliary one, or one of a cell that is present and not RETIRED. -/
def State.LoopTakes (s : State) (l : Nat) : Prop :=
  (l < 21504 ∧ s.cellAbsent l = false ∧ s.cellState l ≠ 3) ∨ (21504 ≤ l ∧ l < 21568)

/-- A loop whose cell is absent or RETIRED. -/
def State.LoopGone (s : State) (l : Nat) : Prop := l < 21504 ∧ (s.cellAbsent l = true ∨ s.cellState l = 3)

theorem State.LoopTakes.listed {s : State} {l : Nat} (h : s.LoopTakes l) : ¬ 21568 ≤ l := by
  rcases h with ⟨hl, -, -⟩ | ⟨-, hl⟩ <;> omega

theorem State.LoopGone.listed {s : State} {l : Nat} (h : s.LoopGone l) : ¬ 21568 ≤ l := by
  obtain ⟨hl, -⟩ := h
  omega

theorem State.LoopTakes.not_refused {s : State} {l : Nat} (h : s.LoopTakes l) : s.loopRefused l = false := by
  rcases h with ⟨-, habsent, hstate⟩ | ⟨hl, -⟩
  · simp [State.loopRefused, habsent, hstate]
  · simp [State.loopRefused, Nat.not_lt.mpr hl]

theorem State.LoopGone.refused {s : State} {l : Nat} (h : s.LoopGone l) : s.loopRefused l = true := by
  obtain ⟨hl, hgone⟩ := h
  simpa [State.loopRefused, hl] using hgone

section
variable {q : Fin 8} {w : Fields} {s : State}

theorem State.loopAnswer_of_takes (h : s.LoopTakes (s.loopOf q w)) (u : State) :
    s.loopAnswer q w u = u.sqRet q w.dst (St.accepted.word.setWidth 64) := by
  rw [State.loopAnswer, h.not_refused]
  rfl

theorem State.loopAnswer_of_gone (h : s.LoopGone (s.loopOf q w)) (u : State) :
    s.loopAnswer q w u = s.sqRet q w.dst ((St.defect 0).word.setWidth 64) := by
  rw [State.loopAnswer, h.refused]
  rfl

section
variable {opc : Nat} {pre : State → Seq → Nat → Option Nat} {eff : State → Seq → Nat → State}

/-- A loop instruction with accepted operands is answered. -/
theorem loopInstr_answers (h : Runs opc q w s) (hl : ¬ 21568 ≤ s.loopOf q w)
    (hpre : pre s (s.sq q.val) (s.loopOf q w) = none) :
    loopInstr opc q w pre eff s = s.goes (s.loopAnswer q w (eff s (s.sq q.val) (s.loopOf q w))) := by
  by_cases hrefused : s.loopRefused (s.loopOf q w) = true
  · rw [State.loopAnswer, if_pos hrefused]
    simp only [State.loopOf] at hl hpre hrefused
    exact (issue_of_runs h _).trans (by simp only [if_neg hl, hpre, if_pos hrefused]; rfl)
  · rw [State.loopAnswer, if_neg hrefused]
    simp only [State.loopOf] at hl hpre hrefused
    exact (issue_of_runs h _).trans (by simp only [if_neg hl, hpre, if_neg hrefused]; rfl)

/-- A loop number that R111 does not list traps. -/
theorem loopInstr_traps (h : Runs opc q w s) (hl : 21568 ≤ s.loopOf q w) :
    loopInstr opc q w pre eff s = s.goes (s.trap q.val 6) := by
  refine (issue_of_runs h _).trans ?_
  simp only [State.loopOf] at hl
  simp only [if_pos hl]
  rfl

end

/-! The rows with accepted operands on a listed loop. -/

theorem exec_lset (h : Runs 0x80 q w s) (hl : ¬ 21568 ≤ s.loopOf q w)
    (hpar : paramListed (s.loopOf q w) w.mod.toNat = true) :
    exec (.lset q w) s = s.goes (s.loopAnswer q w (if s.loopOf q w < 21504 then
        s.lsetCell (s.loopOf q w) w.mod.toNat ((s.sq q.val).rf w.src2)
      else s.lsetAux (s.loopOf q w - 21504) w.mod.toNat ((s.sq q.val).rf w.src2))) := by
  show execLset q w s = _
  rw [execLset]
  exact loopInstr_answers h hl (if_pos hpar)

theorem exec_lmode (h : Runs 0x81 q w s) (hl : ¬ 21568 ≤ s.loopOf q w) (himm : w.imm.toNat ≤ 2) :
    exec (.lmode q w) s = s.goes (s.loopAnswer q w (if s.loopOf q w < 21504 then
        s.cellInstr (.mode (s.loopOf q w) w.imm.toNat) else s.setAuxMode (s.loopOf q w - 21504) w.imm.toNat)) := by
  show execLmode q w s = _
  rw [execLmode]
  exact loopInstr_answers h hl (if_neg (Nat.not_lt.mpr himm))

theorem exec_lpreset (h : Runs 0x82 q w s) (hl : ¬ 21568 ≤ s.loopOf q w) :
    exec (.lpreset q w) s = s.goes (s.loopAnswer q w (if s.loopOf q w < 21504 then
        s.cellInstr (.preset (s.loopOf q w) (if w.mod.getLsbD 0 then some ((s.sq q.val).rf w.src2) else none))
      else s.presetAuxInstr (s.loopOf q w - 21504) (if w.mod.getLsbD 0 then some ((s.sq q.val).rf w.src2) else none))) := by
  show execLpreset q w s = _
  rw [execLpreset]
  exact loopInstr_answers h hl rfl

/-- The injection words that LINJ reads: none for gb = 0. -/
def State.linjWords (s : State) (gb : Nat) : List W32 := if gb = 0 then [] else s.injWords gb

theorem exec_linj (h : Runs 0x83 q w s) (hl : ¬ 21568 ≤ s.loopOf q w)
    (hpre : (if ((s.sq q.val).rg w.src2).toNat = 0 then none
      else s.injTrap (decide (s.loopOf q w < 21504)) ((s.sq q.val).rg w.src2).toNat) = none) :
    exec (.linj q w) s = s.goes (s.loopAnswer q w (if s.loopOf q w < 21504 then
        s.cellInstr (.inj (s.loopOf q w) (s.linjWords ((s.sq q.val).rg w.src2).toNat))
      else s.setInj (s.loopOf q w) (injOfWords (s.linjWords ((s.sq q.val).rg w.src2).toNat)))) := by
  show execLinj q w s = _
  rw [execLinj]
  exact loopInstr_answers h hl hpre

theorem exec_lcap (h : Runs 0x84 q w s) (hl : ¬ 21568 ≤ s.loopOf q w) (hgb : ((s.sq q.val).rg w.src2).toNat ≤ 47)
    (himm : w.imm.toNat < 1024) :
    exec (.lcap q w) s =
      s.goes (s.loopAnswer q w (s.startCapture (s.loopOf q w) ((s.sq q.val).rg w.src2).toNat w.imm.toNat)) := by
  show execLcap q w s = _
  rw [execLcap]
  exact loopInstr_answers h hl (if_neg (by simp [Nat.not_lt.mpr hgb, Nat.not_le.mpr himm]))

end

/-- The parameters R198 lists for a cell. -/
theorem paramListed_of_cell {l m : Nat} (hl : l < 21504) (hm : m ≤ 7) : paramListed l m = true := by
  rw [paramListed, if_pos hl]
  exact decide_eq_true hm

/-- The parameters R198 lists for an auxiliary loop. -/
theorem paramListed_of_aux {l m : Nat} (hl : 21504 ≤ l) (hm : m ∈ [0, 1, 3, 8, 9, 10, 11, 12, 13, 14, 15]) :
    paramListed l m = true := by
  rw [paramListed, if_neg (Nat.not_lt.mpr hl)]
  exact List.contains_iff_mem.mpr hm

/-- Settles O26: each row on a loop that takes it, on a loop that R112 refuses, and on a number that is no loop. -/
theorem loopInstructions : Obligations.LoopInstructions := by
  refine ⟨?_, ?_⟩
  · intro q w s x l m fb gb arg takes cell aux
    have htakes {i : Instr} {u v : State} (ht : s.LoopTakes l) (hi : exec i s = s.goes (s.loopAnswer q w u)) (huv : u = v) :
        takes i v := by
      show exec i s = _
      rw [hi, State.loopAnswer_of_takes ht, huv]
    have hcell (hc : cell) : s.LoopTakes l ∧ l < 21504 := ⟨.inl hc, And.left hc⟩
    have haux (ha : aux) : s.LoopTakes l ∧ ¬ l < 21504 := ⟨.inr ha, Nat.not_lt.mpr (And.left ha)⟩
    refine ⟨?_, ?_, ?_, ?_, ?_, ?_, ?_, ?_, ?_, ?_⟩
    · intro h hc hm
      obtain ⟨ht, hlt⟩ := hcell hc
      exact htakes ht (exec_lset h ht.listed (paramListed_of_cell hlt hm)) (if_pos hlt)
    · intro h ha hm
      obtain ⟨ht, hge⟩ := haux ha
      exact htakes ht (exec_lset h ht.listed (paramListed_of_aux (Nat.not_lt.mp hge) hm)) (if_neg hge)
    · intro h hc himm
      obtain ⟨ht, hlt⟩ := hcell hc
      exact htakes ht (exec_lmode h ht.listed himm) (if_pos hlt)
    · intro h ha himm
      obtain ⟨ht, hge⟩ := haux ha
      exact htakes ht (exec_lmode h ht.listed himm) (if_neg hge)
    · intro h hc
      obtain ⟨ht, hlt⟩ := hcell hc
      exact htakes ht (exec_lpreset h ht.listed) (if_pos hlt)
    · intro h ha
      obtain ⟨ht, hge⟩ := haux ha
      exact htakes ht (exec_lpreset h ht.listed) (if_neg hge)
    · intro h hc hgb
      obtain ⟨ht, hlt⟩ := hcell hc
      exact htakes ht (exec_linj h ht.listed (if_pos hgb)) ((if_pos hlt).trans (congrArg _ (congrArg _ (if_pos hgb))))
    · intro h hc hgb htrap
      obtain ⟨ht, hlt⟩ := hcell hc
      have hpre := (congrArg (fun b => s.injTrap b gb) (decide_eq_true hlt)).trans htrap
      exact htakes ht (exec_linj h ht.listed ((if_neg hgb).trans hpre))
        ((if_pos hlt).trans (congrArg _ (congrArg _ (if_neg hgb))))
    · intro h ha hgb htrap
      obtain ⟨ht, hge⟩ := haux ha
      have hpre := (congrArg (fun b => s.injTrap b gb) (decide_eq_false hge)).trans htrap
      exact htakes ht (exec_linj h ht.listed ((if_neg hgb).trans hpre))
        ((if_neg hge).trans (congrArg _ (congrArg _ (if_neg hgb))))
    · intro h ht hgb himm
      exact htakes ht (exec_lcap h (State.LoopTakes.listed ht) hgb himm) rfl
  · intro q w s l refused gone
    have hrefused {i : Instr} {u : State} (hg : gone) (hi : exec i s = s.goes (s.loopAnswer q w u)) : refused i := by
      show exec i s = _
      rw [hi, State.loopAnswer_of_gone hg]
    have hlisted (hg : gone) : ¬ 21568 ≤ l := State.LoopGone.listed hg
    refine ⟨?_, ?_, ?_, ?_, ?_, ?_⟩
    · exact fun h hg hm => hrefused hg (exec_lset h (hlisted hg) (paramListed_of_cell (And.left hg) hm))
    · exact fun h hg himm => hrefused hg (exec_lmode h (hlisted hg) himm)
    · exact fun h hg => hrefused hg (exec_lpreset h (hlisted hg))
    · exact fun h hg hgb => hrefused hg (exec_linj h (hlisted hg) (if_pos (congrArg BitVec.toNat hgb)))
    · exact fun h hg hgb himm => hrefused hg (exec_lcap h (hlisted hg) hgb himm)
    · intro h hl
      show execLpreset q w s = _
      rw [execLpreset]
      exact loopInstr_traps h hl

end Sys2Proof.Machine
end

section
/-! The frame instructions (R114, R115, R294), and the time, monitor, fault and system ones (R116 to R120). -/

namespace Sys2Proof.Machine

/-! ### SEND (R114, R294) -/

/-- The operands that SEND takes (R114, R294). -/
theorem SendOp.ok_iff (o : SendOp) : o.ok = true ↔
    1 ≤ o.len ∧ o.len ≤ 1472 ∧ o.cls ≤ 5 ∧ (o.typ = 0 ∨ (o.typ = 1 ∧ o.cls = 4)) ∧ (o.cls = 5 → o.len = 16) := by
  simp only [SendOp.ok, Bool.and_eq_true, Bool.or_eq_true, decide_eq_true_eq, and_assoc, ← imp_iff_not_or, ne_eq]

/-- Other operands trap with BAD_OPERAND. -/
theorem State.sendTrap_of_not_ok {o : SendOp} (h : o.ok = false) (s : State) (a : Nat) : s.sendTrap a o = some 6 := by
  rw [State.sendTrap, h]
  rfl

/-- A payload outside data memory traps with BAD_ADDR. -/
theorem State.sendTrap_of_outside {o : SendOp} {a : Nat} (h : o.ok = true) (ha : a < 0x00100000 ∨ 0x00200000 < a + o.len)
    (s : State) : s.sendTrap a o = some 2 := by
  have hout : (decide (a < dmemLo) || decide (dmemHi < a + o.len)) = true := by
    rwa [Bool.or_eq_true, decide_eq_true_eq, decide_eq_true_eq]
  rw [State.sendTrap, h, hout]
  rfl

section
variable {q : Fin 8} {w : Fields} {s : State}

/-- SEND as the thread's registers stand, where its operands trap. -/
theorem State.sendInstr_traps {c : Nat}
    (h : s.sendTrap ((s.sq q.val).rg w.src1).toNat (sendOf ((s.sq q.val).rg w.src2)) = some c) :
    s.sendInstr q w = .error c := by
  simp only [State.sendInstr, h]

/-- SEND as the thread's registers stand, where the queue has room. -/
theorem State.sendInstr_room
    (h : s.sendTrap ((s.sq q.val).rg w.src1).toNat (sendOf ((s.sq q.val).rg w.src2)) = none) (hroom : s.sendRoom = true) :
    s.sendInstr q w =
      .ok ((s.queueSend ((s.sq q.val).rg w.src1).toNat (sendOf ((s.sq q.val).rg w.src2))).sqRet q w.dst 0) := by
  simp only [State.sendInstr, h, hroom, if_true]

/-- SEND as the thread's registers stand, where the queue has no room. -/
theorem State.sendInstr_waits
    (h : s.sendTrap ((s.sq q.val).rg w.src1).toNat (sendOf ((s.sq q.val).rg w.src2)) = none) (hroom : s.sendRoom = false) :
    s.sendInstr q w = .ok (s.sqBlock q (.send w)) := by
  simp only [State.sendInstr, h, hroom, Bool.false_eq_true, if_false]

theorem exec_send {t : State} (h : Runs 0x90 q w s) (hsend : s.sendInstr q w = .ok t) :
    exec (.send q w) s = s.goes t :=
  (issue_of_runs h _).trans (by simp only [hsend]; rfl)

theorem exec_send_traps {c : Nat} (h : Runs 0x90 q w s) (hsend : s.sendInstr q w = .error c) :
    exec (.send q w) s = s.goes (s.trap q.val c) :=
  (issue_of_runs h _).trans (by simp only [hsend]; rfl)

/-- A SEND that waits for room goes on. -/
theorem exec_sendQueueRoom {t : State} (hwait : (s.sq q.val).wait = .send w) (hsend : s.sendInstr q w = .ok t) :
    exec (.sendQueueRoom q) s = s.goes t := by
  show execSendQueueRoom q s = _
  simp only [execSendQueueRoom, hwait, hsend]
  rfl

/-! ### RECV, RECV.n and ACK (R115) -/

/-- The queue that RECV names. -/
def recvQueue (w : Fields) : Fin 8 := Fin.ofNat 8 (w.imm.toNat % 8)

/-- A buffer in data memory is accepted. -/
theorem recvTrap_of_fits {a n : Nat} (hlo : 0x00100000 ≤ a) (hhi : a + Nat.max n 1 ≤ 0x00200000) : recvTrap a n = none :=
  if_neg (by
    rw [Bool.or_eq_true, decide_eq_true_eq, decide_eq_true_eq, dmemLo, dmemHi]
    omega)

/-- What RECV leaves when it takes the head frame `r` of its queue. -/
def State.recvTaken (s : State) (q : Fin 8) (w : Fields) (r : RxFrame) (rest : List RxFrame) : State :=
  (({ s with net := { s.net with rxq := s.net.rxq.set (recvQueue w) rest
                                 unacked := s.net.unacked ++ [r] } } : State).stBytes
      ((s.sq q.val).rg w.src1).toNat (r.frame.payload.take ((s.sq q.val).rg w.src2).toNat)).sqRet q w.dst
    (r.token ++ (r.frame.src ++ BitVec.ofNat 16 r.frame.payload.length))

/-- The head frame of a queue is taken where the bytes written lie in data memory. -/
theorem State.recvInstr_takes {r : RxFrame} {rest : List RxFrame} (hhead : s.net.rxq.get (recvQueue w) = r :: rest)
    (hlo : 0x00100000 ≤ ((s.sq q.val).rg w.src1).toNat)
    (hhi : ((s.sq q.val).rg w.src1).toNat + Nat.max (r.frame.payload.take ((s.sq q.val).rg w.src2).toNat).length 1 ≤
      0x00200000)
    (wait : Bool) : s.recvInstr q w wait = .ok (s.recvTaken q w r rest) := by
  have hbuf := recvTrap_of_fits hlo hhi
  rw [recvQueue] at hhead
  simp only [State.recvInstr, hhead, State.takeFrame, hbuf]
  rfl

/-- On an empty queue RECV waits and RECV.n gives 0. -/
theorem State.recvInstr_empty (hempty : s.net.rxq.get (recvQueue w) = []) (hlo : 0x00100000 ≤ ((s.sq q.val).rg w.src1).toNat)
    (hhi : ((s.sq q.val).rg w.src1).toNat < 0x00200000) (wait : Bool) :
    s.recvInstr q w wait = .ok (if wait then s.sqBlock q (.recv w) else s.sqRet q w.dst 0) := by
  have hbuf : recvTrap ((s.sq q.val).rg w.src1).toNat 1 = none := recvTrap_of_fits hlo hhi
  rw [recvQueue] at hempty
  simp only [State.recvInstr, hempty, hbuf]

theorem exec_recv {t : State} (h : Runs 0x91 q { w with mod := 0 } s) (hrecv : s.recvInstr q w true = .ok t) :
    exec (.recv q w) s = s.goes t :=
  (issue_of_runs h _).trans (by simp only [hrecv]; rfl)

theorem exec_recvN {t : State} (h : Runs 0x91 q { w with mod := 1 } s) (hrecv : s.recvInstr q w false = .ok t) :
    exec (.recvN q w) s = s.goes t :=
  (issue_of_runs h _).trans (by simp only [hrecv]; rfl)

/-- A frame has entered the queue that a thread waits on. -/
theorem exec_recvFrameReady {t : State} (hwait : (s.sq q.val).wait = .recv w) (hrecv : s.recvInstr q w true = .ok t) :
    exec (.recvFrameReady q) s = s.goes t := by
  show execRecvFrameReady q s = _
  simp only [execRecvFrameReady, hwait, hrecv]
  rfl

theorem exec_ack (h : Runs 0x92 q w s) :
    exec (.ack q w) s =
      s.goes ((s.ackToken (((s.sq q.val).rg w.src1).setWidth 32) (((s.sq q.val).rg w.src2).setWidth 32)).sqNext q) :=
  issue_of_runs h _

end

/-- Settles O27: SEND by its operands and the room, RECV by the head of its queue, ACK by its token. -/
theorem frameInstructions : Obligations.FrameInstructions := by
  refine ⟨?_, ?_⟩
  · intro q w s x a o
    refine ⟨o.ok_iff, ?_, ?_, ?_, ?_, ?_, ?_⟩
    · exact fun h => State.sendTrap_of_not_ok h s a
    · exact fun h ha => State.sendTrap_of_outside h ha s
    · exact fun c h ht => exec_send_traps h (State.sendInstr_traps ht)
    · exact fun h ht hroom => exec_send h (State.sendInstr_room ht hroom)
    · exact fun h ht hroom => exec_send h (State.sendInstr_waits ht hroom)
    · exact fun hwait ht hroom => exec_sendQueueRoom hwait (State.sendInstr_room ht hroom)
  · intro q w s x k a taken empty
    refine ⟨?_, ?_, ?_, ?_, ?_, ?_, ?_⟩
    · exact fun h r rest hhead hlo hhi => exec_recv h (State.recvInstr_takes hhead hlo hhi true)
    · exact fun h r rest hhead hlo hhi => exec_recvN h (State.recvInstr_takes hhead hlo hhi false)
    · exact fun hwait r rest hhead hlo hhi => exec_recvFrameReady hwait (State.recvInstr_takes hhead hlo hhi true)
    · rintro h ⟨hempty, hlo, hhi⟩
      exact exec_recv h (State.recvInstr_empty hempty hlo hhi true)
    · rintro h ⟨hempty, hlo, hhi⟩
      exact exec_recvN h (State.recvInstr_empty hempty hlo hhi false)
    · intro r h hfind
      rw [exec_ack h, State.ackToken, hfind]
    · intro h hfind
      rw [exec_ack h, State.ackToken, hfind]

/-! ### Time, monitors, faults and the system (R116 to R120) -/

section
variable {q : Fin 8} {w : Fields} {s : State}

/-- WAITT goes on, or waits for its target (R117). -/
theorem exec_waitt (h : Runs 0xA0 q w s) :
    exec (.waitt q w) s = s.goes (if s.timeLeft (w.mod.toNat % 4) ((s.sq q.val).rg w.src1) ≤ 0 then s.sqNext q
      else s.sqBlock q (.waitt (Fin.ofNat 4 (w.mod.toNat % 4)) ((s.sq q.val).rg w.src1))) :=
  issue_of_runs h _

/-- The time base has reached the target of a thread that waits (R117). -/
theorem exec_waittResume {b : Fin 4} {v : W64} (hwait : (s.sq q.val).wait = .waitt b v)
    (hdue : (s.passBaseTo b.val v).timeLeft b.val v ≤ 0) :
    exec (.waittResume q) s = s.goes ((s.passBaseTo b.val v).sqNext q) := by
  show execWaittResume q s = _
  simp only [execWaittResume, hwait, if_pos hdue]
  rfl

/-- An event of the mask of WAITE has occurred (R118). -/
theorem exec_waiteResume {m : W32} (hwait : (s.sq q.val).wait = .waite m true) :
    exec (.waiteResume q) s = s.goes (s.sqNext q) := by
  show execWaiteResume q s = _
  simp only [execWaiteResume, hwait]
  rfl

/-- An event of the mask of SLEEP has occurred (R120). -/
theorem exec_sleepWake {m : W32} (hwait : (s.sq q.val).wait = .sleep m true) :
    exec (.sleepWake q) s = s.goes (s.sqNext q) := by
  show execSleepWake q s = _
  simp only [execSleepWake, hwait]
  rfl

/-- HIST enters the sample where the engine is enabled with the sequencer input as its source (R389, R390). -/
theorem exec_hist_enters (h : Runs 0xB0 q w s) (he : ((s.sq q.val).rg w.src1).toNat < 32)
    (hen : s.bit F.MON_HIST_CFG_EN ((s.sq q.val).rg w.src1).toNat = true)
    (hsrc : s.rd F.MON_HIST_CFG_SRC ((s.sq q.val).rg w.src1).toNat = 1) :
    exec (.hist q w) s = s.goes ((s.sqNext q).monEnter ((s.sq q.val).rg w.src1).toNat ((s.sq q.val).rg w.src2).toInt) :=
  (issue_of_runs h _).trans (by simp only [if_neg (Nat.not_le.mpr he), hen, hsrc]; rfl)

/-- HIST of a disabled engine only goes on (R389). -/
theorem exec_hist_disabled (h : Runs 0xB0 q w s) (he : ((s.sq q.val).rg w.src1).toNat < 32)
    (hen : s.bit F.MON_HIST_CFG_EN ((s.sq q.val).rg w.src1).toNat = false) : exec (.hist q w) s = s.goes (s.sqNext q) :=
  (issue_of_runs h _).trans (by simp only [if_neg (Nat.not_le.mpr he), hen]; rfl)

theorem exec_fraise (h : Runs 0xB1 q w s) (ha : ((s.sq q.val).rg w.src1).toNat < 128) :
    exec (.fraise q w) s =
      s.goes ((s.sqNext q).inject ((s.sq q.val).rg w.src1).toNat (((s.sq q.val).rg w.src2).setWidth 32)) :=
  (issue_of_runs h _).trans (by simp only [if_neg (Nat.not_le.mpr ha)]; rfl)

theorem exec_fack (h : Runs 0xB2 q w s) (ha : ((s.sq q.val).rg w.src1).toNat < 128) :
    exec (.fack q w) s = s.goes ((s.sqNext q).ackFault ((s.sq q.val).rg w.src1).toNat) :=
  (issue_of_runs h _).trans (by simp only [if_neg (Nat.not_le.mpr ha)]; rfl)

theorem exec_fack_traps (h : Runs 0xB2 q w s) (ha : 128 ≤ ((s.sq q.val).rg w.src1).toNat) :
    exec (.fack q w) s = s.goes (s.trap q.val 6) :=
  (issue_of_runs h _).trans (by simp only [if_pos ha]; rfl)

end

/-- Settles O28: each row by its own condition, and the events that end the waits. -/
theorem timeAndSystemInstructions : Obligations.TimeAndSystemInstructions := by
  refine ⟨?_, ?_⟩
  · intro q w s x t left
    refine ⟨?_, ?_, ?_, ?_, ?_, ?_, ?_, ?_, ?_⟩
    · intro h hle
      exact (exec_waitt h).trans (congrArg s.goes (if_pos hle))
    · intro h hlt
      exact (exec_waitt h).trans (congrArg s.goes (if_neg (Int.not_le.mpr hlt)))
    · exact fun h himm => (issue_of_runs h _).trans (by simp only [if_neg himm]; rfl)
    · exact fun h himm => (issue_of_runs h _).trans (by simp only [if_pos himm]; rfl)
    · exact fun h => issue_of_runs h _
    · exact fun h himm => (issue_of_runs h _).trans (by simp only [if_neg himm]; rfl)
    · exact fun b v hwait hdue => exec_waittResume hwait hdue
    · exact fun m => exec_waiteResume
    · exact fun m => exec_sleepWake
  · intro q w s x a t
    refine ⟨?_, ?_, ?_, ?_, ?_, ?_, ?_⟩
    · exact exec_hist_enters
    · exact exec_hist_disabled
    · exact exec_fraise
    · exact exec_fack
    · exact exec_fack_traps
    · exact fun h himm => (issue_of_runs h _).trans (by simp only [if_neg (Nat.not_le.mpr himm)]; rfl)
    · exact fun h himm => (issue_of_runs h _).trans (by simp only [if_neg (Nat.not_le.mpr himm)]; rfl)

end Sys2Proof.Machine
end

section
/-! The lay engine (05): staging and its deadline, the lay instant, the steps of a lay and what stands beside them. -/

namespace Sys2Proof.Machine

section
variable {s : State} {e : W32} {x : Epoch}

/-! ### Staging and its deadline (R145, R153, R170) -/

/-- A weave that may be staged is staged (R153). -/
theorem exec_stageWeave {n : Fin 16} (hrec : s.epoch? e = some x) (hslot : x.slot = some n)
    (hmay : s.mayStage x n = true) : exec (.stageWeave e) s = s.goes ((s.stage x n).tryReady e) := by
  show execStageWeave e s = _
  simp only [execStageWeave, hrec, hslot, hmay, if_true]
  rfl

/-- The row lets time pass to the deadline of its epoch (R153). -/
theorem exec_stagingDeadline (hrec : s.epoch? e = some x) :
    exec (.stagingDeadline e) s = s.goes ((s.passTo x.deadline.toNat).atDeadline x) := by
  show execStagingDeadline e s = _
  simp only [execStagingDeadline, hrec]
  rfl

/-- An epoch still SEALED ends SOLVE_LATE with a slot and NO_SLOT without, also while the engine is off (R145; log entry 28). -/
theorem State.atDeadline_sealed (hst : x.st = .sealed) :
    s.atDeadline x = (s.abortPlain x.num (St.aborted (if x.slot.isSome then 0x121 else 0x120))).fireHook 5 x.num := by
  simp only [State.atDeadline, hst]

/-- A SOLVED epoch ends with detail LAY_OFF while the engine is off (R170). -/
theorem State.atDeadline_off (hst : x.st = .solved) (hen : s.bit F.LAY_CTRL_EN = false) :
    s.atDeadline x = s.layRefuse x (St.aborted 0x204) 3 0x204 := by
  simp only [State.atDeadline, hst, hen, Bool.not_false, if_true]

/-- A SOLVED epoch that the engine could still lay is late while the engine is on (R153). -/
theorem State.atDeadline_late (hst : x.st = .solved) (hen : s.bit F.LAY_CTRL_EN = true) (hledger : s.ledger.noLays = false)
    (hslot : x.slot.any (fun n => s.slotBad n.val) = false) : s.atDeadline x = s.layRefuse x (St.late 0x200) 3 0x200 := by
  simp only [State.atDeadline, hst, hen, hledger, hslot, Bool.not_true, Bool.or_self, Bool.false_eq_true, if_false]

/-! ### The lay instant, its causes in the order of R477 (R71, R155, R174, R175, R277) -/

/-- A lay is in progress, or a recovery lay is due (R174; log entry 28). -/
def State.layBusy (s : State) : Bool := s.lay.cur.isSome || s.lay.recover.any (fun r => !r.waitStream && !r.waitLane)

/-- The link streams and owns the drive (R175). -/
def State.linked (s : State) : Prop := s.rd F.STRAND_STATUS_STATE = 5 ∧ s.bit F.STRAND_STATUS_OWNER

/-- No lane failed, no domain runs on RCO, and the lay frame is not past (R155, R277, R423). -/
def State.meetsFrame (s : State) (x : Epoch) : Prop :=
  s.strand.failed = [] ∧ s.onRco = false ∧ x.passed = false ∧ s.strand.sentFrame ≤ x.layFrame ∧ s.frame ≤ x.layFrame

/-- The model's test for NOT_STREAMING (R175). -/
theorem State.not_linked_iff : (s.rd F.STRAND_STATUS_STATE ≠ 5 || !s.bit F.STRAND_STATUS_OWNER) = true ↔ ¬ s.linked := by
  simp only [State.linked, Bool.or_eq_true, decide_eq_true_eq, Bool.not_eq_true', not_and_or, Bool.not_eq_true, ne_eq]

/-- The model's test for LAY_PAST (R155). -/
theorem State.not_meetsFrame_iff :
    (!s.strand.failed.isEmpty || s.onRco || x.passed || x.layFrame < s.strand.sentFrame || x.layFrame < s.frame) = true ↔
      ¬ s.meetsFrame x := by
  simp only [State.meetsFrame, Bool.or_eq_true, Bool.not_eq_true', List.isEmpty_eq_false_iff, decide_eq_true_eq,
    not_and_or, Bool.not_eq_false, Nat.not_le, or_assoc, ne_eq]

section
variable {y : StagedLay}

/-- The row lets time pass to the lay instant of a staged epoch, while no lay of another epoch is under way (R151, R155). -/
theorem exec_layInstant (hrec : s.epoch? e = some x)
    (hstaged : s.lay.staged.find? (fun (y : StagedLay) => y.epoch = e) = some y)
    (hcur : ∀ l, s.lay.cur = some l → l.kind ≠ .epoch) :
    exec (.layInstant e) s = s.goes ((s.passTo (frameAt x.layFrame)).atLayInstant x y) := by
  have hfree : s.lay.cur.any (fun l => l.kind = LayKind.epoch) = false := by
    simpa only [Option.any_eq_false, decide_eq_false_iff_not] using hcur
  show execLayInstant e s = _
  simp only [execLayInstant, hrec, hstaged, hfree, Bool.false_eq_true, if_false]
  rfl

/-- A frozen fabric ends the epoch with detail FROZEN (R71). -/
theorem State.atLayInstant_frozen (hfrozen : s.frozen = true) :
    s.atLayInstant x y = s.abortPlain x.num (St.aborted 0x34) := if_pos hfrozen

/-- A lay in the way refuses the epoch with detail LAY_BUSY (R174). -/
theorem State.atLayInstant_busy (hfrozen : s.frozen = false) (hbusy : s.layBusy = true) :
    s.atLayInstant x y = s.layRefuse x (St.aborted 0x207) 3 0x207 := by
  rw [State.atLayInstant, if_neg (Bool.eq_false_iff.mp hfrozen)]
  exact if_pos hbusy

/-- A link that cannot take the lay refuses it with detail NOT_STREAMING (R175). -/
theorem State.atLayInstant_notLinked (hfrozen : s.frozen = false) (hbusy : s.layBusy = false) (hlink : ¬ s.linked) :
    s.atLayInstant x y = s.layRefuse x (St.aborted 0x208) 3 0x208 := by
  rw [State.atLayInstant, if_neg (Bool.eq_false_iff.mp hfrozen)]
  exact (if_neg (Bool.eq_false_iff.mp hbusy)).trans (if_pos (State.not_linked_iff.mpr hlink))

/-- What the instant still decides over a link that can take a lay: whether the lay frame is met,
the COMMIT (R71), and the memories it reads (R81, R82). -/
theorem State.atLayInstant_linked (hfrozen : s.frozen = false) (hbusy : s.layBusy = false) (hlink : s.linked) :
    s.atLayInstant x y =
      if !s.strand.failed.isEmpty || s.onRco || x.passed || x.layFrame < s.strand.sentFrame || x.layFrame < s.frame then
        s.layRefuse x (St.late 0x200) 3 0x200
      else if x.net.any (fun n => !n.commitHeld) then s.abortPlain x.num St.missed
      else if s.slotBad y.slot.val || s.ledger.noLays then s.abortPlain x.num (St.aborted 0x32)
      else s.beginLay x y := by
  rw [State.atLayInstant, if_neg (Bool.eq_false_iff.mp hfrozen)]
  exact (if_neg (Bool.eq_false_iff.mp hbusy)).trans (if_neg (fun h => State.not_linked_iff.mp h hlink))

section
variable (hfrozen : s.frozen = false) (hbusy : s.layBusy = false) (hlink : s.linked)
include hfrozen hbusy hlink

/-- A failed lane, a domain on RCO or a frame past makes the lay late (R155, R277, R423). -/
theorem State.atLayInstant_late (hframe : ¬ s.meetsFrame x) :
    s.atLayInstant x y = s.layRefuse x (St.late 0x200) 3 0x200 :=
  (State.atLayInstant_linked hfrozen hbusy hlink).trans (if_pos (State.not_meetsFrame_iff.mpr hframe))

variable (hframe : s.meetsFrame x)
include hframe

/-- A network epoch whose COMMIT has not come is missed (R71). -/
theorem State.atLayInstant_missed (hnet : x.net.any (fun n => !n.commitHeld) = true) :
    s.atLayInstant x y = s.abortPlain x.num St.missed := by
  rw [State.atLayInstant_linked hfrozen hbusy hlink, if_neg (fun h => State.not_meetsFrame_iff.mp h hframe), if_pos hnet]

/-- Otherwise F0 begins the lay (R155). -/
theorem State.atLayInstant_begins (hnet : x.net.any (fun n => !n.commitHeld) = false)
    (hslot : s.slotBad y.slot.val = false) (hledger : s.ledger.noLays = false) :
    s.atLayInstant x y = s.beginLay x y := by
  rw [State.atLayInstant_linked hfrozen hbusy hlink, if_neg (fun h => State.not_meetsFrame_iff.mp h hframe),
    if_neg (Bool.eq_false_iff.mp hnet), hslot, hledger]
  rfl

end

end

end

/-- Settles O35: each end of the deadline by the epoch's state, and of the lay instant by the first cause that holds. -/
theorem layStarts : Obligations.LayStarts := by
  refine ⟨?_, ?_⟩
  · intro e x n s hrec d
    refine ⟨exec_stageWeave hrec, ?_, ?_, ?_⟩
    · exact fun hst => (exec_stagingDeadline hrec).trans (congrArg s.goes (State.atDeadline_sealed hst))
    · exact fun hst hen hledger hslot =>
        (exec_stagingDeadline hrec).trans (congrArg s.goes (State.atDeadline_late hst hen hledger hslot))
    · exact fun hst hen => (exec_stagingDeadline hrec).trans (congrArg s.goes (State.atDeadline_off hst hen))
  · intro e x y s hrec hstaged hcur d busy linked may answers
    have ends {u : State} (h : d.atLayInstant x y = u) : answers u :=
      (exec_layInstant hrec hstaged hcur).trans (congrArg s.goes h)
    refine ⟨?_, ?_, ?_, ?_, ?_, ?_⟩
    · exact fun hfrozen => ends (State.atLayInstant_frozen hfrozen)
    · exact fun hfrozen hbusy => ends (State.atLayInstant_busy hfrozen hbusy)
    · exact fun hfrozen hbusy hlink => ends (State.atLayInstant_notLinked hfrozen hbusy hlink)
    · exact fun hfrozen hbusy hlink hlate => ends (State.atLayInstant_late hfrozen hbusy hlink hlate)
    · exact fun hfrozen hbusy hlink hframe hnet => ends (State.atLayInstant_missed hfrozen hbusy hlink hframe hnet)
    · exact fun hfrozen hbusy hlink hframe hnet hslot hledger =>
        ends (State.atLayInstant_begins hfrozen hbusy hlink hframe hnet hslot hledger)

section
variable {s : State} {l : Lay}

/-! ### The steps of the lay in progress (R156, R157) -/

section
variable (hcur : s.lay.cur = some l)
include hcur

/-- Frame FS strobes the new codes (R156). -/
theorem exec_layStrobe (hnew : l.strobed = false) :
    exec .layStrobe s = s.goes ((s.passTo (frameAt (l.frame + l.s))).strobe l) := by
  show execLayStrobe s = _
  simp only [execLayStrobe, hcur, hnew, Bool.false_eq_true, if_false]
  rfl

/-- Frame FS + 1 hands the changing cells back (R156). -/
theorem exec_layHandBack (hstrobed : l.strobed = true) (hnew : l.handed = false) :
    exec .layHandBack s = s.goes ((s.passTo (frameAt (l.frame + l.s + 1))).handBack l) := by
  show execLayHandBack s = _
  simp only [execLayHandBack, hcur, hstrobed, hnew, Bool.not_false, Bool.and_self, if_true]
  rfl

/-- Until the timeout there is a next check (R156, R163). -/
theorem exec_settleCheck (hstrobed : l.strobed = true) (hnext : l.m < l.timeout) :
    exec .settleCheck s = s.goes ((s.passTo (frameAt (l.frame + l.s + 2 * (l.m + 1)))).settleCheck l) := by
  show execSettleCheck s = _
  simp only [execSettleCheck, hcur, hstrobed, hnext, decide_true, Bool.and_self, if_true]
  rfl

/-- After each check the connections found settled open in the next frame (R156). -/
theorem exec_unblank (hchecked : 0 < l.m) :
    exec .unblank s = s.goes ((s.passTo (frameAt (l.frame + l.s + (2 * l.m + 1)))).unblank l) := by
  show execUnblank s = _
  simp only [execUnblank, hcur, hchecked, if_true, Nat.add_assoc]
  rfl

/-- A lay that may complete and has come to its M lets the last connections open and completes (R156, R157). -/
theorem exec_layComplete {m : Nat} {l' : Lay} (hmay : l.mayComplete = true) (hlast : l.finalM = some m)
    (hstill : ((s.passTo (frameAt (l.lastFrame m))).unblank l).lay.cur = some l') :
    exec .layComplete s = s.goes (((s.passTo (frameAt (l.lastFrame m))).unblank l).completeLay l' m) := by
  show execLayComplete s = _
  simp only [execLayComplete, hcur, hmay, if_true, State.finishLay, hlast, hstill]
  rfl

end

/-! ### What stands beside a lay (R165, R167, R170, R388) -/

/-- The next check of the connections left blanked (R165). -/
theorem exec_laggingCheck {f : Nat} (hnext : s.lagNext = some f) :
    exec .laggingCheck s = s.goes ((s.passTo (frameAt f)).laggingCheck f) := by
  show execLaggingCheck s = _
  simp only [execLaggingCheck, hnext]
  rfl

/-- Verification no longer keeps an output's shutter closed (R167). -/
def State.unholdOutput (s : State) (o : Nat) : State :=
  { s with lay := { s.lay with vfyClosed := s.lay.vfyClosed.filter (· ≠ o) } }

/-- A shutter that verification closed, and no lay holds, opens unless its connection is still blanked (R165, R167). -/
theorem exec_layReopen {o : BitVec 10} (hclosed : s.lay.vfyClosed.contains o.toNat = true)
    (hfree : s.layHolds o.toNat = false) :
    exec (.layReopen o) s =
      s.goes (if (s.unholdOutput o.toNat).lay.lagging.any (fun g => g.output = o.toNat) then s.unholdOutput o.toNat
        else (s.unholdOutput o.toNat).openShutter (outShut o.toNat)) := by
  show execLayReopen o s = _
  simp only [execLayReopen, State.doLayReopen, hclosed, hfree, Bool.not_false, Bool.and_self, if_true]
  rfl

/-- The note of a write of EN changes no register field. -/
theorem State.noteLayEn_regs (s : State) (was : Bool) : (s.noteLayEn was).regs = s.regs := by
  simp only [State.noteLayEn, apply_ite State.regs, ite_self]

/-- The note of a write of EN changes no memory. -/
theorem State.noteLayEn_mem (s : State) (was : Bool) : (s.noteLayEn was).mem = s.mem := by
  simp only [State.noteLayEn, apply_ite State.mem, ite_self]

/-- EN reads back as written (R170). -/
theorem State.bit_noteLayEn_wrB (hok : s.ok = true) (en was : Bool) :
    ((s.wrB F.LAY_CTRL_EN en).noteLayEn was).bit F.LAY_CTRL_EN = en := by
  rw [State.bit, State.rd_congr (State.noteLayEn_regs _ was)]
  exact State.bit_wrB_self hok rfl en 0 0 0

/-- A restoring lay that may begin begins at its instant (R174, R388). -/
theorem exec_restoringLayStart {r : Recovery} (hwaits : s.lay.recover = some r) (hkind : r.kind = .restoring)
    (hmay : s.mayRecover r = true) :
    exec .restoringLayStart s = s.goes ((s.passTo (frameAt r.at')).beginRecovery r) := by
  show execRestoringLayStart s = _
  simp only [execRestoringLayStart, hwaits, hkind, hmay, decide_true, Bool.and_self, if_true]
  rfl

end

/-- Settles O36: each row where its own condition holds; EN reads back as it was written. -/
theorem layProgress : Obligations.LayProgress := by
  refine ⟨?_, ?_⟩
  · intro l s hcur at'
    refine ⟨exec_layStrobe hcur, exec_layHandBack hcur, exec_settleCheck hcur, exec_unblank hcur, ?_⟩
    exact fun m l' => exec_layComplete hcur
  · intro s hok
    refine ⟨fun f => exec_laggingCheck, fun o => exec_layReopen, ?_, rfl, fun r => exec_restoringLayStart⟩
    exact fun en => ⟨_, rfl, State.bit_noteLayEn_wrB hok en _, State.noteLayEn_mem _ _⟩

end Sys2Proof.Machine
end

section
/-! The drive chain and the looper (06, 07): frames, strobes and rebuilds, the loop period, retiring cores, captures,
injections, EN and auxiliary loops. -/

namespace Sys2Proof.Machine

/-! ### What a raise leaves of the engines (R382) -/

/-- The state with what a raise may touch blanked: the register fields, the fault unit, the sequencers, the
hooks.  Equal states of this form agree on every other part, so one frame serves every engine. -/
def State.besidesFaults (s : State) : State :=
  { s with regs := [], fault := State.reset.fault, seqs := State.reset.seqs, hookArgs := [] }

@[simp] theorem State.besidesFaults_wr (s : State) (f : Fld) (v i j k : Nat) :
    (s.wr f v i j k).besidesFaults = s.besidesFaults := rfl

@[simp] theorem State.besidesFaults_fault (s : State) (x : FaultState) :
    ({ s with fault := x } : State).besidesFaults = s.besidesFaults := rfl

theorem State.besidesFaults_fireHook (s : State) (h : Nat) (arg : W32) :
    (s.fireHook h arg).besidesFaults = s.besidesFaults := by
  rw [State.fireHook]
  split
  · split <;> rfl
  · rfl

theorem State.besidesFaults_faultCycle (s : State) : s.faultCycle.besidesFaults = s.besidesFaults := by
  rw [State.faultCycle]
  split <;> rfl

theorem State.besidesFaults_logCycle (s : State) : s.logCycle.besidesFaults = s.besidesFaults :=
  forEach_frame (g := State.besidesFaults)
    (fun s p => by simp only [State.logSlot, State.wrB, State.besidesFaults_wr]) _ s

theorem State.besidesFaults_faultLog (s : State) (x : FaultEntry) :
    (s.faultLog x).besidesFaults = s.besidesFaults := by
  simp only [State.faultLog, State.wrB, State.inc, State.besidesFaults_wr, State.besidesFaults_fault,
    apply_ite State.besidesFaults, ite_self]

theorem State.besidesFaults_faultFirst (s : State) (x : FaultEntry) :
    (s.faultFirst x).besidesFaults = s.besidesFaults := by
  simp only [State.faultFirst, State.wrB, State.besidesFaults_wr, State.besidesFaults_fault,
    apply_ite State.besidesFaults, ite_self]

theorem State.besidesFaults_firstDetail (s : State) : s.firstDetail.besidesFaults = s.besidesFaults := by
  simp only [State.firstDetail, State.besidesFaults_wr, apply_ite State.besidesFaults, ite_self]

theorem State.besidesFaults_sendMsix (s : State) (vec : Nat) : (s.sendMsix vec).besidesFaults = s.besidesFaults := by
  rw [State.sendMsix]
  split <;> rfl

/-- The reactions of any source but CLKFAIL reach nothing besides the fault unit, the hooks and register fields. -/
theorem State.besidesFaults_faultReact {n : Nat} (hn : n ≠ 0) (s : State) (react : Nat) (detail : W32) :
    (s.faultReact n react detail).besidesFaults = s.besidesFaults := by
  simp only [State.faultReact, if_neg hn, State.wrB, apply_ite State.besidesFaults, State.besidesFaults_wr,
    State.besidesFaults_fault, State.besidesFaults_sendMsix, State.besidesFaults_fireHook, ite_self]

/-- A record of any source but CLKFAIL reaches nothing besides the fault unit, the hooks and register fields. -/
theorem State.besidesFaults_record {n : Nat} (hn : n ≠ 0) (s : State) (detail : W32) (injected realSame : Bool) :
    (s.record n detail injected realSame).besidesFaults = s.besidesFaults := by
  simp only [State.record, State.besidesFaults_faultReact hn, State.besidesFaults_firstDetail,
    State.besidesFaults_faultFirst, State.besidesFaults_logCycle, State.besidesFaults_faultLog,
    apply_ite State.besidesFaults, State.besidesFaults_fault, State.inc, State.wrB, State.besidesFaults_wr,
    State.besidesFaults_faultCycle, ite_self]

/-- A raise of any source but CLKFAIL reaches nothing besides the fault unit, the hooks and register fields. -/
theorem State.besidesFaults_raise {n : Nat} (hn : n ≠ 0) (s : State) (detail : W32) :
    (s.raise n detail).besidesFaults = s.besidesFaults := by
  simp only [State.raise, apply_ite State.besidesFaults, State.besidesFaults_record hn, State.wrB,
    State.besidesFaults_wr, ite_self]

/-- A raise of any source but CLKFAIL leaves the looper's own state. -/
theorem State.raise_loop {n : Nat} (hn : n ≠ 0) (s : State) (detail : W32) : (s.raise n detail).loop = s.loop := by
  have h := congrArg State.loop (State.besidesFaults_raise hn s detail)
  exact h

/-! ### Cores that are to retire (R179) -/

/-- What an element of a loop brings about holds after the loop, where every step keeps it. -/
theorem forEach_of_mem {β : Type} {P : State → Prop} {f : State → β → State} {b : β} {l : List β} (hb : b ∈ l)
    (hstep : ∀ s, P (f s b)) (hkeep : ∀ s c, P s → P (f s c)) (s : State) : P (forEach l f s) := by
  induction l generalizing s with
  | nil => exact absurd hb List.not_mem_nil
  | cons c l ih =>
    rcases List.mem_cons.mp hb with rfl | hl
    · exact List.foldlRecOn l f (hstep s) (fun t ht c _ => hkeep t c ht)
    · exact ih hl (f s c)

/-- An addition to a list used as a set keeps its members. -/
theorem mem_sadd {l : List Nat} {n : Nat} (h : n ∈ l) (k : Nat) : n ∈ sadd l k := by
  rw [sadd]
  split
  · exact h
  · exact List.mem_append_left [k] h

/-- A core that is marked is to retire. -/
theorem State.mem_retire_markRetire_self {n : Nat} (hn : n ≤ 17) (s : State) : n ∈ (s.markRetire n).loop.retire := by
  rw [State.markRetire, if_pos hn]
  exact mem_sadd_self _ _

/-- Marking a core keeps those marked before. -/
theorem State.mem_retire_markRetire {n : Nat} {s : State} (h : n ∈ s.loop.retire) (m : Nat) :
    n ∈ (s.markRetire m).loop.retire := by
  rw [State.markRetire]
  split
  · exact mem_sadd h m
  · exact h

/-- What a core's failed known-answer test does: LOOPER_CORE, and the core is to retire. -/
def State.coreFails (s : State) (n : Nat) : State := (s.raise 24 (BitVec.ofNat 32 n)).markRetire n

/-- A failed test keeps the cores marked before. -/
theorem State.mem_retire_coreFails {n : Nat} {s : State} (h : n ∈ s.loop.retire) (m : Nat) :
    n ∈ (s.coreFails m).loop.retire :=
  State.mem_retire_markRetire (by rwa [State.raise_loop (by decide)]) m

/-- The known-answer test fails the active cores among those named (R179). -/
theorem exec_knownAnswerTest (failed : BitVec 18) (s : State) :
    exec (.knownAnswerTest failed) s =
      s.goes (forEach (maskBits (failed.toNat &&& s.rd F.LOOP_CORE_ACTIVE) 18) State.coreFails s) := rfl

/-- Every active core among the failed ones is to retire. -/
theorem State.mem_retire_coresFail {failed : BitVec 18} {active n : Nat} (hn : n < 18)
    (hfailed : failed.getLsbD n = true) (hactive : active.testBit n = true) (s : State) :
    n ∈ (forEach (maskBits (failed.toNat &&& active) 18) State.coreFails s).loop.retire := by
  have hmem : n ∈ maskBits (failed.toNat &&& active) 18 :=
    mem_maskBits.mpr ⟨hn, by rw [Nat.testBit_and, hactive, Bool.and_true]; exact hfailed⟩
  refine forEach_of_mem (P := fun s => n ∈ s.loop.retire) hmem ?_ ?_ s
  · exact fun s => State.mem_retire_markRetire_self (Nat.le_of_lt_succ hn) _
  · exact fun s m h => State.mem_retire_coreFails h m

/-- Marking a core changes no register field. -/
theorem State.markRetire_regs (s : State) (n : Nat) : (s.markRetire n).regs = s.regs := by
  simp only [State.markRetire, apply_ite State.regs, ite_self]

/-- Marking a core changes no memory. -/
theorem State.markRetire_mem (s : State) (n : Nat) : (s.markRetire n).mem = s.mem := by
  simp only [State.markRetire, apply_ite State.mem, ite_self]

section
variable {s : State}

/-! ### Drive frames and records (R216, R227, R267) -/

/-- The next strand frame is sent while the link carries headers (R267). -/
theorem exec_outboundFrame (hlow : 2 ≤ s.rd F.STRAND_STATUS_STATE) (hhigh : s.rd F.STRAND_STATUS_STATE ≤ 5)
    (hlanes : s.lanesRun = true) :
    exec .outboundFrame s = s.goes s.sendStrandFrame.inboundHeld.fenceAfterFrame := by
  show execOutboundFrame s = _
  simp only [execOutboundFrame, hlow, hhigh, hlanes, decide_true, Bool.and_self, if_true]
  rfl

/-- A failed drive record is rebuilt once its cell awaits no echo preset (R227). -/
theorem exec_driveRecordRebuild {c : Fin 45056} (hbad : s.drive.bad.contains c.val = true)
    (hecho : s.loop.echoWait.contains (c.val / 2) = false) :
    exec (.driveRecordRebuild c) s = s.goes (s.driveRebuild c.val) := by
  show execDriveRecordRebuild c s = _
  simp only [execDriveRecordRebuild, hbad, hecho, Bool.not_false, Bool.and_self, if_true]
  rfl

/-! ### Gradient blocks, captures and injections (R183, R203, R205) -/

/-- The period that completes a gradient block is demodulated (R183). -/
theorem exec_gradientBlock (hblock : s.rd F.LOOP_PERIOD_P % 64 = 0) (hframes : 0 < s.strand.count) :
    exec .gradientBlock s = s.goes (s.demodulate (s.rd F.LOOP_PERIOD_P)) := by
  show execGradientBlock s = _
  simp only [execGradientBlock, hblock, hframes, decide_true, Bool.and_self, if_true]
  rfl

/-- A running capture ends at 4,096 samples (R205). -/
theorem exec_captureDone {ch : Fin 48} (hactive : s.bit F.LOOP_CAP_STATUS_ACTIVE ch.val = true)
    (hfull : 4096 ≤ s.rd F.LOOP_CAP_STATUS_COUNT ch.val) : exec (.captureDone ch) s = s.goes (s.capEnd ch.val) := by
  show execCaptureDone ch s = _
  simp only [execCaptureDone, hactive, hfull, decide_true, Bool.and_self, if_true]
  rfl

/-- An injection that has reached its DURATION is cancelled (R203). -/
theorem exec_injectionEnd {n : Fin 21568} {i : Inj} (hinj : s.injOf n.val = some i) (hended : i.value.2.2 = true) :
    exec (.injectionEnd n) s = s.goes (s.setInj n.val none) := by
  show execInjectionEnd n s = _
  simp only [execInjectionEnd, hinj, hended, if_true]
  rfl

/-! ### Register writes of the LOOP domain (R192, R199, R428) -/

/-- EN cleared is a write of the field alone (R192). -/
theorem State.doLoopEnable_false (s : State) : s.doLoopEnable false = s.wrB F.LOOP_CTRL_EN false := rfl

/-- The cells in service are read from memory and the fabric, not from register fields. -/
theorem State.serviceCells_wrB (s : State) (f : Fld) (b : Bool) (i j k : Nat) :
    (s.wrB f b i j k).serviceCells = s.serviceCells := rfl

/-- EN set presets the loops in service, then the enabled auxiliary loops (R192). -/
theorem State.doLoopEnable_true (hoff : s.bit F.LOOP_CTRL_EN = false) :
    s.doLoopEnable true =
      let u := forEach s.serviceCells (fun s c => s.presetCell c (s.cw c 0x08) (s.cw c 0x10)) (s.wrB F.LOOP_CTRL_EN true)
      forEach ((List.range 64).filter (fun a => u.bit F.LOOP_AUX_CFG_EN a)) (fun s a => s.presetAux a (s.auxS a 1)) u := by
  simp only [State.doLoopEnable, hoff, Bool.not_false, Bool.and_self, if_true, State.serviceCells_wrB]

/-- An auxiliary loop that is enabled is preset with output 0.0 (R191, R199). -/
theorem State.doAuxLoopEnable_of_off {a : Fin 64} (hoff : s.bit F.LOOP_AUX_CFG_EN a.val = false) :
    s.doAuxLoopEnable a = (s.wrB F.LOOP_AUX_CFG_EN true a.val).presetAux a.val 0 :=
  if_neg (Bool.eq_false_iff.mp hoff)

section
variable (hopen : s.domOpen 2 = true)
include hopen

theorem exec_loopCoreRetire (c : BitVec 5) : exec (.loopCoreRetire c) s = s.goes (s.markRetire c.toNat) :=
  congrArg s.goes (State.ifOpen_of_open hopen _)

theorem exec_loopEnable (en : Bool) : exec (.loopEnable en) s = s.goes (s.doLoopEnable en) :=
  congrArg s.goes (State.ifOpen_of_open hopen _)

theorem exec_loopCapStop (m : BitVec 48) : exec (.loopCapStop m) s = s.goes (s.doLoopCapStop m) :=
  congrArg s.goes (State.ifOpen_of_open hopen _)

theorem exec_auxLoopEnable (a : Fin 64) : exec (.auxLoopEnable a) s = s.goes (s.doAuxLoopEnable a) :=
  congrArg s.goes (State.ifOpen_of_open hopen _)

end

end

/-- Settles O37: each row where its own condition holds; failed cores by what a raise leaves of the looper. -/
theorem driveAndLooper : Obligations.DriveAndLooper := by
  refine ⟨?_, ?_⟩
  · intro s
    exact ⟨exec_outboundFrame, fun _ => rfl, fun c => exec_driveRecordRebuild⟩
  · intro s hok
    refine ⟨rfl, exec_gradientBlock, ?_, ?_, ?_, ?_, ?_, fun ch => exec_captureDone, fun n i => exec_injectionEnd, ?_⟩
    · intro m
      exact ⟨_, exec_knownAnswerTest m s, fun n hn hfailed hactive => State.mem_retire_coresFail hn hfailed hactive s⟩
    · intro c hopen hc
      exact ⟨_, exec_loopCoreRetire hopen c, State.mem_retire_markRetire_self hc s, State.markRetire_regs s _,
        State.markRetire_mem s _⟩
    · intro hopen
      exact ⟨_, exec_loopEnable hopen false, State.bit_wrB_self hok rfl false 0 0 0, rfl⟩
    · intro hopen hoff
      exact (exec_loopEnable hopen true).trans (congrArg s.goes (State.doLoopEnable_true hoff))
    · intro m hopen
      exact exec_loopCapStop hopen m
    · intro a hopen hoff
      exact (exec_auxLoopEnable hopen a).trans (congrArg s.goes (State.doAuxLoopEnable_of_off hoff))

end Sys2Proof.Machine
end

section
/-! Path verification (08): how a request is taken or refused, and the end of a pass. -/

namespace Sys2Proof.Machine

section
variable {s : State}

/-- A request that is taken leaves what `requestPass` makes of the state (R241). -/
theorem exec_senseVfyReq_taken (htaken : s.requestPass.2 = true) : exec .senseVfyReq s = s.goes s.requestPass.1 :=
  congrArg s.goes (if_pos htaken)

/-- A request that is refused writes REQ_REF alone (R241). -/
theorem exec_senseVfyReq_refused (hrefused : s.requestPass.2 = false) :
    exec .senseVfyReq s = s.goes (s.wrB F.SENSE_VFY_STATUS_REQ_REF true) :=
  congrArg s.goes (if_neg (Bool.eq_false_iff.mp hrefused))

/-- A pass that has taken its 1,024 chips posts its result under the cartridge's descriptor (R239, R242). -/
theorem exec_verifyPassDone {v : VfyPass} {d : Desc} (hpass : s.sense.pass = some v) (hdesc : s.strand.desc = some d)
    (hfull : 1024 ≤ v.chips) : exec .verifyPassDone s = s.goes (s.postPass v d) := by
  show execVerifyPassDone s = _
  simp only [execVerifyPassDone, hpass, hdesc, hfull, if_true]
  rfl

end

/-- Settles O38: the request by whether one waits already, its refusal read back from the field written; the pass at its
full length. -/
theorem verification : Obligations.Verification := by
  intro s hok
  refine ⟨exec_senseVfyReq_taken, ?_, fun v d => exec_verifyPassDone⟩
  intro hrefused
  exact ⟨_, exec_senseVfyReq_refused hrefused, State.bit_wrB_self hok rfl true 0 0 0, rfl, rfl⟩

end Sys2Proof.Machine
end

section
/-! Calibration (09): requests and their outcomes, the start and the end of runs, blends, passive points, area reloads. -/

namespace Sys2Proof.Machine

section
variable {s : State}

/-! ### Requests (R260, R261) -/

/-- The object of a request waits in the queue or is under a run: the first row of R261. -/
def State.calKnown (s : State) (obj : Nat) (sense : Bool) : Bool :=
  s.cal.queue.any (fun r => r.object = obj && r.sense = sense) ||
    s.cal.runs.any (fun r => r.req.object = obj && r.req.sense = sense)

/-- The outcome of a request reads back as it was written (CAL_REQ_RESULT). -/
theorem State.rd_calOutcome (hok : s.ok = true) {n : Nat} (hn : n < 32) :
    (s.wr F.CAL_REQ_RESULT_OUTCOME n).rd F.CAL_REQ_RESULT_OUTCOME = n := by
  rw [State.rd_wr_self hok, show F.CAL_REQ_RESULT_OUTCOME.width = 5 from rfl]
  omega

section
variable {obj : Nat} {sense : Bool}

/-- DUPLICATE: of an object already queued or running, nothing is queued. -/
theorem State.calSubmit_known (hknown : s.calKnown obj sense = true) :
    s.calSubmit obj sense = s.wr F.CAL_REQ_RESULT_OUTCOME 13 := if_pos hknown

variable (hnew : s.calKnown obj sense = false)
include hnew

/-- QUEUE_FULL: at 256 requests. -/
theorem State.calSubmit_full (hfull : 256 ≤ s.cal.queue.length) :
    s.calSubmit obj sense = s.wr F.CAL_REQ_RESULT_OUTCOME 14 :=
  (if_neg (Bool.eq_false_iff.mp hnew)).trans (if_pos hfull)

variable (hroom : s.cal.queue.length < 256)
include hroom

/-- DISABLED: EN is 0. -/
theorem State.calSubmit_disabled (hoff : s.bit F.CAL_CTRL_EN = false) :
    s.calSubmit obj sense = s.wr F.CAL_REQ_RESULT_OUTCOME 16 :=
  (if_neg (Bool.eq_false_iff.mp hnew)).trans
    ((if_neg (Nat.not_le_of_lt hroom)).trans (if_pos (by rw [hoff]; rfl)))

/-- A request that is taken joins the queue's end. -/
theorem State.calSubmit_taken (hon : s.bit F.CAL_CTRL_EN = true) :
    s.calSubmit obj sense = { s.wr F.CAL_REQ_RESULT_OUTCOME 1 with
      cal := { s.cal with queue := s.cal.queue ++ [CalReq.mk obj sense 0 none false false] } } :=
  (if_neg (Bool.eq_false_iff.mp hnew)).trans
    ((if_neg (Nat.not_le_of_lt hroom)).trans (if_neg (by rw [hon]; decide)))

end

/-! ### Runs (R252 to R256, R259) -/

/-- The request at the head of the queue begins its run where EN or an attempt in progress lets it, its check names no
outcome and nothing holds it (R252, R260, R261). -/
theorem State.calStart_begins {q : CalReq} {rest : List CalReq} (hqueue : s.cal.queue = q :: rest)
    (hcart : s.bit F.THERM_STATUS_CART_VALID = true)
    (hmay : s.bit F.CAL_CTRL_EN = true ∨ q.first.isSome = true ∨ q.attempts ≠ 0) (hcheck : s.calCheck q = none)
    (hwaits : s.calWaits q = false) (hhold : s.holdOn = false) (hsafe : s.safeOn = false) :
    s.calStart = ({ s with cal := { s.cal with queue := rest } } : State).calBegin { q with seen := true } := by
  have hgo : (!s.bit F.CAL_CTRL_EN && q.first.isNone && decide (q.attempts = 0)) = false := by
    rcases hmay with hon | hfirst | htried
    · rw [hon]; rfl
    · rw [Option.isNone_eq_false_iff.mpr hfirst, Bool.and_false, Bool.false_and]
    · rw [decide_eq_false htried, Bool.and_false]
  simp [State.calStart, hqueue, hgo, hcart, hcheck, hwaits, hhold, hsafe]

/-- A channel's entry to the rest code leaves the calibration engine. -/
theorem State.toRest_cal (s : State) (ch : Nat) : (s.toRest ch).cal = s.cal := by
  simp only [State.toRest, State.setDCtrl, State.setDI16, State.stBits, State.st_cal]

/-- Resting a cell's arms leaves the calibration engine. -/
theorem State.restArms_cal (s : State) (c : Nat) : (s.restArms c).cal = s.cal := by
  rw [State.restArms, State.toRest_cal, State.toRest_cal]

/-- A cell run that has taken its 127 dwells leaves the engine and is judged; a PARK cell's arms rest first
(R254 to R256). -/
theorem State.calRunEnd_judges {c : Nat} {r : CalRun} (hrun : s.runOf c false = some r) (hdwell : 127 < r.dwell) :
    s.calRunEnd c =
      let t := if s.inService c then s else s.restArms c
      ({ t with cal := { t.cal with
        runs := s.cal.runs.filter (fun x => !(x.req.object = c && !x.req.sense)) } } : State).calJudge r.req
        (s.calFitRun r) := by
  have hcal : (if s.inService c then s else s.restArms c).cal = s.cal := by
    rw [apply_ite State.cal, State.restArms_cal, ite_self]
  simp only [State.calRunEnd, hrun, if_neg (Nat.not_le_of_lt hdwell), hcal]

/-! ### Blends (R258) -/

/-- A blend that takes a free slot: the waiting one marked as running from the record's values. -/
theorem State.blendStart_takes {b : Blend} (hslot : (s.cal.blends.filter (·.running)).length < 16)
    (hwaits : s.cal.blends.find? (fun b => !b.running) = some b) :
    s.blendStart = { s with cal := { s.cal with blends := s.cal.blends.map (fun x =>
      if x.cell = b.cell && x.set = b.set then
        { x with running := true, start := (List.range 6).map (fun k => s.ldW (setAddr b.cell b.set + 4 * k)) }
      else x) } } := by
  simp only [State.blendStart, if_neg (Nat.not_le_of_lt hslot), hwaits]

/-- The blend that took the slot runs. -/
theorem State.blendStart_running {b : Blend} (hslot : (s.cal.blends.filter (·.running)).length < 16)
    (hwaits : s.cal.blends.find? (fun b => !b.running) = some b) :
    ∃ x ∈ s.blendStart.cal.blends, x.cell = b.cell ∧ x.set = b.set ∧ x.running = true := by
  rw [State.blendStart_takes hslot hwaits]
  refine ⟨_, List.mem_map_of_mem (List.mem_of_find?_eq_some hwaits), ?_⟩
  simp

/-! ### Passive points (R257) -/

/-- The examination reaches every cell in service where it is enabled and t_cart is valid. -/
theorem exec_passiveObservation (hon : s.bit F.CAL_CTRL_PASSIVE_EN = true)
    (hcart : s.bit F.THERM_STATUS_CART_VALID = true) :
    exec .passiveObservation s = s.goes (forEach s.serviceCells State.passiveCell s) :=
  congrArg s.goes (if_pos (by rw [hon, hcart]; rfl))

/-- A pending point lapses 60 s after its first observation. -/
theorem exec_passiveExpire {c : Fin 21504} (hpend : s.cCal c.val 12 1 = 1) :
    exec (.passiveExpire c) s = s.goes
      ((s.passTo ((s.tb0Sec.toNat - s.passiveAge c.val + 60) * 1000000000 * nsUnit)).passiveClear c.val) :=
  congrArg s.goes (if_pos hpend)

/-! ### Area reloads (R264) -/

/-- A cell's area loaded from its record with RECAL_DUE set, the cell no longer waiting. -/
theorem exec_calAreaReload {c : Fin 21504} (hwaits : s.cal.reload.contains c.val = true) (l : List W32) :
    exec (.calAreaReload c l) s = s.goes { (s.loadCal c.val l).setCCal c.val 6 1 1 with
      cal := { s.cal with reload := s.cal.reload.filter (· ≠ c.val) } } :=
  congrArg s.goes (if_pos hwaits)

end

/-- Settles O39: a request by the first row of R261 that applies; each row of the engine where its own condition holds. -/
theorem calibration : Obligations.Calibration := by
  refine ⟨?_, ?_⟩
  · intro o sense s hok
    refine ⟨?_, ?_, ?_, ?_⟩
    · intro hknown
      exact ⟨_, congrArg s.goes (State.calSubmit_known hknown), State.rd_calOutcome hok (by decide), rfl, rfl, rfl⟩
    · intro hnew hfull
      exact ⟨_, congrArg s.goes (State.calSubmit_full hnew hfull), State.rd_calOutcome hok (by decide), rfl, rfl, rfl⟩
    · intro hnew hroom hoff
      exact ⟨_, congrArg s.goes (State.calSubmit_disabled hnew hroom hoff), State.rd_calOutcome hok (by decide),
        rfl, rfl, rfl⟩
    · intro hnew hroom hon
      exact ⟨_, congrArg s.goes (State.calSubmit_taken hnew hroom hon), State.rd_calOutcome hok (by decide),
        rfl, rfl, rfl⟩
  · intro s o r hok
    refine ⟨?_, fun _ => rfl, ?_, fun _ => rfl, fun _ _ => rfl, ?_, exec_passiveObservation,
      fun c => exec_passiveExpire, ?_, rfl, ?_⟩
    · intro q rest hqueue hcart hmay hcheck hwaits hhold hsafe
      exact congrArg s.goes (State.calStart_begins hqueue hcart hmay hcheck hwaits hhold hsafe)
    · intro hrun hdwell
      exact congrArg s.goes (State.calRunEnd_judges hrun hdwell)
    · intro b hslot hwaits
      have hstart := State.blendStart_takes hslot hwaits
      exact ⟨s.blendStart, rfl, by rw [hstart], by rw [hstart], State.blendStart_running hslot hwaits⟩
    · exact fun en => ⟨_, rfl, State.bit_wrB_self hok rfl en 0 0 0, rfl⟩
    · intro c l hwaits
      exact ⟨_, exec_calAreaReload hwaits l, rfl, rfl⟩

end Sys2Proof.Machine
end

section
/-! The strand link comes up (10): START, training, alignment with its challenge, identification; the commands of the
identity memory and the powered hour. -/

namespace Sys2Proof.Machine

/-! ### Loops that write fields -/

/-- A loop over indices that writes one bit of each: the bits below the loop's end read back as written. -/
theorem bit_forEach_range {s : State} {f : Fld} {b : Nat → Bool} (hok : s.ok = true) (hw : f.width = 1)
    (hkey : ∀ n m, n ≠ m → f.key n 0 0 ≠ f.key m 0 0) (m : Nat) :
    (forEach (List.range m) (fun s n => s.wrB f (b n) n) s).ok = true ∧
      ∀ n, n < m → (forEach (List.range m) (fun s n => s.wrB f (b n) n) s).bit f n = b n := by
  induction m with
  | zero => exact ⟨hok, fun n hn => absurd hn (Nat.not_lt_zero n)⟩
  | succ m ih =>
    obtain ⟨hokm, hbits⟩ := ih
    have hlast : forEach (List.range (m + 1)) (fun s n => s.wrB f (b n) n) s =
        (forEach (List.range m) (fun s n => s.wrB f (b n) n) s).wrB f (b m) m := by
      rw [forEach, List.range_succ, List.foldl_append]
      rfl
    rw [hlast]
    refine ⟨State.wr_keeps_ok hokm _ _ _ _ _, fun n hn => ?_⟩
    by_cases hnm : n = m
    · subst hnm
      exact State.bit_wrB_self hokm hw (b n) n 0 0
    · exact (State.bit_wr_ne hokm (hkey n m hnm)).trans (hbits n (by omega))

/-- A loop that writes fields at other places than the one read leaves it as it was. -/
theorem rd_forEach_wr_ne {β : Type} {s : State} {f g : Fld} {v i : β → Nat} (hok : s.ok = true)
    (hkey : ∀ c, g.key 0 0 0 ≠ f.key (i c) 0 0) (l : List β) :
    (forEach l (fun s c => s.wr f (v c) (i c)) s).rd g = s.rd g :=
  (List.foldlRecOn (motive := fun t : State => t.ok = true ∧ t.rd g = s.rd g) l _ ⟨hok, rfl⟩
    (fun _ ht c _ => ⟨State.wr_keeps_ok ht.1 _ _ _ _ _, (State.rd_wr_ne ht.1 (hkey c)).trans ht.2⟩)).2

/-! ### What the lanes' status and HEADER leave alone (R276, R355) -/

theorem State.wrB_mem (s : State) (f : Fld) (b : Bool) (i j k : Nat) : (s.wrB f b i j k).mem = s.mem := rfl

theorem State.laneStatus_mem (s : State) : s.laneStatus.mem = s.mem := by
  simp only [State.laneStatus]
  split <;> rfl

/-- A field besides SPARING, SPARES and the level of STRAND_NO_SPARE reads the same after the lanes' status (R276). -/
theorem State.rd_laneStatus {s : State} (hok : s.ok = true) {f : Fld} {i j k : Nat}
    (hsparing : f.key i j k ≠ F.STRAND_STATUS_SPARING.key 0 0 0) (hspares : f.key i j k ≠ F.STRAND_STATUS_SPARES.key 0 0 0)
    (hlevel : f.key i j k ≠ F.FAULT_SRC_STATUS_LEVEL.key 43 0 0) : s.laneStatus.rd f i j k = s.rd f i j k := by
  have hshown (v : Nat) : ((s.wrB F.STRAND_STATUS_SPARING (!s.strand.failed.isEmpty)).wr F.STRAND_STATUS_SPARES v).rd f i j k =
      s.rd f i j k :=
    (State.rd_wr_ne (State.wr_keeps_ok hok _ _ _ _ _) hspares).trans (State.rd_wr_ne hok hsparing)
  simp only [State.laneStatus]
  split
  · exact (State.rd_wr_ne (State.wr_keeps_ok (State.wr_keeps_ok hok _ _ _ _ _) _ _ _ _ _) hlevel).trans (hshown _)
  · exact hshown _

theorem State.ckptSend_mem (s : State) (sect : CkptSection) (offset : Nat) (data : List W32) :
    (s.ckptSend sect offset data).mem = s.mem := by
  simp only [State.ckptSend]
  split <;> rfl

theorem State.laneCoeffs_mem (s : State) : s.laneCoeffs.mem = s.mem := State.ckptSend_mem _ _ _ _

/-- A record sent writes no field but the sequence number sent (R356). -/
theorem State.rd_ckptSend {s : State} (hok : s.ok = true) {f : Fld} {i j k : Nat}
    (hseq : f.key i j k ≠ F.REDUND_CKPT_SEQ.key 0 0 0) (sect : CkptSection) (offset : Nat) (data : List W32) :
    (s.ckptSend sect offset data).rd f i j k = s.rd f i j k := by
  simp only [State.ckptSend]
  split
  · exact State.rd_wr_ne (by exact hok) hseq
  · rfl

theorem State.rd_ckptHeader {s : State} (hok : s.ok = true) {f : Fld} {i j k : Nat}
    (hseq : f.key i j k ≠ F.REDUND_CKPT_SEQ.key 0 0 0) : s.ckptHeader.rd f i j k = s.rd f i j k :=
  State.rd_ckptSend (s := s.sectWritten .header) hok hseq _ _ _

/-- The coefficients of a training go to HEADER, which writes no field but the sequence number sent (R265, R355). -/
theorem State.rd_laneCoeffs {s : State} (hok : s.ok = true) {f : Fld} {i j k : Nat}
    (hseq : f.key i j k ≠ F.REDUND_CKPT_SEQ.key 0 0 0) : s.laneCoeffs.rd f i j k = s.rd f i j k :=
  State.rd_ckptHeader (by exact hok) hseq

section
variable {s : State}

/-! ### START (R287, R424, R433, R446) -/

/-- A start may not act after a failed start-up, in DEEP, or while LANE has no clock. -/
theorem State.mayStart_eq_false
    (hwhy : s.bit F.SYS_STATUS_BOOT_FAIL = true ∨ s.rd F.PWR_STATUS_STATE = 3 ∨ s.laneClock = false) :
    s.mayStart = false := by
  rcases hwhy with hfail | hdeep | hclock
  · simp [State.mayStart, hfail]
  · simp [State.mayStart, hdeep]
  · simp [State.mayStart, hclock]

theorem exec_strandStart (hopen : s.domOpen 8 = true) (hmay : s.mayStart = true) :
    exec .strandStart s = s.goes s.startLink.clampInc :=
  congrArg s.goes ((State.ifOpen_of_open hopen _).trans (if_pos hmay))

theorem exec_strandStart_of_not_may (hmay : s.mayStart = false) : exec .strandStart s = s.goes s := by
  have hstart : s.doStrandStart = s := if_neg (Bool.eq_false_iff.mp hmay)
  refine congrArg s.goes ?_
  rw [hstart, State.ifOpen, ite_self]

/-! ### Training (R273, R287) -/

/-- Every lane's lock as the training left it, the link in ALIGN. -/
def State.lockLanes (s : State) (locked : BitVec 96) : State :=
  forEach (List.range 96) (fun s n => s.wrB F.STRAND_LANE_LOCK (locked.getLsbD n) n) (s.wr F.STRAND_STATUS_STATE 2)

theorem State.lockLanes_ok (hok : s.ok = true) (locked : BitVec 96) : (s.lockLanes locked).ok = true :=
  forEach_ok (State.wr_keeps_ok hok _ _ _ _ _) (fun _ _ ht => State.wr_keeps_ok ht _ _ _ _ _)

theorem State.lockLanes_mem (s : State) (locked : BitVec 96) : (s.lockLanes locked).mem = s.mem := by
  rw [State.lockLanes, forEach_frame (g := State.mem) (fun t n => t.wrB_mem _ _ n 0 0), State.wr_mem]

/-- The LOCK bits of two lanes lie 8 bytes apart for each lane between them. -/
theorem F.laneLock_key_ne (n m : Nat) (h : n ≠ m) : F.STRAND_LANE_LOCK.key n 0 0 ≠ F.STRAND_LANE_LOCK.key m 0 0 := by
  simp only [Fld.key, F.STRAND_LANE_LOCK]
  omega

theorem F.linkState_key_ne_laneLock (n : Nat) : F.STRAND_STATUS_STATE.key 0 0 0 ≠ F.STRAND_LANE_LOCK.key n 0 0 := by
  simp only [Fld.key, F.STRAND_STATUS_STATE, F.STRAND_LANE_LOCK]
  omega

theorem State.bit_lockLanes (hok : s.ok = true) (locked : BitVec 96) {n : Nat} (hn : n < 96) :
    (s.lockLanes locked).bit F.STRAND_LANE_LOCK n = locked.getLsbD n :=
  (bit_forEach_range (State.wr_keeps_ok hok _ _ _ _ _) rfl F.laneLock_key_ne 96).2 n hn

theorem State.rd_state_lockLanes (hok : s.ok = true) (locked : BitVec 96) :
    (s.lockLanes locked).rd F.STRAND_STATUS_STATE = 2 :=
  (rd_forEach_wr_ne (State.wr_keeps_ok hok _ _ _ _ _) F.linkState_key_ne_laneLock _).trans (State.rd_wr_self hok _ _ _ _ _)

/-- The new coefficients and the status of the lanes leave the link's STATE. -/
theorem State.rd_state_laneCoeffs_laneStatus (hok : s.ok = true) :
    s.laneCoeffs.laneStatus.rd F.STRAND_STATUS_STATE = s.rd F.STRAND_STATUS_STATE := by
  have hcoeffs := ok_of_good (State.laneCoeffs_good (good_self hok))
  rw [State.rd_laneStatus hcoeffs (by decide) (by decide) (by decide), State.rd_laneCoeffs hok (by decide)]

/-- The new coefficients and the status of the lanes leave each lane's LOCK. -/
theorem State.bit_lock_laneCoeffs_laneStatus (hok : s.ok = true) (n : Nat) :
    s.laneCoeffs.laneStatus.bit F.STRAND_LANE_LOCK n = s.bit F.STRAND_LANE_LOCK n := by
  have hcoeffs := ok_of_good (State.laneCoeffs_good (good_self hok))
  rw [State.bit, State.bit, State.rd_laneStatus hcoeffs, State.rd_laneCoeffs hok] <;>
    · simp only [Fld.key, F.STRAND_LANE_LOCK, F.STRAND_STATUS_SPARING, F.STRAND_STATUS_SPARES,
        F.FAULT_SRC_STATUS_LEVEL, F.REDUND_CKPT_SEQ]
      omega

section
variable (hst : s.rd F.STRAND_STATUS_STATE = 1) (hrun : s.lanesRun = true)
include hst hrun

/-- Training ends by whether any lane locked. -/
theorem exec_linkTrained_eq (locked : BitVec 96) :
    exec (.linkTrained locked) s = s.goes (if locked = 0 then s.wr F.STRAND_STATUS_STATE 6 else
      (forEach ((List.range 96).filter (fun n => !locked.getLsbD n)) State.failLane
        (s.lockLanes locked).laneCoeffs).laneStatus) :=
  congrArg s.goes (if_neg (by simp [hst, hrun]))

/-- The lanes that did not lock fail. -/
theorem exec_linkTrained {locked : BitVec 96} (hlocked : locked ≠ 0) :
    exec (.linkTrained locked) s = s.goes (forEach ((List.range 96).filter (fun n => !locked.getLsbD n)) State.failLane
      (s.lockLanes locked).laneCoeffs).laneStatus :=
  (exec_linkTrained_eq hst hrun locked).trans (congrArg s.goes (if_neg hlocked))

/-- No locked lane: the link fails (log entry 34). -/
theorem exec_linkTrained_zero : exec (.linkTrained 0) s = s.goes (s.wr F.STRAND_STATUS_STATE 6) :=
  (exec_linkTrained_eq hst hrun 0).trans (congrArg s.goes (if_pos rfl))

/-- Every lane locked: none fails. -/
theorem exec_linkTrained_allOnes : exec (.linkTrained (BitVec.allOnes 96)) s =
    s.goes (s.lockLanes (BitVec.allOnes 96)).laneCoeffs.laneStatus := by
  have hnone : (List.range 96).filter (fun n => !(BitVec.allOnes 96).getLsbD n) = [] := by decide
  rw [exec_linkTrained hst hrun (by decide), hnone, forEach, List.foldl_nil]

end

/-! ### Alignment and the challenge (R270, R284, R287) -/

/-- Every locked lane in the window, with the advances that ALIGN is still to give. -/
def State.alignLanes (s : State) (adv : List (Nat × BitVec 8)) : State :=
  forEach (adv.filter (fun p => decide (p.1 < 96))) (fun s p => s.alignTo p.1 p.2)
    (forEach ((List.range 96).filter (fun n => s.bit F.STRAND_LANE_LOCK n)) (fun s n => s.wrB F.STRAND_LANE_ALIGNED true n) s)

theorem State.alignLanes_ok (hok : s.ok = true) (adv : List (Nat × BitVec 8)) : (s.alignLanes adv).ok = true :=
  forEach_ok (forEach_ok hok (fun _ _ ht => State.wr_keeps_ok ht _ _ _ _ _))
    (fun _ p ht => ok_of_good (State.alignTo_good p.1 p.2 (good_self ht)))

/-- What no write of a field and no management command changes, alignment leaves. -/
theorem State.alignLanes_frame {α : Type} {g : State → α} (hwr : ∀ s f v i, g (State.wr s f v i) = g s)
    (hpush : ∀ s c, g (State.mgmtPush s c) = g s) (adv : List (Nat × BitVec 8)) : g (s.alignLanes adv) = g s := by
  refine (forEach_frame (fun t p => ?_) _ _).trans (forEach_frame (fun t n => hwr t _ _ n) _ _)
  simp only [State.alignTo]
  split
  · rfl
  · exact (hwr _ _ _ _).trans (hpush _ _)

/-- The challenge draws eight words of entropy; all else it changes is the strand's own state. -/
theorem State.challenge_frame {α : Type} {g : State → α} (hstrand : ∀ s x, g { s with strand := x } = g s) (s : State) :
    g s.challenge = g { s with fresh := s.fresh + 8 } := by
  have hpush (t : State) (c : MgmtCmd) : g (t.mgmtPush c) = g t := hstrand t _
  simp only [State.challenge]
  rw [forEach_frame (g := g) (fun t _ => hpush t _), forEach_frame (g := g) (fun t _ => hpush t _)]
  exact hstrand { s with fresh := s.fresh + 8 } _

theorem exec_linkAligned (hst : s.rd F.STRAND_STATUS_STATE = 2) (adv : List (Nat × BitVec 8)) :
    exec (.linkAligned adv) s = s.goes ((s.alignLanes adv).wr F.STRAND_STATUS_STATE 3).challenge :=
  congrArg s.goes (if_neg (not_not_intro hst))

/-! ### Authentication and identification (R284, R287, R352) -/

/-- The first signature within 20 ms of the last CHALLENGE word is held. -/
theorem exec_cartAuthResponse {sig : BitVec 512} (hst : s.rd F.STRAND_STATUS_STATE = 3) (hnone : s.strand.authSig = none)
    (hintime : s.strand.chalAt.any (fun t => decide (t + 20 * msCycles < s.time.cycle)) = false) :
    exec (.cartAuthResponse sig) s = s.goes { s with strand := { s.strand with authSig := some sig } } := by
  have hfirst : ¬ (decide (s.rd F.STRAND_STATUS_STATE ≠ 3) || s.strand.authSig.isSome) = true := by simp [hst, hnone]
  exact congrArg s.goes ((if_neg hfirst).trans (if_neg (Bool.eq_false_iff.mp hintime)))

theorem exec_linkIdentified (hst : s.rd F.STRAND_STATUS_STATE = 3) (id : IdentityLoad) :
    exec (.linkIdentified id) s = s.goes (if (s.identify id).bit F.REDUND_CTRL_EN then
      ((s.identify id).setRole 3).portCmd true else s.identify id) :=
  congrArg s.goes (if_neg (not_not_intro hst))

/-! ### The identity memory (R283, R285) -/

/-- A command of a program shows as DEFERRED where the write gate holds it, else as queued. -/
theorem State.rd_idSubmit (hok : s.ok = true) (c : MgmtCmd) :
    (s.idSubmit c).rd F.STRAND_ID_RESULT_STATUS = if c.gated && !s.writeGate then 4 else 5 := by
  refine (State.rd_wr_self (s := s.mgmtPush c) hok _ _ _ _ _).trans ?_
  split <;> rfl

/-! ### The powered hour (R40) -/

/-- A cell at a powered hour leaves the count of hours. -/
theorem State.hourCell_hours (s : State) (rating c : Nat) : (s.hourCell rating c).strand.hours = s.strand.hours := by
  simp only [State.hourCell]
  split <;> rfl

/-- Every present cell at a powered hour, the hour counted (R40). -/
def State.hourCells (s : State) (d : Desc) : State :=
  forEach (presentCells d.y512) (fun s c => s.hourCell d.wearRating c)
    { s with strand := { s.strand with hours := s.strand.hours + 1 } }

theorem State.hourCells_hours (s : State) (d : Desc) : (s.hourCells d).strand.hours = s.strand.hours + 1 := by
  rw [State.hourCells, forEach_frame (g := fun t => t.strand.hours) (fun t c => t.hourCell_hours d.wearRating c)]

/-- POWERED_HOUR: the cells, the cartridge's life, the THERMAL record. -/
theorem exec_poweredHour {d : Desc} (hdesc : s.strand.desc = some d) :
    exec .poweredHour s = s.goes ({ s.hourCells d with strand := { (s.hourCells d).strand with
      cartLife := (s.hourCells d).cartridgeLife } } : State).thermalHour := by
  show execPoweredHour s = _
  unfold execPoweredHour
  split
  · next hnone => exact absurd (hnone.symm.trans hdesc) nofun
  · next d' hd =>
    obtain rfl : d' = d := Option.some.inj (hd.symm.trans hdesc)
    rfl

end

/-- Settles O40: each row of the link's start in its own state of the link, its fields read back through the lanes'
status, HEADER and the challenge; the identity memory's commands and the powered hour. -/
theorem linkUp : Obligations.LinkUp := by
  refine ⟨?_, ?_⟩
  · intro s hok
    refine ⟨exec_strandStart, fun hwhy => exec_strandStart_of_not_may (State.mayStart_eq_false hwhy),
      fun locked hst hrun hlocked => exec_linkTrained hst hrun hlocked, ?_, ?_, ?_,
      fun sig => exec_cartAuthResponse, fun id hst => exec_linkIdentified hst id⟩
    · intro hst hrun
      have hlockedOk := State.lockLanes_ok hok (BitVec.allOnes 96)
      refine ⟨_, exec_linkTrained_allOnes hst hrun, ?_, ?_, ?_⟩
      · rw [State.rd_state_laneCoeffs_laneStatus hlockedOk, State.rd_state_lockLanes hok]
      · rw [State.laneStatus_mem, State.laneCoeffs_mem, State.lockLanes_mem]
      · intro n hn
        rw [State.bit_lock_laneCoeffs_laneStatus hlockedOk n, State.bit_lockLanes hok _ hn, BitVec.getLsbD_allOnes]
        exact decide_eq_true hn
    · intro hst hrun
      exact ⟨_, exec_linkTrained_zero hst hrun, State.rd_wr_self hok _ _ _ _ _, rfl⟩
    · intro adv hst
      refine ⟨_, exec_linkAligned hst adv, ?_, ?_, ?_⟩
      · rw [State.rd_congr (State.challenge_frame (g := State.regs) (fun _ _ => rfl) _)]
        exact State.rd_wr_self (State.alignLanes_ok hok adv) _ _ _ _ _
      · rw [State.challenge_frame (g := State.fresh) (fun _ _ => rfl), State.wr_fresh,
          State.alignLanes_frame (g := State.fresh) (fun _ _ _ _ => rfl) (fun _ _ => rfl)]
      · rw [State.challenge_frame (g := State.mem) (fun _ _ => rfl), State.wr_mem,
          State.alignLanes_frame (g := State.mem) (fun _ _ _ _ => rfl) (fun _ _ => rfl)]
  · intro s hok
    exact ⟨fun a hopen => congrArg s.goes (State.ifOpen_of_open hopen _),
      fun a d hopen => congrArg s.goes (State.ifOpen_of_open hopen _), State.rd_idSubmit hok, rfl,
      fun d hdesc => ⟨_, exec_poweredHour hdesc, s.hourCells_hours d, rfl⟩⟩

end Sys2Proof.Machine
end

section
/-! The strand link runs (10): the stream and the drive's ownership, the lanes of an inbound frame, lanes that fail and
their tests. -/

namespace Sys2Proof.Machine

section
variable {s : State}

/-! ### The stream (R288) -/

/-- STREAM with presets waits for the echo. -/
theorem exec_strandStream_echo (hopen : s.domOpen 8 = true) (hmay : s.mayStream = true)
    (hecho : s.bit F.STRAND_CTRL_ECHO_PRESET = true) :
    exec .strandStream s = s.goes { s with strand := { s.strand with streamWait := true } } := by
  refine congrArg s.goes ((State.ifOpen_of_open hopen _).trans ?_)
  simp only [State.doStrandStream, hmay, hecho]
  rfl

/-- STREAM without presets starts the stream at once. -/
theorem exec_strandStream_now (hopen : s.domOpen 8 = true) (hmay : s.mayStream = true)
    (hecho : s.bit F.STRAND_CTRL_ECHO_PRESET = false) : exec .strandStream s = s.goes (s.startStream false) := by
  refine congrArg s.goes ((State.ifOpen_of_open hopen _).trans ?_)
  simp only [State.doStrandStream, hmay, hecho]
  rfl

theorem exec_strandStream_of_not_may (hmay : s.mayStream = false) : exec .strandStream s = s.goes s := by
  have hstream : s.doStrandStream = s := if_pos (by rw [hmay]; rfl)
  refine congrArg s.goes ?_
  rw [hstream, State.ifOpen, ite_self]

/-- Every echo that STREAM waited for is held: the stream starts from the presets. -/
theorem exec_streamEchoReady (hwait : s.strand.streamWait = true) (hmay : s.mayStream = true)
    (hheld : s.echoComplete = true) : exec .streamEchoReady s = s.goes (s.startStream true) :=
  congrArg s.goes (if_pos (by rw [hwait, hmay, hheld]; rfl))

/-! ### Inbound frames (R267, R270, R279) -/

/-- An inbound frame reaches the link in its states ALIGN to STREAMING while the lanes run. -/
theorem exec_inboundFrame (hlow : 2 ≤ s.rd F.STRAND_STATUS_STATE) (hhigh : s.rd F.STRAND_STATUS_STATE ≤ 5)
    (hrun : s.lanesRun = true) (rxs : List LaneRx) : exec (.inboundFrame rxs) s = s.goes (s.inbound rxs) := by
  refine congrArg s.goes (if_neg ?_)
  simp [hrun, Nat.not_lt.mpr hlow, Nat.not_lt.mpr hhigh]

/-- With a frame in flight behind theirs the lanes are judged. -/
theorem State.inbound_taken {e f : InFlight} {l : List InFlight} (hflight : s.strand.flight = e :: f :: l)
    (rxs : List LaneRx) :
    s.inbound rxs = ({ s with strand := { s.strand with flight := f :: l } } : State).takeInbound e rxs := by
  simp only [State.inbound, hflight, List.drop_succ_cons, List.drop_zero]

/-- The lanes of the frame last sent are held. -/
theorem State.inbound_held {e : InFlight} (hflight : s.strand.flight = [e]) (hnone : s.strand.rxHeld = none)
    (rxs : List LaneRx) : s.inbound rxs = { s with strand := { s.strand with rxHeld := some rxs } } := by
  simp only [State.inbound, hflight, hnone]
  rfl

/-! ### Lanes (R273, R274) -/

/-- A locked lane that loses block lock fails. -/
theorem exec_laneFailure {n : Fin 96} (hlock : s.bit F.STRAND_LANE_LOCK n.val = true) :
    exec (.laneFailure n) s = s.goes
      (((s.wrB F.STRAND_LANE_LOCK false n.val).wrB F.STRAND_LANE_ALIGNED false n.val).failLane n.val) :=
  congrArg s.goes (if_pos hlock)

/-- The role of a lane reads back as set. -/
theorem State.laneRole_setLane (hok : s.ok = true) {role : Nat} (hrole : role < 8) (n logical : Nat) :
    (s.setLane n role logical).laneRole n = role := by
  have hkey : F.STRAND_LANE_ROLE.key n 0 0 ≠ F.STRAND_LANE_LOGICAL.key n 0 0 := by
    simp only [Fld.key, F.STRAND_LANE_ROLE, F.STRAND_LANE_LOGICAL]
    omega
  rw [State.laneRole, State.setLane, State.rd_wr_ne (State.wr_keeps_ok hok _ _ _ _ _) hkey, State.rd_wr_self hok,
    show F.STRAND_LANE_ROLE.width = 3 from rfl]
  omega

/-- The test of a failed lane begins in this cycle. -/
theorem exec_strandLaneTest {n : BitVec 7} (hopen : s.domOpen 8 = true) (hn : n.toNat < 96)
    (hrole : s.laneRole n.toNat = 3) :
    exec (.strandLaneTest n) s = s.goes (({ s with strand := { s.strand with
      testing := aset s.strand.testing n.toNat s.time.cycle } } : State).setLane n.toNat 4 0x7F) :=
  congrArg s.goes ((State.ifOpen_of_open hopen _).trans (if_pos (by simp [hn, hrole])))

/-- A test that fails ends 10 ms after it began, and the lane stays failed. -/
theorem exec_laneTestEnd_failed {n : Fin 96} {t : Nat} (htest : alist s.strand.testing n.val = some t) :
    let p := s.passToCycle (t + 10 * msCycles)
    exec (.laneTestEnd n false) s = s.goes ((({ p with strand := { p.strand with
      testing := adel p.strand.testing n.val } } : State).setLane n.val 3 0x7F).laneStatus) := by
  show execLaneTestEnd n false s = _
  simp only [execLaneTestEnd, htest]
  rfl

end

/-- Settles O41: the stream by whether it may start and takes presets, the inbound lanes by the frames in flight, the
lanes by their lock and their test. -/
theorem linkRuns : Obligations.LinkRuns := by
  refine ⟨?_, ?_⟩
  · intro s
    refine ⟨?_, exec_strandStream_now, exec_strandStream_of_not_may, exec_streamEchoReady, ?_, ?_⟩
    · intro hopen hmay hecho
      exact ⟨_, exec_strandStream_echo hopen hmay hecho, rfl, rfl, rfl⟩
    · intro hopen
      exact ⟨congrArg s.goes (State.ifOpen_of_open hopen _), congrArg s.goes (State.ifOpen_of_open hopen _),
        congrArg s.goes (State.ifOpen_of_open hopen _)⟩
    · intro rxs hlow hhigh hrun
      rw [exec_inboundFrame hlow hhigh hrun]
      refine ⟨?_, ?_⟩
      · intro e f l hflight
        exact congrArg s.goes (State.inbound_taken hflight rxs)
      · intro e hflight hnone
        exact congrArg s.goes (State.inbound_held hflight hnone rxs)
  · intro s hok
    refine ⟨fun n => exec_laneFailure, rfl, ?_, fun n t => exec_laneTestEnd_failed⟩
    intro n hopen hn hrole
    exact ⟨_, exec_strandLaneTest hopen hn hrole, alist_aset_self _ _ _,
      State.laneRole_setLane (s := { s with strand := _ }) hok (by decide) _ _, rfl⟩

end Sys2Proof.Machine
end

section
/-! The frames of the device network (11): the receive queues of the sequencers, repeats in the commit exchange, the
retransmission of a command and the coordinator's ready deadline. -/

namespace Sys2Proof.Machine

section
variable {s : State} {f : TFrame}

/-! ### Receive queues (R293, R295) -/

/-- An event touches the sequencers, the hooks and their fields; the network stands. -/
theorem State.fireHook_net (s : State) (h : Nat) (arg : W32) : (s.fireHook h arg).net = s.net :=
  (congrArg State.net (State.besidesFaults_fireHook s h arg) :)

/-- A frame enters at the end of a queue with room, under the next token. -/
theorem State.rxEnter_rxq_of_room {k : Fin 8} (hroom : (s.net.rxq.get k).length < 64) (f : TFrame) :
    (s.rxEnter k.val f).net.rxq = s.net.rxq.set k (s.net.rxq.get k ++ [⟨f, s.net.nextToken⟩]) := by
  simp only [State.rxEnter, Fin.ofNat_val_eq_self, if_neg (Nat.not_le.mpr k.isLt), if_neg (Nat.not_le.mpr hroom),
    State.fireHook_net]

/-- A full queue takes no frame and counts it in DROP. -/
theorem State.rxEnter_of_full {k : Fin 8} (hfull : 64 ≤ (s.net.rxq.get k).length) (f : TFrame) :
    s.rxEnter k.val f = s.inc F.SEQ_NET_RXQ_DROP 1 k.val := by
  simp only [State.rxEnter, Fin.ofNat_val_eq_self, if_neg (Nat.not_le.mpr k.isLt), if_pos hfull]

/-- The frame that entered is the last of its queue. -/
theorem State.rxEnter_get_of_room {k : Fin 8} (hroom : (s.net.rxq.get k).length < 64) (f : TFrame) :
    (s.rxEnter k.val f).net.rxq.get k = s.net.rxq.get k ++ [⟨f, s.net.nextToken⟩] := by
  rw [State.rxEnter_rxq_of_room hroom]
  exact Vector.getElem_set_self k.isLt

/-- DROP read after a frame met a full queue. -/
theorem State.rd_drop_rxEnter_of_full (hok : s.ok = true) {k : Fin 8} (hfull : 64 ≤ (s.net.rxq.get k).length)
    (f : TFrame) : (s.rxEnter k.val f).rd F.SEQ_NET_RXQ_DROP k.val =
      Nat.min (2 ^ F.SEQ_NET_RXQ_DROP.width - 1) (s.rd F.SEQ_NET_RXQ_DROP k.val + 1) := by
  rw [State.rxEnter_of_full hfull, State.rd_inc_self hok (by decide)]

/-! ### Repeats in the commit exchange (R305) -/

/-- A message already heard under its TYPE, EPOCH and SRC counts in DUP. -/
theorem State.hear_of_heard {typ : BitVec 8} (hheard : s.net.heard.contains (typ, f.epoch, f.src) = true) :
    s.hear typ f = (s.inc F.SEQ_NET_ERR_DUP, false) :=
  if_pos hheard

/-- A repeated PREPARE opens nothing, whether it comes from this device or from another. -/
theorem State.prepare_of_heard (hheard : s.net.heard.contains (0x10, f.epoch, f.src) = true) :
    s.prepare f = s.inc F.SEQ_NET_ERR_DUP := by
  simp only [State.prepare, State.hear_of_heard hheard, Bool.not_false, Bool.true_or, if_true, ite_self]

theorem State.ready_of_heard (hheard : s.net.heard.contains (0x11, f.epoch, f.src) = true) :
    s.ready f = s.inc F.SEQ_NET_ERR_DUP := by
  rw [State.ready, State.hear_of_heard hheard]
  rfl

theorem State.commit_of_heard (hheard : s.net.heard.contains (0x12, f.epoch, f.src) = true) :
    s.commit f = s.inc F.SEQ_NET_ERR_DUP := by
  rw [State.commit, State.hear_of_heard hheard]
  rfl

theorem State.abortFrame_of_heard (hheard : s.net.heard.contains (0x13, f.epoch, f.src) = true) :
    s.abortFrame f = s.inc F.SEQ_NET_ERR_DUP := by
  rw [State.abortFrame, State.hear_of_heard hheard]
  rfl

/-- A repeated MISSED enters no queue and reports nothing. -/
theorem exec_missed_of_heard (hheard : s.net.heard.contains (0x14, f.epoch, f.src) = true) :
    exec (.missed f) s = s.goes ((s.takeInbox f).inc F.SEQ_NET_ERR_DUP) := by
  show execMissed f s = _
  rw [execMissed, State.hear_of_heard (s := s.takeInbox f) hheard]
  rfl

theorem State.landed_of_heard (hheard : s.net.heard.contains (0x15, f.epoch, f.src) = true) :
    s.landed f = s.inc F.SEQ_NET_ERR_DUP := by
  rw [State.landed, State.hear_of_heard hheard]
  rfl

theorem State.stable_of_heard (hheard : s.net.heard.contains (0x16, f.epoch, f.src) = true) :
    s.stable f = s.inc F.SEQ_NET_ERR_DUP := by
  rw [State.stable, State.hear_of_heard hheard]
  rfl

/-! ### Retransmission and the ready deadline (R299, R307) -/

/-- The COMMAND of an epoch, an operation and a sequence number is sent again while it is held. -/
theorem exec_commandRetransmit {r : Retrans} {e : BitVec 32} {op : BitVec 8} {n : BitVec 32}
    (hfind : s.net.retrans.find? (fun r => r.frame.epoch = e && r.frame.seqnum = n &&
      bytesAt r.frame.payload 12 1 = op.toNat) = some r) :
    exec (.commandRetransmit e op n) s = s.goes (s.retransmit r) := by
  show execCommandRetransmit e op n s = _
  rw [execCommandRetransmit, hfind]
  rfl

/-- The ready deadline ends an epoch whose coordinator is undecided. -/
theorem exec_readyDeadline {e : BitVec 32} {x : Epoch} {n : NetEpoch} (hepoch : s.epoch? e = some x)
    (hnet : x.net = some n) (hcoord : n.coordinator = true) (hundecided : n.decided = false)
    (hlive : x.ended = false) : exec (.readyDeadline e) s = s.goes (s.readyDeadline x n) := by
  show execReadyDeadline e s = _
  simp only [execReadyDeadline, hepoch, hnet, hcoord, hundecided, hlive]
  rfl

end

/-- Settles O42: the receive queues by whether they have room, each message of the commit by whether it was heard,
every other frame by its row. -/
theorem networkFrames : Obligations.NetworkFrames := by
  refine ⟨?_, ?_⟩
  · intro f s
    refine ⟨rfl, rfl, rfl, ?_⟩
    intro k hok
    refine ⟨?_, ?_⟩
    · intro hroom
      exact ⟨_, State.rxEnter_get_of_room hroom f, rfl⟩
    · intro hfull
      exact ⟨congrArg (·.net.rxq) (State.rxEnter_of_full hfull f), State.rd_drop_rxEnter_of_full hok hfull f⟩
  · intro f s
    refine ⟨fun h => congrArg s.goes (State.prepare_of_heard h), fun h => congrArg s.goes (State.ready_of_heard h),
      fun h => congrArg s.goes (State.commit_of_heard h), fun h => congrArg s.goes (State.abortFrame_of_heard h),
      exec_missed_of_heard, fun h => congrArg s.goes (State.landed_of_heard h),
      fun h => congrArg s.goes (State.stable_of_heard h),
      rfl, rfl, rfl, fun o => rfl, rfl, rfl, rfl, rfl, rfl, rfl, rfl, ?_, ?_⟩
    · intro r e op n
      exact exec_commandRetransmit
    · intro e x n
      exact exec_readyDeadline

end Sys2Proof.Machine
end

section
/-! The braid ports and the outputs (12): frames received, transmissions, links down and up, and the rejoin of a
link-aggregation group. -/

namespace Sys2Proof.Machine

section
variable {s : State}

/-! ### Braid ports (R316, R317, R318) -/

/-- A disabled port takes no frame, whatever its link. -/
theorem State.braidReceive_of_disabled {p : Nat} (hoff : s.bit F.BRAID_CTRL_EN p = false) (b : List Byte) :
    s.braidReceive p b = s :=
  if_pos (by rw [hoff, Bool.not_false, Bool.or_true, Bool.true_or])

/-- A port whose link came up in this cycle, locked, with FEC lock where `fec` says that a FEC is in use. -/
def State.braidUp (s : State) (p : Nat) (fec : Bool) : State :=
  let t := ((s.wrB F.BRAID_STATUS_LINK true p).wrB F.BRAID_STATUS_LOCK true p).wrB F.BRAID_STATUS_FEC_LOCK fec p
  { t with sw := { t.sw with upAt := aset t.sw.upAt p s.time.cycle } }

/-- The link of an enabled port with a clock comes up, with FEC lock where a FEC is in use at the port's speed. -/
theorem exec_braidLinkUp {p : Fin 16} (hon : s.bit F.BRAID_CTRL_EN p.val = true) (hrun : s.braidRuns p.val = true) :
    exec (.braidLinkUp p) s = s.goes (s.braidUp p.val
      (s.rd F.BRAID_CTRL_FEC p.val = 1 || (s.rd F.BRAID_CTRL_FEC p.val = 2 && !s.bit F.BRAID_CTRL_SPEED p.val))) :=
  congrArg s.goes (if_pos (by rw [hon, hrun]; rfl))

/-- LOCK and LINK of one port lie at different bits of its STATUS. -/
theorem F.braidLink_key_ne_braidLock (p : Nat) : F.BRAID_STATUS_LINK.key p 0 0 ≠ F.BRAID_STATUS_LOCK.key p 0 0 := by
  simp only [Fld.key, F.BRAID_STATUS_LINK, F.BRAID_STATUS_LOCK]
  omega

theorem F.braidLink_key_ne_braidFecLock (p : Nat) :
    F.BRAID_STATUS_LINK.key p 0 0 ≠ F.BRAID_STATUS_FEC_LOCK.key p 0 0 := by
  simp only [Fld.key, F.BRAID_STATUS_LINK, F.BRAID_STATUS_FEC_LOCK]
  omega

theorem F.braidLock_key_ne_braidFecLock (p : Nat) :
    F.BRAID_STATUS_LOCK.key p 0 0 ≠ F.BRAID_STATUS_FEC_LOCK.key p 0 0 := by
  simp only [Fld.key, F.BRAID_STATUS_LOCK, F.BRAID_STATUS_FEC_LOCK]
  omega

/-- LINK of a port that came up: the later writes of LOCK and FEC_LOCK leave it. -/
theorem State.bit_link_braidUp (hok : s.ok = true) (p : Nat) (fec : Bool) :
    (s.braidUp p fec).bit F.BRAID_STATUS_LINK p = true := by
  have hlink := State.wr_keeps_ok hok F.BRAID_STATUS_LINK (boolNat true) p 0 0
  have hlock := State.wr_keeps_ok hlink F.BRAID_STATUS_LOCK (boolNat true) p 0 0
  exact (State.bit_wr_ne hlock (F.braidLink_key_ne_braidFecLock p)).trans
    ((State.bit_wr_ne hlink (F.braidLink_key_ne_braidLock p)).trans (State.bit_wrB_self hok rfl true p 0 0))

/-- LOCK of a port that came up: the later write of FEC_LOCK leaves it. -/
theorem State.bit_lock_braidUp (hok : s.ok = true) (p : Nat) (fec : Bool) :
    (s.braidUp p fec).bit F.BRAID_STATUS_LOCK p = true := by
  have hlink := State.wr_keeps_ok hok F.BRAID_STATUS_LINK (boolNat true) p 0 0
  have hlock := State.wr_keeps_ok hlink F.BRAID_STATUS_LOCK (boolNat true) p 0 0
  exact (State.bit_wr_ne hlock (F.braidLock_key_ne_braidFecLock p)).trans (State.bit_wrB_self hlink rfl true p 0 0)

/-! ### Transmissions (R332) -/

/-- An idle output that may send and has a class to send starts that class's frame. -/
theorem exec_transmitStart {o : Fin 19} {c : Nat} {u : State}
    (hidle : s.enterLedger.enterMgmt.sw.sending.any (fun t => t.out = o.val) = false)
    (hout : s.enterLedger.enterMgmt.outOk o.val = true)
    (hpick : s.enterLedger.enterMgmt.pickClass o.val = (some c, u)) :
    exec (.transmitStart o) s = s.goes (u.startFrame o.val c) := by
  have hmay : ¬ (s.enterLedger.enterMgmt.sw.sending.any (fun t => t.out = o.val) ||
      !s.enterLedger.enterMgmt.outOk o.val) := by
    rw [hidle, hout]
    decide
  refine congrArg s.goes ((if_neg hmay).trans ?_)
  simp only [hpick]

/-- The frame that an output sends has gone out. -/
theorem exec_transmitEnd {o : Fin 19} {t : Transmit} (hfind : s.sw.sending.find? (fun t => t.out = o.val) = some t) :
    exec (.transmitEnd o) s = s.goes (s.endFrame t) := by
  show execTransmitEnd o s = _
  rw [execTransmitEnd, hfind]
  rfl

/-! ### Rejoin of a link-aggregation group (R327) -/

/-- A rejoin asked for on an enabled group waits. -/
theorem exec_lagRejoin {g : Fin 4} (hopen : s.domOpen 9 = true) (hon : s.bit F.SWITCH_LAG_EN g.val = true) :
    exec (.lagRejoin g) s = s.goes (s.wrB F.SWITCH_LAG_REJOIN_PEND true g.val) :=
  congrArg s.goes ((State.ifOpen_of_open hopen _).trans (if_pos hon))

/-- A rejoin asked for on a disabled group has no effect, its domain open or not. -/
theorem exec_lagRejoin_of_disabled {g : Fin 4} (hoff : s.bit F.SWITCH_LAG_EN g.val = false) :
    exec (.lagRejoin g) s = s.goes s := by
  have hstands : s.doLagRejoin g = s := if_neg (Bool.eq_false_iff.mp hoff)
  refine congrArg s.goes ?_
  rw [hstands, State.ifOpen, ite_self]

/-- A rejoin that waits is carried out while class 5 and class 6 of every member are empty: the buckets are dealt
anew and those of members that are down pass on. -/
theorem exec_lagRejoinDone {g : Fin 4} (hpend : s.bit F.SWITCH_LAG_REJOIN_PEND g.val = true)
    (hempty : ∀ p ∈ s.lagMembers g.val, (s.outQ p 5).copies = [] ∧ (s.outQ p 6).copies = []) :
    exec (.lagRejoinDone g) s =
      s.goes (((s.lagDeal g.val).lagHeal g.val).wrB F.SWITCH_LAG_REJOIN_PEND false g.val) := by
  have hidle : (s.lagMembers g.val).all
      (fun p => (s.outQ p 5).copies.isEmpty && (s.outQ p 6).copies.isEmpty) = true := by
    rw [List.all_eq_true]
    intro p hp
    obtain ⟨h5, h6⟩ := hempty p hp
    rw [h5, h6]
    rfl
  exact congrArg s.goes (if_pos (by rw [hpend, hidle]; rfl))

end

/-- Settles O43: a port by EN, a link up by the three STATUS bits it writes, an output by what it sends or may send, a
rejoin by EN and PEND of its group. -/
theorem switchTraffic : Obligations.SwitchTraffic := by
  refine ⟨?_, ?_⟩
  · intro s hok
    refine ⟨fun p b => rfl, ?_, ?_, fun p => rfl, ?_, ?_⟩
    · intro o _ hidle hout c u
      exact exec_transmitStart hidle hout
    · intro o t
      exact exec_transmitEnd
    · intro p hon hrun
      exact ⟨_, exec_braidLinkUp hon hrun, State.bit_link_braidUp hok p.val _, State.bit_lock_braidUp hok p.val _,
        alist_aset_self _ _ _, rfl⟩
    · intro p b hoff
      exact congrArg s.goes (State.braidReceive_of_disabled hoff b)
  · intro g s hok
    refine ⟨?_, exec_lagRejoin_of_disabled, exec_lagRejoinDone⟩
    intro hopen hon
    exact ⟨_, exec_lagRejoin hopen hon, State.bit_wrB_self hok rfl true g.val 0 0, rfl, rfl⟩

end Sys2Proof.Machine
end

section
/-! The time bases (13): the idle step, the increments, adjustments and locks of the bases, the time pins, and the
comparators. -/

namespace Sys2Proof.Machine

/-! ### The idle step (log entry 1) -/

/-- With no command waiting, the TIME domain runs one cycle. -/
theorem step_of_pending_nil {s : State} (h : s.pending = []) : step s = s.goes (s.passCycles 1) := by
  rw [step, h]
  rfl

/-- Settles O2: no command waits, so the step is the idle step. -/
theorem emptyQueueRunsTime : Obligations.EmptyQueueRunsTime := fun _ h => step_of_pending_nil h

/-! ### Fields of one row of a register array -/

/-- Two fields of arrays with one stride that lie apart in row 0 lie apart in every row. -/
theorem Fld.key_ne_of_stride_eq {f g : Fld} (hstride : f.s1 = g.s1) (h : f.key 0 0 0 ≠ g.key 0 0 0) (n : Nat) :
    f.key n 0 0 ≠ g.key n 0 0 := by
  simp only [Fld.key, hstride] at h ⊢
  omega

/-- The rows of a register array rise with their numbers. -/
theorem Fld.key_le_of_le (f : Fld) {n m : Nat} (h : n ≤ m) : f.key n 0 0 ≤ f.key m 0 0 := by
  have hrow : n * f.s1 ≤ m * f.s1 := Nat.mul_le_mul_right _ h
  simp only [Fld.key]
  omega

section
variable {s : State}

/-- A value that fits the field reads back. -/
theorem State.rd_wr_of_lt (hok : s.ok = true) {f : Fld} {v : Nat} (hv : v < 2 ^ f.width) (hw : f.width ≤ 64)
    (i j k : Nat) : (s.wr f v i j k).rd f i j k = v := by
  have hword : v < 2 ^ 64 := Nat.lt_of_lt_of_le hv (Nat.pow_le_pow_right (by decide) hw)
  rw [State.rd_wr_self hok, Nat.mod_eq_of_lt hv, Nat.mod_eq_of_lt hword]

/-! ### The base set, and the others -/

theorem State.tb_congr {t : State} (h : s.time = t.time) (n : Nat) : s.tb n = t.tb n := by
  rw [State.tb, State.tb, h]

@[simp] theorem State.tb_setTb_self (s : State) (t : Nat) (b : TimeBase) : (s.setTb t b).tb t = b :=
  Vector.getElem_set_self (Fin.ofNat 4 t).isLt

theorem State.tb_setTb_ne (s : State) {t k : Fin 4} (h : k ≠ t) (b : TimeBase) :
    (s.setTb t.val b).tb k.val = s.tb k.val := by
  have hne : (Fin.ofNat 4 t.val).val ≠ (Fin.ofNat 4 k.val).val := by
    rw [Fin.ofNat_val_eq_self, Fin.ofNat_val_eq_self]
    exact fun e => h (Fin.ext e.symm)
  exact Vector.getElem_set_ne (Fin.ofNat 4 t.val).isLt (Fin.ofNat 4 k.val).isLt hne

/-! ### Increments (R341, R343) -/

/-- The increments that a base takes: TB0 while it is bound takes those within ±50 ppm alone. -/
theorem State.incOk_iff {t : Fin 4} {inc : Nat} : s.incOk t.val inc = true ↔
    8581344658 ≤ inc ∧ inc ≤ 8598524526 ∧ (t = 0 → s.bound = true → 8589505096 ≤ inc ∧ inc ≤ 8590364088) := by
  have ht : t.val = 0 ↔ t = 0 := Fin.val_eq_zero_iff
  simp only [State.incOk, Bool.and_eq_true, Bool.or_eq_true, decide_eq_true_eq, Bool.not_eq_true', ne_eq, ht, and_assoc,
    or_assoc]
  rw [← imp_iff_not_or, ← Bool.not_eq_true, ← imp_iff_not_or]

theorem State.setInc_time (s : State) (t inc : Nat) : (s.setInc t inc).time = s.time := by
  rw [State.setInc]
  split <;> rfl

theorem State.setInc_mem (s : State) (t inc : Nat) : (s.setInc t inc).mem = s.mem := by
  rw [State.setInc]
  split <;> rfl

/-- An increment that is taken reads back. -/
theorem State.rd_inc_setInc (hok : s.ok = true) {t inc : Nat} (hinc : inc < 2 ^ 40) (h : s.incOk t inc = true) :
    (s.setInc t inc).rd F.TIME_INC_INC t = inc := by
  rw [State.setInc, if_pos h]
  exact State.rd_wr_of_lt hok hinc (by decide) t 0 0

/-- An increment that is not taken leaves INC and sets INC_REJ. -/
theorem State.setInc_of_rejected (hok : s.ok = true) {t inc : Nat} (h : ¬ s.incOk t inc = true) :
    (s.setInc t inc).rd F.TIME_INC_INC t = s.rd F.TIME_INC_INC t ∧
      (s.setInc t inc).bit F.TIME_STATUS_INC_REJ t = true := by
  have hkey := Fld.key_ne_of_stride_eq (f := F.TIME_INC_INC) (g := F.TIME_STATUS_INC_REJ) rfl (by decide) t
  rw [State.setInc, if_neg h]
  exact ⟨State.rd_wr_ne hok hkey, State.bit_wrB_self hok rfl true t 0 0⟩

theorem exec_timeInc {t : Fin 4} {inc : W64} (hopen : s.domOpen 5 = true) (hinc : inc.toNat < 2 ^ 40) :
    exec (.timeInc t inc) s = s.goes (s.setInc t.val inc.toNat) := by
  refine congrArg s.goes ((State.ifOpen_of_open hopen _).trans ?_)
  rw [Nat.mod_eq_of_lt hinc]

/-! ### Adjustments (R342, R343) -/

/-- A base that is not bound to the strand moves at once, and no other does. -/
theorem State.adjust_time {t : Fin 4} (hfree : t ≠ 0 ∨ s.bound = false) (a : Int) :
    (s.adjust t.val a).time = (s.setTb t.val ((s.tb t.val).move a)).time := by
  have hbound : ¬ (t.val = 0 && s.bound) = true := by
    rw [Bool.and_eq_true, decide_eq_true_eq]
    rintro ⟨ht, hb⟩
    rcases hfree with hne | hoff
    · exact hne (Fin.ext ht)
    · exact Bool.noConfusion (hoff.symm.trans hb)
  simp only [State.adjust, if_neg hbound]
  split <;> rfl

theorem State.adjustBound_mem (s : State) (a : Int) : (s.adjustBound a).mem = s.mem := by
  simp only [State.adjustBound, State.markPassed, State.jumpFrames]
  split <;> rfl

theorem State.adjust_mem (s : State) (t : Nat) (a : Int) : (s.adjust t a).mem = s.mem := by
  simp only [State.adjust]
  split
  · exact s.adjustBound_mem a
  · split <;> rfl

theorem exec_timeAdj {t : Fin 4} (hopen : s.domOpen 5 = true) (adj : W64) :
    exec (.timeAdj t adj) s = s.goes (s.adjust t.val adj.toInt) :=
  congrArg s.goes (State.ifOpen_of_open hopen _)

/-! ### LOCKED (R344) -/

theorem exec_lockAssert {t : Fin 4} (hopen : s.domOpen 5 = true) :
    exec (.lockAssert t) s = s.goes (s.setLock t.val (s.rd F.TIME_CTRL_LOCK_MS * msCycles)) :=
  congrArg s.goes (State.ifOpen_of_open hopen _)

theorem exec_lockClear {t : Fin 4} (hopen : s.domOpen 5 = true) : exec (.lockClear t) s = s.goes (s.setLock t.val 0) :=
  congrArg s.goes (State.ifOpen_of_open hopen _)

theorem State.lockLeft_setLock (s : State) (t cycles : Nat) : ((s.setLock t cycles).tb t).lockLeft = cycles := by
  rw [State.setLock, State.tb_setTb_self]

/-! ### PPS_OUT and PPS_IN (R350) -/

/-- PPS_OUT rises at the next whole second, the one it stands on included where it has not risen there. -/
theorem exec_ppsOutPulse (hen : s.bit F.TIME_CTRL_PPS_OUT_EN = true) (hready : s.pins.ready = true) :
    let past := (s.tb (s.rd F.TIME_CTRL_PPS_OUT_TB)).ext % secUnits
    let risen := decide (0 < s.pins.ppsOut) && s.pins.ppsOutAt = s.time.cycle
    let p := if past = 0 && !risen then s else s.passCycles (s.cyclesToGain (s.rd F.TIME_CTRL_PPS_OUT_TB) (secUnits - past))
    exec .ppsOutPulse s =
      s.goes { p with pins := { p.pins with ppsOut := p.pins.ppsOut + 1, ppsOutAt := p.time.cycle } } :=
  congrArg s.goes (if_pos (by rw [hen, hready]; rfl))

/-- A capture errs by at most 2 ns, in units of 2⁻¹⁶ ns. -/
theorem State.jitter_bounds (s : State) : -131072 ≤ s.jitter.1 ∧ s.jitter.1 ≤ 131072 := by
  have hlt : s.draw.1.toNat % 262145 < 262145 := Nat.mod_lt _ (by decide)
  simp only [State.jitter, Int.ofNat_eq_natCast]
  omega

/-- NOW of a base captured by PPS_IN, with the error `jitter` draws. -/
def State.ppsCapture (s : State) : W64 := (s.tb (s.rd F.TIME_CTRL_PPS_IN_TB)).now + BitVec.ofInt 64 s.jitter.1

/-- An edge on PPS_IN whose last capture has been read. -/
theorem exec_ppsInEdge (hen : s.bit F.TIME_CTRL_PPS_IN_EN = true) (hread : s.bit F.TIME_CAP_STATUS_PPS_NEW = false) :
    exec .ppsInEdge s = s.goes
      ((s.jitter.2.wr F.TIME_PPS_IN_TS_TS s.ppsCapture.toNat).wrB F.TIME_CAP_STATUS_PPS_NEW true) := by
  refine congrArg s.goes ((if_pos hen).trans ?_)
  rw [hread]
  rfl

/-! ### LAY_SYNC_OUT and LAY_SYNC_IN (R351) -/

/-- By LSO_MODE 1 the pin rises at T of the epoch whose lay is in progress. -/
theorem exec_laySyncOutPulse_lay {l : Lay} (hready : s.pins.ready = true) (hmode : s.rd F.TIME_CTRL_LSO_MODE = 1)
    (hcur : s.lay.cur = some l) (hkind : l.kind = .epoch) :
    exec .laySyncOutPulse s =
      s.goes (s.laySyncRise (s.time.cycle - (s.ext0 - l.frame * frameUnits) / (2 * nsUnit))) := by
  refine congrArg s.goes ((if_neg (by rw [hready]; decide)).trans ((if_pos hmode).trans ?_))
  rw [hcur]
  exact if_pos hkind

/-- By LSO_MODE 2 it rises at the next boundary of the grid, the one it stands on included where it has not risen there. -/
theorem exec_laySyncOutPulse_grid (hready : s.pins.ready = true) (hmode : s.rd F.TIME_CTRL_LSO_MODE = 2) :
    let g := 2 ^ s.rd F.TIME_CTRL_LSO_K * frameUnits
    let risen := decide (0 < s.pins.laySyncOut) && s.pins.laySyncOutAt = s.time.cycle
    let p := if s.ext0 % g = 0 && !risen then s else s.passTo ((s.ext0 / g + 1) * g)
    exec .laySyncOutPulse s = s.goes (p.laySyncRise p.time.cycle) :=
  congrArg s.goes ((if_neg (by rw [hready]; decide)).trans ((if_neg (by rw [hmode]; decide)).trans (if_pos hmode)))

/-- OVR counts a capture of LAY_SYNC_IN that is overwritten unread. -/
def State.laySyncOvr (s : State) : State :=
  if s.bit F.TIME_CAP_STATUS_LSI_NEW then s.inc F.TIME_CAP_STATUS_OVR else s

theorem State.laySyncOvr_ok (hok : s.ok = true) : s.laySyncOvr.ok = true :=
  ite_ok (State.wr_keeps_ok hok _ _ _ _ _) hok

theorem State.laySyncOvr_time (s : State) : s.laySyncOvr.time = s.time := by
  rw [State.laySyncOvr]
  split <;> rfl

/-- What an edge on LAY_SYNC_IN captures: TB0, and its phase to the grid. -/
def State.laySyncCapture (s : State) : State :=
  let t := s.wr F.TIME_LSI_TS_TS (s.tb 0).now.toNat
  (t.wrI F.TIME_LSI_PHASE_PHASE (gridPhase t.ext0 (2 ^ t.rd F.TIME_CTRL_LSO_K * frameUnits))).wrB
    F.TIME_CAP_STATUS_LSI_NEW true

theorem State.bit_new_laySyncCapture (hok : s.ok = true) : s.laySyncCapture.bit F.TIME_CAP_STATUS_LSI_NEW = true :=
  State.bit_wrB_self (State.wr_keeps_ok (State.wr_keeps_ok hok _ _ _ _ _) _ _ _ _ _) rfl true 0 0 0

theorem State.rd_ts_laySyncCapture (hok : s.ok = true) :
    s.laySyncCapture.rd F.TIME_LSI_TS_TS = (s.tb 0).now.toNat := by
  have hts := State.wr_keeps_ok hok F.TIME_LSI_TS_TS (s.tb 0).now.toNat 0 0 0
  exact (State.rd_wr_ne (State.wr_keeps_ok hts _ _ _ _ _) (by decide)).trans
    ((State.rd_wr_ne hts (by decide)).trans (State.rd_wr_of_lt hok (BitVec.isLt _) (by decide) 0 0 0))

theorem exec_laySyncInEdge (hen : s.bit F.TIME_CTRL_LSI_EN = true) :
    exec .laySyncInEdge s = s.goes s.laySyncOvr.laySyncCapture :=
  congrArg s.goes (if_pos hen)

end

/-- Settles O45: an increment by the range of its base, an adjustment and a lock by the one base they set, a pin by the
instant it rises at or the value it captures. -/
theorem timeBases : Obligations.TimeBases := by
  refine ⟨?_, ?_, ?_⟩
  · intro t inc s hok hopen hinc
    refine ⟨_, exec_timeInc hopen hinc, s.setInc_time _ _, s.setInc_mem _ _, ?_, ?_⟩
    · intro hfits
      exact State.rd_inc_setInc hok hinc (State.incOk_iff.mpr hfits)
    · intro hfits
      exact State.setInc_of_rejected hok (fun h => hfits (State.incOk_iff.mp h))
  · intro t adj s hopen
    refine ⟨?_, ⟨_, exec_timeAdj hopen adj, rfl, s.adjust_mem _ _⟩, ?_, ?_, rfl, rfl⟩
    · intro hfree
      have hmoved (k : Nat) := State.tb_congr (State.adjust_time hfree adj.toInt) k
      exact ⟨_, exec_timeAdj hopen adj, (hmoved t.val).trans (s.tb_setTb_self _ _),
        fun k hk => (hmoved k.val).trans (s.tb_setTb_ne hk _)⟩
    · exact ⟨_, exec_lockAssert hopen, s.lockLeft_setLock _ _, rfl, fun k hk => s.tb_setTb_ne hk _⟩
    · exact ⟨_, exec_lockClear hopen, s.lockLeft_setLock _ _, rfl⟩
  · intro s hok
    refine ⟨exec_ppsOutPulse, ?_, fun l => exec_laySyncOutPulse_lay, exec_laySyncOutPulse_grid, ?_⟩
    · intro hen hread
      have hts : (s.jitter.2.wr F.TIME_PPS_IN_TS_TS s.ppsCapture.toNat).ok = true :=
        State.wr_keeps_ok (by exact hok) _ _ _ _ _
      obtain ⟨hlow, hhigh⟩ := s.jitter_bounds
      exact ⟨_, exec_ppsInEdge hen hread, State.bit_wrB_self hts rfl true 0 0 0, rfl, s.jitter.1, hlow, hhigh,
        (State.rd_wr_ne hts (by decide)).trans (State.rd_wr_of_lt (by exact hok) (BitVec.isLt _) (by decide) 0 0 0)⟩
    · intro hen
      have hovr := State.laySyncOvr_ok hok
      refine ⟨_, exec_laySyncInEdge hen, State.bit_new_laySyncCapture hovr, ?_⟩
      rw [State.rd_ts_laySyncCapture hovr, State.tb_congr s.laySyncOvr_time]

end Sys2Proof.Machine
end

section
/-! The comparators of the time bases (13). -/

namespace Sys2Proof.Machine

/-! ### The fields of a comparator -/

/-- The fields that the commands of a comparator read and write. -/
def cmpFields : List Fld :=
  [F.TIME_CMP_TARGET_TARGET, F.TIME_CMP_PERIOD_PERIOD, F.TIME_CMP_CTRL_EN, F.TIME_CMP_CTRL_FIRED,
    F.TIME_CMP_CTRL_ARMED, F.TIME_CMP_CTRL_SKIPPED]

/-- The fields of one comparator lie apart. -/
theorem cmpFields_key_ne {f g : Fld} (hf : f ∈ cmpFields) (hg : g ∈ cmpFields) (hne : f ≠ g) (n : Nat) :
    f.key n 0 0 ≠ g.key n 0 0 := by
  have hrow : ∀ f ∈ cmpFields, ∀ g ∈ cmpFields, f ≠ g → f.s1 = g.s1 ∧ f.key 0 0 0 ≠ g.key 0 0 0 := by decide
  obtain ⟨hstride, hkey⟩ := hrow f hf g hg hne
  exact Fld.key_ne_of_stride_eq hstride hkey n

/-- The fields of the comparators lie below those of the hooks. -/
theorem cmpFields_key_lt_hook {f : Fld} (hf : f ∈ cmpFields) (n : Fin 16) :
    f.key n.val 0 0 < F.SEQ_HOOK_EN.key 0 0 0 := by
  have hlast : ∀ f ∈ cmpFields, f.key 15 0 0 < F.SEQ_HOOK_EN.key 0 0 0 := by decide
  exact Nat.lt_of_le_of_lt (f.key_le_of_le (Nat.le_of_lt_succ n.isLt)) (hlast f hf)

section
variable {s : State}

/-- The event of a hook changes no field below those of the hooks. -/
theorem State.rd_fireHook_of_lt (hok : s.ok = true) {f : Fld} {i j k : Nat}
    (hlt : f.key i j k < F.SEQ_HOOK_EN.key 0 0 0) (h : Nat) (arg : W32) :
    (s.fireHook h arg).rd f i j k = s.rd f i j k := by
  have hbelow {g : Fld} (hg : F.SEQ_HOOK_EN.key 0 0 0 ≤ g.key 0 0 0) : f.key i j k ≠ g.key h 0 0 :=
    Nat.ne_of_lt (hlt.trans_le (hg.trans (g.key_le_of_le h.zero_le)))
  have hnoted : (s.noteHook h).ok = true := hok
  rw [State.fireHook]
  split
  · split
    · exact State.rd_wr_ne hnoted (hbelow (by decide))
    · exact State.rd_wr_ne hnoted (hbelow (by decide))
  · rfl

/-! ### Arming and disarming (R345, R346) -/

/-- A write of TARGET reads back, and arms where EN is 1. -/
theorem State.doCmpArm_target (hok : s.ok = true) (n : Fin 16) (v : W64) :
    let u := s.doCmpArm n (some v)
    u.rd F.TIME_CMP_TARGET_TARGET n.val = v.toNat ∧
      (s.bit F.TIME_CMP_CTRL_EN n.val = true → u.bit F.TIME_CMP_CTRL_ARMED n.val = true) ∧
      (s.bit F.TIME_CMP_CTRL_EN n.val = false →
        u.bit F.TIME_CMP_CTRL_ARMED n.val = s.bit F.TIME_CMP_CTRL_ARMED n.val) := by
  have htarget : (s.wr F.TIME_CMP_TARGET_TARGET v.toNat n.val).rd F.TIME_CMP_TARGET_TARGET n.val = v.toNat :=
    State.rd_wr_of_lt hok v.isLt (by decide) n.val 0 0
  have hen : (s.wr F.TIME_CMP_TARGET_TARGET v.toNat n.val).bit F.TIME_CMP_CTRL_EN n.val = s.bit F.TIME_CMP_CTRL_EN n.val :=
    State.bit_wr_ne hok (cmpFields_key_ne (by decide) (by decide) (by decide) n.val)
  have harmed : (s.wr F.TIME_CMP_TARGET_TARGET v.toNat n.val).bit F.TIME_CMP_CTRL_ARMED n.val =
      s.bit F.TIME_CMP_CTRL_ARMED n.val :=
    State.bit_wr_ne hok (cmpFields_key_ne (by decide) (by decide) (by decide) n.val)
  have hwritten := State.wr_keeps_ok hok F.TIME_CMP_TARGET_TARGET v.toNat n.val 0 0
  simp only [State.doCmpArm, hen]
  cases s.bit F.TIME_CMP_CTRL_EN n.val with
  | false => exact ⟨htarget, nofun, fun _ => harmed⟩
  | true =>
    exact ⟨(State.rd_wr_ne hwritten (cmpFields_key_ne (by decide) (by decide) (by decide) n.val)).trans htarget,
      fun _ => State.bit_wrB_self hwritten rfl true n.val 0 0, nofun⟩

/-- EN and ARMED of a comparator, which setting EN sets and clearing EN clears. -/
def State.cmpSwitch (s : State) (n : Nat) (b : Bool) : State :=
  (s.wrB F.TIME_CMP_CTRL_EN b n).wrB F.TIME_CMP_CTRL_ARMED b n

theorem State.bit_en_cmpSwitch (hok : s.ok = true) (n : Nat) (b : Bool) :
    (s.cmpSwitch n b).bit F.TIME_CMP_CTRL_EN n = b :=
  (State.bit_wr_ne (State.wr_keeps_ok hok _ _ _ _ _) (cmpFields_key_ne (by decide) (by decide) (by decide) n)).trans
    (State.bit_wrB_self hok rfl b n 0 0)

theorem State.bit_armed_cmpSwitch (hok : s.ok = true) (n : Nat) (b : Bool) :
    (s.cmpSwitch n b).bit F.TIME_CMP_CTRL_ARMED n = b :=
  State.bit_wrB_self (State.wr_keeps_ok hok _ _ _ _ _) rfl b n 0 0

theorem State.bit_fired_cmpSwitch (hok : s.ok = true) (n : Nat) (b : Bool) :
    (s.cmpSwitch n b).bit F.TIME_CMP_CTRL_FIRED n = s.bit F.TIME_CMP_CTRL_FIRED n :=
  (State.bit_wr_ne (State.wr_keeps_ok hok _ _ _ _ _) (cmpFields_key_ne (by decide) (by decide) (by decide) n)).trans
    (State.bit_wr_ne hok (cmpFields_key_ne (by decide) (by decide) (by decide) n))

section
variable {n : Fin 16} (hopen : s.domOpen 5 = true)
include hopen

theorem exec_cmpArm (target : Option W64) : exec (.cmpArm n target) s = s.goes (s.doCmpArm n target) :=
  congrArg s.goes (State.ifOpen_of_open hopen _)

theorem exec_cmpDisarm : exec (.cmpDisarm n) s = s.goes (s.cmpSwitch n.val false) :=
  congrArg s.goes (State.ifOpen_of_open hopen _)

end

/-! ### Firing (R345) -/

/-- FIRED is set and the hook of the comparator fires. -/
def State.cmpFired (s : State) (n : Nat) : State :=
  (s.wrB F.TIME_CMP_CTRL_FIRED true n).fireHook (10 + n) (BitVec.ofNat 32 n)

theorem State.cmpFired_ok (hok : s.ok = true) (n : Nat) : (s.cmpFired n).ok = true :=
  ok_of_good (State.fireHook_good _ _ (good_self (State.wr_keeps_ok hok _ _ _ _ _)))

/-- The hook of a comparator changes no field of it. -/
theorem State.rd_cmpFired_eq_rd_wrB (hok : s.ok = true) {f : Fld} (hf : f ∈ cmpFields) (n : Fin 16) :
    (s.cmpFired n.val).rd f n.val = (s.wrB F.TIME_CMP_CTRL_FIRED true n.val).rd f n.val :=
  State.rd_fireHook_of_lt (State.wr_keeps_ok hok _ _ _ _ _) (cmpFields_key_lt_hook hf n) _ _

theorem State.rd_cmpFired (hok : s.ok = true) {f : Fld} (hf : f ∈ cmpFields) (hne : f ≠ F.TIME_CMP_CTRL_FIRED)
    (n : Fin 16) : (s.cmpFired n.val).rd f n.val = s.rd f n.val :=
  (State.rd_cmpFired_eq_rd_wrB hok hf n).trans (State.rd_wr_ne hok (cmpFields_key_ne hf (by decide) hne n.val))

theorem State.bit_fired_cmpFired (hok : s.ok = true) (n : Fin 16) :
    (s.cmpFired n.val).bit F.TIME_CMP_CTRL_FIRED n.val = true := by
  rw [State.bit, State.rd_cmpFired_eq_rd_wrB hok (by decide)]
  exact State.bit_wrB_self hok rfl true n.val 0 0

/-- A comparator without PERIOD disarms as it fires. -/
theorem State.cmpFire_once (hok : s.ok = true) {n : Fin 16} (hperiod : s.rd F.TIME_CMP_PERIOD_PERIOD n.val = 0) (d : Nat) :
    s.cmpFire n.val d = (s.cmpFired n.val).wrB F.TIME_CMP_CTRL_ARMED false n.val :=
  if_pos ((State.rd_cmpFired hok (by decide) (by decide) n).trans hperiod)

/-- A periodic comparator, `m` further steps of its grid skipped: TARGET goes to `target`. -/
def State.cmpRepeat (s : State) (n target m : Nat) : State :=
  ((s.cmpFired n).wr F.TIME_CMP_TARGET_TARGET target n).inc F.TIME_CMP_CTRL_SKIPPED m n

/-- A periodic comparator that fires `d` after TARGET goes on to the first step of its grid that lies ahead. -/
theorem State.cmpFire_periodic (hok : s.ok = true) {n : Fin 16} (hperiod : 0 < s.rd F.TIME_CMP_PERIOD_PERIOD n.val)
    (d : Nat) :
    let k := d / s.rd F.TIME_CMP_PERIOD_PERIOD n.val + 1
    s.cmpFire n.val d = s.cmpRepeat n.val
      ((s.rd F.TIME_CMP_TARGET_TARGET n.val + k * s.rd F.TIME_CMP_PERIOD_PERIOD n.val) % 2 ^ 64) (k - 1) := by
  have hp : (s.cmpFired n.val).rd F.TIME_CMP_PERIOD_PERIOD n.val = s.rd F.TIME_CMP_PERIOD_PERIOD n.val :=
    State.rd_cmpFired hok (by decide) (by decide) n
  have ht : (s.cmpFired n.val).rd F.TIME_CMP_TARGET_TARGET n.val = s.rd F.TIME_CMP_TARGET_TARGET n.val :=
    State.rd_cmpFired hok (by decide) (by decide) n
  have hrepeats : (s.cmpFired n.val).rd F.TIME_CMP_PERIOD_PERIOD n.val ≠ 0 := by
    rw [hp]
    exact Nat.ne_of_gt hperiod
  rw [← hp, ← ht]
  exact if_neg hrepeats

theorem State.rd_cmpRepeat_eq_rd_wr (hok : s.ok = true) {f : Fld} (hf : f ∈ cmpFields)
    (hne : f ≠ F.TIME_CMP_CTRL_SKIPPED) (n target m : Nat) :
    (s.cmpRepeat n target m).rd f n = ((s.cmpFired n).wr F.TIME_CMP_TARGET_TARGET target n).rd f n :=
  State.rd_wr_ne (State.wr_keeps_ok (State.cmpFired_ok hok n) _ _ _ _ _) (cmpFields_key_ne hf (by decide) hne n)

/-- TARGET of a repetition reads back. -/
theorem State.rd_target_cmpRepeat (hok : s.ok = true) {target : Nat} (hlt : target < 2 ^ 64) (n m : Nat) :
    (s.cmpRepeat n target m).rd F.TIME_CMP_TARGET_TARGET n = target :=
  (State.rd_cmpRepeat_eq_rd_wr hok (by decide) (by decide) n target m).trans
    (State.rd_wr_of_lt (State.cmpFired_ok hok n) hlt (by decide) n 0 0)

/-- A repetition changes no field of the comparator but TARGET, FIRED and SKIPPED. -/
theorem State.bit_cmpRepeat (hok : s.ok = true) {f : Fld} (hf : f ∈ cmpFields) (hskip : f ≠ F.TIME_CMP_CTRL_SKIPPED)
    (htarget : f ≠ F.TIME_CMP_TARGET_TARGET) (n target m : Nat) :
    (s.cmpRepeat n target m).bit f n = (s.cmpFired n).bit f n := by
  rw [State.bit, State.bit, State.rd_cmpRepeat_eq_rd_wr hok hf hskip,
    State.rd_wr_ne (State.cmpFired_ok hok n) (cmpFields_key_ne hf (by decide) htarget n)]

theorem exec_cmpFire {n : Fin 16} (harmed : s.bit F.TIME_CMP_CTRL_ARMED n.val = true) :
    let target := BitVec.ofNat 64 (s.rd F.TIME_CMP_TARGET_TARGET n.val)
    let p := s.passBaseTo (s.rd F.TIME_CMP_CTRL_TB n.val) target
    let d := ((p.tb (s.rd F.TIME_CMP_CTRL_TB n.val)).now - target).toInt
    0 ≤ d → exec (.cmpFire n) s = s.goes (p.cmpFire n.val d.toNat) :=
  fun hreached => congrArg s.goes ((if_pos harmed).trans (if_pos hreached))

end

/-- The first multiple of a period beyond `d` lies within one period of it. -/
theorem first_multiple_bounds {p : Nat} (hp : 0 < p) (d : Nat) : d < (d / p + 1) * p ∧ (d / p + 1) * p ≤ d + p := by
  have hle : d / p * p ≤ d := Nat.div_mul_le_self d p
  have hlt : d < d / p * p + p := Nat.lt_div_mul_add hp
  rw [Nat.succ_mul]
  omega

/-- Settles O46: arming and disarming by the fields they write, firing once by PERIOD 0, and repeating by the first step
of the grid that lies ahead. -/
theorem comparators : Obligations.Comparators := by
  refine ⟨?_, ?_⟩
  · intro n v s hok
    refine ⟨fun hopen => ⟨?_, ?_, ?_⟩, ?_⟩
    · exact ⟨_, exec_cmpArm hopen (some v), State.doCmpArm_target hok n v⟩
    · exact ⟨s.cmpSwitch n.val true, exec_cmpArm hopen none, State.bit_en_cmpSwitch hok _ _,
        State.bit_armed_cmpSwitch hok _ _⟩
    · exact ⟨_, exec_cmpDisarm hopen, State.bit_en_cmpSwitch hok _ _, State.bit_armed_cmpSwitch hok _ _,
        State.bit_fired_cmpSwitch hok _ _⟩
    · intro harmed target p d hreached hperiod
      have hp : p.ok = true := ok_of_good (State.passBaseTo_good _ _ (good_self hok))
      have hfired := State.cmpFired_ok hp n.val
      refine ⟨_, exec_cmpFire harmed hreached, ?_⟩
      rw [State.cmpFire_once hp hperiod]
      exact ⟨(State.bit_wr_ne hfired (cmpFields_key_ne (by decide) (by decide) (by decide) n.val)).trans
        (State.bit_fired_cmpFired hp n), State.bit_wrB_self hfired rfl false n.val 0 0⟩
  · intro n d s hok p old u new hperiod hroom
    obtain ⟨hahead, hwithin⟩ := first_multiple_bounds hperiod d
    have hu : u = s.cmpRepeat n.val ((old + (d / p + 1) * p) % 2 ^ 64) (d / p) := State.cmpFire_periodic hok hperiod d
    have hnew : new = old + (d / p + 1) * p := by
      show u.rd F.TIME_CMP_TARGET_TARGET n.val = _
      rw [hu, State.rd_target_cmpRepeat hok (Nat.mod_lt _ (by decide)), Nat.mod_eq_of_lt (by omega)]
    refine ⟨by omega, by omega, ?_, ?_, ?_⟩
    · rw [hnew, Nat.add_sub_cancel_left, Nat.mul_mod_left]
    · rw [hu, State.bit_cmpRepeat hok (by decide) (by decide) (by decide), State.bit_fired_cmpFired hok]
    · rw [hu, State.bit_cmpRepeat hok (by decide) (by decide) (by decide), State.bit, State.bit,
        State.rd_cmpFired hok (by decide) (by decide)]

end Sys2Proof.Machine
end

section
/-! What holds of every command: the step that runs it, the answer it gives, the fuses and the flash it leaves, and
the state it leaves where nothing stands beside its effect. -/

namespace Sys2Proof.Machine

/-! ### The step (log entry 1) -/

/-- Settles O1: the step looks at the front of the queue. -/
theorem stepRunsFront : Obligations.StepRunsFront := by
  intro c rest s hpending
  rw [step, hpending]

/-! ### Answers (log entry 3) -/

section
variable {s : State}

/-- An outcome is a next state with the queue of `s`. -/
def Completes (s : State) (o : Host.Outcome State Fault Refusal) : Prop := ∃ t, o = .next t ∧ t.pending = s.pending

theorem completes_next {t : State} (h : t.pending = s.pending) : Completes s (.next t) := ⟨t, rfl, h⟩

/-- What follows a command puts the queue back. -/
theorem completes_done (u : State) : Completes s (done s u) := ⟨_, rfl, rfl⟩

/-- An issue that is withheld, illegal or guarded off completes; so does one whose instruction completes. -/
theorem completes_issue {opc : Nat} {q : Fin 8} {w : Fields} {o : Host.Outcome State Fault Refusal} (h : Completes s o) :
    Completes s (issue opc q w s o) := by
  rw [issue]
  split
  · exact completes_next rfl
  · split
    · exact completes_done _
    · split
      · exact completes_next rfl
      · exact h

theorem completes_execLocal (opc : Nat) (q : Fin 8) (w : Fields) (f : Seq → Except Nat Seq) :
    Completes s (execLocal opc q w f s) := by
  refine completes_issue ?_
  cases f (s.sq q.val) with
  | ok y => exact completes_next rfl
  | error c => exact completes_done _

theorem completes_execMem (opc : Nat) (q : Fin 8) (w : Fields)
    (f : Seq → List Host.Cell → Except Nat (Seq × List Host.Cell)) : Completes s (execMem opc q w f s) := by
  refine completes_issue ?_
  cases f (s.sq q.val) s.mem with
  | ok y => exact completes_next rfl
  | error c => exact completes_done _

theorem completes_execEngine (opc : Nat) (q : Fin 8) (w : Fields) (f : State → Seq → Except Nat State) :
    Completes s (execEngine opc q w f s) := by
  refine completes_issue ?_
  cases f s (s.sq q.val) with
  | ok t => exact completes_done _
  | error c => exact completes_done _

theorem completes_execFenceDone (q : Fin 8) : Completes s (execFenceDone q s) := by
  refine completes_next ?_
  split
  · rfl
  · rfl

theorem completes_execIllegalOpcode (q : Fin 8) (w : W64) : Completes s (execIllegalOpcode q w s) := by
  rw [execIllegalOpcode]
  split
  · exact completes_done _
  · exact completes_next rfl

/-! The shapes that rows of one kind share. -/

section
variable (opc : Nat) (q : Fin 8) (w : Fields)

theorem completes_aluRR (f : W64 → W64 → W64) : Completes s (aluRR opc q w f s) := completes_execLocal _ _ _ _

theorem completes_aluR (f : W64 → W64) : Completes s (aluR opc q w f s) := completes_execLocal _ _ _ _

theorem completes_aluPP (f : Bool → Bool → Bool) : Completes s (aluPP opc q w f s) := completes_execLocal _ _ _ _

theorem completes_fpuRR (f : W32 → W32 → W32) : Completes s (fpuRR opc q w f s) := completes_execLocal _ _ _ _

theorem completes_fpuR (f : W32 → W32) : Completes s (fpuR opc q w f s) := completes_execLocal _ _ _ _

theorem completes_readView (mod : BitVec 5) (width bound : Nat) (view : State → Nat → BitVec 64) :
    Completes s (readView mod q w width bound view s) := by
  rw [readView]
  exact completes_execEngine _ _ _ _

theorem completes_loopInstr (pre : State → Seq → Nat → Option Nat) (eff : State → Seq → Nat → State) :
    Completes s (loopInstr opc q w pre eff s) := completes_execEngine _ _ _ _

end

/-- Every command completes: an instruction by how its kind issues, any other command by what follows its effect. -/
theorem completes_exec (c : Instr) : Completes s (exec c s) := by
  cases c <;> dsimp only [exec]
  case fenceDone => exact completes_execFenceDone _
  case illegalOpcode => exact completes_execIllegalOpcode _ _
  case add | sub | mul | mulhu | divu | remu | and | or | xor | shl | shr | sar | min | max | minu | maxu =>
    exact completes_aluRR _ _ _ _
  case addi | andi | ori | xori | shri | sari | popc | clz => exact completes_aluR _ _ _ _
  case pand | pxor | por => exact completes_aluPP _ _ _ _
  case fadd | fsub | fmul | fdiv | fmin | fmax => exact completes_fpuRR _ _ _ _
  case fsqrt | fabs | fneg => exact completes_fpuR _ _ _ _
  case nop | shli | movi | movhi | bfx | bfi | cmp | cmpi | pnot | pget | pput | sqid | rdcyc | fma | fcmp | fcvtSL
      | fcvtLS | fmovi | fmvgf | fmvfg | fence | br | jmp | call | callr | loop => exact completes_execLocal _ _ _ _
  case ld | st | fld | fst | cas | aadd => exact completes_execMem _ _ _ _
  case readwIn | readwOut | readwCell => exact completes_readView _ _ _ _ _ _
  case lset | lmode | lpreset | linj | lcap => exact completes_loopInstr _ _ _ _ _
  case rdx | wrx | unpin | disc | conn | pin | epoch | abort | solve | stage | lay | verify | readwSt | readwStable | send
      | recv | recvN | ack | waitt | waite | tnow | hist | fraise | fack | halt | sleep | sync | trap =>
    exact completes_execEngine _ _ _ _
  all_goals exact completes_done _

end

/-- Settles O4: every command completes. -/
theorem everyCommandAnswers : Obligations.EveryCommandAnswers := fun c _ => completes_exec c

/-! ### Fuses and flash (R442, R452, R455) -/

/-- Settles O6: a command outside `mayBurn` answers with the lasting contents it found, which is `exec_good`. -/
theorem onlyBurnersChangeFusesOrFlash : Obligations.OnlyBurnersChangeFusesOrFlash := by
  intro c s t hok hburn hexec
  have hanswers : Answers s.lasting (exec c s) := exec_good c hburn (good_self hok)
  rw [hexec] at hanswers
  have hlasting : t.lasting = s.lasting := lasting_of_good hanswers
  exact Prod.mk.inj hlasting

/-! ### Quiet commands (R382, R450, R458) -/

/-- Where nothing is to settle, only FAULT_N follows. -/
theorem settle_of_quiet {s u : State} (h : State.Quiet s u) : settle s u = u.settlePins := by
  rw [settle, show unsettled s u = false from h]
  rfl

/-- Settles O7: nothing is to settle but FAULT_N. -/
theorem quietCommandIsItsEffect : Obligations.QuietCommandIsItsEffect := by
  intro s u hquiet
  rw [State.after, settle_of_quiet hquiet]
  rfl

/-! ### Disabled domains (R428) -/

/-- A write to a domain that is not open has no effect. -/
theorem State.ifOpen_of_closed {s : State} {d : Nat} (h : s.domOpen d = false) (t : State) : s.ifOpen d t = s :=
  if_neg (by rw [h]; decide)

/-- Settles O56: each of these commands is its effect where its domain is open. -/
theorem closedDomains : Obligations.ClosedDomains := by
  intro s d i e v l a b x n t g c hmem hclosed
  suffices hgated : ∃ u, exec i s = s.goes (s.ifOpen d u) by
    obtain ⟨u, hu⟩ := hgated
    rw [hu, State.ifOpen_of_closed hclosed]
  simp only [List.mem_cons, List.not_mem_nil, or_false, Prod.mk.injEq] at hmem
  rcases hmem with ⟨rfl, rfl⟩ | ⟨rfl, rfl⟩ | ⟨rfl, rfl⟩ | ⟨rfl, rfl⟩ | ⟨rfl, rfl⟩ | ⟨rfl, rfl⟩ | ⟨rfl, rfl⟩ | ⟨rfl, rfl⟩ |
    ⟨rfl, rfl⟩ | ⟨rfl, rfl⟩ | ⟨rfl, rfl⟩ | ⟨rfl, rfl⟩ | ⟨rfl, rfl⟩ | ⟨rfl, rfl⟩ | ⟨rfl, rfl⟩ | ⟨rfl, rfl⟩ | ⟨rfl, rfl⟩ |
    ⟨rfl, rfl⟩ | ⟨rfl, rfl⟩ | ⟨rfl, rfl⟩ | ⟨rfl, rfl⟩ | ⟨rfl, rfl⟩ | ⟨rfl, rfl⟩ | ⟨rfl, rfl⟩ | ⟨rfl, rfl⟩ | ⟨rfl, rfl⟩ |
    ⟨rfl, rfl⟩ <;> exact ⟨_, rfl⟩

end Sys2Proof.Machine
end

section
/-! Resets and the steps of start-up, flash commands and changes of the life cycle (16, 18). -/

namespace Sys2Proof.Machine

/-! ### Start-up (R441) -/

/-- A step of start-up ends by the phase it is in. -/
theorem exec_startupStepDone {s u : State} {n : Nat} (hstep : s.rd F.BOOT_STATUS_PHASE = n → s.stepDone = u)
    (hphase : s.rd F.BOOT_STATUS_PHASE = n) : exec .startupStepDone s = s.goes u := congrArg s.goes (hstep hphase)

/-- Settles O58: a reset is its state written out, and a step of start-up is chosen by its phase. -/
theorem resetAndStartup : Obligations.ResetAndStartup := by
  refine ⟨fun s => ⟨rfl, rfl, rfl, fun hlc => congrArg s.goes (if_pos hlc),
    fun hlc => congrArg s.goes (if_neg (Nat.not_le.mpr hlc)), fun hphase => congrArg s.goes (if_pos hphase), fun c => ?_⟩,
    fun s im => ?_⟩
  · exact ⟨rfl, rfl, ⟨rfl, rfl, rfl, rfl, rfl, rfl, rfl, rfl, rfl⟩, ⟨rfl, rfl, rfl, rfl, rfl, rfl, rfl, rfl, rfl⟩⟩
  · refine ⟨exec_startupStepDone ?_, exec_startupStepDone ?_, exec_startupStepDone ?_, exec_startupStepDone ?_,
      exec_startupStepDone ?_, fun himg => ⟨exec_startupStepDone ?_, exec_startupStepDone ?_⟩⟩ <;>
        intro hphase <;> simp only [State.stepDone, hphase]
    all_goals rw [himg]

/-- A loop that writes fields at other places than the one read leaves it as it was. -/
theorem rd_forEach_wr {β : Type} {s : State} {f g : Fld} {v i j k : β → Nat} {i' j' k' : Nat} (hok : s.ok = true)
    (hkey : ∀ c, g.key i' j' k' ≠ f.key (i c) (j c) (k c)) (l : List β) :
    (forEach l (fun s c => s.wr f (v c) (i c) (j c) (k c)) s).rd g i' j' k' = s.rd g i' j' k' :=
  (List.foldlRecOn (motive := fun t : State => t.ok = true ∧ t.rd g i' j' k' = s.rd g i' j' k') l _ ⟨hok, rfl⟩
    (fun _ ht c _ => ⟨State.wr_keeps_ok ht.1 _ _ _ _ _, (State.rd_wr_ne ht.1 (hkey c)).trans ht.2⟩)).2

section
variable {s : State}

/-! ### Flash commands (R408, R456) -/

/-- No queued command is issued while the controller is busy, the gate is closed, or none waits. -/
theorem State.flashIssue_eq_self
    (h : s.bit F.FLASH_STATUS_BUSY = true ∨ s.bit F.THERM_STATUS_FLASH_GATE = false ∨ s.therm.flashQ = []) :
    s.flashIssue = s := by
  rw [State.flashIssue]
  split
  · rfl
  · next hqueue =>
    rcases h with hbusy | hgate | hempty
    · simp [hbusy]
    · simp [hgate]
    · simp [hempty] at hqueue

/-- The first queued command leaves the queue and begins. -/
def State.flashDequeue (s : State) (op addr : Nat) (data : List Byte) (rest : List (Nat × Nat × List Byte)) : State :=
  ((({ s with therm := { s.therm with flashQ := rest } } : State).wr F.THERM_FLASH_Q_DEPTH rest.length).wrB
    F.FLASH_STATUS_QUEUED (!rest.isEmpty)).flashBegin op addr data

theorem exec_flashQueueIssue {op addr : Nat} {data : List Byte} {rest : List (Nat × Nat × List Byte)}
    (hqueue : s.therm.flashQ = (op, addr, data) :: rest) (hgate : s.bit F.THERM_STATUS_FLASH_GATE = true)
    (hbusy : s.bit F.FLASH_STATUS_BUSY = false) :
    exec .flashQueueIssue s = s.goes (s.flashDequeue op addr data rest) := by
  refine congrArg s.goes ?_
  simp only [State.flashIssue, hqueue, hgate, hbusy]
  rfl

theorem State.bit_busy_flashBegin (hok : s.ok = true) (op addr : Nat) (data : List Byte) :
    (s.flashBegin op addr data).bit F.FLASH_STATUS_BUSY = true := State.bit_wrB_self (by exact hok) rfl true 0 0 0

/-- A command that waits for the gate, before WRITE_DEFERRED is raised. -/
def State.flashWait (s : State) (op addr : Nat) (data : List Byte) : State :=
  (({ s with therm := { s.therm with flashQ := s.therm.flashQ ++ [(op, addr, data)], flashDefer := true } } : State).wr
    F.THERM_FLASH_Q_DEPTH (s.therm.flashQ ++ [(op, addr, data)]).length).wrB F.FLASH_STATUS_QUEUED true

/-- A command that joins the queue; the first since the gate closed raises WRITE_DEFERRED (R408). -/
def State.flashQueue (s : State) (op addr : Nat) (data : List Byte) : State :=
  if !s.therm.flashDefer then (s.flashWait op addr data).raise 70 1 else s.flashWait op addr data

theorem State.besidesFaults_flashQueue (op addr : Nat) (data : List Byte) :
    (s.flashQueue op addr data).besidesFaults = (s.flashWait op addr data).besidesFaults := by
  simp only [State.flashQueue, apply_ite State.besidesFaults, State.besidesFaults_raise (n := 70) (by decide), ite_self]

/-- The data a command takes with it: the page buffer, for a program. -/
def State.flashData (s : State) (op : Nat) : List Byte := if op = 2 then s.flashBuf else []

section
variable {op : Nat} (hlow : 1 ≤ op) (hhigh : op ≤ 4)
include hlow hhigh

theorem flashOp_valid : (op = 0 || 4 < op : Bool) = false := by
  simp only [Bool.or_eq_false_iff, decide_eq_false_iff_not]
  omega

/-- A command is refused while another is in progress. -/
theorem State.flashSubmit_busy (hbusy : s.bit F.FLASH_STATUS_BUSY = true) (a : Nat) :
    s.flashSubmit op a = s.wr F.FLASH_STATUS_RESULT 3 := by
  simp [State.flashSubmit, flashOp_valid hlow hhigh, State.flashIssue_eq_self (.inl hbusy), hbusy]

variable (hbusy : s.bit F.FLASH_STATUS_BUSY = false)
  (hwait : s.bit F.THERM_STATUS_FLASH_GATE = false ∨ s.therm.flashQ = [])
include hbusy hwait

/-- What becomes of a command whose controller is free. -/
theorem State.flashSubmit_free (a : Nat) :
    s.flashSubmit op a =
      if op = 1 then s.flashBegin op (s.flashAddr a) []
      else if s.flashProtected op (s.flashAddr a) then s.wr F.FLASH_STATUS_RESULT 2
      else if s.bit F.THERM_STATUS_FLASH_GATE then s.flashBegin op (s.flashAddr a) (s.flashData op)
      else if 64 ≤ s.therm.flashQ.length then (s.wr F.FLASH_STATUS_RESULT 4).inc F.THERM_FLASH_Q_REFUSED
      else s.flashQueue op (s.flashAddr a) (s.flashData op) := by
  simp only [State.flashSubmit, flashOp_valid hlow hhigh, State.flashIssue_eq_self (.inr hwait), hbusy,
    Bool.false_eq_true, if_false]
  rfl

theorem State.flashSubmit_read (hop : op = 1) (a : Nat) :
    s.flashSubmit op a = s.flashBegin op (s.flashAddr a) [] :=
  (State.flashSubmit_free hlow hhigh hbusy hwait a).trans (if_pos hop)

variable (hop : op ≠ 1)
include hop

theorem State.flashSubmit_protected {a : Nat} (hprot : s.flashProtected op (s.flashAddr a) = true) :
    s.flashSubmit op a = s.wr F.FLASH_STATUS_RESULT 2 :=
  (State.flashSubmit_free hlow hhigh hbusy hwait a).trans ((if_neg hop).trans (if_pos hprot))

variable {a : Nat} (hprot : s.flashProtected op (s.flashAddr a) = false)
include hprot

theorem State.flashSubmit_open (hgate : s.bit F.THERM_STATUS_FLASH_GATE = true) :
    s.flashSubmit op a = s.flashBegin op (s.flashAddr a) (s.flashData op) :=
  (State.flashSubmit_free hlow hhigh hbusy hwait a).trans
    ((if_neg hop).trans ((if_neg (Bool.eq_false_iff.mp hprot)).trans (if_pos hgate)))

theorem State.flashSubmit_queued (hgate : s.bit F.THERM_STATUS_FLASH_GATE = false) (hroom : s.therm.flashQ.length < 64) :
    s.flashSubmit op a = s.flashQueue op (s.flashAddr a) (s.flashData op) :=
  (State.flashSubmit_free hlow hhigh hbusy hwait a).trans ((if_neg hop).trans ((if_neg (Bool.eq_false_iff.mp hprot)).trans
    ((if_neg (Bool.eq_false_iff.mp hgate)).trans (if_neg (Nat.not_le.mpr hroom)))))

end

/-! ### The end of a flash command -/

/-- The controller is free again and shows how the command ended. -/
def State.flashFreed (s : State) (ok : Bool) : State :=
  (({ s with boot := { s.boot with flashOp := none } } : State).wrB F.FLASH_STATUS_BUSY false).wr F.FLASH_STATUS_RESULT
    (if ok then 1 else 5)

theorem State.flashFreed_ok (hok : s.ok = true) (ok : Bool) : (s.flashFreed ok).ok = true :=
  State.wr_keeps_ok (State.wr_keeps_ok (by exact hok) _ _ _ _ _) _ _ _ _ _

theorem State.bit_busy_flashFreed (hok : s.ok = true) (ok : Bool) : (s.flashFreed ok).bit F.FLASH_STATUS_BUSY = false :=
  (State.bit_wr_ne (State.wr_keeps_ok (by exact hok) _ _ _ _ _) (by decide)).trans
    (State.bit_wrB_self (by exact hok) rfl false 0 0 0)

theorem State.rd_result_flashFreed (hok : s.ok = true) (ok : Bool) :
    (s.flashFreed ok).rd F.FLASH_STATUS_RESULT = if ok then 1 else 5 := by
  have hcode : (if ok then 1 else 5) < 2 ^ F.FLASH_STATUS_RESULT.width := by cases ok <;> decide
  exact State.rd_wr_of_lt (State.wr_keeps_ok (by exact hok) _ _ _ _ _) hcode (by decide) 0 0 0

/-- A page read into the buffer. -/
def State.flashFill (s : State) (l : List Byte) : State :=
  forEach (List.range 64) (fun s k => s.wr F.FLASH_BUF_DATA (bytesAt l (4 * k) 4) 0 0 k) s

/-- The page buffer lies above FLASH_STATUS. -/
theorem State.rd_flashFill (hok : s.ok = true) {f : Fld} (hbelow : f.key 0 0 0 < F.FLASH_BUF_DATA.key 0 0 0) (l : List Byte) :
    (s.flashFill l).rd f = s.rd f :=
  rd_forEach_wr (i := fun _ => 0) (j := fun _ => 0) (k := fun c => c) hok
    (fun _ => Nat.ne_of_lt (hbelow.trans_le (Nat.le_add_right _ _))) _

theorem State.flashFill_boot (l : List Byte) : (s.flashFill l).boot = s.boot :=
  forEach_frame (g := State.boot) (fun t _ => t.wr_boot _ _ _ _ _) _ _

/-- What the end of a command does besides freeing the controller: a page filled, bytes of the flash changed. -/
theorem State.flashEnd_eq {op addr : Nat} {data : List Byte} (hop : s.boot.flashOp = some (op, addr, data)) (ok : Bool) :
    let u := s.flashFreed ok
    (∃ l, s.flashEnd ok = u.flashFill l) ∨
      ∃ fl fr, s.flashEnd ok = { u with fresh := fr, boot := { u.boot with flash := fl } } := by
  intro u
  have hcase : s.flashEnd ok =
      if op = 1 then (if ok then u.flashFill (u.flashBytes addr 256) else u)
      else if !ok then u.flashSpoil (flashRange op addr).1 (flashRange op addr).2
      else if op = 2 then u.flashPut (flashRange op addr).1
        (List.zipWith (fun (a b : Byte) => a &&& b) (u.flashBytes (flashRange op addr).1 (flashRange op addr).2) data)
      else u.flashPut (flashRange op addr).1 (List.replicate (flashRange op addr).2 0xFF) := by
    rw [State.flashEnd, hop]
    rfl
  rw [hcase]
  split
  · split
    · exact .inl ⟨_, rfl⟩
    · exact .inr ⟨u.boot.flash, u.fresh, rfl⟩
  · split
    · exact .inr ⟨_, _, rfl⟩
    · split
      · exact .inr ⟨_, u.fresh, rfl⟩
      · exact .inr ⟨_, u.fresh, rfl⟩

/-- The end of a command frees the controller with its RESULT. -/
theorem State.flashEnd_frees (hok : s.ok = true) {op addr : Nat} {data : List Byte}
    (hop : s.boot.flashOp = some (op, addr, data)) (ok : Bool) :
    let u := s.flashEnd ok
    u.boot.flashOp = none ∧ u.bit F.FLASH_STATUS_BUSY = false ∧
      u.rd F.FLASH_STATUS_RESULT = if ok then 1 else 5 := by
  have hfreed := State.flashFreed_ok hok ok
  rcases State.flashEnd_eq hop ok with ⟨l, hend⟩ | ⟨fl, fr, hend⟩ <;> simp only [hend]
  · refine ⟨by rw [State.flashFill_boot]; rfl, ?_, ?_⟩
    · rw [State.bit, State.rd_flashFill hfreed (by decide)]
      exact State.bit_busy_flashFreed hok ok
    · rw [State.rd_flashFill hfreed (by decide)]
      exact State.rd_result_flashFreed hok ok
  · exact ⟨rfl, State.bit_busy_flashFreed hok ok, State.rd_result_flashFreed hok ok⟩

/-! ### The life cycle (R454, R455) -/

/-- A nonce drawn writes its words and is held; what no field holds stays but for the free values drawn. -/
theorem State.lcNonce_frame {α : Type} {g : State → α} (hwr : ∀ s f v k, g (State.wr s f v 0 0 k) = g s) :
    g s.lcNonce = g { s with fresh := s.fresh + 8, boot := { s.boot with nonceHeld := true } } :=
  forEach_frame (fun t k => hwr t _ _ k) _ _

/-- Every refusal has a code of RESULT. -/
theorem State.lcRefusal_lt (t : Nat) : s.lcRefusal t < 2 ^ F.BOOT_LC_CTRL_RESULT.width := by
  rw [State.lcRefusal]
  split
  · decide
  · split
    · decide
    · split
      · decide
      · split <;> decide

/-- A change that is refused shows its code; the nonce is spent. -/
theorem State.lcGo_refused {t : Nat} (h : s.lcRefusal t ≠ 0) :
    s.lcGo t = ({ s with boot := { s.boot with nonceHeld := false } } : State).wr F.BOOT_LC_CTRL_RESULT (s.lcRefusal t) :=
  if_pos h

/-- A change that is allowed burns the life cycle and resets, or leaves every fuse (R455, log entry 17). -/
theorem State.lcGo_allowed {t : Nat} (h : s.lcRefusal t = 0) :
    (s.lcGo t).boot.nonceHeld = false ∧
      ((s.lcGo t).boot.fuses.lc = t ∨ (s.lcGo t).boot.fuses = s.boot.fuses) := by
  simp only [State.lcGo, h, ne_eq, not_true_eq_false, if_false]
  split
  · exact ⟨rfl, .inr rfl⟩
  · exact ⟨rfl, .inl rfl⟩

end

/-- Settles O59: a flash command by whether the controller is free, its range protected and the gate open; a change of
the life cycle by its refusal. -/
theorem flashAndLifeCycle : Obligations.FlashAndLifeCycle := by
  refine ⟨fun a s hok => ?_, fun t s hok => ⟨?_, ?_, ?_⟩⟩
  · intro x gate busy refuses begins queues free row
    have hrefuses {i : Instr} {op code : Nat} (hexec : exec i s = s.goes (s.flashSubmit op a.toNat)) (hcode : code < 8)
        (hsubmit : s.flashSubmit op a.toNat = s.wr F.FLASH_STATUS_RESULT code) : refuses i code :=
      ⟨_, hexec, by rw [hsubmit]; exact State.rd_wr_of_lt hok hcode (by decide) 0 0 0, by rw [hsubmit]; rfl,
        by rw [hsubmit]; rfl⟩
    have hbegins {i : Instr} {op : Nat} {l : List Byte} (hexec : exec i s = s.goes (s.flashSubmit op a.toNat))
        (hsubmit : s.flashSubmit op a.toNat = s.flashBegin op x l) : begins i op :=
      ⟨_, l, hexec, by rw [hsubmit]; rfl, by rw [hsubmit]; exact State.bit_busy_flashBegin hok _ _ _, by rw [hsubmit]; rfl⟩
    have hrow {i : Instr} {op : Nat} (hlow : 2 ≤ op) (hhigh : op ≤ 4)
        (hexec : exec i s = s.goes (s.flashSubmit op a.toNat)) : row i op := by
      have hvalid : 1 ≤ op := by omega
      have hread : op ≠ 1 := by omega
      refine ⟨fun hbusy => ?_, fun ⟨hbusy, hwait⟩ hprot => ?_, fun ⟨hbusy, hwait⟩ hprot hgate => ?_,
        fun ⟨hbusy, hwait⟩ hprot hgate hroom => ?_⟩
      · exact hrefuses hexec (by decide) (State.flashSubmit_busy hvalid hhigh hbusy _)
      · exact hrefuses hexec (by decide) (State.flashSubmit_protected hvalid hhigh hbusy hwait hread hprot)
      · exact hbegins hexec (State.flashSubmit_open hvalid hhigh hbusy hwait hread hprot hgate)
      · have hqueue := State.besidesFaults_flashQueue (s := s) op x (s.flashData op)
        have hflashQ := congrArg (fun t : State => t.therm.flashQ) hqueue
        have hboot := congrArg State.boot hqueue
        rw [State.flashSubmit_queued hvalid hhigh hbusy hwait hread hprot hgate hroom] at hexec
        exact ⟨_, s.flashData op, hexec, hflashQ, hboot⟩
    refine ⟨fun hbusy => ?_, fun ⟨hbusy, hwait⟩ => ?_, hrow (by decide) (by decide) rfl, hrow (by decide) (by decide) rfl,
      hrow (by decide) (by decide) rfl, ?_, ?_⟩
    · exact hrefuses rfl (by decide) (State.flashSubmit_busy (by decide) (by decide) hbusy _)
    · exact hbegins rfl (State.flashSubmit_read (by decide) (by decide) hbusy hwait rfl _)
    · intro op y l rest hqueue hgate hbusy
      exact ⟨_, exec_flashQueueIssue hqueue hgate hbusy, rfl, rfl⟩
    · intro op y l ok hop
      exact ⟨_, rfl, State.flashEnd_frees hok hop ok⟩
  · exact ⟨_, rfl, State.lcNonce_frame (g := fun t => t.boot.nonceHeld) (fun _ _ _ _ => rfl),
      State.lcNonce_frame (g := fun t => t.boot.fuses) (fun _ _ _ _ => rfl), State.lcNonce_frame (g := State.mem) (fun _ _ _ _ => rfl)⟩
  · intro hrefused
    refine ⟨_, rfl, ?_, ?_, ?_⟩ <;> rw [State.lcGo_refused hrefused]
    · exact State.rd_wr_of_lt (by exact hok) (State.lcRefusal_lt _) (by decide) 0 0 0
    · rfl
    · rfl
  · intro hallowed
    exact ⟨_, rfl, State.lcGo_allowed hallowed⟩

end Sys2Proof.Machine
end

section
/-! What an operation may write (15): the fields it reaches, with memory and every other field as they were; the fault
unit's raises, acknowledgements and releases. -/

namespace Sys2Proof.Machine

/-! ### Fields an operation reaches -/

/-- `t` is a sound state with the memory of `s` and every field of `s` whose key is not in `K`. -/
def State.WritesOnly (K : Nat → Prop) (s t : State) : Prop :=
  t.ok = true ∧ t.mem = s.mem ∧ ∀ (f : Fld) (i j k : Nat), ¬ K (f.key i j k) → t.rd f i j k = s.rd f i j k

section
variable {K : Nat → Prop} {s t u : State}

theorem State.WritesOnly.refl (hok : s.ok = true) : State.WritesOnly K s s := ⟨hok, rfl, fun _ _ _ _ _ => rfl⟩

theorem State.WritesOnly.trans (hst : State.WritesOnly K s t) (htu : State.WritesOnly K t u) : State.WritesOnly K s u := by
  obtain ⟨-, hmem, hrd⟩ := hst
  obtain ⟨hok, hmem', hrd'⟩ := htu
  exact ⟨hok, hmem'.trans hmem, fun f i j k hk => (hrd' f i j k hk).trans (hrd f i j k hk)⟩

theorem State.WritesOnly.mono {L : Nat → Prop} (hst : State.WritesOnly K s t) (hle : ∀ a, K a → L a) :
    State.WritesOnly L s t := by
  obtain ⟨hok, hmem, hrd⟩ := hst
  exact ⟨hok, hmem, fun f i j k hk => hrd f i j k (fun h => hk (hle _ h))⟩

theorem State.WritesOnly.wr (hst : State.WritesOnly K s t) {f : Fld} {i j k : Nat} (hk : K (f.key i j k)) (v : Nat) :
    State.WritesOnly K s (t.wr f v i j k) := by
  obtain ⟨hok, hmem, hrd⟩ := hst
  refine ⟨State.wr_keeps_ok hok _ _ _ _ _, hmem, fun g i' j' k' hg => ?_⟩
  have hne : g.key i' j' k' ≠ f.key i j k := fun e => hg (e ▸ hk)
  exact (State.rd_wr_ne hok hne).trans (hrd g i' j' k' hg)

/-- What is neither a field nor memory may change at will. -/
theorem State.WritesOnly.congr (hst : State.WritesOnly K s t) (hregs : u.regs = t.regs) (hmem : u.mem = t.mem) :
    State.WritesOnly K s u := by
  obtain ⟨hok, hmem', hrd⟩ := hst
  refine ⟨?_, hmem.trans hmem', fun f i j k hk => (State.rd_congr hregs f i j k).trans (hrd f i j k hk)⟩
  rw [State.ok, hregs, hmem]
  exact hok

theorem State.WritesOnly.ite {c : Prop} [Decidable c] (ht : State.WritesOnly K s t) (hu : State.WritesOnly K s u) :
    State.WritesOnly K s (if c then t else u) := by
  split
  · exact ht
  · exact hu

theorem State.WritesOnly.forEach {β : Type} {f : State → β → State} (hst : State.WritesOnly K s t) (l : List β)
    (hf : ∀ t b, t.ok = true → State.WritesOnly K t (f t b)) : State.WritesOnly K s (Machine.forEach l f t) := by
  induction l generalizing t with
  | nil => exact hst
  | cons b l ih => exact ih (hst.trans (hf t b hst.1))

theorem State.WritesOnly.bit (hst : State.WritesOnly K s t) {f : Fld} {i j k : Nat} (hk : ¬ K (f.key i j k)) :
    t.bit f i j k = s.bit f i j k := by
  rw [State.bit, State.bit, hst.2.2 f i j k hk]

end

/-! ### Raises (R379 to R386) -/

/-- Where a raise reports: FAULT_STATUS to FAULT_LOG_HEAD, FAULT_LOG, SEQ_HOOK. -/
def faultReports (a : Nat) : Prop :=
  (F.FAULT_STATUS_INT_PEND.key 0 0 0 ≤ a ∧ a < F.FAULT_ACTIVE_ACTIVE.key 0 0 0) ∨
    (F.FAULT_LOG_SOURCE.key 0 0 0 ≤ a ∧ a < F.FAULT_LOG_SOURCE.key 64 0 0) ∨
    (F.SEQ_HOOK_EN.key 0 0 0 ≤ a ∧ a < F.SEQ_HOOK_EN.key 32 0 0)

/-- Where a raise writes: its source's status, and where it reports. -/
def faultFields (a : Nat) : Prop :=
  faultReports a ∨ (F.FAULT_SRC_STATUS_ACTIVE.key 0 0 0 ≤ a ∧ a < F.FAULT_SRC_STATUS_ACTIVE.key 128 0 0)

section
variable {s t : State} {K : Nat → Prop}

theorem State.WritesOnly.reports (hst : State.WritesOnly faultReports s t) {f : Fld}
    (h : F.FAULT_STATUS_INT_PEND.key 0 0 0 ≤ f.key 0 0 0 ∧ f.key 0 0 0 < F.FAULT_ACTIVE_ACTIVE.key 0 0 0) (v : Nat) :
    State.WritesOnly faultReports s (t.wr f v) := hst.wr (.inl h) v

theorem State.writesOnly_fireHook (hok : s.ok = true) {h : Nat} (hh : h < 32) (arg : W32) :
    State.WritesOnly faultReports s (s.fireHook h arg) := by
  have hnoted : State.WritesOnly faultReports s (s.noteHook h) := (State.WritesOnly.refl hok).congr rfl rfl
  rw [State.fireHook]
  split
  · split
    · refine hnoted.wr (.inr (.inr ?_)) _
      simp only [Fld.key, F.SEQ_HOOK_OVF, F.SEQ_HOOK_EN]
      omega
    · refine (hnoted.wr (f := F.SEQ_HOOK_PEND) (i := h) (j := 0) (k := 0) (.inr (.inr ?_)) _).congr rfl rfl
      simp only [Fld.key, F.SEQ_HOOK_PEND, F.SEQ_HOOK_EN]
      omega
  · exact hnoted

theorem State.writesOnly_fireClkfail (hok : s.ok = true) (arg : W32) :
    State.WritesOnly faultReports s (s.fireClkfail arg) := by
  have hrefl : State.WritesOnly faultReports s s := .refl hok
  simp only [State.fireClkfail]
  split
  · refine State.WritesOnly.wr (t := s.noteHook 0) (hrefl.congr rfl rfl) (.inr (.inr ?_)) _
    decide
  · split
    · exact hrefl.congr rfl rfl
    · exact State.writesOnly_fireHook hok (by decide) arg

theorem State.writesOnly_logSlot (hok : s.ok = true) {i : Nat} (hi : i < 64) (x : FaultEntry) :
    State.WritesOnly faultReports s (s.logSlot i x) := by
  have hslot {f : Fld} (hbase : f.addr = 0x01051000) (hstride : f.s1 = 0x10) (hlsb : f.lsb < 128) :
      faultReports (f.key i 0 0) := by
    refine .inr (.inl ?_)
    simp only [Fld.key, F.FAULT_LOG_SOURCE, hbase, hstride]
    omega
  have hrefl : State.WritesOnly faultReports s s := .refl hok
  have hflags := (((hrefl.wr (hslot (f := F.FAULT_LOG_SOURCE) rfl rfl (by decide)) x.src).wr
    (hslot (f := F.FAULT_LOG_INJECTED) rfl rfl (by decide)) (boolNat x.injected)).wr
    (hslot (f := F.FAULT_LOG_SEV) rfl rfl (by decide)) x.sev)
  exact (((hflags.wr (hslot (f := F.FAULT_LOG_EFF) rfl rfl (by decide)) x.eff).wr
    (hslot (f := F.FAULT_LOG_REACT) rfl rfl (by decide)) x.react).wr
    (hslot (f := F.FAULT_LOG_DETAIL) rfl rfl (by decide)) _).wr (hslot (f := F.FAULT_LOG_TIME) rfl rfl (by decide)) _

theorem State.writesOnly_logCycle (hok : s.ok = true) : State.WritesOnly faultReports s s.logCycle :=
  (State.WritesOnly.refl hok).forEach _ (fun _ _ ht => State.writesOnly_logSlot ht (Nat.mod_lt _ (by decide)) _)

theorem State.writesOnly_faultLog (hok : s.ok = true) (x : FaultEntry) :
    State.WritesOnly faultReports s (s.faultLog x) := by
  have hlost (i : Nat) : State.WritesOnly faultReports s
      (if s.fault.unread.contains i then s.inc F.FAULT_LOG_HEAD_LOST else s) :=
    .ite ((State.WritesOnly.refl hok).reports (by decide) _) (.refl hok)
  have hnewest (i : Nat) (y : FaultState) (v : Nat) :=
    State.WritesOnly.reports (f := F.FAULT_LOG_HEAD_NEWEST) ((hlost i).congr (u := { (if s.fault.unread.contains i then
      s.inc F.FAULT_LOG_HEAD_LOST else s) with fault := y }) rfl rfl) (by decide) v
  exact (hnewest _ _ _).reports (by decide) _

theorem State.writesOnly_faultFirst (hok : s.ok = true) (x : FaultEntry) :
    State.WritesOnly faultReports s (s.faultFirst x) := by
  have hrefl : State.WritesOnly faultReports s s := .refl hok
  refine .ite hrefl ?_
  have hsource := ((hrefl.reports (f := F.FAULT_FIRST_SOURCE) (by decide) x.src).reports (f := F.FAULT_FIRST_INJECTED) (by decide)
    (boolNat x.injected)).reports (f := F.FAULT_FIRST_SEV) (by decide) x.sev
  have hreact := (hsource.reports (f := F.FAULT_FIRST_EFF) (by decide) x.eff).reports (f := F.FAULT_FIRST_REACT) (by decide)
    x.react
  exact (((hreact.reports (f := F.FAULT_FIRST_DETAIL) (by decide) _).reports (f := F.FAULT_FIRST_TIME) (by decide) _).reports
    (f := F.FAULT_FIRST_VALID) (by decide) _).congr rfl rfl

theorem State.writesOnly_firstDetail (hok : s.ok = true) : State.WritesOnly faultReports s s.firstDetail :=
  .ite ((State.WritesOnly.refl hok).reports (by decide) _) (.refl hok)

theorem State.writesOnly_sendMsix (hok : s.ok = true) (vec : Nat) : State.WritesOnly faultReports s (s.sendMsix vec) :=
  .ite ((State.WritesOnly.refl hok).congr rfl rfl) (.refl hok)

/-- The reaction INT (R382): the hook CLKFAIL, or FAULT with its interrupt. -/
def State.intReact (s : State) (n : Nat) (detail : W32) : State :=
  if n = 0 then (s.fireClkfail detail).sendMsix 0
  else
    let s := s.fireHook 1 (BitVec.ofNat 32 n)
    if s.bit F.FAULT_STATUS_INT_PEND then s
    else (s.wrB F.FAULT_STATUS_INT_PEND true).sendMsix (s.rd F.FAULT_CTRL_VEC)

theorem State.writesOnly_intReact (hok : s.ok = true) (n : Nat) (detail : W32) :
    State.WritesOnly faultReports s (s.intReact n detail) := by
  have hclk := State.writesOnly_fireClkfail hok detail
  have hhook := State.writesOnly_fireHook hok (h := 1) (by decide) (BitVec.ofNat 32 n)
  have hpend := hhook.reports (f := F.FAULT_STATUS_INT_PEND) (by decide) 1
  exact .ite (hclk.trans (State.writesOnly_sendMsix hclk.1 _))
    (.ite hhook (hpend.trans (State.writesOnly_sendMsix hpend.1 _)))

theorem State.writesOnly_faultReact (hok : s.ok = true) (n react : Nat) (detail : W32) :
    State.WritesOnly faultReports s (s.faultReact n react detail) := by
  have hint : State.WritesOnly faultReports s (if react.testBit 1 then s.intReact n detail else s) :=
    .ite (State.writesOnly_intReact hok n detail) (.refl hok)
  have hfreeze {t : State} (ht : State.WritesOnly faultReports s t) : State.WritesOnly faultReports s
      (if react.testBit 2 then { t with fault := { t.fault with heldFreeze := true } } else t) := .ite (ht.congr rfl rfl) ht
  have hset {t : State} (ht : State.WritesOnly faultReports s t) (b : Nat) {f : Fld}
      (hf : F.FAULT_STATUS_INT_PEND.key 0 0 0 ≤ f.key 0 0 0 ∧ f.key 0 0 0 < F.FAULT_ACTIVE_ACTIVE.key 0 0 0) :
      State.WritesOnly faultReports s (if react.testBit b then t.wrB f true else t) := .ite (ht.reports hf _) ht
  exact hset (hset (hfreeze hint) 3 (f := F.FAULT_STATUS_HOLD) (by decide)) 4 (f := F.FAULT_STATUS_SAFE) (by decide)

/-- The flags of a source that raises. -/
def State.srcFlags (s : State) (n eff : Nat) (injected : Bool) : State :=
  ((s.wrB F.FAULT_SRC_STATUS_ACTIVE true n).wr F.FAULT_SRC_STATUS_EFF eff n).wrB F.FAULT_SRC_STATUS_INJECTED injected n

/-- The raises of a source in this cycle with one more among them (R379). -/
def State.joined (s : State) (n eff : Nat) (detail : W32) (injected : Bool) : CycleRaises :=
  ((s.srcFlags n eff injected).faultCycle.cycleOf n).join eff detail injected

/-- The place of the last raise of its kind among the raises of a source. -/
def CycleRaises.last (c : CycleRaises) (injected : Bool) : Nat :=
  if injected then c.details.length + c.injected - 1 else c.details.length - 1

/-- COUNT and DETAIL of a source with one raise more. -/
def State.srcCounted (s : State) (n : Nat) (detail : W32) : State :=
  (s.inc F.FAULT_SRC_STATUS_COUNT 1 n).wr F.FAULT_SRC_STATUS_DETAIL detail.toNat n

/-- The status of a source with one raise more. -/
def State.srcRaised (s : State) (n eff : Nat) (detail : W32) (injected : Bool) : State :=
  let c := s.joined n eff detail injected
  (s.srcFlags n eff injected).srcCounted n (c.detail (c.last injected) detail)

theorem State.faultCycle_regs (s : State) : s.faultCycle.regs = s.regs := by
  rw [State.faultCycle]
  split <;> rfl

theorem State.faultCycle_mem (s : State) : s.faultCycle.mem = s.mem := by
  rw [State.faultCycle]
  split <;> rfl

theorem State.srcCounted_regs {s t : State} (h : s.regs = t.regs) (n : Nat) (detail : W32) :
    (s.srcCounted n detail).regs = (t.srcCounted n detail).regs := by
  simp only [State.srcCounted, State.wr, State.inc, State.rd, h]

theorem State.srcRaised_mem (s : State) (n eff : Nat) (detail : W32) (injected : Bool) :
    (s.srcRaised n eff detail injected).mem = s.mem := by
  simp only [State.srcRaised, State.srcCounted, State.srcFlags, State.inc, State.wrB, State.wr_mem]

theorem State.srcRaised_ok (hok : s.ok = true) (n eff : Nat) (detail : W32) (injected : Bool) :
    (s.srcRaised n eff detail injected).ok = true :=
  State.wr_keeps_ok (State.wr_keeps_ok (State.wr_keeps_ok (State.wr_keeps_ok (State.wr_keeps_ok hok _ _ _ _ _) _ _ _ _ _)
    _ _ _ _ _) _ _ _ _ _) _ _ _ _ _

/-- A raise enters the log and FAULT_FIRST, and its reactions take force. -/
def State.report (s : State) (n : Nat) (detail : W32) (logged : Bool) (x : FaultEntry) (react : Nat) : State :=
  ((if logged then s.faultLog x else s).logCycle.faultFirst x).firstDetail.faultReact n react detail

theorem State.writesOnly_report (hok : s.ok = true) (n : Nat) (detail : W32) (logged : Bool) (x : FaultEntry) (react : Nat) :
    State.WritesOnly faultReports s (s.report n detail logged x react) := by
  have hlog : State.WritesOnly faultReports s (if logged then s.faultLog x else s) :=
    .ite (State.writesOnly_faultLog hok x) (.refl hok)
  have hcycle := hlog.trans (State.writesOnly_logCycle hlog.1)
  have hfirst := hcycle.trans (State.writesOnly_faultFirst hcycle.1 x)
  have hdetail := hfirst.trans (State.writesOnly_firstDetail hfirst.1)
  exact hdetail.trans (State.writesOnly_faultReact hdetail.1 _ _ _)

/-- A record changes the status of its source, and reports. -/
theorem State.writesOnly_record (hok : s.ok = true) (n : Nat) (detail : W32) (injected realSame : Bool) :
    State.WritesOnly faultReports (s.srcRaised n (s.effSev n injected realSame) detail injected)
      (s.record n detail injected realSame) := by
  unfold State.record
  extract_lets eff sev react logged s1 s2 c k last y2 s3 s4 y4 s5 x
  have hcycle : s3.regs = s1.regs := State.faultCycle_regs s1
  have hregs : s4.regs = (s1.srcCounted n last).regs := State.srcCounted_regs hcycle n last
  have hraised : s1.srcCounted n last = s.srcRaised n eff detail injected := rfl
  have hmem : s5.mem = (s.srcRaised n eff detail injected).mem := by
    rw [State.srcRaised_mem]
    exact State.faultCycle_mem s1
  rw [hraised] at hregs
  have hnoted : State.WritesOnly faultReports (s.srcRaised n eff detail injected) s5 :=
    (State.WritesOnly.refl (State.srcRaised_ok hok _ _ _ _)).congr hregs hmem
  exact hnoted.trans (State.writesOnly_report hnoted.1 n detail _ _ _)

theorem F.srcStatus_key_fields {f : Fld} (hbase : f.addr = 0x01050800) (hstride : f.s1 = 8) (hlsb : f.lsb < 64) {n : Nat}
    (hn : n < 128) : faultFields (f.key n 0 0) := by
  refine .inr ?_
  simp only [Fld.key, F.FAULT_SRC_STATUS_ACTIVE, hbase, hstride]
  omega

theorem State.writesOnly_srcRaised (hok : s.ok = true) {n : Nat} (hn : n < 128) (eff : Nat) (detail : W32) (injected : Bool) :
    State.WritesOnly faultFields s (s.srcRaised n eff detail injected) :=
  (((((State.WritesOnly.refl hok).wr (F.srcStatus_key_fields rfl rfl (by decide) hn) _).wr
    (F.srcStatus_key_fields rfl rfl (by decide) hn) _).wr (F.srcStatus_key_fields rfl rfl (by decide) hn) _).wr
    (F.srcStatus_key_fields rfl rfl (by decide) hn) _).wr (F.srcStatus_key_fields rfl rfl (by decide) hn) _

theorem faultAssigned_lt {n : Nat} (h : faultAssigned n = true) : n < 128 := by
  simp only [faultAssigned, Bool.or_eq_true, Bool.and_eq_true, decide_eq_true_eq] at h
  omega

/-- A record of a source reaches the fault unit and SEQ_HOOK alone. -/
theorem State.record_writesOnly (hok : s.ok = true) {n : Nat} (hn : n < 128) (detail : W32) (injected realSame : Bool) :
    State.WritesOnly faultFields s (s.record n detail injected realSame) :=
  (State.writesOnly_srcRaised hok hn _ _ _).trans
    ((State.writesOnly_record hok n detail injected realSame).mono (fun _ h => .inl h))

/-- A raise reaches the fault unit and SEQ_HOOK alone. -/
theorem State.raise_writesOnly (hok : s.ok = true) (n : Nat) (detail : W32) :
    State.WritesOnly faultFields s (s.raise n detail) := by
  have hrefl : State.WritesOnly faultFields s s := .refl hok
  rw [State.raise]
  split
  · exact hrefl
  · next hassigned =>
    have hn : n < 128 := faultAssigned_lt (by simpa using hassigned)
    have hlevel := hrefl.wr (f := F.FAULT_SRC_STATUS_LEVEL) (F.srcStatus_key_fields rfl rfl (by decide) hn) 1
    exact .ite (.ite hrefl (hlevel.trans (State.record_writesOnly hlevel.1 hn _ _ _)))
      (State.record_writesOnly hok hn _ _ _)

/-! ### The status of a source that raises (R379, R380) -/

/-- The fields of a source's status. -/
def srcStatusFields : List Fld :=
  [F.FAULT_SRC_STATUS_ACTIVE, F.FAULT_SRC_STATUS_LEVEL, F.FAULT_SRC_STATUS_EFF, F.FAULT_SRC_STATUS_INJECTED,
    F.FAULT_SRC_STATUS_COUNT, F.FAULT_SRC_STATUS_DETAIL]

/-- The fields of one source's status lie apart. -/
theorem srcStatus_key_ne {f g : Fld} (hf : f ∈ srcStatusFields) (hg : g ∈ srcStatusFields) (hne : f ≠ g) (n : Nat) :
    f.key n 0 0 ≠ g.key n 0 0 := by
  have hrow : ∀ f ∈ srcStatusFields, ∀ g ∈ srcStatusFields, f ≠ g → f.s1 = g.s1 ∧ f.key 0 0 0 ≠ g.key 0 0 0 := by decide
  obtain ⟨hstride, hkey⟩ := hrow f hf g hg hne
  exact Fld.key_ne_of_stride_eq hstride hkey n

/-- No report of a raise lies in the status of a source. -/
theorem srcStatus_not_reports {f : Fld} (hf : f ∈ srcStatusFields) {n : Nat} (hn : n < 128) :
    ¬ faultReports (f.key n 0 0) := by
  have hrow : ∀ f ∈ srcStatusFields, f.addr = 0x01050800 ∧ f.s1 = 8 ∧ f.lsb < 64 := by decide
  obtain ⟨hbase, hstride, hlsb⟩ := hrow f hf
  simp only [faultReports, Fld.key, F.FAULT_STATUS_INT_PEND, F.FAULT_ACTIVE_ACTIVE, F.FAULT_LOG_SOURCE, F.SEQ_HOOK_EN, hbase,
    hstride]
  omega

theorem State.rd_wr_srcStatus (hok : s.ok = true) {f g : Fld} (hf : f ∈ srcStatusFields) (hg : g ∈ srcStatusFields)
    (hne : f ≠ g) (n v : Nat) : (s.wr g v n).rd f n = s.rd f n :=
  State.rd_wr_ne hok (srcStatus_key_ne hf hg hne n)

theorem State.srcFlags_ok (hok : s.ok = true) (n eff : Nat) (injected : Bool) : (s.srcFlags n eff injected).ok = true :=
  State.wr_keeps_ok (State.wr_keeps_ok (State.wr_keeps_ok hok _ _ _ _ _) _ _ _ _ _) _ _ _ _ _

theorem State.rd_active_srcFlags (hok : s.ok = true) (n eff : Nat) (injected : Bool) :
    (s.srcFlags n eff injected).rd F.FAULT_SRC_STATUS_ACTIVE n = (s.wrB F.FAULT_SRC_STATUS_ACTIVE true n).rd
      F.FAULT_SRC_STATUS_ACTIVE n := by
  have hactive := State.wr_keeps_ok hok F.FAULT_SRC_STATUS_ACTIVE (boolNat true) n 0 0
  have heff := State.wr_keeps_ok hactive F.FAULT_SRC_STATUS_EFF eff n 0 0
  exact (State.rd_wr_srcStatus heff (by decide) (by decide) (by decide) n _).trans
    (State.rd_wr_srcStatus hactive (by decide) (by decide) (by decide) n _)

theorem State.rd_count_srcFlags (hok : s.ok = true) (n eff : Nat) (injected : Bool) :
    (s.srcFlags n eff injected).rd F.FAULT_SRC_STATUS_COUNT n = s.rd F.FAULT_SRC_STATUS_COUNT n := by
  have hactive := State.wr_keeps_ok hok F.FAULT_SRC_STATUS_ACTIVE (boolNat true) n 0 0
  have heff := State.wr_keeps_ok hactive F.FAULT_SRC_STATUS_EFF eff n 0 0
  exact (State.rd_wr_srcStatus heff (by decide) (by decide) (by decide) n _).trans
    ((State.rd_wr_srcStatus hactive (by decide) (by decide) (by decide) n _).trans
      (State.rd_wr_srcStatus hok (by decide) (by decide) (by decide) n _))

/-- A count reaches COUNT and DETAIL alone. -/
theorem State.rd_srcCounted (hok : s.ok = true) {f : Fld} (hf : f ∈ srcStatusFields) (hcount : f ≠ F.FAULT_SRC_STATUS_COUNT)
    (hdetail : f ≠ F.FAULT_SRC_STATUS_DETAIL) (n : Nat) (d : W32) : (s.srcCounted n d).rd f n = s.rd f n :=
  (State.rd_wr_srcStatus (State.wr_keeps_ok hok _ _ _ _ _) hf (by decide) hdetail n _).trans
    (State.rd_wr_srcStatus hok hf (by decide) hcount n _)

theorem State.rd_count_srcCounted (hok : s.ok = true) (n : Nat) (d : W32) :
    (s.srcCounted n d).rd F.FAULT_SRC_STATUS_COUNT n =
      satAdd (2 ^ F.FAULT_SRC_STATUS_COUNT.width - 1) (s.rd F.FAULT_SRC_STATUS_COUNT n) 1 :=
  (State.rd_wr_srcStatus (State.wr_keeps_ok hok _ _ _ _ _) (by decide) (by decide) (by decide) n _).trans
    (State.rd_inc_self hok (by decide) 1 n 0 0)

/-- The status of a source shows one raise more than in `s`. -/
def State.ShowsRaise (s u : State) (n : Nat) (injected : Bool) (d : W32) : Prop :=
  u.bit F.FAULT_SRC_STATUS_ACTIVE n = true ∧ u.rd F.FAULT_SRC_STATUS_DETAIL n = d.toNat ∧
    u.bit F.FAULT_SRC_STATUS_INJECTED n = injected ∧ u.mem = s.mem ∧
    u.rd F.FAULT_SRC_STATUS_COUNT n =
      satAdd (2 ^ F.FAULT_SRC_STATUS_COUNT.width - 1) (s.rd F.FAULT_SRC_STATUS_COUNT n) 1

/-- What a record leaves in the status of its source, whose detail is the last of its kind in the cycle. -/
theorem State.record_showsRaise (hok : s.ok = true) {n : Nat} (hn : n < 128) {detail d : W32} {injected realSame : Bool}
    (hd : (s.joined n (s.effSev n injected realSame) detail injected).detail
      ((s.joined n (s.effSev n injected realSame) detail injected).last injected) detail = d) :
    State.ShowsRaise s (s.record n detail injected realSame) n injected d := by
  have hflags := State.srcFlags_ok hok n (s.effSev n injected realSame) injected
  obtain ⟨-, hmem, hrd⟩ := State.writesOnly_record hok n detail injected realSame
  have hstatus {f : Fld} (hf : f ∈ srcStatusFields) : (s.record n detail injected realSame).rd f n =
      ((s.srcFlags n (s.effSev n injected realSame) injected).srcCounted n d).rd f n := by
    rw [hrd f n 0 0 (srcStatus_not_reports hf hn), State.srcRaised, hd]
  refine ⟨?_, ?_, ?_, ?_, ?_⟩
  · rw [State.bit, hstatus (by decide), State.rd_srcCounted hflags (by decide) (by decide) (by decide),
      State.rd_active_srcFlags hok]
    exact State.bit_wrB_self hok rfl true n 0 0
  · rw [hstatus (by decide)]
    exact State.rd_wr_of_lt (State.wr_keeps_ok hflags _ _ _ _ _) (BitVec.isLt _) (by decide) n 0 0
  · rw [State.bit, hstatus (by decide), State.rd_srcCounted hflags (by decide) (by decide) (by decide)]
    exact State.bit_wrB_self (State.wr_keeps_ok (State.wr_keeps_ok hok _ _ _ _ _) _ _ _ _ _) rfl injected n 0 0
  · rw [hmem, State.srcRaised_mem]
  · rw [hstatus (by decide), State.rd_count_srcCounted hflags, State.rd_count_srcFlags hok]

/-- The raises of a cycle are told by the fault unit and the time. -/
theorem State.cycleOf_faultCycle_congr (hfault : t.fault = s.fault) (htime : t.time = s.time) (n : Nat) :
    t.faultCycle.cycleOf n = s.faultCycle.cycleOf n := by
  simp only [State.faultCycle, hfault, htime]
  split
  · rw [State.cycleOf, State.cycleOf, hfault]
  · rfl

/-- The only real raise of its source in a cycle leaves its own detail. -/
theorem CycleRaises.detail_join_real {c : CycleRaises} (h : c.details = []) (eff : Nat) (d : W32) :
    let j := c.join eff d false
    j.detail (j.last false) d = d := by
  simp [CycleRaises.join, CycleRaises.detail, CycleRaises.last, h, insSorted]

/-- A forced raise stands behind the real ones of its source, with its own detail. -/
theorem CycleRaises.detail_join_forced (c : CycleRaises) (eff : Nat) (d : W32) :
    let j := c.join eff d true
    j.detail (j.last true) d = d := by
  simp [CycleRaises.join, CycleRaises.detail, CycleRaises.last]

/-- The only real raise of its source in a cycle shows its own detail. -/
theorem State.record_showsRaise_real (hok : s.ok = true) {n : Nat} (hn : n < 128) (d : W32)
    (hfirst : (s.faultCycle.cycleOf n).details = []) (realSame : Bool) :
    State.ShowsRaise s (s.record n d false realSame) n false d := by
  have hcycle := State.cycleOf_faultCycle_congr (s := s) (t := s.srcFlags n (s.effSev n false realSame) false) rfl rfl n
  rw [← hcycle] at hfirst
  exact State.record_showsRaise hok hn (CycleRaises.detail_join_real hfirst _ d)

/-- A real raise shows where its source has no level, or its condition begins, and it is the first of its cycle. -/
theorem State.raise_showsRaise (hok : s.ok = true) {n : Nat} (hassigned : faultAssigned n = true) (d : W32)
    (hevent : faultLevel n = false ∨ s.bit F.FAULT_SRC_STATUS_LEVEL n = false)
    (hfirst : (s.faultCycle.cycleOf n).details = []) : State.ShowsRaise s (s.raise n d) n false d := by
  have hn := faultAssigned_lt hassigned
  cases hlevel : faultLevel n with
  | false =>
    have hraise : s.raise n d = s.record n d false false := by simp [State.raise, hassigned, hlevel]
    rw [hraise]
    exact State.record_showsRaise_real hok hn d hfirst false
  | true =>
    have hbegins : s.bit F.FAULT_SRC_STATUS_LEVEL n = false := by simpa [hlevel] using hevent
    have hraise : s.raise n d = (s.wrB F.FAULT_SRC_STATUS_LEVEL true n).record n d false false := by
      simp [State.raise, hassigned, hlevel, hbegins]
    have hlevelled : (s.wrB F.FAULT_SRC_STATUS_LEVEL true n).ok = true := State.wr_keeps_ok hok _ _ _ _ _
    have hcycle := State.cycleOf_faultCycle_congr (s := s) (t := s.wrB F.FAULT_SRC_STATUS_LEVEL true n) rfl rfl n
    have hcount : (s.wrB F.FAULT_SRC_STATUS_LEVEL true n).rd F.FAULT_SRC_STATUS_COUNT n = s.rd F.FAULT_SRC_STATUS_COUNT n :=
      State.rd_wr_srcStatus hok (by decide) (by decide) (by decide) n _
    have hshows := State.record_showsRaise_real hlevelled hn d (by rw [hcycle]; exact hfirst) false
    rw [State.ShowsRaise, hcount] at hshows
    rw [hraise]
    exact hshows

theorem State.inject_showsRaise (hok : s.ok = true) {n : Nat} (hassigned : faultAssigned n = true) (d : W32) :
    State.ShowsRaise s (s.inject n d) n true d := by
  rw [State.inject, if_pos hassigned]
  exact State.record_showsRaise hok (faultAssigned_lt hassigned) (CycleRaises.detail_join_forced _ _ d)

/-- A level source whose condition stands raises no more. -/
theorem State.raise_of_standing {n : Nat} (hlevel : faultLevel n = true) (hstands : s.bit F.FAULT_SRC_STATUS_LEVEL n = true)
    (d : W32) : s.raise n d = s := by
  simp [State.raise, hlevel, hstands]

/-! ### FAULT_FIRST (R385, R386) -/

/-- FAULT_FIRST as the raises of its cycle compare with it. -/
def State.firstHeld (s : State) : FaultEntry :=
  { src := s.rd F.FAULT_FIRST_SOURCE, sev := 0, eff := s.rd F.FAULT_FIRST_EFF, react := 0, injected := false, detail := 0
    lead := s.rd F.FAULT_FIRST_EFF, ord := 0 }

/-- A raise of another source stands before FAULT_FIRST by its severity, then by its source. -/
theorem FaultEntry.before_firstHeld (x : FaultEntry) :
    x.before s.firstHeld = (decide (x.src ≠ s.rd F.FAULT_FIRST_SOURCE) &&
      (decide (s.rd F.FAULT_FIRST_EFF < x.lead) ||
        (decide (x.lead = s.rd F.FAULT_FIRST_EFF) && decide (x.src < s.rd F.FAULT_FIRST_SOURCE)))) := by
  by_cases hsrc : x.src = s.rd F.FAULT_FIRST_SOURCE
  · simp [FaultEntry.before, State.firstHeld, hsrc]
  · rw [decide_eq_true hsrc, Bool.true_and]
    exact if_neg hsrc

/-- The cause that FAULT_FIRST shows. -/
def State.firstCause (s : State) (x : FaultEntry) : State :=
  ((((s.wr F.FAULT_FIRST_SOURCE x.src).wrB F.FAULT_FIRST_INJECTED x.injected).wr F.FAULT_FIRST_SEV x.sev).wr
    F.FAULT_FIRST_EFF x.eff).wr F.FAULT_FIRST_REACT x.react

/-- FAULT_FIRST set to a raise. -/
def State.firstShown (s : State) (x : FaultEntry) : State :=
  let t := (s.firstCause x).wr F.FAULT_FIRST_DETAIL x.detail.toNat
  (t.wr F.FAULT_FIRST_TIME (t.tb 0).now.toNat).wrB F.FAULT_FIRST_VALID true

theorem State.faultFirst_eq (x : FaultEntry) :
    s.faultFirst x = if s.bit F.FAULT_FIRST_VALID && !(s.fault.firstHere && x.before s.firstHeld) then s
      else { s.firstShown x with fault := { (s.firstShown x).fault with firstHere := true } } := rfl

theorem State.firstCause_time (x : FaultEntry) : (s.firstCause x).time = s.time := by
  simp only [State.firstCause, State.wrB, State.wr_time]

theorem State.firstCause_ok (hok : s.ok = true) (x : FaultEntry) : (s.firstCause x).ok = true :=
  State.wr_keeps_ok (State.wr_keeps_ok (State.wr_keeps_ok (State.wr_keeps_ok (State.wr_keeps_ok hok _ _ _ _ _) _ _ _ _ _)
    _ _ _ _ _) _ _ _ _ _) _ _ _ _ _

theorem State.rd_source_firstCause (hok : s.ok = true) {x : FaultEntry} (hsrc : x.src < 128) :
    (s.firstCause x).rd F.FAULT_FIRST_SOURCE = x.src := by
  have hsource := State.wr_keeps_ok hok F.FAULT_FIRST_SOURCE x.src 0 0 0
  have hinjected := State.wr_keeps_ok hsource F.FAULT_FIRST_INJECTED (boolNat x.injected) 0 0 0
  have hsev := State.wr_keeps_ok hinjected F.FAULT_FIRST_SEV x.sev 0 0 0
  have heff := State.wr_keeps_ok hsev F.FAULT_FIRST_EFF x.eff 0 0 0
  calc (s.firstCause x).rd F.FAULT_FIRST_SOURCE
      = _ := State.rd_wr_ne heff (by decide)
    _ = _ := State.rd_wr_ne hsev (by decide)
    _ = _ := State.rd_wr_ne hinjected (by decide)
    _ = _ := State.rd_wr_ne hsource (by decide)
    _ = x.src := State.rd_wr_of_lt hok hsrc (by decide) 0 0 0

theorem State.rd_firstShown (hok : s.ok = true) {x : FaultEntry} (hsrc : x.src < 128) (hregs : t.regs = (s.firstShown x).regs) :
    t.bit F.FAULT_FIRST_VALID = true ∧ t.rd F.FAULT_FIRST_SOURCE = x.src ∧ t.rd F.FAULT_FIRST_DETAIL = x.detail.toNat ∧
      t.rd F.FAULT_FIRST_TIME = (s.tb 0).now.toNat := by
  have hcause := State.firstCause_ok hok x
  have hdetail := State.wr_keeps_ok hcause F.FAULT_FIRST_DETAIL x.detail.toNat 0 0 0
  have htime := State.wr_keeps_ok hdetail F.FAULT_FIRST_TIME
    (((s.firstCause x).wr F.FAULT_FIRST_DETAIL x.detail.toNat).tb 0).now.toNat 0 0 0
  have hnow : ((s.firstCause x).wr F.FAULT_FIRST_DETAIL x.detail.toNat).tb 0 = s.tb 0 :=
    State.tb_congr ((State.wr_time _ _ _ _ _ _).trans (State.firstCause_time x)) 0
  rw [State.bit, State.rd_congr hregs, State.rd_congr hregs, State.rd_congr hregs, State.rd_congr hregs, ← hnow]
  refine ⟨State.bit_wrB_self htime rfl true 0 0 0, ?_, ?_, ?_⟩
  · exact (State.rd_wr_ne htime (by decide)).trans ((State.rd_wr_ne hdetail (by decide)).trans
      ((State.rd_wr_ne hcause (by decide)).trans (State.rd_source_firstCause hok hsrc)))
  · exact (State.rd_wr_ne htime (by decide)).trans ((State.rd_wr_ne hdetail (by decide)).trans
      (State.rd_wr_of_lt hcause (BitVec.isLt _) (by decide) 0 0 0))
  · exact (State.rd_wr_ne htime (by decide)).trans (State.rd_wr_of_lt hdetail (BitVec.isLt _) (by decide) 0 0 0)

end

/-- Settles O49: a raise, a forced one and an acknowledgement by the status of the source; FAULT_FIRST by the order of its
cycle. -/
theorem faultRaises : Obligations.FaultRaises := by
  refine ⟨fun n d s hok => ⟨?_, ?_, ?_, ?_, ?_⟩, fun x s hok hsrc => ?_⟩
  · intro hassigned hevent hfirst
    exact ⟨_, rfl, State.raise_showsRaise hok hassigned d hevent hfirst⟩
  · intro hlevel hstands
    exact congrArg s.goes (State.raise_of_standing hlevel hstands d)
  · intro hassigned
    exact ⟨_, rfl, State.inject_showsRaise hok hassigned 0⟩
  · intro hrests
    refine ⟨s.wrB F.FAULT_SRC_STATUS_ACTIVE false n.val, congrArg s.goes ?_, State.bit_wrB_self hok rfl false _ 0 0, rfl, rfl⟩
    rw [State.ackFault, hrests]
    rfl
  · intro hstands
    exact congrArg s.goes (if_pos hstands)
  · intro u kept
    have hfirst : u = if kept then s else
        { s.firstShown x with fault := { (s.firstShown x).fault with firstHere := true } } := by
      show s.faultFirst x = _
      rw [State.faultFirst_eq, FaultEntry.before_firstHeld]
      simp only [kept, Bool.and_assoc]
    refine ⟨fun hkept => hfirst.trans (if_pos hkept), fun hkept => ?_⟩
    rw [hfirst, hkept]
    exact State.rd_firstShown hok hsrc rfl

end Sys2Proof.Machine
end

section
/-! The reactions' releases (15), the monitors (15), housekeeping, PWM modules and trips (16). -/

namespace Sys2Proof.Machine

section
variable {s : State}

/-! ### Releases (R387, R388) -/

theorem exec_releaseFreeze_refused (h : s.heldBySource 2 = true ∨ s.holdOn = true ∨ s.safeOn = true) :
    exec .releaseFreeze s = s.goes s.relRef :=
  congrArg s.goes (if_pos (by simpa [or_assoc] using h))

theorem exec_releaseHold_refused (h : s.heldBySource 3 = true ∨ s.safeOn = true) :
    exec .releaseHold s = s.goes s.relRef :=
  congrArg s.goes (if_pos (by simpa using h))

/-- What keeps the safe reaction in force (R387). -/
def State.safeKept (s : State) : Bool :=
  s.heldBySource 4 || s.bit F.FAULT_STATUS_SAFE_N_LOW || (s.safeOn && s.holdOn && s.heldBySource 3)

theorem exec_releaseSafe_refused (h : s.safeKept = true) : exec .releaseSafe s = s.goes s.relRef :=
  congrArg s.goes (if_pos h)

section
variable (h : s.safeKept = false)
include h

theorem exec_releaseSafe_idle (hsafe : s.safeOn = false) : exec .releaseSafe s = s.goes s := by
  have hkept : ¬ s.safeKept = true := by rw [h]; decide
  have hidle : ¬ s.safeOn = true := by rw [hsafe]; decide
  exact congrArg s.goes ((if_neg hkept).trans (if_neg hidle))

theorem exec_releaseSafe_ends (hsafe : s.safeOn = true) :
    exec .releaseSafe s = s.goes (if s.holdOn then s.holdGone else s).endSafe := by
  have hkept : ¬ s.safeKept = true := by rw [h]; decide
  exact congrArg s.goes ((if_neg hkept).trans (if_pos hsafe))

end

/-- A channel that goes to rest changes memory and the drive's own state alone. -/
theorem State.toRest_frame {α : Type} {g : State → α} (hst : ∀ s a n v, g (State.st s a n v) = g s)
    (hdrive : ∀ s x, g { s with drive := x } = g s) (s : State) (ch : Nat) : g (s.toRest ch) = g s := by
  simp only [State.toRest, State.setDCtrl, State.setDI16, State.stBits, hst, hdrive]

/-- Channels put to rest change memory and the drive's own state alone. -/
theorem State.restAll_frame {α : Type} {g : State → α} (hst : ∀ s a n v, g (State.st s a n v) = g s)
    (hdrive : ∀ s x, g { s with drive := x } = g s) (s : State) : g s.restIdle.restClosed = g s :=
  (forEach_frame (fun _ _ => State.toRest_frame hst hdrive _ _) _ _).trans (forEach_frame (fun t c =>
    (State.toRest_frame hst hdrive (t.toRest (2 * c)) _).trans (State.toRest_frame hst hdrive _ _)) _ _)

/-- The safe reaction ends with SAFE clear. -/
theorem State.safeOn_endSafe (hok : s.ok = true) : s.endSafe.safeOn = false := by
  simp only [State.endSafe, apply_ite State.safeOn,
    State.restAll_frame (g := State.safeOn) (fun _ _ _ _ => rfl) (fun _ _ => rfl), ite_self]
  exact State.bit_wrB_self hok rfl false 0 0 0

/-- No connection lags after the safe reaction. -/
theorem State.lagging_endSafe : s.endSafe.lay.lagging = [] := by
  simp only [State.endSafe, apply_ite State.lay,
    State.restAll_frame (g := State.lay) (fun _ _ _ _ => rfl) (fun _ _ => rfl), ite_self]

theorem State.holdGone_ok (hok : s.ok = true) : s.holdGone.ok = true :=
  State.wr_keeps_ok hok F.FAULT_STATUS_HOLD (boolNat false) 0 0 0

end

/-- Settles O50: a release is refused or ends its reaction, by what still holds it. -/
theorem releases : Obligations.Releases := by
  intro s hok refused low kept
  have hrefused {i : Instr} (hexec : exec i s = s.goes s.relRef) : refused i :=
    ⟨_, hexec, State.bit_wrB_self hok rfl true 0 0 0, rfl, rfl⟩
  refine ⟨fun h => hrefused (exec_releaseFreeze_refused h), ?_, fun h => hrefused (exec_releaseHold_refused h), ?_,
    fun h => hrefused (exec_releaseSafe_refused h), exec_releaseSafe_idle, ?_, rfl, ?_⟩
  · intro hsource hhold hsafe
    refine ⟨{ s with fault := { s.fault with heldFreeze := false } }, congrArg s.goes ?_, rfl, rfl, ?_⟩
    · simp [State.doReleaseFreeze, hsource, hhold, hsafe]
    · show (false || s.holdOn || s.safeOn) = false
      rw [hhold, hsafe]
      rfl
  · intro hsource hsafe hhold
    exact congrArg s.goes (by simp [State.doReleaseHold, hsource, hhold, hsafe])
  · intro hfree hsafe
    have hstart : (if s.holdOn then s.holdGone else s).ok = true := ite_ok (State.holdGone_ok hok) hok
    exact ⟨_, exec_releaseSafe_ends hfree hsafe, State.safeOn_endSafe hstart, State.lagging_endSafe⟩
  · refine ⟨_, rfl, ?_, ?_, ?_⟩
    · exact (State.bit_wr_ne (State.wr_keeps_ok hok _ _ _ _ _) (by decide)).trans (State.bit_wrB_self hok rfl false 0 0 0)
    · exact State.bit_wrB_self (State.wr_keeps_ok hok _ _ _ _ _) rfl false 4 0 0
    · exact (State.bit_wr_ne (State.wr_keeps_ok hok _ _ _ _ _) (by decide)).trans (State.bit_wr_ne hok (by decide))

/-! ### Housekeeping rounds and PWM modules (R395, R409, R412) -/

section
variable {s : State}

theorem State.hkStart_of_disabled (h : s.bit F.HKADC_CTRL_EN = false) : s.hkStart = s := by
  simp [State.hkStart, h]

/-- A round that starts runs to an end, with the converter powered. -/
theorem State.hkStart_starts (hok : s.ok = true) (hen : s.bit F.HKADC_CTRL_EN = true) (hidle : s.therm.roundEnd = none) :
    s.hkStart.therm.roundEnd.isSome = true ∧ s.hkStart.bit F.HKADC_STATUS_POWERED = true := by
  simp only [State.hkStart, hen, hidle]
  exact ⟨rfl, State.bit_wrB_self (by exact hok) rfl true 0 0 0⟩

theorem exec_pwmSyncInEdge (hen : s.bit F.PWM_CTRL_EN 0 = true) (hsync : s.bit F.PWM_CTRL_SYNC_EN 0 = true)
    (hstep : (s.pm 0).startAt + s.pwmStep ≤ s.now4) :
    exec .pwmSyncInEdge s = s.goes (s.pwmPeriod 0 s.now4 (((s.pm 0).j + 1) % 16)) :=
  congrArg s.goes (if_pos (by simp [hen, hsync, hstep]))

theorem exec_pwmDisable {n : Fin 8} (hopen : s.domOpen 6 = true) :
    exec (.pwmEnable n false) s = s.goes (s.wrB F.PWM_CTRL_EN false n.val) :=
  congrArg s.goes (State.ifOpen_of_open hopen _)

theorem exec_pwmEnable {n : Fin 8} (hopen : s.domOpen 6 = true) (hoff : s.bit F.PWM_CTRL_EN n.val = false) :
    exec (.pwmEnable n true) s = s.goes ((s.wrB F.PWM_CTRL_EN true n.val).pwmPeriod n.val s.now4 0) :=
  congrArg s.goes ((State.ifOpen_of_open hopen _).trans (if_pos (by simp [hoff])))

/-! ### Trips (R414, R415) -/

/-- The bits of a field written that it is wide enough to hold. -/
theorem State.testBit_rd_wr (hok : s.ok = true) {f : Fld} (hw : f.width ≤ 64) (v : Nat) {k : Nat} (hk : k < f.width)
    (i j l : Nat) : ((s.wr f v i j l).rd f i j l).testBit k = v.testBit k := by
  rw [State.rd_wr_self hok, Nat.testBit_mod_two_pow, Nat.testBit_mod_two_pow]
  simp [hk, Nat.lt_of_lt_of_le hk hw]

/-- The fields of PWM_TRIP_STATUS are none of the fault unit's. -/
theorem tripStatus_not_fault : ∀ f ∈ [F.PWM_TRIP_STATUS_LATCHED, F.PWM_TRIP_STATUS_PIN, F.PWM_TRIP_STATUS_CLR_REF],
    ¬ faultFields (f.key 0 0 0) := by
  simp only [faultFields, faultReports]
  decide

/-- PWM_TRIP stands while a trip is latched. -/
def State.tripLevel (s : State) (l : Nat) : State := if l = 0 then s.levelEnd 68 else s.raise 68 (BitVec.ofNat 32 l)

theorem State.tripLevel_writesOnly (hok : s.ok = true) (l : Nat) : State.WritesOnly faultFields s (s.tripLevel l) :=
  .ite ((State.WritesOnly.refl hok).wr (F.srcStatus_key_fields rfl rfl (by decide) (by decide)) _)
    (State.raise_writesOnly hok 68 _)

/-- The pins that latch. -/
def State.tripsNow (s : State) : Nat :=
  s.rd F.PWM_TRIP_STATUS_LATCHED ||| (s.rd F.PWM_TRIP_STATUS_PIN &&& s.rd F.PWM_TRIP_CTRL_EN)

/-- The pins that are active and enabled latch; the pins shown stay. -/
theorem State.tripLatch_shows (hok : s.ok = true) :
    s.tripLatch.rd F.PWM_TRIP_STATUS_PIN = s.rd F.PWM_TRIP_STATUS_PIN ∧
      ∀ k : Fin 4, (s.tripLatch.rd F.PWM_TRIP_STATUS_LATCHED).testBit k.val = s.tripsNow.testBit k.val := by
  obtain ⟨-, -, hrd⟩ := State.tripLevel_writesOnly (State.wr_keeps_ok hok F.PWM_TRIP_STATUS_LATCHED s.tripsNow 0 0 0) s.tripsNow
  refine ⟨(hrd F.PWM_TRIP_STATUS_PIN 0 0 0 (tripStatus_not_fault _ (by decide))).trans (State.rd_wr_ne hok (by decide)),
    fun k => ?_⟩
  rw [← State.testBit_rd_wr hok (f := F.PWM_TRIP_STATUS_LATCHED) (by decide) s.tripsNow k.isLt 0 0 0]
  exact congrArg (fun v => v.testBit k.val) (hrd F.PWM_TRIP_STATUS_LATCHED 0 0 0 (tripStatus_not_fault _ (by decide)))

/-- A pin that is set is shown, and latches where it is enabled. -/
theorem State.tripAssert_shows (hok : s.ok = true) (k : Fin 4) :
    let u := (s.wr F.PWM_TRIP_STATUS_PIN (s.rd F.PWM_TRIP_STATUS_PIN ||| 2 ^ k.val)).tripLatch
    (u.rd F.PWM_TRIP_STATUS_PIN).testBit k.val = true ∧
      ((s.rd F.PWM_TRIP_CTRL_EN).testBit k.val = true → (u.rd F.PWM_TRIP_STATUS_LATCHED).testBit k.val = true) := by
  obtain ⟨hpin, hlatched⟩ := State.tripLatch_shows
    (State.wr_keeps_ok hok F.PWM_TRIP_STATUS_PIN (s.rd F.PWM_TRIP_STATUS_PIN ||| 2 ^ k.val) 0 0 0)
  have hset : (((s.wr F.PWM_TRIP_STATUS_PIN (s.rd F.PWM_TRIP_STATUS_PIN ||| 2 ^ k.val)).rd F.PWM_TRIP_STATUS_PIN).testBit
      k.val) = true := by
    rw [State.testBit_rd_wr hok (by decide) _ k.isLt, Nat.testBit_or, Nat.testBit_two_pow_self, Bool.or_true]
  refine ⟨by rw [hpin, hset], fun hen => ?_⟩
  have hmask : (s.wr F.PWM_TRIP_STATUS_PIN (s.rd F.PWM_TRIP_STATUS_PIN ||| 2 ^ k.val)).rd F.PWM_TRIP_CTRL_EN =
      s.rd F.PWM_TRIP_CTRL_EN := State.rd_wr_ne hok (by decide)
  rw [hlatched, State.tripsNow, Nat.testBit_or, Nat.testBit_and, hset, hmask, hen]
  simp

/-- A clear leaves the latches that `keep` names. -/
def latchSum (keep : Nat → Bool) : Nat := (List.range 4).foldl (fun v k => if keep k then v + 2 ^ k else v) 0

theorem testBit_latchSum (keep : Nat → Bool) (k : Fin 4) : (latchSum keep).testBit k.val = keep k.val := by
  have hsum : ∀ (a b c d : Bool) (k : Fin 4), ((((if a then 0 + 1 else 0) + (if b then 2 else 0)) + (if c then 4 else 0)) +
      (if d then 8 else 0)).testBit k.val = [a, b, c, d].get k := by decide
  have heq : latchSum keep = (((if keep 0 then 0 + 1 else 0) + (if keep 1 then 2 else 0)) + (if keep 2 then 4 else 0)) +
      (if keep 3 then 8 else 0) := by
    simp only [latchSum, show List.range 4 = [0, 1, 2, 3] from rfl, List.foldl_cons, List.foldl_nil]
    split <;> split <;> split <;> split <;> rfl
  rw [heq, hsum]
  match k with
  | 0 => rfl
  | 1 => rfl
  | 2 => rfl
  | 3 => rfl

/-- The pins as a clear finds them: only a pin shown may have changed. -/
theorem State.tripPins_writesOnly (hok : s.ok = true) :
    State.WritesOnly (· = F.PWM_TRIP_STATUS_PIN.key 0 0 0) s s.tripPins := by
  have hdraw : State.WritesOnly (· = F.PWM_TRIP_STATUS_PIN.key 0 0 0) s s.draw.2 := (State.WritesOnly.refl hok).congr rfl rfl
  unfold State.tripPins
  split
  · exact .refl hok
  · exact hdraw.wr rfl _

/-- The latches that a clear of `mask` leaves. -/
def State.tripsLeft (s : State) (mask : Nat) (k : Nat) : Bool :=
  (s.rd F.PWM_TRIP_STATUS_LATCHED).testBit k && !(mask.testBit k && !(s.rd F.PWM_TRIP_STATUS_PIN).testBit k)

/-- A clear of `mask` once the pins are read: what it refuses, and the latches left. -/
def State.tripCleared (s : State) (mask : Nat) : State :=
  (s.wr F.PWM_TRIP_STATUS_CLR_REF (s.rd F.PWM_TRIP_STATUS_CLR_REF ||| (mask &&& s.rd F.PWM_TRIP_STATUS_PIN))).wr
    F.PWM_TRIP_STATUS_LATCHED (latchSum (s.tripsLeft mask))

theorem State.tripClr_eq (hok : s.ok = true) (mask : Nat) :
    s.tripClr mask = if latchSum (s.tripPins.tripsLeft mask) = 0 then (s.tripPins.tripCleared mask).levelEnd 68
      else s.tripPins.tripCleared mask := by
  have hlatched : (s.tripPins.wr F.PWM_TRIP_STATUS_CLR_REF (s.tripPins.rd F.PWM_TRIP_STATUS_CLR_REF |||
      (mask &&& s.tripPins.rd F.PWM_TRIP_STATUS_PIN))).rd F.PWM_TRIP_STATUS_LATCHED =
        s.tripPins.rd F.PWM_TRIP_STATUS_LATCHED := State.rd_wr_ne (State.tripPins_writesOnly hok).1 (by decide)
  simp only [State.tripClr, hlatched]
  rfl

/-- What a clear shows of the pins, the latches and its refusals. -/
theorem State.tripClr_shows (hok : s.ok = true) (mask : Nat) (k : Fin 4) :
    let u := s.tripClr mask
    let pin := (u.rd F.PWM_TRIP_STATUS_PIN).testBit k.val
    (u.rd F.PWM_TRIP_STATUS_LATCHED).testBit k.val =
        ((s.rd F.PWM_TRIP_STATUS_LATCHED).testBit k.val && !(mask.testBit k.val && !pin)) ∧
      ((mask.testBit k.val && pin) = true → (u.rd F.PWM_TRIP_STATUS_CLR_REF).testBit k.val = true) := by
  intro u pin
  obtain ⟨hpins, -, hrdPins⟩ := State.tripPins_writesOnly hok
  have href := State.wr_keeps_ok hpins F.PWM_TRIP_STATUS_CLR_REF
    (s.tripPins.rd F.PWM_TRIP_STATUS_CLR_REF ||| (mask &&& s.tripPins.rd F.PWM_TRIP_STATUS_PIN)) 0 0 0
  have hcleared : (s.tripPins.tripCleared mask).ok = true := State.wr_keeps_ok href _ _ _ _ _
  have hend : State.WritesOnly faultFields (s.tripPins.tripCleared mask) u := by
    show State.WritesOnly _ _ (s.tripClr mask)
    rw [State.tripClr_eq hok]
    exact .ite ((State.WritesOnly.refl hcleared).wr (F.srcStatus_key_fields rfl rfl (by decide) (by decide)) _) (.refl hcleared)
  obtain ⟨-, -, hrd⟩ := hend
  have hpin : u.rd F.PWM_TRIP_STATUS_PIN = s.tripPins.rd F.PWM_TRIP_STATUS_PIN :=
    (hrd F.PWM_TRIP_STATUS_PIN 0 0 0 (tripStatus_not_fault _ (by decide))).trans
      ((State.rd_wr_ne href (by decide)).trans (State.rd_wr_ne hpins (by decide)))
  have hlatched : s.tripPins.rd F.PWM_TRIP_STATUS_LATCHED = s.rd F.PWM_TRIP_STATUS_LATCHED := hrdPins _ _ _ _ (by decide)
  refine ⟨?_, fun hrefused => ?_⟩
  · rw [hrd F.PWM_TRIP_STATUS_LATCHED 0 0 0 (tripStatus_not_fault _ (by decide)), State.tripCleared,
      State.testBit_rd_wr href (by decide) _ k.isLt,
      testBit_latchSum, State.tripsLeft, hlatched, ← hpin]
  · rw [hrd F.PWM_TRIP_STATUS_CLR_REF 0 0 0 (tripStatus_not_fault _ (by decide)), State.tripCleared, State.rd_wr_ne href (by decide),
      State.testBit_rd_wr hpins (by decide) _ k.isLt, Nat.testBit_or, Nat.testBit_and, ← hpin, hrefused, Bool.or_true]

theorem exec_tripClr {mask : BitVec 4} (hopen : s.domOpen 6 = true) :
    exec (.tripClr mask) s = s.goes (s.tripClr mask.toNat) := congrArg s.goes (State.ifOpen_of_open hopen _)

end

/-- Settles O52: rounds and modules by their enables; a trip and its clear by the pin, the mask and the latch. -/
theorem thermalAndPwm : Obligations.ThermalAndPwm := by
  refine ⟨fun s hok => ⟨?_, ?_, ?_, ?_, exec_pwmSyncInEdge, ?_, ?_⟩, fun k mask s hok => ⟨?_, fun hopen => ?_⟩⟩
  · intro hen hidle
    exact ⟨_, rfl, State.hkStart_starts hok hen hidle⟩
  · intro hoff
    exact congrArg s.goes (State.hkStart_of_disabled hoff)
  · exact fun _ _ _ => rfl
  · exact fun _ _ => rfl
  · intro n hopen
    exact ⟨_, exec_pwmDisable hopen, State.bit_wrB_self hok rfl false n.val 0 0, rfl, rfl⟩
  · exact fun n => exec_pwmEnable
  · exact ⟨_, rfl, State.tripAssert_shows hok k⟩
  · obtain ⟨hlatched, hrefused⟩ := State.tripClr_shows hok mask.toNat k
    refine ⟨_, exec_tripClr hopen, ?_, ?_, ?_⟩
    · intro hmask hpin
      rw [hlatched, hpin, BitVec.testBit_toNat, hmask, Bool.not_false, Bool.and_true, Bool.not_true, Bool.and_false]
    · intro hmask hpin
      exact hrefused (by rw [hpin, BitVec.testBit_toNat, hmask]; rfl)
    · intro hkept
      rw [hlatched, BitVec.testBit_toNat]
      rcases hkept with hmask | hpin
      · rw [hmask, Bool.false_and, Bool.not_false, Bool.and_true]
      · rw [hpin, Bool.not_true, Bool.and_false, Bool.not_false, Bool.and_true]

end Sys2Proof.Machine
end

section
/-! The monitors (15): samples, snapshots, configuration writes, and what a tracker keeps. -/

namespace Sys2Proof.Machine

section
variable {s : State}

/-! ### What is cleared -/

/-- A key that is not listed reads as the unlisted value. -/
theorem Sparse.get_of_forall_ne {β : Type} {d : β} {k : Nat} {l : List (Nat × β)} (h : ∀ p ∈ l, p.1 ≠ k) :
    Sparse.get d l k = d := by
  induction l with
  | nil => rfl
  | cons p l ih =>
    obtain ⟨a, v⟩ := p
    have hne : a ≠ k := h (a, v) List.mem_cons_self
    unfold Sparse.get
    rw [if_neg hne, ih (fun p hp => h p (List.mem_cons_of_mem _ hp)), ite_self]

theorem Sparse.get_clear {β : Type} {d : β} {l : List (Nat × β)} {lo hi k : Nat} (hlo : lo ≤ k) (hhi : k < hi) :
    Sparse.get d (Sparse.clear l lo hi) k = d := by
  refine Sparse.get_of_forall_ne fun p hp hk => ?_
  have hout := (List.mem_filter.mp hp).2
  simp only [Bool.or_eq_true, decide_eq_true_eq] at hout
  omega

theorem alist_adel_self {β : Type} (l : List (Nat × β)) (k : Nat) : alist (adel l k) k = none := by simp [alist, adel]

/-- A word of a block written to zero. -/
theorem State.ldW_stZero {a n b : Nat} (hlo : a ≤ b) (hhi : b + 4 ≤ a + n) : (s.stZero a n).ldW b = 0 := by
  have hbyte (i : Nat) (hi : i < 4) : Sparse.get (0 : Byte) (Sparse.clear s.mem a (a + n)) (b + i) = 0 :=
    Sparse.get_clear (by omega) (by omega)
  simp only [State.ldW, State.ld, State.stZero, memNat, Nat.add_assoc]
  rw [hbyte 1 (by decide), hbyte 2 (by decide), hbyte 3 (by decide), show Sparse.get (0 : Byte) _ b = 0 from hbyte 0 (by decide)]
  rfl

/-- An engine written anew has no sample, none dropped, none queued and empty bins. -/
theorem State.histAnew_empty (hok : s.ok = true) (e : Nat) :
    let u := s.histAnew e
    u.rd F.MON_HIST_STAT_SAMPLES e = 0 ∧ u.rd F.MON_HIST_STAT_DROPPED e = 0 ∧ alist u.mon.queues e = none ∧
      ∀ b, b < 64 → u.ldW (binAddr e b) = 0 := by
  have hzero := ok_of_good (State.stZero_good (binAddr e 0) 256 (good_self hok))
  have hne := Fld.key_ne_of_stride_eq (f := F.MON_HIST_STAT_SAMPLES) (g := F.MON_HIST_STAT_DROPPED) rfl (by decide) e
  refine ⟨?_, State.rd_wr_self (State.wr_keeps_ok (by exact hzero) _ _ _ _ _) _ _ _ _ _, ?_, fun b hb => ?_⟩
  · exact (State.rd_wr_ne (State.wr_keeps_ok (by exact hzero) _ _ _ _ _) hne).trans (State.rd_wr_self (by exact hzero) _ _ _ _ _)
  · exact alist_adel_self _ _
  · exact State.ldW_stZero (by simp only [binAddr]; omega) (by simp only [binAddr]; omega)

/-! ### Configuration writes (R391, R392) -/

/-- A write of a word that takes effect at once leaves the engine cleared. -/
theorem State.histConfig_empties (hok : s.ok = true) (e : Fin 32) {w : Fin 4} {v : W32} (hw : w ≠ 2) (hv : w ≠ 1 ∨ v ≠ 0) :
    ∃ t : State, t.ok = true ∧ s.doHistConfigWrite e w v = t.histAnew e.val := by
  match w with
  | 0 => exact ⟨_, State.wr_keeps_ok (State.wr_keeps_ok (State.wr_keeps_ok (State.wr_keeps_ok hok _ _ _ _ _) _ _ _ _ _)
      _ _ _ _ _) _ _ _ _ _, rfl⟩
  | 1 =>
    have hne : v.toNat ≠ 0 := fun h => (hv.resolve_left (fun h => h rfl)) (BitVec.eq_of_toNat_eq h)
    exact ⟨_, State.wr_keeps_ok hok _ _ _ _ _, if_neg hne⟩
  | 2 => exact absurd rfl hw
  | 3 => exact ⟨_, State.wr_keeps_ok hok _ _ _ _ _, rfl⟩

/-- The fields of a tracker that a sample changes. -/
def trkFields : List Fld :=
  [F.MON_TRK_MIN_MIN, F.MON_TRK_MIN_T_TIME, F.MON_TRK_MAX_MAX, F.MON_TRK_MAX_T_TIME, F.MON_TRK_N_N, F.MON_TRK_DROP_DROPPED]

theorem trkFields_key_ne {f g : Fld} (hf : f ∈ trkFields) (hg : g ∈ trkFields) (hne : f ≠ g) (k : Nat) :
    f.key k 0 0 ≠ g.key k 0 0 := by
  have hrow : ∀ f ∈ trkFields, ∀ g ∈ trkFields, f ≠ g → f.s1 = g.s1 ∧ f.key 0 0 0 ≠ g.key 0 0 0 := by decide
  obtain ⟨hstride, hkey⟩ := hrow f hf g hg hne
  exact Fld.key_ne_of_stride_eq hstride hkey k

theorem State.rd_trk_wr_ne (hok : s.ok = true) {f g : Fld} (hf : f ∈ trkFields) (hg : g ∈ trkFields) (hne : g ≠ f) (v k : Nat) :
    (s.wr f v k).rd g k = s.rd g k := State.rd_wr_ne hok (trkFields_key_ne hg hf hne k)

/-- A tracker that is cleared has no sample, and its extremes at their reset values. -/
theorem State.trkClear_resets (hok : s.ok = true) (k : Nat) :
    let u := s.trkClear k
    u.ok = true ∧ u.rd F.MON_TRK_N_N k = 0 ∧ u.rd F.MON_TRK_MIN_MIN k = 0x7FFFFFFFFFFFFFFF ∧
      u.rd F.MON_TRK_MAX_MAX k = 0x8000000000000000 := by
  have h1 := State.wr_keeps_ok hok F.MON_TRK_MIN_MIN (F.MON_TRK_MIN_MIN.reset k 0) k 0 0
  have h2 := State.wr_keeps_ok h1 F.MON_TRK_MIN_T_TIME (F.MON_TRK_MIN_T_TIME.reset k 0) k 0 0
  have h3 := State.wr_keeps_ok h2 F.MON_TRK_MAX_MAX (F.MON_TRK_MAX_MAX.reset k 0) k 0 0
  have h4 := State.wr_keeps_ok h3 F.MON_TRK_MAX_T_TIME (F.MON_TRK_MAX_T_TIME.reset k 0) k 0 0
  refine ⟨State.wr_keeps_ok h4 _ _ _ _ _, State.rd_wr_self h4 _ _ _ _ _, ?_, ?_⟩
  · exact (State.rd_trk_wr_ne h4 (by decide) (by decide) (by decide) _ _).trans
      ((State.rd_trk_wr_ne h3 (by decide) (by decide) (by decide) _ _).trans
        ((State.rd_trk_wr_ne h2 (by decide) (by decide) (by decide) _ _).trans
          ((State.rd_trk_wr_ne h1 (by decide) (by decide) (by decide) _ _).trans (State.rd_wr_self hok _ _ _ _ _))))
  · exact (State.rd_trk_wr_ne h4 (by decide) (by decide) (by decide) _ _).trans
      ((State.rd_trk_wr_ne h3 (by decide) (by decide) (by decide) _ _).trans (State.rd_wr_self h2 _ _ _ _ _))

/-- A write of a tracker's configuration resets it and empties its queue. -/
theorem State.trackerConfig_resets (hok : s.ok = true) (k : Fin 16) (v : W32) :
    let u := s.doTrackerConfigWrite k v
    u.rd F.MON_TRK_N_N k.val = 0 ∧ u.rd F.MON_TRK_MIN_MIN k.val = 0x7FFFFFFFFFFFFFFF ∧
      u.rd F.MON_TRK_MAX_MAX k.val = 0x8000000000000000 ∧ alist u.mon.queues (32 + k.val) = none := by
  obtain ⟨hclear, hn, hmin, hmax⟩ := State.trkClear_resets (State.wr_keeps_ok (State.wr_keeps_ok (State.wr_keeps_ok hok
    F.MON_TRK_CFG_SRC v.toNat k.val 0 0) F.MON_TRK_CFG_EN (v.toNat / 16) k.val 0 0) F.MON_TRK_CFG_SEL (v.toNat / 2 ^ 15) k.val 0 0)
    k.val
  refine ⟨(State.rd_trk_wr_ne hclear (by decide) (by decide) (by decide) _ _).trans hn,
    (State.rd_trk_wr_ne hclear (by decide) (by decide) (by decide) _ _).trans hmin,
    (State.rd_trk_wr_ne hclear (by decide) (by decide) (by decide) _ _).trans hmax, alist_adel_self _ _⟩

/-! ### Samples and snapshots (R390, R393) -/

theorem State.histTake_mon (s : State) (e : Nat) (x : Int) : (s.histTake e x).mon = s.mon := rfl

theorem State.trkTake_mon (s : State) (k : Nat) (x : Int) : (s.trkTake k x).mon = s.mon := by
  simp only [State.trkTake, State.inc, State.wr, State.wrI, apply_ite State.mon, ite_self]

theorem State.histClear_time (s : State) (e : Nat) : (s.histClear e).time = s.time := rfl

/-- An engine's bins copied to its snapshot. -/
def State.histCopied (s : State) (e : Nat) : State :=
  forEach (List.range 64) (fun s b => s.stW (snapAddr e b) (s.ldW (binAddr e b))) s

/-- An engine's counts copied to its snapshot. -/
def State.histCounted (s : State) (e : Nat) : State :=
  (s.wr F.MON_HIST_SNAP_STAT_SAMPLES (s.rd F.MON_HIST_STAT_SAMPLES e) e).wr F.MON_HIST_SNAP_STAT_DROPPED
    (s.rd F.MON_HIST_STAT_DROPPED e) e

theorem State.histSnap_eq (s : State) (e : Nat) : s.histSnap e = ((s.histCopied e).histCounted e).histClear e := rfl

theorem State.histCounted_time (s : State) (e : Nat) : (s.histCounted e).time = s.time := rfl

theorem State.histCopied_time (s : State) (e : Nat) : (s.histCopied e).time = s.time := by
  have hcopy (t : State) (b : Nat) : (t.stW (snapAddr e b) (t.ldW (binAddr e b))).time = t.time := rfl
  rw [State.histCopied, forEach_frame (g := State.time) hcopy]

theorem State.histSnap_time (s : State) (e : Nat) : (s.histSnap e).time = s.time := by
  rw [State.histSnap_eq, State.histClear_time, State.histCounted_time, State.histCopied_time]

theorem State.trkSnap_time (s : State) (k : Nat) : (s.trkSnap k).time = s.time := by
  unfold State.trkSnap State.trkClear
  simp only [State.rst, State.wr_time]

/-- A snapshot keeps the time of TB0 at which it was taken. -/
theorem State.rd_time_doMonSnap (hok : s.ok = true) (hs : BitVec 32) (ts : BitVec 16) :
    (s.doMonSnap hs ts).rd F.MON_SNAP_TIME_TIME = (s.tb 0).now.toNat := by
  have hhists : (forEach (maskBits hs.toNat 32) State.histSnap s).ok = true :=
    forEach_ok hok (fun _ _ h => ok_of_good (State.histSnap_good _ (good_self h)))
  have htrks := forEach_ok (l := maskBits ts.toNat 16) (f := State.trkSnap) hhists
    (fun _ _ h => ok_of_good (State.trkSnap_good _ (good_self h)))
  have htime : (forEach (maskBits ts.toNat 16) State.trkSnap (forEach (maskBits hs.toNat 32) State.histSnap s)).time = s.time :=
    (forEach_frame State.trkSnap_time _ _).trans (forEach_frame State.histSnap_time _ _)
  rw [State.doMonSnap, State.tb_congr htime]
  exact State.rd_wr_of_lt htrks (BitVec.isLt _) (by decide) 0 0 0

/-- The samples queued, but the oldest of each unit. -/
def MonState.younger (m : MonState) : List (Nat × List Int) :=
  (m.queues.map (fun p => (p.1, p.2.drop 1))).filter (fun p => !p.2.isEmpty)

theorem exec_monitorSample : ∃ u, exec .monitorSample s = s.goes u ∧ u.mon.queues = s.mon.younger := by
  refine ⟨_, rfl, ?_⟩
  refine (congrArg MonState.queues (forEach_frame (g := State.mon) (fun t p => ?_) _ _)).trans rfl
  obtain ⟨unit, _ | ⟨x, _⟩⟩ := p
  · rfl
  · show (if unit < 32 then t.histTake unit x else t.trkTake (unit - 32) x).mon = t.mon
    rw [apply_ite State.mon, State.histTake_mon, State.trkTake_mon, ite_self]

/-! ### A tracker's extremes (R392) -/

/-- A signed word of 64 bits reads back. -/
theorem State.rdI_wrI (hok : s.ok = true) {f : Fld} (hw : f.width = 64) {x : Int} (hlo : -(2 ^ 63 : Int) ≤ x) (hhi : x < 2 ^ 63)
    (i j k : Nat) : (s.wrI f x i j k).rdI f i j k = x := by
  rw [State.rdI, State.wrI, State.rd_wr_of_lt hok (BitVec.isLt _) (by omega), BitVec.ofNat_toNat, BitVec.setWidth_eq,
    BitVec.toInt_ofInt, hw]
  exact Int.bmod_eq_of_le (by omega) (by omega)

theorem State.rdI_congr {t : State} {f : Fld} {i j k : Nat} (h : t.rd f i j k = s.rd f i j k) : t.rdI f i j k = s.rdI f i j k := by
  rw [State.rdI, State.rdI, h]

/-- One extreme of a tracker and its time, set where `c` holds. -/
def State.trkExtreme (s : State) (f t : Fld) (c : Bool) (x : Int) (now k : Nat) : State :=
  if c then (s.wrI f x k).wr t now k else s

theorem State.trkExtreme_ok (hok : s.ok = true) (f t : Fld) (c : Bool) (x : Int) (now k : Nat) :
    (s.trkExtreme f t c x now k).ok = true :=
  ite_ok (State.wr_keeps_ok (State.wr_keeps_ok hok _ _ _ _ _) _ _ _ _ _) hok

/-- What the extreme and its time are afterwards. -/
theorem State.trkExtreme_shows (hok : s.ok = true) {f t : Fld} (hf : f ∈ trkFields) (ht : t ∈ trkFields) (hne : f ≠ t)
    (hwf : f.width = 64) (hwt : t.width = 64) {x : Int} (hlo : -(2 ^ 63 : Int) ≤ x) (hhi : x < 2 ^ 63)
    {now : Nat} (hnow : now < 2 ^ 64) (c : Bool) (k : Nat) :
    let u := s.trkExtreme f t c x now k
    u.rdI f k = (if c then x else s.rdI f k) ∧ u.rd t k = if c then now else s.rd t k := by
  have hextreme : (s.wrI f x k).ok = true := State.wr_keeps_ok hok _ _ _ _ _
  cases c with
  | false => exact ⟨rfl, rfl⟩
  | true =>
    refine ⟨?_, State.rd_wr_of_lt hextreme (by rw [hwt]; exact hnow) (by omega) _ _ _⟩
    exact (State.rdI_congr (State.rd_trk_wr_ne hextreme ht hf hne _ _)).trans (State.rdI_wrI hok hwf hlo hhi _ _ _)

/-- Every other field of the tracker stays. -/
theorem State.rd_trkExtreme_ne (hok : s.ok = true) {f t g : Fld} (hf : f ∈ trkFields) (ht : t ∈ trkFields) (hg : g ∈ trkFields)
    (hgf : g ≠ f) (hgt : g ≠ t) (c : Bool) (x : Int) (now k : Nat) : (s.trkExtreme f t c x now k).rd g k = s.rd g k := by
  cases c with
  | false => rfl
  | true =>
    have htime := State.rd_trk_wr_ne (s := s.wrI f x k) (State.wr_keeps_ok hok _ _ _ _ _) ht hg hgt now k
    exact htime.trans (State.rd_trk_wr_ne hok hf hg hgf _ _)

/-- A sample becomes an extreme where it is the first, or beyond the one kept. -/
theorem State.trkTake_shows (hok : s.ok = true) (k : Nat) {x : Int} (hlo : -(2 ^ 63 : Int) ≤ x) (hhi : x < 2 ^ 63) :
    let u := s.trkTake k x
    let below := decide (s.rd F.MON_TRK_N_N k = 0) || decide (x < s.rdI F.MON_TRK_MIN_MIN k)
    let above := decide (s.rd F.MON_TRK_N_N k = 0) || decide (s.rdI F.MON_TRK_MAX_MAX k < x)
    let now := (s.tb 0).now.toNat
    (u.rdI F.MON_TRK_MIN_MIN k = (if below then x else s.rdI F.MON_TRK_MIN_MIN k) ∧
      u.rd F.MON_TRK_MIN_T_TIME k = if below then now else s.rd F.MON_TRK_MIN_T_TIME k) ∧
    u.rdI F.MON_TRK_MAX_MAX k = (if above then x else s.rdI F.MON_TRK_MAX_MAX k) ∧
      u.rd F.MON_TRK_MAX_T_TIME k = if above then now else s.rd F.MON_TRK_MAX_T_TIME k := by
  intro u below above now
  have hnow : now < 2 ^ 64 := BitVec.isLt _
  let low := s.trkExtreme F.MON_TRK_MIN_MIN F.MON_TRK_MIN_T_TIME below x now k
  have hlow : low.ok = true := State.trkExtreme_ok hok _ _ _ _ _ _
  have hkept {g : Fld} (hg : g ∈ trkFields) (hgf : g ≠ F.MON_TRK_MIN_MIN) (hgt : g ≠ F.MON_TRK_MIN_T_TIME) :
      low.rd g k = s.rd g k := State.rd_trkExtreme_ne hok (by decide) (by decide) hg hgf hgt _ _ _ _
  have habove : (decide (s.rd F.MON_TRK_N_N k = 0) || decide (low.rdI F.MON_TRK_MAX_MAX k < x)) = above := by
    rw [State.rdI_congr (hkept (g := F.MON_TRK_MAX_MAX) (by decide) (by decide) (by decide))]
  let high := low.trkExtreme F.MON_TRK_MAX_MAX F.MON_TRK_MAX_T_TIME above x now k
  have hhigh : high.ok = true := State.trkExtreme_ok hlow _ _ _ _ _ _
  have hu : u = high.inc F.MON_TRK_N_N 1 k := by
    show _ = (low.trkExtreme _ _ above x now k).inc _ _ _
    rw [← habove]
    rfl
  have hcount {g : Fld} (hg : g ∈ trkFields) (hne : g ≠ F.MON_TRK_N_N) : u.rd g k = high.rd g k :=
    hu ▸ State.rd_trk_wr_ne hhigh (by decide) hg hne _ _
  obtain ⟨hmin, hminT⟩ := State.trkExtreme_shows hok (f := F.MON_TRK_MIN_MIN) (t := F.MON_TRK_MIN_T_TIME) (by decide) (by decide)
    (by decide) rfl rfl hlo hhi hnow below k
  obtain ⟨hmax, hmaxT⟩ := State.trkExtreme_shows hlow (f := F.MON_TRK_MAX_MAX) (t := F.MON_TRK_MAX_T_TIME) (by decide) (by decide)
    (by decide) rfl rfl hlo hhi hnow above k
  have hlater {g : Fld} (hg : g ∈ trkFields) (hgf : g ≠ F.MON_TRK_MAX_MAX) (hgt : g ≠ F.MON_TRK_MAX_T_TIME) :
      high.rd g k = low.rd g k := State.rd_trkExtreme_ne hlow (by decide) (by decide) hg hgf hgt _ _ _ _
  refine ⟨⟨?_, ?_⟩, ?_, ?_⟩
  · exact (State.rdI_congr ((hcount (by decide) (by decide)).trans (hlater (by decide) (by decide) (by decide)))).trans hmin
  · exact ((hcount (by decide) (by decide)).trans (hlater (by decide) (by decide) (by decide))).trans hminT
  · exact (State.rdI_congr (hcount (by decide) (by decide))).trans
      (hmax.trans (by rw [State.rdI_congr (hkept (g := F.MON_TRK_MAX_MAX) (by decide) (by decide) (by decide))]))
  · exact (hcount (by decide) (by decide)).trans
      (hmaxT.trans (by rw [hkept (g := F.MON_TRK_MAX_T_TIME) (by decide) (by decide) (by decide)]))

end

/-- Settles O51: the monitors' rows, and the tracker's extremes by what a sample is compared with. -/
theorem monitors : Obligations.Monitors := by
  refine ⟨fun s hok => ⟨exec_monitorSample, fun hs ts => ⟨_, rfl, State.rd_time_doMonSnap hok hs ts⟩, fun _ _ => rfl, ?_,
    fun e v => ⟨s.doHistConfigWrite e 2 v, rfl, rfl, rfl⟩, fun k v => ⟨_, rfl, State.trackerConfig_resets hok k v⟩⟩, ?_⟩
  · intro e w v hw hv
    obtain ⟨t, ht, hanew⟩ := State.histConfig_empties hok e hw hv
    exact ⟨_, congrArg s.goes hanew, State.histAnew_empty ht e.val⟩
  · intro k x s hok hlo hhi u first lo hi now
    obtain ⟨⟨hmin, hminT⟩, hmax, hmaxT⟩ := State.trkTake_shows hok k.val hlo hhi
    refine ⟨fun hfirst => ?_, fun hlater => ?_⟩
    · have hzero : s.rd F.MON_TRK_N_N k.val = 0 := hfirst
      simp only [hzero, decide_true, Bool.true_or, if_true] at hmin hminT hmax hmaxT
      exact ⟨hmin, hmax, hminT, hmaxT⟩
    · have hcount : ¬ s.rd F.MON_TRK_N_N k.val = 0 := hlater
      simp only [hcount, decide_false, Bool.false_or, decide_eq_true_eq] at hmin hminT hmax hmaxT
      refine ⟨hmin.trans ?_, hmax.trans ?_, hminT, hmaxT⟩
      · show (if x < lo then x else lo) = min lo x
        omega
      · show (if hi < x then x else hi) = max hi x
        omega

end Sys2Proof.Machine
end

section
/-! Power states (17): a request, and why the end of a transition may reach drive memory. -/

namespace Sys2Proof.Machine

section
variable {s : State}

/-! ### What follows a command without a reaction -/

/-- Memory, the looper's own state and the pair's. -/
def State.memUnits (s : State) : List Host.Cell × LoopState × RedundState := (s.mem, s.loop, s.redund)

theorem State.memUnits_inj {t : State} (h : s.memUnits = t.memUnits) : s.mem = t.mem ∧ s.loop = t.loop ∧ s.redund = t.redund := by
  simpa only [State.memUnits, Prod.mk.injEq] using h

theorem State.memUnits_wr (s : State) (f : Fld) (v i j k : Nat) : (s.wr f v i j k).memUnits = s.memUnits := rfl

theorem State.memUnits_wrB (s : State) (f : Fld) (v : Bool) (i j k : Nat) : (s.wrB f v i j k).memUnits = s.memUnits := rfl

theorem State.memUnits_inc (s : State) (f : Fld) (n i j k : Nat) : (s.inc f n i j k).memUnits = s.memUnits := rfl

theorem State.memUnits_sw (s : State) (x : SwitchState) : ({ s with sw := x } : State).memUnits = s.memUnits := rfl

theorem State.memUnits_raise {n : Nat} (hn : n ≠ 0) (s : State) (d : W32) : (s.raise n d).memUnits = s.memUnits :=
  congrArg (fun t => (t.mem, t.loop, t.redund)) (State.besidesFaults_raise hn s d)

theorem State.memUnits_nextSolve (s : State) : s.nextSolve.memUnits = s.memUnits := by
  have hsource (t : State) : t.throttleSource.memUnits = t.memUnits := by
    simp only [State.throttleSource, State.levelEnd, apply_ite State.memUnits, State.memUnits_raise (n := 69) (by decide), State.memUnits_wrB,
      ite_self]
  unfold State.nextSolve
  split
  · rfl
  · split
    · split
      · exact hsource _
      · rfl
    · rfl

theorem State.memUnits_pwmGuard (s : State) : s.pwmGuard.memUnits = s.memUnits := by
  have hmodule (t : State) (n : Nat) :
      (if t.safeOn || t.tripped n then t.setPm n { t.pm n with offTrip := true } else t).memUnits = t.memUnits := by
    split <;> rfl
  unfold State.pwmGuard
  split
  · rw [forEach_frame hmodule]
  · rfl

theorem State.memUnits_releaseCopy (s : State) (id : Nat) : (s.releaseCopy id).memUnits = s.memUnits := by
  unfold State.releaseCopy
  split
  · rfl
  · split
    · simp only [State.setFree, apply_ite State.memUnits, State.memUnits_wr, State.memUnits_sw, ite_self]
    · rfl

theorem State.memUnits_cutSend (s : State) (t : Transmit) : (s.cutSend t).memUnits = s.memUnits := by
  have hstop (u : State) : (u.stopSending t).memUnits = u.memUnits := by
    have hheld (v : State) (c : Nat) :
        ((v.creditSync t.out c).setOutQ { (v.creditSync t.out c).outQ t.out c with held := none }).memUnits = v.memUnits := rfl
    unfold State.stopSending
    rw [State.memUnits_sw, forEach_frame hheld]
  unfold State.cutSend
  rw [hstop, apply_ite State.memUnits, State.memUnits_sw, ite_self]

theorem State.memUnits_lagHeal (s : State) (g : Nat) : (s.lagHeal g).memUnits = s.memUnits := by
  unfold State.lagHeal
  split
  · rfl
  · rfl

theorem State.memUnits_flushPorts (s : State) : s.flushPorts.memUnits = s.memUnits := by
  have hcopy (q : OutQueue) (t : State) (c : QCopy) : ((t.releaseCopy c.id).dropCopy q.out q.cls).memUnits = t.memUnits :=
    (State.memUnits_inc _ _ _ _ _ _).trans (State.memUnits_releaseCopy t c.id)
  have hcut (t : State) (x : Transmit) : ((((t.cutSend x).releaseCopy x.id).dropCopy x.out x.cls).wr F.BRAID_CNT_VALUE
      (t.rd F.BRAID_CNT_VALUE x.out 7 + 1) x.out 7).memUnits = t.memUnits :=
    (State.memUnits_wr _ _ _ _ _ _).trans ((State.memUnits_inc _ _ _ _ _ _).trans
      ((State.memUnits_releaseCopy _ _).trans (State.memUnits_cutSend t x)))
  have hqueue (t : State) (q : OutQueue) : (forEach q.copies (fun t c => (t.releaseCopy c.id).dropCopy q.out q.cls)
      (t.setCopies q.out q.cls [])).memUnits = t.memUnits := forEach_frame (hcopy q) _ _
  unfold State.flushPorts
  rw [forEach_frame State.memUnits_lagHeal, forEach_frame hcut, forEach_frame hqueue,
    forEach_frame (g := State.memUnits) (f := State.linkDown) (fun _ _ => rfl)]

/-- What follows the reactions, where no staged lay has gone, keeps memory, the looper's state and the pair's. -/
theorem memUnits_settle {s u : State} (hstaged : s.lay.staged = []) :
    (settle s u).memUnits = if unsettled s u then (State.reactionStops s u).memUnits else u.memUnits := by
  have hmend (t : State) : (State.mendLedger s t).memUnits = t.memUnits := by
    simp only [State.mendLedger, apply_ite State.memUnits]
    split
    · rfl
    · split <;> rfl
  have hpins (t : State) : t.settlePins.memUnits = t.memUnits := rfl
  have hgone (u : State) : unstaged s u = [] := by rw [unstaged, hstaged, List.filter_nil]
  unfold settle
  split
  · rw [hpins, State.memUnits_pwmGuard, State.memUnits_flushPorts, State.memUnits_nextSolve, hgone]
    exact hmend _
  · exact hpins u

/-- A unit that enters STANDBY waits for the whole image. -/
theorem State.resync_enterStandby (s : State) : s.enterStandby.redund.resync = true := by
  have hhook (t : State) (arg : W32) : (t.fireHook 27 arg).redund = t.redund :=
    congrArg (fun u => u.redund) (State.besidesFaults_fireHook t 27 arg)
  unfold State.enterStandby State.peerHook
  rw [hhook]

/-- A reaction in force leaves its trace: the looper's steps, or a surrender's resynchronisation. -/
theorem State.reactionStops_trace {s u : State} (hreact : u.reacting = true) :
    (State.reactionStops s u).loop.allStepped = true ∨ (State.reactionStops s u).redund.resync = true := by
  unfold State.reactionStops
  rw [if_pos hreact]
  extract_lets _ _ _ _ stepped
  have hstepped : stepped.loop.allStepped = true := rfl
  clear_value stepped
  split
  · unfold State.surrender
    split
    · right
      exact State.resync_enterStandby _
    · exact .inl hstepped
  · exact .inl hstepped

theorem State.memUnits_after (s u : State) : (s.after u).memUnits = (settle s u).memUnits := rfl

theorem State.reactionStops_of_calm {s u : State} (h : u.reacting = false) : State.reactionStops s u = u :=
  if_neg (by rw [h]; decide)

theorem memUnits_settle_of_calm {s u : State} (hstaged : s.lay.staged = []) (h : u.reacting = false) :
    (settle s u).memUnits = u.memUnits := by
  rw [memUnits_settle hstaged, State.reactionStops_of_calm h, ite_self]

/-- Without a surrender and without a looper's step, what follows a command keeps memory. -/
theorem mem_settle_of_traceless {s u : State} (hstaged : s.lay.staged = []) (hloop : (settle s u).loop.allStepped = false)
    (hpair : (settle s u).redund.resync = false) : (settle s u).mem = u.mem := by
  cases hreact : u.reacting with
  | false => exact (State.memUnits_inj (memUnits_settle_of_calm hstaged hreact)).1
  | true =>
    have hunsettled : unsettled s u = true := by simp [unsettled, hreact]
    have hkept := memUnits_settle (u := u) hstaged
    rw [if_pos hunsettled] at hkept
    obtain ⟨-, hunit, hredund⟩ := State.memUnits_inj hkept
    rw [hunit] at hloop
    rw [hredund] at hpair
    rcases State.reactionStops_trace (s := s) hreact with htrace | htrace
    · exact absurd (hloop.symm.trans htrace) (by decide)
    · exact absurd (hpair.symm.trans htrace) (by decide)

end

/-! ### A transition into DEEP while a lay is in progress (R175, R433) -/

/-- The strand streams, a restoring lay is in progress with the arm of cell 0 loaded, and a transition into DEEP ends. -/
def layInDeep : State :=
  let s := (((State.reset.wr F.PWR_CTRL_TARGET 3).wrB F.PWR_STATUS_CHANGING true).wr F.STRAND_STATUS_STATE 5).setDCtrl 0 7 1 1
  { s with lay := { s.lay with cur := some (newLay .restoring 0 0 0 0 0 0 0 0 [(0, 0)] [] []) } }

theorem layInDeep_ok : layInDeep.ok = true := by decide

theorem layInDeep_changing : layInDeep.bit F.PWR_STATUS_CHANGING = true := by decide

theorem layInDeep_disarms : layInDeep.pwrDone.mem ≠ layInDeep.mem := by decide

theorem layInDeep_calm : layInDeep.pwrDone.reacting = false ∧ layInDeep.pwrDone.loop.allStepped = false ∧
    layInDeep.pwrDone.redund.resync = false := by decide

/-- Whatever is named as the row's effect on `layInDeep`, it has the memory of `pwrDone`. -/
theorem mem_of_goes_layInDeep {u : State} (h : exec .powerTransitionDone layInDeep = layInDeep.goes u) :
    u.mem = layInDeep.pwrDone.mem := by
  obtain ⟨hreact, hloop, hpair⟩ := layInDeep_calm
  have hsame : layInDeep.after layInDeep.pwrDone = layInDeep.after u := Host.Outcome.next.inj h
  have hdone : (settle layInDeep u).memUnits = layInDeep.pwrDone.memUnits := by
    rw [← State.memUnits_after, ← hsame, State.memUnits_after, memUnits_settle_of_calm rfl hreact]
  obtain ⟨hmem, hunit, hredund⟩ := State.memUnits_inj hdone
  exact (mem_settle_of_traceless rfl ((congrArg LoopState.allStepped hunit).trans hloop)
    ((congrArg RedundState.resync hredund).trans hpair)).symm.trans hmem

/-- Refutes O54: the end of a transition into DEEP stops the stream, which interrupts the lay in progress and disarms its
cells in drive memory. -/
theorem not_powerStates : ¬ Obligations.PowerStates := by
  intro h
  obtain ⟨-, -, hdone⟩ := h 0 layInDeep layInDeep_ok
  obtain ⟨u, hgoes, -, hmem⟩ := hdone layInDeep_changing
  exact layInDeep_disarms ((mem_of_goes_layInDeep hgoes).symm.trans hmem)

end Sys2Proof.Machine
end

section
/-! Clock monitoring and the domains' sources (17). -/

namespace Sys2Proof.Machine

section
variable {s : State}

/-! ### What the binding of TB0 takes with it (R343, R424) -/

/-- The fields of TB0 that the binding writes. -/
def bindFields (a : Nat) : Prop := a = F.TIME_INC_INC.key 0 0 0 ∨ a = F.TIME_STATUS_INC_REJ.key 0 0 0

theorem State.clampInc_writesOnly {t : State} (h : State.WritesOnly bindFields s t) : State.WritesOnly bindFields s t.clampInc :=
  .ite ((h.wr (.inl rfl) _).wr (.inr rfl) _) (.ite ((h.wr (.inl rfl) _).wr (.inr rfl) _) h)

theorem State.clampInc_clock (s : State) : s.clampInc.clock = s.clock := by
  simp only [State.clampInc, State.wrB, apply_ite State.clock, State.wr_clock, ite_self]

theorem State.jumpFrames_regs (s : State) (q : Int) : (s.jumpFrames q).regs = s.regs := by
  simp only [State.jumpFrames, apply_ite State.regs, ite_self]

theorem State.jumpFrames_mem (s : State) (q : Int) : (s.jumpFrames q).mem = s.mem := by
  simp only [State.jumpFrames, apply_ite State.mem, ite_self]

theorem State.jumpFrames_clock (s : State) (q : Int) : (s.jumpFrames q).clock = s.clock := by
  simp only [State.jumpFrames, apply_ite State.clock, ite_self]

theorem State.adjustBound_writesOnly {K : Nat → Prop} {t : State} (h : State.WritesOnly K s t) (a : Int) :
    State.WritesOnly K s (t.adjustBound a) := by
  refine h.congr ?_ ?_
  · exact State.jumpFrames_regs _ _
  · exact State.jumpFrames_mem _ _

theorem State.rebind_writesOnly (hok : s.ok = true) : State.WritesOnly bindFields s s.rebind := by
  unfold State.rebind
  split
  · exact .refl hok
  · split
    · exact State.clampInc_writesOnly (.refl hok)
    · refine State.clampInc_writesOnly (State.adjustBound_writesOnly ?_ _)
      exact (State.WritesOnly.refl hok).congr rfl rfl

theorem State.rebind_clock (s : State) : s.rebind.clock = s.clock := by
  unfold State.rebind
  split
  · rfl
  · split
    · exact State.clampInc_clock s
    · exact (State.clampInc_clock _).trans (State.jumpFrames_clock _ _)

theorem State.bindFollow_writesOnly (hok : s.ok = true) (s0 : State) : State.WritesOnly bindFields s (s0.bindFollow s) :=
  .ite (.refl hok) (.ite ((State.WritesOnly.refl hok).congr rfl rfl) (State.rebind_writesOnly hok))

theorem State.bindFollow_held (s0 s : State) : (s0.bindFollow s).clock.held = s.clock.held := by
  unfold State.bindFollow
  split
  · rfl
  · split
    · rfl
    · rw [State.rebind_clock]

/-! ### A domain's move to a source (R426) -/

/-- The fields that moves of domains write. -/
def sourceFields (a : Nat) : Prop := bindFields a ∨ ∃ d, a = F.CLK_DOM_SRC.key d 0 0 ∨ a = F.CLK_DOM_ACT_SRC.key d 0 0

/-- A domain's switch begins: its clock is lost for some cycles, and the new source is in force. -/
def State.switchBegins (s : State) (fallback : Bool) (d : Nat) : State :=
  let lost := ceilDiv (3 * clkPs d (!fallback) + 4 * clkPs d fallback) 2000
  let moving := aset s.clock.moving d (s.time.cycle, s.time.cycle + lost)
  (({ s with clock := { s.clock with moving := moving } } : State).wrB F.CLK_DOM_SRC fallback d).wrB F.CLK_DOM_ACT_SRC fallback d

theorem State.domMove_eq (s : State) (fallback : Bool) (d : Nat) :
    s.domMove fallback d = if s.bit F.CLK_DOM_ACT_SRC d = fallback then s.wrB F.CLK_DOM_SRC fallback d
      else s.bindFollow (s.switchBegins fallback d) := rfl

theorem State.switchBegins_writesOnly (hok : s.ok = true) (fallback : Bool) (d : Nat) :
    State.WritesOnly sourceFields s (s.switchBegins fallback d) := by
  have hmoving (x : ClockState) : State.WritesOnly sourceFields s { s with clock := x } :=
    (State.WritesOnly.refl hok).congr rfl rfl
  exact ((hmoving _).wr (.inr ⟨d, .inl rfl⟩) _).wr (.inr ⟨d, .inr rfl⟩) _

theorem State.domMove_writesOnly (hok : s.ok = true) (fallback : Bool) (d : Nat) :
    State.WritesOnly sourceFields s (s.domMove fallback d) := by
  have hbegins := State.switchBegins_writesOnly hok fallback d
  rw [State.domMove_eq]
  split
  · exact (State.WritesOnly.refl hok).wr (.inr ⟨d, .inl rfl⟩) _
  · exact hbegins.trans ((State.bindFollow_writesOnly hbegins.1 s).mono fun _ h => .inl h)

theorem State.domMove_held (s : State) (fallback : Bool) (d : Nat) : (s.domMove fallback d).clock.held = s.clock.held := by
  rw [State.domMove_eq]
  split
  · rfl
  · exact State.bindFollow_held _ _

theorem actSrc_not_bind (d : Nat) : ¬ bindFields (F.CLK_DOM_ACT_SRC.key d 0 0) := by
  simp only [bindFields, Fld.key, F.CLK_DOM_ACT_SRC, F.TIME_INC_INC, F.TIME_STATUS_INC_REJ]
  omega

/-- A domain moved to a source has it in force. -/
theorem State.actSrc_domMove (hok : s.ok = true) (fallback : Bool) (d : Nat) :
    (s.domMove fallback d).bit F.CLK_DOM_ACT_SRC d = fallback := by
  rw [State.domMove_eq]
  split
  case isTrue hsame =>
    exact (State.bit_wr_ne hok (Fld.key_ne_of_stride_eq (f := F.CLK_DOM_ACT_SRC) (g := F.CLK_DOM_SRC) rfl (by decide) d)).trans hsame
  case isFalse =>
    rw [(State.bindFollow_writesOnly (State.switchBegins_writesOnly hok fallback d).1 s).bit (actSrc_not_bind d)]
    exact State.bit_wrB_self (State.wr_keeps_ok (by exact hok) _ _ _ _ _) rfl fallback d 0 0

/-! ### The rows -/

theorem exec_clkDomSrc_fallback {d : Fin 10} (hd : d.val < 8) : exec (.clkDomSrc d true) s = s.goes
    (({ s with clock := { s.clock with held := sadd s.clock.held d.val } } : State).domMove true d.val) :=
  congrArg s.goes (if_neg (Nat.not_le.mpr hd))

theorem exec_clkDomSrc_refused {d : Fin 10} (hd : d.val < 8) (hbad : s.normalOk d.val = false) :
    exec (.clkDomSrc d false) s = s.goes (s.wrB F.CLK_DOM_SRC_REF true d.val) := by
  have hnot : ¬ s.normalOk d.val = true := by rw [hbad]; decide
  exact congrArg s.goes ((if_neg (Nat.not_le.mpr hd)).trans (if_neg hnot))

theorem State.switchForced_of_idle {d : Nat} (h : s.switchingSince d = none) : s.switchForced d = s := by
  rw [State.switchForced, h]

/-- Start-up that goes on by RCO. -/
theorem State.clocksReady_shows (hok : s.ok = true) :
    let u := (s.wrB F.BOOT_STATUS_ON_RCO true).clocksReady
    u.rd F.BOOT_STATUS_PHASE = 3 ∧ u.bit F.BOOT_STATUS_ON_RCO = true := by
  have hrco := State.wr_keeps_ok hok F.BOOT_STATUS_ON_RCO (boolNat true) 0 0 0
  exact ⟨State.rd_wr_self (by exact hrco) _ _ _ _ _,
    (State.bit_wr_ne (by exact hrco) (by decide)).trans (State.bit_wrB_self hok rfl true 0 0 0)⟩

theorem exec_xtalQualTimeout {b : Bool} (hphase : s.rd F.BOOT_STATUS_PHASE = 2) (hqual : s.bit F.CLK_STATUS_XTAL_QUAL = false) :
    exec (.xtalQualTimeout b) s = s.goes
      ((((s.declareClk (boolNat b)).wrB F.CLK_STATUS_AMP_OK b).wrB F.BOOT_STATUS_ON_RCO true).clocksReady) :=
  congrArg s.goes (if_pos (by simp [hphase, hqual]))

/-- A PLL's lock shown, its domains back on it. -/
def State.pllLocked (s : State) (p : Nat) : State :=
  forEach (pllDomains p) State.domReturn
    ((s.wr F.CLK_STATUS_LOCK (s.rd F.CLK_STATUS_LOCK ||| 2 ^ p)).clkPass [5 + p])

theorem State.clkPass_of_none_declared (h : s.clock.declared = []) (codes : List Nat) : s.clkPass codes = s := by
  simp [State.clkPass, h]

theorem lock_not_source : ¬ sourceFields (F.CLK_STATUS_LOCK.key 0 0 0) := by
  rintro (h | ⟨d, h⟩)
  · exact absurd h (by simp only [bindFields]; decide)
  · simp only [Fld.key, F.CLK_STATUS_LOCK, F.CLK_DOM_SRC, F.CLK_DOM_ACT_SRC] at h
    omega

theorem State.lock_pllLocked (hok : s.ok = true) (hnone : s.clock.declared = []) (p : Fin 4) :
    State.ok (s.pllLocked p.val) = true ∧ ((s.pllLocked p.val).rd F.CLK_STATUS_LOCK).testBit p.val = true := by
  have hlock := State.wr_keeps_ok hok F.CLK_STATUS_LOCK (s.rd F.CLK_STATUS_LOCK ||| 2 ^ p.val) 0 0 0
  have hreturn (t : State) (d : Nat) (ht : t.ok = true) : State.WritesOnly sourceFields t (t.domReturn d) :=
    .ite (.refl ht) (State.domMove_writesOnly ht false d)
  obtain ⟨hdone, -, hrd⟩ := (State.WritesOnly.refl hlock).forEach (pllDomains p.val) hreturn
  rw [State.pllLocked, State.clkPass_of_none_declared (by exact hnone)]
  refine ⟨hdone, ?_⟩
  rw [hrd F.CLK_STATUS_LOCK 0 0 0 lock_not_source, State.testBit_rd_wr hok (by decide) _ p.isLt, Nat.testBit_or,
    Nat.testBit_two_pow_self, Bool.or_true]

/-- A lock leads on, where start-up waited for it, without a change of the locks. -/
theorem exec_pllLock (hok : s.ok = true) (hqual : s.bit F.CLK_STATUS_XTAL_QUAL = true) (hnone : s.clock.declared = [])
    (p : Fin 4) : ∃ u, exec (.pllLock p) s = s.goes u ∧ (u.rd F.CLK_STATUS_LOCK).testBit p.val = true := by
  obtain ⟨hdone, hlock⟩ := State.lock_pllLocked hok hnone p
  refine ⟨_, congrArg s.goes (if_pos hqual), ?_⟩
  show ((if _ then (s.pllLocked p.val).clocksReady else s.pllLocked p.val).rd F.CLK_STATUS_LOCK).testBit p.val = true
  split
  · have hphase : (s.pllLocked p.val).clocksReady.rd F.CLK_STATUS_LOCK = (s.pllLocked p.val).rd F.CLK_STATUS_LOCK :=
      State.rd_wr_ne (by exact hdone) (by decide)
    rw [hphase, hlock]
  · exact hlock

end

/-- Settles O53: each row by the state it asks about; a move of a domain writes its source fields and TB0's binding. -/
theorem clockCommands : Obligations.ClockCommands := by
  intro s hok
  refine ⟨fun n => ⟨_, rfl, rfl, ?_⟩, fun _ => rfl, rfl, fun h => congrArg s.goes (if_pos h), ?_, ?_, ?_, ?_, ?_,
    fun _ => rfl, fun _ => State.switchForced_of_idle, rfl, fun _ => rfl⟩
  · exact (State.rd_wr_self hok _ _ _ _ _).trans (Nat.mod_eq_of_lt (Nat.lt_of_lt_of_le (Nat.mod_lt _ (by decide)) (by decide)))
  · intro b hphase hqual
    exact ⟨_, exec_xtalQualTimeout hphase hqual,
      State.clocksReady_shows (State.wr_keeps_ok (ok_of_good (State.declareClk_good _ (good_self hok))) _ _ _ _ _)⟩
  · intro p hqual
    exact congrArg s.goes (if_neg (by rw [hqual]; decide))
  · exact fun p hqual _ hnone => exec_pllLock hok hqual hnone p
  · intro d hd
    have hheld : (({ s with clock := { s.clock with held := sadd s.clock.held d.val } } : State)).ok = true := hok
    refine ⟨_, exec_clkDomSrc_fallback hd, State.actSrc_domMove hheld true d.val, ?_,
      (State.domMove_writesOnly hheld true d.val).2.1⟩
    rw [State.domMove_held]
    exact mem_sadd_self _ _
  · intro d hd hbad
    exact ⟨_, exec_clkDomSrc_refused hd hbad, State.bit_wrB_self hok rfl true d.val 0 0,
      State.bit_wr_ne hok (Fld.key_ne_of_stride_eq (f := F.CLK_DOM_ACT_SRC) (g := F.CLK_DOM_SRC_REF) rfl (by decide) d.val)⟩

end Sys2Proof.Machine
end

section
/-! The bus matrix (17): master resets, the PCIe endpoint, and accesses by the target that takes them. -/

namespace Sys2Proof.Machine

section
variable {s : State}

/-! ### Masters and the endpoint (R439, R451) -/

theorem State.masterReset_shows (hok : s.ok = true) (m : Nat) :
    let u := s.masterReset m
    m ∈ u.bus.inReset ∧ alist u.bus.resp m = none ∧ u.bit F.BUS_MASTER_RESETTING m = true :=
  ⟨mem_sadd_self _ _, alist_adel_self _ _, State.bit_wrB_self (by exact hok) rfl true m 0 0⟩

theorem exec_pcieFlr (l : Bool) : ∃ u, exec (.pcieFlr l) s = s.goes u ∧ 0 ∈ u.bus.inReset ∧
    u.boot.pcieUp = (s.boot.pcieUp && !l) := by
  cases l with
  | false => exact ⟨_, rfl, mem_sadd_self _ _, (Bool.and_true _).symm⟩
  | true => exact ⟨_, rfl, mem_sadd_self _ _, (Bool.and_false _).symm⟩

/-! ### An access to a block or a memory (R9, R11, R437) -/

section
variable {m addr n v i : Nat} {w : Bool}

theorem State.access_of_block (hi : s.internal m addr = some i) (ht : s.target m i = .block) (hopen : s.domOpen (blockDomain i) = true) :
    s.access m addr n w v =
      if isBurst n then (s.burstError m i n w, none)
      else if !sizeOk [4, 8] i n then s.badAccess m w
      else if w then ((s.respond m true 0).blockWrite m i n v, some 0)
      else answer m (s.blockRead m i n) := by
  simp [State.access, hi, ht, hopen]

theorem State.access_of_memory {k : MemKind} (hi : s.internal m addr = some i) (ht : s.target m i = .memory k)
    (hopen : s.domOpen (memDomain k) = true) :
    s.access m addr n w v =
      if !sizeOk [1, 2, 4, 8] i n then s.badAccess m w
      else if w then ((s.respond m true 0).memWrite k i n v, some 0)
      else answer m (s.memRead k i n) := by
  simp [State.access, hi, ht, hopen]

/-- A size a target takes is no burst's. -/
theorem isBurst_of_sizeOk {sizes : List Nat} (hsizes : ∀ n ∈ sizes, n ≤ 8) (h : sizeOk sizes i n = true) : isBurst n = false := by
  simp only [sizeOk, Bool.and_eq_true, List.contains_iff_mem] at h
  have hle := hsizes n h.1
  simp only [isBurst, Bool.and_eq_false_iff, decide_eq_false_iff_not]
  exact .inl (.inl (by omega))

/-- An access of a size no block takes answers an error and leaves the rest. -/
theorem State.badAccess_keeps : (s.badAccess m w).1.mem = s.mem ∧ (s.badAccess m w).1.ledger = s.ledger ∧
    (s.badAccess m w).1.fault = s.fault := by
  simp only [State.badAccess, State.errResponse]
  split <;> exact ⟨rfl, rfl, rfl⟩

end

/-- A memory is the target of an address that lies in it. -/
theorem State.memKind_of_target {m i : Nat} {k : MemKind} (h : s.target m i = .memory k) : memKind i = some k := by
  unfold State.target at h
  split at h
  · cases h
  · split at h
    case h_1 hk =>
      cases h
      exact hk
    case h_2 =>
      split at h <;> cases h

/-! ### The rows of accesses -/

theorem exec_registerWrite {a : RegAccess} {w : Bool} (hw : a.write = w) (hmay : s.mayIssue a.m.val w = true) :
    exec (.registerWrite a) s = s.goes (s.access a.m.val a.addr.toNat a.size w a.data.toNat).1 := by
  subst hw
  exact congrArg s.goes (if_pos hmay)

theorem exec_memoryWrite {b : MemAccess} {w : Bool} (hw : b.write = w) (hmay : s.mayIssue b.m.val w = true) :
    exec (.memoryWrite b) s = s.goes (s.memAccess b) := by
  subst hw
  exact congrArg s.goes (if_pos hmay)

/-- An access that is no burst is one access. -/
theorem State.memAccess_of_single {b : MemAccess} (h : isBurst b.size = false) :
    s.memAccess b = (s.access b.m.val b.addr.toNat b.size b.write b.data.toNat).1 := by
  simp [State.memAccess, h]

/-- A burst write of a memory is its beats. -/
theorem State.memAccess_of_burst {b : MemAccess} {i : Nat} {k : MemKind} (hburst : isBurst b.size = true) (hw : b.write = true)
    (hi : s.internal b.m.val b.addr.toNat = some i) (ht : s.target b.m.val i = .memory k) (halign : i % 8 = 0) :
    s.memAccess b = (s.burstBeats b.m.val b.addr.toNat true
      ((List.range (b.size / 8)).map (fun k => (b.data :: b.more).getD k 0))).1 := by
  have hkind := State.memKind_of_target ht
  simp only [State.memAccess, hburst, hw, hi, ht, halign, hkind]
  simp only [Option.isSome_some, ne_eq, reduceCtorEq, not_false_eq_true, decide_true, Bool.and_true, Bool.not_true,
    Bool.and_false, Bool.false_eq_true, if_true, if_false]
  split <;> rfl

theorem exec_defaultTargetAccess {m : Master} {addr : W32} {w : Bool} {i : Nat} (hmay : s.mayIssue m.val w = true)
    (hi : s.internal m.val addr.toNat = some i) (ht : s.target m.val i = .none) :
    exec (.defaultTargetAccess m addr w) s = s.goes (s.busError m.val 0 i w) := by
  refine congrArg s.goes ((if_neg (by rw [hmay]; decide)).trans ?_)
  rw [hi]
  exact if_pos ht

end

/-- Settles O55: resets and the endpoint by what they write, an access by the target at its internal address. -/
theorem busMatrix : Obligations.BusMatrix := by
  refine ⟨fun m s hok => ⟨fun _ => rfl, ?_, ?_, exec_pcieFlr, fun h => ⟨_, congrArg s.goes (if_pos h), rfl, rfl, rfl⟩⟩, ?_⟩
  · obtain ⟨hin, hresp, hbit⟩ := State.masterReset_shows hok m.val
    exact ⟨_, rfl, hin, hresp, hbit, rfl⟩
  · exact ⟨_, rfl, State.bit_wrB_self (by exact hok) rfl false m.val 0 0, rfl, rfl⟩
  · intro a b i k s at' reg mem
    refine ⟨?_, ?_, ?_, ?_, ?_, ?_, ?_, ?_⟩
    · rintro ⟨⟨hmay, hi⟩, hw, ht, hopen⟩ hsize
      rw [exec_registerWrite hw hmay, State.access_of_block hi ht hopen, isBurst_of_sizeOk (by decide) hsize, hsize]
      rfl
    · rintro ⟨⟨hmay, hi⟩, hw, ht, hopen⟩ hsize
      rw [exec_registerWrite hw hmay, State.access_of_block hi ht hopen, isBurst_of_sizeOk (by decide) hsize, hsize]
      rfl
    · rintro ⟨⟨hmay, hi⟩, hw, ht, hopen⟩ hsize hburst
      refine ⟨(s.badAccess a.m.val true).1, ?_, State.badAccess_keeps⟩
      rw [exec_registerWrite hw hmay, State.access_of_block hi ht hopen, hburst, hsize]
      rfl
    · rintro ⟨⟨hmay, hi⟩, -, ht, hopen⟩ hburst
      rw [exec_registerWrite rfl hmay, State.access_of_block hi ht hopen, if_pos hburst]
    · rintro ⟨⟨hmay, hi⟩, hw, ht, -⟩ hburst halign
      rw [exec_memoryWrite hw hmay, State.memAccess_of_burst hburst hw hi ht halign]
    · rintro ⟨⟨hmay, hi⟩, hw, ht, hopen⟩ hsize
      rw [exec_memoryWrite hw hmay, State.memAccess_of_single (isBurst_of_sizeOk (by decide) hsize),
        State.access_of_memory hi ht hopen, hsize, hw]
      rfl
    · rintro ⟨⟨hmay, hi⟩, hw, ht, hopen⟩ hsize
      rw [exec_memoryWrite hw hmay, State.memAccess_of_single (isBurst_of_sizeOk (by decide) hsize),
        State.access_of_memory hi ht hopen, hsize, hw]
      rfl
    · exact fun m w wr ⟨hmay, hi⟩ ht => exec_defaultTargetAccess hmay hi ht

end Sys2Proof.Machine
end

section
/-! Trial solves (03): the buffer a SOLVE names, the trial it queues, and the one that is served. -/

namespace Sys2Proof.Machine

section
variable {q : Fin 8} {w : Fields} {s : State}

/-! ### The buffer (R105) -/

section
variable {a : W64} {cap : Nat}

theorem bufTrap_outside (h : ¬ (0x00100000 ≤ a.toNat ∧ a.toNat + 8 + 8 * cap ≤ 0x00200000)) : bufTrap a cap = some 2 := by
  have hout : a.toNat < dmemLo ∨ dmemHi < a.toNat + 8 + 8 * cap := by
    simp only [dmemLo, dmemHi]
    omega
  exact if_pos (by simpa only [Bool.or_eq_true, decide_eq_true_eq] using hout)

section
variable (hfits : 0x00100000 ≤ a.toNat ∧ a.toNat + 8 + 8 * cap ≤ 0x00200000)
include hfits

theorem bufTrap_inside : bufTrap a cap = if a.toNat % 8 ≠ 0 then some 3 else none := by
  have hin : ¬ (a.toNat < dmemLo ∨ dmemHi < a.toNat + 8 + 8 * cap) := by
    simp only [dmemLo, dmemHi]
    omega
  exact if_neg (by simpa only [Bool.or_eq_true, decide_eq_true_eq] using hin)

theorem bufTrap_misaligned (h : a.toNat % 8 ≠ 0) : bufTrap a cap = some 3 := (bufTrap_inside hfits).trans (if_pos h)

theorem bufTrap_aligned (h : a.toNat % 8 = 0) : bufTrap a cap = none :=
  (bufTrap_inside hfits).trans (if_neg (not_not_intro h))

end

end

/-! ### SOLVE and TRIAL_SOLVE_DONE (R105, R405) -/

/-- A trial is queued, the wanted throttle mode taken where no solve and no trial is before it. -/
def State.queueTrial (s : State) (q : Fin 8) : State :=
  let first := if s.solve.trials.isEmpty && s.solve.running.isNone then s.takeSolveMode else s
  { first with solve := { first.solve with trials := first.solve.trials ++ [q] } }

theorem exec_solve_traps {c : Nat} (h : Runs 0x66 q w s) (hbuf : bufTrap ((s.sq q.val).rg w.src2) w.imm.toNat = some c) :
    exec (.solve q w) s = s.goes (s.trap q.val c) :=
  (issue_of_runs h _).trans (by simp only [hbuf]; rfl)

theorem exec_solve (h : Runs 0x66 q w s) (hbuf : bufTrap ((s.sq q.val).rg w.src2) w.imm.toNat = none) :
    let r := s.trialOutcome (((s.sq q.val).rg w.src1).extractLsb' 0 16).toNat (((s.sq q.val).rg w.src1).extractLsb' 16 16).toNat
    exec (.solve q w) s = s.goes ((s.queueTrial q).sqBlock q
      (.trial w.dst ((s.sq q.val).rg w.src2).toNat w.imm.toNat r.1 r.2)) :=
  (issue_of_runs h _).trans (by simp only [hbuf]; rfl)

/-- The first queued trial leaves the queue; the next one takes the wanted throttle mode. -/
def State.dequeueTrial (s : State) : State :=
  let u := { s with solve := { s.solve with trials := s.solve.trials.drop 1 } }
  if u.solve.trials.isEmpty then u else u.takeSolveMode

theorem exec_trialSolveDone {d : BitVec 5} {buf n : Nat} {st : Status} {moves : Option (List ConnRec)}
    (hwait : (s.sq q.val).wait = .trial d buf n st moves) (hfree : s.solverFree = true) (hfirst : s.solve.trials.head? = some q) :
    exec (.trialSolveDone q) s = s.goes (((moves.map (s.dequeueTrial.writeMoves buf n)).getD s.dequeueTrial).sqRet q d
      (st.word.setWidth 64)) := by
  show execTrialSolveDone q s = _
  simp only [execTrialSolveDone, hwait, hfree, hfirst, decide_true, Bool.and_true, if_true]
  cases moves <;> rfl

end

/-- Settles O24: the buffer decides whether SOLVE traps; a trial that is first and may be served is. -/
theorem trialSolve : Obligations.TrialSolve := by
  intro q w s x b cap r fits trials first
  refine ⟨fun h hfits halign => exec_solve h (bufTrap_aligned hfits halign), fun h hout => exec_solve_traps h (bufTrap_outside hout),
    fun h hfits hmis => exec_solve_traps h (bufTrap_misaligned hfits hmis), ?_⟩
  intro d buf n st moves hwait hfree hfirst u v
  exact exec_trialSolveDone hwait hfree hfirst

end Sys2Proof.Machine
end

section
/-! Roles of a redundant pair (14): heartbeats, failover and the watchdog. -/

namespace Sys2Proof.Machine

section
variable {s : State}

/-! ### What leaves the pair's own state -/

theorem State.fireHook_redund (s : State) (h : Nat) (arg : W32) : (s.fireHook h arg).redund = s.redund :=
  congrArg (fun t => t.redund) (State.besidesFaults_fireHook s h arg)

theorem State.peerHook_redund (s : State) (code : Nat) : (s.peerHook code).redund = s.redund := State.fireHook_redund _ _ _

/-- A unit that enters STANDBY has its peer, and keeps the kind of its transfer. -/
theorem State.enterStandby_shows (s : State) :
    s.enterStandby.redund.peerLost = false ∧ s.enterStandby.redund.kind = s.redund.kind := by
  unfold State.enterStandby
  rw [State.peerHook_redund]
  exact ⟨rfl, rfl⟩

/-! ### Heartbeats (R358 to R362, R469) -/

section
variable (hen : s.bit F.REDUND_CTRL_EN = true)
include hen

theorem exec_heartbeatSend_fences (hloud : s.redund.silent = false) (hrole : s.rd F.REDUND_STATUS_ROLE = 1)
    (hmay : s.mayBeat = false) : exec .heartbeatSend s = s.goes s.fence :=
  congrArg s.goes ((if_neg (by simp [hen, hloud])).trans (if_pos (by simp [hrole, hmay])))

theorem exec_heartbeatSend (hloud : s.redund.silent = false) (hmay : s.rd F.REDUND_STATUS_ROLE ≠ 1 ∨ s.mayBeat = true) :
    exec .heartbeatSend s = s.goes (s.sendHeartbeat false) := by
  have hbeats : ¬ (decide (s.rd F.REDUND_STATUS_ROLE = 1) && !s.mayBeat) = true := by
    rcases hmay with hrole | hmay
    · simp [hrole]
    · simp [hmay]
  exact congrArg s.goes ((if_neg (by simp [hen, hloud])).trans (if_neg hbeats))

/-- A pulse of a surrender. -/
theorem exec_heartbeatPulseIn_surrender {ns : BitVec 16} (hns : 4000 ≤ ns.toNat) (hrole : s.rd F.REDUND_STATUS_ROLE = 2) :
    exec (.heartbeatPulseIn ns) s = s.goes (s.declareLost true) :=
  congrArg s.goes ((if_neg (by simp [hen])).trans ((if_pos hns).trans (if_pos hrole)))

/-- The pin path delivers. -/
def State.pinBeat (s : State) : State :=
  { s.wrB F.REDUND_STATUS_HB_PIN true with redund := { s.redund with hbPinAt := s.time.cycle } }

/-- A pulse of a heartbeat, while the frame path does not deliver. -/
theorem exec_heartbeatPulseIn (hok : s.ok = true) {ns : BitVec 16} (hmin : 200 ≤ ns.toNat) (hmax : ns.toNat < 4000)
    (hnet : s.bit F.REDUND_STATUS_HB_NET = false) : exec (.heartbeatPulseIn ns) s = s.goes s.pinBeat := by
  have hkept : ¬ s.pinBeat.bit F.REDUND_STATUS_HB_NET = true := by
    have hsame : s.pinBeat.bit F.REDUND_STATUS_HB_NET = s.bit F.REDUND_STATUS_HB_NET := State.bit_wr_ne hok (by decide)
    rw [hsame, hnet]
    decide
  exact congrArg s.goes ((if_neg (by simp [hen])).trans ((if_neg (Nat.not_le.mpr hmax)).trans ((if_pos hmin).trans (if_neg hkept))))

theorem exec_peerLost (hrole : s.rd F.REDUND_STATUS_ROLE = 2) : exec .peerLost s = s.goes
    ((s.passToCycle (Nat.max s.redund.hbNetAt s.redund.hbPinAt + 150 * usCycles)).declareLost false) :=
  congrArg s.goes (if_pos (by simp [hen, hrole]))

/-- The frame path is late while the pin path delivers. -/
theorem exec_hbPath_net (hlate : s.redund.hbNetAt < s.redund.hbPinAt) : exec .hbPath s = s.goes
    (((s.passToCycle (Nat.min s.redund.hbNetAt s.redund.hbPinAt + 150 * usCycles)).wrB F.REDUND_STATUS_HB_NET false).raise 51 1) :=
  congrArg s.goes ((if_pos (by simp [hen, Nat.ne_of_lt hlate])).trans (if_pos (by simp [hlate])))

end

/-- A heartbeat frame as it is taken: the path, the peer's health and its number, and what it acknowledges. -/
def State.beatTaken (s : State) (hb : Heartbeat) : State :=
  let t := (((s.takeMgmt (.heartbeat hb)).wrB F.REDUND_STATUS_HB_NET true).wrB F.REDUND_STATUS_PEER_HEALTHY hb.healthy).wr
    F.REDUND_STATUS_PEER_SEQ hb.hbSeq.toNat
  { t with redund := { t.redund with
    hbNetAt := t.time.cycle
    sentRecs := t.redund.sentRecs.filter (fun r => decide (0 < sdiff32 r.seqnum hb.ackSeq))
    sentAt := t.redund.sentAt.filter (fun r => decide (0 < sdiff32 r.1 hb.ackSeq)) } }

/-- What a heartbeat frame leads to once it is taken; `was` is the peer's health before it. -/
def State.beatFollowed (s : State) (hb : Heartbeat) (was : Bool) : State :=
  let s := if s.bit F.REDUND_STATUS_HB_PIN then s.levelEnd 51 else s
  let s := if was = hb.healthy then s else s.peerHook 7
  let s := if hb.resync && s.rd F.REDUND_STATUS_ROLE = 1 then s.resendImage else s
  let hold := s.rd F.REDUND_STATUS_ROLE = 1 && s.bit F.REDUND_CTRL_REVERT && !s.bit F.REDUND_STATUS_PRIMARY &&
    hb.role = 2 && hb.healthy
  let s := if hold && !s.redund.holdoffRun then
      ({ s with redund := { s.redund with holdoffRun := true, holdoffAt := s.time.cycle } } : State).wr
        F.REDUND_STATUS_HOLDOFF_REM (s.rd F.REDUND_CFG_HOLDOFF_S)
    else if !hold && s.redund.holdoffRun then
      ({ s with redund := { s.redund with holdoffRun := false } } : State).wr F.REDUND_STATUS_HOLDOFF_REM 0
    else s
  s.peerRoleSeen hb

theorem exec_heartbeatFrameRx (hen : s.bit F.REDUND_CTRL_EN = true) (hb : Heartbeat) : exec (.heartbeatFrameRx hb) s =
    s.goes ((s.beatTaken hb).beatFollowed hb (s.bit F.REDUND_STATUS_PEER_HEALTHY)) := by
  have henabled : ¬ (!(s.takeMgmt (.heartbeat hb)).bit F.REDUND_CTRL_EN) = true := by
    rw [show (s.takeMgmt (.heartbeat hb)).bit F.REDUND_CTRL_EN = s.bit F.REDUND_CTRL_EN from rfl, hen]
    decide
  exact congrArg s.goes (if_neg henabled)

/-- A heartbeat with nothing to report beside its surrender. -/
theorem State.beatFollowed_surrender {hb : Heartbeat} (hsurrender : hb.surrender = true) (hresync : hb.resync = false)
    (hpin : s.bit F.REDUND_STATUS_HB_PIN = false) (hrole : s.rd F.REDUND_STATUS_ROLE = 2) (hhold : s.redund.holdoffRun = false) :
    s.beatFollowed hb hb.healthy = s.declareLost true := by
  simp [State.beatFollowed, State.peerRoleSeen, hsurrender, hresync, hpin, hrole, hhold]

/-- What a heartbeat frame leaves in the status. -/
theorem State.beatTaken_shows (hok : s.ok = true) (hb : Heartbeat) :
    let t := s.beatTaken hb
    t.bit F.REDUND_STATUS_HB_NET = true ∧ t.rd F.REDUND_STATUS_PEER_SEQ = hb.hbSeq.toNat ∧
      t.bit F.REDUND_STATUS_HB_PIN = s.bit F.REDUND_STATUS_HB_PIN ∧ t.rd F.REDUND_STATUS_ROLE = s.rd F.REDUND_STATUS_ROLE := by
  have hnet := State.wr_keeps_ok (s := s.takeMgmt (.heartbeat hb)) hok F.REDUND_STATUS_HB_NET (boolNat true) 0 0 0
  have hhealthy := State.wr_keeps_ok hnet F.REDUND_STATUS_PEER_HEALTHY (boolNat hb.healthy) 0 0 0
  refine ⟨?_, State.rd_wr_of_lt hhealthy (BitVec.isLt _) (by decide) 0 0 0, ?_, ?_⟩
  · exact (State.bit_wr_ne hhealthy (by decide)).trans ((State.bit_wr_ne hnet (by decide)).trans
      (State.bit_wrB_self (s := s.takeMgmt (.heartbeat hb)) hok rfl true 0 0 0))
  · exact (State.bit_wr_ne hhealthy (by decide)).trans ((State.bit_wr_ne hnet (by decide)).trans
      (State.bit_wr_ne (s := s.takeMgmt (.heartbeat hb)) hok (by decide)))
  · exact (State.rd_wr_ne hhealthy (by decide)).trans ((State.rd_wr_ne hnet (by decide)).trans
      (State.rd_wr_ne (s := s.takeMgmt (.heartbeat hb)) hok (by decide)))

/-! ### Failover and the watchdog (R358, R361 to R365, R368) -/

section
variable (hrole : s.rd F.REDUND_STATUS_ROLE = 3) (hkind : s.redund.kind ≠ 0)
include hrole hkind

theorem exec_failoverGrant :
    let g := s.wrB F.STRAND_STATUS_OWNER true
    let g := { g with strand := { g.strand with grantCount := g.strand.count - 1, streamWait := true } }
    exec .failoverGrant s = s.goes (if s.redund.kind = 4 then g else g.takeImage) :=
  congrArg s.goes (if_pos (by simp [hrole, hkind]))

/-- The start from the image ends the transfer. -/
theorem exec_failoverEchoReady (howner : s.bit F.STRAND_STATUS_OWNER = true) (hcart : s.cartOk = true)
    (hecho : s.echoComplete = true) :
    ∃ u, exec .failoverEchoReady s = s.goes u ∧ u.redund.kind = 0 ∧ u.redund.takeback = false := by
  refine ⟨_, congrArg s.goes (if_pos (by simp [hrole, hkind, howner, hcart, hecho])), ?_⟩
  rw [State.peerHook_redund]
  exact ⟨rfl, rfl⟩

/-- Without the grant the transfer ends in STANDBY. -/
theorem exec_failoverGrantTimeout (howner : s.bit F.STRAND_STATUS_OWNER = false) :
    ∃ u, exec .failoverGrantTimeout s = s.goes u ∧ u.redund.kind = 0 ∧ u.redund.peerLost = false := by
  refine ⟨_, congrArg s.goes (if_pos (by simp [hrole, hkind, howner])), ?_⟩
  obtain ⟨hpeer, hkept⟩ := State.enterStandby_shows (({ ((s.passToCycle (s.redund.declaredAt + msCycles)).portCmd false).raise 53 0 with
    redund := { (((s.passToCycle (s.redund.declaredAt + msCycles)).portCmd false).raise 53 0).redund with kind := 0 } } :
      State).peerHook 8)
  rw [State.peerHook_redund] at hkept
  exact ⟨hkept, hpeer⟩

end

theorem exec_watchdogExpire (hen : s.bit F.REDUND_CTRL_EN = true) (hrole : s.rd F.REDUND_STATUS_ROLE = 1) :
    exec .watchdogExpire s = s.goes (s.passToCycle (s.redund.kickAt + s.rd F.REDUND_CFG_WDOG_MS * msCycles)).fence :=
  congrArg s.goes (if_pos (by simp [hen, hrole]))

end

/-- Settles O47: each row by the role and the conditions it asks about. -/
theorem pairRoles : Obligations.PairRoles := by
  refine ⟨fun s hok hen => ⟨?_, ?_, ?_, ?_, ?_, rfl, ?_, ?_⟩, fun s hok => ⟨?_, ?_, ?_, ⟨_, rfl, rfl, rfl, rfl⟩, ?_⟩⟩
  · exact fun hloud hmay => ⟨_, exec_heartbeatSend hen hloud hmay, rfl, rfl, rfl, rfl⟩
  · exact exec_heartbeatSend_fences hen
  · intro ns hmin hmax hnet
    exact ⟨_, exec_heartbeatPulseIn hen hok hmin hmax hnet, State.bit_wrB_self hok rfl true 0 0 0, rfl⟩
  · exact fun ns => exec_heartbeatPulseIn_surrender hen
  · intro hb hsurrender hresync hhealthy hpin hrole hhold
    obtain ⟨hnet, hseq, hpinKept, hroleKept⟩ := State.beatTaken_shows hok hb
    refine ⟨s.beatTaken hb, ?_, rfl, hnet, hseq⟩
    rw [exec_heartbeatFrameRx hen hb, ← hhealthy,
      State.beatFollowed_surrender hsurrender hresync (hpinKept.trans hpin) (hroleKept.trans hrole) hhold]
  · exact exec_peerLost hen
  · exact exec_hbPath_net hen
  · exact exec_failoverGrant
  · exact exec_failoverEchoReady
  · exact exec_failoverGrantTimeout
  · exact exec_watchdogExpire

end Sys2Proof.Machine
end

section
/-! The checkpoint, takeback and restore of a redundant pair (14). -/

namespace Sys2Proof.Machine

section
variable {s : State}

/-! ### A record leaves the others held (R356) -/

theorem State.raise_redund {n : Nat} (hn : n ≠ 0) (s : State) (d : W32) : (s.raise n d).redund = s.redund :=
  congrArg (fun t => t.redund) (State.besidesFaults_raise hn s d)

theorem State.wearCheck_redund (s : State) (c : Nat) : (s.wearCheck c).redund = s.redund := by
  unfold State.wearCheck
  split
  · rfl
  · simp only [apply_ite State.redund, State.raise_redund (n := 32) (by decide), State.raise_redund (n := 33) (by decide), ite_self]

theorem State.setWear_redund (s : State) (c n : Nat) : (s.setWear c n).redund = s.redund := by
  simp only [State.setWear, State.setCw, State.stW, apply_ite State.redund, State.st_redund, ite_self]

theorem State.carryWear_redund (s : State) (deltas : List (Nat × Nat)) : (s.carryWear deltas).redund = s.redund := by
  have hcell (base : Array Nat) (t : State) (p : Nat × Nat) :
      (if satAdd 0xFFFFFFFF (base.getD p.1 0) p.2 ≤ t.liveWear p.1 then t
        else (t.setWear p.1 (satAdd 0xFFFFFFFF (base.getD p.1 0) p.2)).wearCheck p.1).redund = t.redund := by
    split
    · rfl
    · rw [State.wearCheck_redund, State.setWear_redund]
  unfold State.carryWear
  exact forEach_frame (hcell _) _ _

theorem State.putLoops_redund (s : State) (p : Nat × List W32) : (s.putLoops p).redund = s.redund := by
  unfold State.putLoops
  split
  · simp only [State.setCw, State.stW, State.setCCtrl, State.stBits, State.st_redund]
  · rfl

/-- The resident records follow the image beside the pair's own state. -/
theorem State.resident_redund (s : State) (sect : CkptSection) : (s.resident sect).redund = s.redund := by
  have hcorr (t : State) (p : Nat × W32 × W32) : (t.setCorr p.1 p.2.1 p.2.2).redund = t.redund := rfl
  have hcal (t : State) (p : Nat × List W32) :
      ((t.loadCal p.1 (p.2.take 31)).setCCal p.1 0 5 (p.2.getD 31 0).toNat).redund = t.redund := rfl
  cases sect with
  | ledger =>
    simp only [State.resident, State.writeLedger, apply_ite State.redund, ite_self]
  | wear => exact State.carryWear_redund _ _
  | loops => exact forEach_frame State.putLoops_redund _ _
  | senseCal => exact forEach_frame hcorr _ _
  | cal => exact forEach_frame hcal _ _
  | defect | aux | header | laymark | laymarkState | shadow | handover => rfl

theorem State.shadowCompare_held (s : State) (data : List W32) : (s.shadowCompare data).redund.held = s.redund.held := by
  unfold State.shadowCompare
  extract_lets rs bad compared now recent counted redund noted
  have hnoted : noted.redund.held = s.redund.held := rfl
  clear_value noted
  split
  · rw [State.raise_redund (by decide)]
    exact hnoted
  · exact hnoted

theorem State.applyRecord_held (s : State) (r : CkptRecord) : (s.applyRecord r).redund.held = s.redund.held := by
  unfold State.applyRecord
  split
  · exact State.shadowCompare_held s r.data
  · rfl
  · rw [State.resident_redund]

/-- A record that is taken in its turn is held no more. -/
theorem State.takeTurn_held (s : State) (r : CkptRecord) :
    (s.takeTurn r).redund.held = s.redund.held.filter (fun h => decide (h.seqnum ≠ r.seqnum)) := by
  unfold State.takeTurn
  rw [State.wr_redund]
  split
  · rfl
  · exact State.applyRecord_held _ r

/-! ### The resend's end (R356) -/

theorem mem_insSorted {β : Type} {le : β → β → Bool} {x y : β} {l : List β} : y ∈ insSorted le x l ↔ y = x ∨ y ∈ l := by
  induction l with
  | nil => exact List.mem_cons
  | cons z l ih =>
    unfold insSorted
    split
    · exact List.mem_cons
    · rw [List.mem_cons, ih, List.mem_cons]
      exact or_left_comm

theorem mem_sortBy {β : Type} {le : β → β → Bool} {y : β} {l : List β} : y ∈ sortBy le l ↔ y ∈ l := by
  induction l with
  | nil => rfl
  | cons z l ih => exact mem_insSorted.trans ((or_congr_right ih).trans List.mem_cons.symm)

/-- What is held after turns are taken was held before, and had no turn. -/
theorem held_of_takeTurns {h : CkptRecord} {l : List CkptRecord} {s : State}
    (hheld : h ∈ (forEach l State.takeTurn s).redund.held) : h ∈ s.redund.held ∧ ∀ r ∈ l, h.seqnum ≠ r.seqnum := by
  induction l generalizing s with
  | nil => exact ⟨hheld, fun _ hr => absurd hr List.not_mem_nil⟩
  | cons r l ih =>
    obtain ⟨hbefore, hothers⟩ := ih (s := s.takeTurn r) hheld
    rw [State.takeTurn_held, List.mem_filter, decide_eq_true_eq] at hbefore
    exact ⟨hbefore.1, List.forall_mem_cons.mpr ⟨hbefore.2, hothers⟩⟩

theorem State.resyncDone_shows (hok : s.ok = true) :
    s.resyncDone.bit F.REDUND_STATUS_CKPT_CURRENT = true ∧ s.resyncDone.redund.resync = false ∧ s.resyncDone.redund.held = [] := by
  have htaken : (forEach (sortBy (fun a b => !CkptRecord.lt b a) s.redund.held) State.takeTurn s).ok = true :=
    forEach_ok hok (fun _ _ h => ok_of_good (State.takeTurn_good _ (good_self h)))
  refine ⟨State.bit_wrB_self htaken rfl true 0 0 0, rfl, List.eq_nil_iff_forall_not_mem.mpr fun h hheld => ?_⟩
  obtain ⟨hbefore, hothers⟩ := held_of_takeTurns hheld
  exact hothers h (mem_sortBy.mpr hbefore) rfl

/-! ### The checkpoint's rows (R355, R356, R369, R370) -/

theorem exec_ckptRecordRx (hrole : s.rd F.REDUND_STATUS_ROLE = 2) (r : CkptRecord) :
    exec (.ckptRecordRx r) s = s.goes ((s.takeMgmt (.record r)).recvRecord r) := by
  have hkept : (s.takeMgmt (.record r)).rd F.REDUND_STATUS_ROLE = 2 := hrole
  exact congrArg s.goes (if_pos (by simp [hkept]))

/-- A gap that lasts asks for the whole image. -/
theorem exec_ckptGapTimeout {t : Nat} (hgap : s.redund.gapAt = some t) :
    ∃ u, exec .ckptGapTimeout s = s.goes u ∧ u.redund.gapAt = none ∧ u.redund.resync = true := by
  show ∃ u, execCkptGapTimeout s = s.goes u ∧ _
  simp only [execCkptGapTimeout, hgap]
  refine ⟨_, rfl, ?_⟩
  rw [State.peerHook_redund, State.raise_redund (by decide)]
  exact ⟨rfl, rfl⟩

theorem exec_ckptResyncDone (hrole : s.rd F.REDUND_STATUS_ROLE = 2) (hresync : s.redund.resync = true) :
    exec .ckptResyncDone s = s.goes s.resyncDone := congrArg s.goes (if_pos (by simp [hrole, hresync]))

theorem exec_shadowSend (hrole : s.rd F.REDUND_STATUS_ROLE = 1) :
    let l := presentCells s.strand.geomY512
    let cells := (List.range 64).map (fun k => l.getD ((s.redund.shadowNext + k) % l.length) 0)
    let u := s.ckptSend .shadow 0 (Config.shadowWords (cells.map s.shadowOf))
    exec .shadowSend s = s.goes { u with redund := { u.redund with shadowNext := (u.redund.shadowNext + 64) % l.length } } :=
  congrArg s.goes (if_pos hrole)

theorem State.ckptSend_shadowNext (s : State) (sect : CkptSection) (offset : Nat) (data : List W32) :
    (s.ckptSend sect offset data).redund.shadowNext = s.redund.shadowNext := by
  unfold State.ckptSend
  split <;> rfl

/-- A march pass without a mismatch. -/
theorem exec_marchPassEnd (hok : s.ok = true) (hrole : s.rd F.REDUND_STATUS_ROLE = 2) :
    ∃ u, exec (.marchPassEnd false) s = s.goes u ∧ u.bit F.REDUND_HEALTH_MARCH_FAIL = false ∧ u.mem = s.mem :=
  ⟨_, congrArg s.goes (if_pos hrole), State.bit_wrB_self (State.wr_keeps_ok (State.wr_keeps_ok hok _ _ _ _ _) _ _ _ _ _) rfl
    false 0 0 0, rfl⟩

theorem rolls_of_role (hrole : s.rd F.REDUND_STATUS_ROLE ≤ 1) :
    (decide (s.rd F.REDUND_STATUS_ROLE = 1) || decide (s.rd F.REDUND_STATUS_ROLE = 0)) = true := by
  simp only [Bool.or_eq_true, decide_eq_true_eq]
  omega

theorem exec_ckptRollingUpdate_wear (hrole : s.rd F.REDUND_STATUS_ROLE ≤ 1) : exec (.ckptRollingUpdate true) s = s.goes s.rollWear :=
  congrArg s.goes ((if_pos (rolls_of_role hrole)).trans (if_pos rfl))

theorem exec_ckptRollingUpdate_loops (hrole : s.rd F.REDUND_STATUS_ROLE ≤ 1) :
    exec (.ckptRollingUpdate false) s = s.goes s.rollLoops :=
  congrArg s.goes ((if_pos (rolls_of_role hrole)).trans (if_neg (by decide)))

theorem exec_healthFlagClear_lane (herr : s.bit F.REDUND_HEALTH_LANE_ERR = true) : exec (.healthFlagClear true) s =
    s.goes ((s.passToCycle (s.redund.prbsAt + 10000 * msCycles)).wrB F.REDUND_HEALTH_LANE_ERR false) :=
  congrArg s.goes ((if_pos rfl).trans (if_pos herr))

/-! ### Takeback and restore (R371 to R373, R375) -/

theorem exec_takebackHoldoff (hrun : s.redund.holdoffRun = true) (hrole : s.rd F.REDUND_STATUS_ROLE = 1) :
    exec .takebackHoldoff s = s.goes (((s.passToCycle (s.redund.holdoffAt + s.rd F.REDUND_CFG_HOLDOFF_S * 1000 * msCycles)).wr
      F.REDUND_STATUS_HOLDOFF_REM 0).beginTakeback) :=
  congrArg s.goes (if_pos (by simp [hrun, hrole]))

theorem exec_redundTakeback (hen : s.bit F.REDUND_CTRL_EN = true) (hprimary : s.bit F.REDUND_STATUS_PRIMARY = true)
    (hrole : s.rd F.REDUND_STATUS_ROLE = 2) (hhealthy : s.healthy = true) :
    exec .redundTakeback s = s.goes { s with redund := { s.redund with takeback := true } } :=
  congrArg s.goes (if_pos (by simp [hen, hprimary, hrole, hhealthy]))

/-- The unit gives the drive back: TRANSFER in a takeback, with no other transfer on. -/
def State.givesBack (s : State) : Bool :=
  decide (s.rd F.REDUND_STATUS_ROLE = 3) && s.redund.takeback && decide (s.redund.kind = 0)

theorem State.givesBack_of (hrole : s.rd F.REDUND_STATUS_ROLE = 3) (htakeback : s.redund.takeback = true)
    (hkind : s.redund.kind = 0) : s.givesBack = true := by
  simp [State.givesBack, hrole, htakeback, hkind]

theorem exec_takebackQuiesced (hgives : s.givesBack = true) (hended : ∀ x ∈ s.ledger.epochs, x.ended = true) :
    let u := s.rollLoops.rollWear
    let h := u.frame + 16
    exec .takebackQuiesced s = s.goes (({ u with redund := { u.redund with handoverFrame := some h } } : State).ckptSend
      .handover 0 [BitVec.ofNat 32 h]) := by
  have hall : s.ledger.epochs.all Epoch.ended = true := List.all_eq_true.mpr hended
  have hquiet : (s.givesBack && s.ledger.epochs.all Epoch.ended) = true := by rw [hgives, hall]; rfl
  exact congrArg s.goes (if_pos hquiet)

theorem exec_handoverFrame {h : Nat} (hframe : s.redund.handoverFrame = some h)
    (hgives : (s.passTo (h * frameUnits)).givesBack = true) :
    exec .handoverFrame s = s.goes ((s.passTo (h * frameUnits)).streamOff.portCmd false) := by
  show execHandoverFrame s = _
  simp only [execHandoverFrame, hframe]
  exact congrArg s.goes (if_pos hgives)

/-- Without an ACTIVE heartbeat the outgoing unit asks for the drive again. -/
theorem exec_takebackTimeout {h : Nat} (hframe : s.redund.handoverFrame = some h) (hgives : s.givesBack = true) :
    ∃ u : State, exec .takebackTimeout s = s.goes (u.portCmd true) ∧ u.redund.kind = 4 ∧ u.redund.handoverFrame = none := by
  show ∃ u : State, execTakebackTimeout s = s.goes (u.portCmd true) ∧ _
  simp only [execTakebackTimeout, hframe]
  exact ⟨_, congrArg s.goes (if_pos hgives), rfl, rfl⟩

section
variable (hready : s.pins.ready = true)
include hready

theorem exec_redundRestore {im : CkptImage} (himage : s.stagedImage = some im) : exec .redundRestore s = s.goes
    { s.wrB F.REDUND_STATUS_RESTORE_ERR false with redund := { s.redund with restore := some im, declaredAt := s.time.cycle } } := by
  show s.goes s.doRedundRestore = _
  simp only [State.doRedundRestore, hready, himage]
  rfl

theorem exec_redundRestore_refused (himage : s.stagedImage = none) :
    exec .redundRestore s = s.goes (s.wrB F.REDUND_STATUS_RESTORE_ERR true) := by
  show s.goes s.doRedundRestore = _
  simp only [State.doRedundRestore, hready, himage]
  rfl

end

end

/-- Settles O48: each row by the role and the conditions it asks about; the resend's end takes every record held. -/
theorem pairState : Obligations.PairState := by
  refine ⟨fun s hok => ⟨fun r hrole => exec_ckptRecordRx hrole r, fun t => exec_ckptGapTimeout, ?_, ?_, exec_marchPassEnd hok,
    ?_, exec_healthFlagClear_lane⟩, fun s hok => ⟨exec_takebackHoldoff, ?_, ?_, ?_, ?_, ?_, exec_redundRestore_refused⟩⟩
  · exact fun hrole hresync => ⟨_, exec_ckptResyncDone hrole hresync, rfl, State.resyncDone_shows hok⟩
  · intro hrole l cells u
    rw [exec_shadowSend hrole, State.ckptSend_shadowNext]
  · exact fun hrole => ⟨exec_ckptRollingUpdate_wear hrole, exec_ckptRollingUpdate_loops hrole⟩
  · exact fun hen hprimary hrole hhealthy => ⟨_, exec_redundTakeback hen hprimary hrole hhealthy, rfl, rfl⟩
  · exact fun hrole htakeback hkind hended => exec_takebackQuiesced (State.givesBack_of hrole htakeback hkind) hended
  · exact fun h hframe hrole htakeback hkind => exec_handoverFrame hframe (State.givesBack_of hrole htakeback hkind)
  · exact fun h hframe hrole htakeback hkind => exec_takebackTimeout hframe (State.givesBack_of hrole htakeback hkind)
  · exact fun im hready himage => ⟨_, exec_redundRestore hready himage, rfl, State.bit_wrB_self hok rfl false 0 0 0⟩

end Sys2Proof.Machine
end
